-- ==== Sys2Proof/Word.lean ====
section
/-! DEFINITION. The word types of the KG64 model: bytes and the register widths the manual names
(00_scope, Conventions; 11_register_reference R330). -/

namespace Sys2Proof

/-- One byte. -/
abbrev Byte := BitVec 8
/-- A 16-bit field (error codes, generations, CSNs). -/
abbrev W16 := BitVec 16
/-- A 32-bit register (R330). -/
abbrev W32 := BitVec 32
/-- A 64-bit value (time, deadlines, digests, sequence numbers). -/
abbrev W64 := BitVec 64

/-- A slot SL00 to SL63 (R1). -/
abbrev SlotId := Fin 64
/-- A ring RG0 to RG7 (R1). -/
abbrev RingId := Fin 8
/-- A Ringmaster core pair (R11). -/
abbrev PairId := Fin 4
/-- A Juggler (R11). -/
abbrev JugId := Fin 8
/-- A NAND channel (R228). -/
abbrev ChanId := Fin 8
/-- A NAND target, channel × 4 + chip enable (R309). -/
abbrev TargetId := Fin 32
/-- A station bus port SB0 or SB1 (R383). -/
abbrev PortId := Fin 2
/-- A mechanics unit of one port (R388). -/
abbrev MuId := Fin 16
/-- A host-chosen job identifier (R167). -/
abbrev JobId := W32

end Sys2Proof
end

