-- ==== Sys2Proof/Syntax.lean ====
section
/-! DEFINITION. The commands of the KG64: one constructor of `Instr` for each row of
spec/opcode_table.json, with the operands the governing rules give it, and the plain data types
those operands are made of. -/

namespace Sys2Proof

/-- The card classes (R40). -/
inductive CardClass where
  | a | b | c
  deriving DecidableEq, Repr

/-- Main-side reset sources (R479). -/
inductive ResetSource where
  | vcoreRise | perst | hotReset | linkDown | flr
  | sideshow (reason : Byte)
  | deviceWatchdog | fatalWindow | tamperL1 | tamperL2
  | refClock | supply | coreBist | fwSwitch
  deriving DecidableEq, Repr

/-- How the PCIe link resets the function, FLR apart (R326). -/
inductive LinkReset where
  | perst | hotReset | linkDown
  deriving DecidableEq, Repr

/-- The comparators (R288). -/
inductive CompId where
  | vwl | vwh | vsc | voff | oc
  | shC2 | shC3 | shC4 | shC6 | shC7 | shC8
  | presA | presR
  | isense | ilim | uvA | uvB | ovA | ovB | ot
  | sbV1 | sbV2 | sbI | sbSh
  | vinLo | vinHi | vcoreLo | vcoreHi
  deriving DecidableEq, Repr

/-- The object a comparator check concerns (R288: per slot, per ring, per device). -/
inductive CheckObj where
  | slot (n : SlotId)
  | ring (r : RingId)
  | device
  deriving DecidableEq, Repr

/-- What a NAND target reports at its identification (R229, R230, R231, R505). `stage` names the step
of R229 that failed, none when all passed. -/
inductive TargetFail where
  | init | timingMode | modeVerify
  deriving DecidableEq, Repr

/-- One populated NAND target as R229 finds it. -/
structure TargetReport where
  target : TargetId
  fail : Option TargetFail
  /-- geometry, interface support and endurance as one comparable record (R230) -/
  geometry : W64
  endurance : Nat
  mainBytes : Nat
  spareBytes : Nat
  blocks : Nat
  /-- pages per block, all LUNs counted in `blocks` (R231) -/
  pages : Nat
  /-- capacity in bytes, for the 4 TB limit (R312 code 0x46) -/
  capacity : Nat
  deriving DecidableEq, Repr

/-- What a main-side reset finds around the device: the NAND targets (R229), a supply comparator that
failed its check (R301), whether the wrapped key-store key passes its check (R406), whether the factory
plan passes its check (R312 code 0x08) and whether VIN_RING is in range (R284). -/
structure Board where
  targets : List TargetReport
  supplyFail : Option (CompId × Fin 3)
  keystoreOk : Bool
  factoryPlanOk : Bool
  vinOk : Bool
  deriving DecidableEq, Repr

/-- A 96-byte signed request (R400). -/
structure SignedReq where
  dsn : W64
  nonce : List Byte
  kind : Byte
  signer : Byte
  argA : Byte
  argB : Byte
  argC : W32
  sig : List Byte
  deriving DecidableEq, Repr

/-- A 64-byte ticket (R167). -/
structure Ticket where
  jobId : JobId
  type : Byte
  affinity : Byte
  pinSlot : Byte
  op : Byte
  flags : W16
  profileId : W16
  keysetId : W32
  recordId : W64
  deadline : W64
  paramAddr : W64
  resultAddr : W64
  paramLen : W32
  resultMax : W32
  arg : W32
  reserved : W32
  deriving DecidableEq, Repr

/-- One RPP copy as read back from NAND (R256, R258): its write counter, whether its TAG verifies, the
counters (handle, RESERVED_TOP) and the anchor. -/
structure RppCopy where
  wc : W64
  tagOk : Bool
  counters : List (W32 × W64)
  anchorAseq : W64
  anchorChain : List Byte
  trim : W64
  jseqHw : W64
  deriving DecidableEq, Repr

/-- The parameters of BANK_OP FORMAT (R234, R243). -/
structure FormatParams where
  auditBlocksPerTarget : Nat
  retryLevels : Nat
  slcPrefix : Option Byte
  pairedPages : List Nat
  /-- blocks whose first or last page reads other than 0xFF in spare byte 0 (R237) -/
  factoryBad : List (TargetId × Nat)
  deriving DecidableEq, Repr

/-- How a prefetch read ended (R241): the stage that decoded, or uncorrectable; and what it reports. -/
structure PrefetchRead where
  /-- 1 to 4: the stage that decoded; 5: uncorrectable -/
  stage : Nat
  /-- retry level that decoded at stage 2 -/
  level : Nat
  /-- most corrected bits in one codeword -/
  corrected : Nat
  target : TargetId
  block : Nat
  /-- retention band of the block (R460) -/
  band : Fin 4
  deriving DecidableEq, Repr

/-- Faults seen by the receiver while characters of an ATR or a PPS response arrive (R42, R99). -/
structure CharFaults where
  parity : Bool
  gap : Bool
  deriving DecidableEq, Repr

/-- One segment of a Galloper block on one line: 30 bytes and the line's CRC-16 (R126). -/
structure LineSeg where
  bytes : List Byte
  crc : W16
  deriving DecidableEq, Repr

/-- A Galloper read block as received (R126, R128). -/
structure RawBlock where
  startOk : Bool
  endOk : Bool
  /-- segments in order; each is the three lines D0, D1, D2 -/
  segs : List (LineSeg × LineSeg × LineSeg)
  deriving DecidableEq, Repr

/-- A T=1 block as received: its bytes with the epilogue, and the character faults (R89). -/
structure RawT1 where
  bytes : List Byte
  parity : Bool
  /-- characters that found the receive FIFO full (R107) -/
  overruns : Nat
  deriving DecidableEq, Repr

/-- A contact that a short is seen on (R288, R297). -/
inductive ShortAt where
  | vcc | contact (c : CompId)
  deriving DecidableEq, Repr

/-- A unit in the sense of ERR_FIRST_INFO.KIND (R352). -/
inductive UnitRef where
  | device
  | slot (n : SlotId)
  | ring (n : RingId)
  | chan (n : ChanId)
  | target (n : TargetId)
  | juggler (n : JugId)
  | pair (n : PairId)
  | pk (n : Fin 2)
  | roust (n : Fin 8)
  deriving DecidableEq, Repr

/-- An access refused by Midway (R353, R415). -/
structure Violation where
  master : BitVec 4
  /-- 0 read, 1 write, 2 instruction fetch -/
  access : BitVec 2
  region : Byte
  addr : W64
  /-- the unit concerned, for masters whose refusal latches an error -/
  unit : UnitRef
  /-- the job a refused Roustabout request served (R416) -/
  job : Option JobId
  deriving DecidableEq, Repr

/-- Events that change access rules (R417). -/
inductive RuleCause where
  | lifeCycle | debugPort | firmware | unitRights | bist | tamper
  deriving DecidableEq, Repr

/-- The host's 64-bit read pairs (R351). -/
inductive RegPair where
  | time | present | fenced
  deriving DecidableEq, Repr

/-- The three rings (R161). -/
inductive RingName where
  | tb | cq | eq
  deriving DecidableEq, Repr

/-- A BAR request the device does not serve (R319). -/
inductive BarRefusal where
  | tooLong | partialWrite | poisonedWrite | memDisabled
  deriving DecidableEq, Repr

/-- A failing address of a memory BIST pass (R473, R474). -/
structure FailAddr where
  array : W16
  row : W16
  col : Byte
  /-- a spare row or column was left to cover it -/
  spare : Bool
  /-- the unit whose array it is, for a domain run (R475) -/
  unit : UnitRef
  deriving DecidableEq, Repr

/-- A Sideshow Block Write as received: its data bytes and whether its PEC is right (R366). -/
structure SbWrite where
  data : List Byte
  pecOk : Bool
  deriving DecidableEq, Repr

/-- What a Sideshow transaction that ends at a START or STOP had shown, where it carried no command: nothing
refused, a code that R370 does not list, a Block Write of a read command or a Block Read of a write command
(R366, R367). -/
inductive SbCut
  | nothing
  | undefinedCode (code : Byte)
  | writeOfRead (code : Byte)
  | readOfWrite (code : Byte)
  deriving DecidableEq, Repr

/-- A station bus frame as received in FRAME mode, after its break (R387). -/
structure SbFrame where
  sync : Byte
  pid : Byte
  data : List Byte
  checksum : Byte
  deriving DecidableEq, Repr

/-- A JTAG instruction (R419). -/
inductive TapInstr where
  | bypass | idcode | sample | extest | intest
  deriving DecidableEq, Repr

/-- Big Top's sensors, in the row order of R423. -/
inductive Sensor where
  | mesh | light | vcoreGlitch | vstbyMonitor | clockGlitch | temperature | selfTest
  deriving DecidableEq, Repr

/-- Readings of one measurement window (R457, R458): contact resistances in mΩ, dropout in mV. -/
structure WindowReading where
  vcc : Nat
  gnd : Nat
  dropout : Nat
  deriving DecidableEq, Repr

/-- The commands of the KG64, one constructor per row of spec/opcode_table.json, in the table's order. -/
inductive Instr where
  | vstbyRise (straps : BitVec 3)
  | mainSideReset (src : ResetSource) (board : Board)
  | booted
  | bankStart (copies : List RppCopy)
  | readyRise
  | pcieReset (kind : LinkReset)
  | flr
  | dmaHold (d3hot : Bool)
  | dmaResumed
  | msixUnmask (vec : Fin 32)
  | barAccessRefused (r : BarRefusal)
  | deviceCheck
  | deviceCheckEnd
  | windDown
  | windDownEnd
  | gctrlPause (pause : Bool)
  | slotEnable
  | slotCheckEnd (failed : Option (CompId × Nat))
  | slotDisable
  | slotDeactivate
  | slotClear
  | slotCfgWrite (regB : Bool) (v : W32)
  | slotSelWrite (v : W32)
  | tbTailWrite (v : W32)
  | cqHeadWrite (v : W32)
  | eqHeadWrite (v : W32)
  | ringSizeWrite (ring : RingName) (v : W32)
  | powerBudgetWrite (v : W32)
  | irqStatusWrite (v : W32)
  | irqMaskWrite (v : W32)
  | errFirstClear
  | violClear
  | mboxToSbWrite (v : W32)
  | mboxFromSbRead
  | pairLowRead (p : RegPair)
  | registerWrite (off : BitVec 12) (v : W32)
  | regParity (off : BitVec 12) (both : Bool)
  | logicBist (scope : BitVec 4)
  | memoryBist (scope : BitVec 4)
  | bistRingDrained
  | bistDrainTimeout
  | bistPassEnd (fails : List FailAddr)
  | bistRunEnd (sig : W64) (ringFail : Option (CompId × Nat)) (slotFails : List (SlotId × CompId × Nat))
  | bistDomainEnd (sig : W64)
  | fwPrepare (key : Byte)
  | fwCommit (key : Byte)
  | fwSwitch (key : Byte)
  | fwAbort (key : Byte)
  | sectorEraseDone
  | sectorEraseAbort
  | fwConfirmed
  | ticketFetch (tickets : List Ticket)
  | fetchRetry
  | paramReadFail (job : JobId) (got : List Byte)
  | issue (job : JobId) (param : List Byte)
  | samOp (job : JobId) (param : List Byte)
  | activate (job : JobId)
  | deactivate (job : JobId)
  | warmReset (job : JobId)
  | inventory (job : JobId) (param : List Byte)
  | format (job : JobId) (param : FormatParams)
  | recordWrite (job : JobId) (param : List Byte)
  | recordDelete (job : JobId) (param : List Byte)
  | profileWrite (job : JobId) (param : List Byte)
  | profileDelete (job : JobId)
  | journalList (job : JobId) (param : List Byte)
  | journalClose (job : JobId) (param : List Byte)
  | auditRead (job : JobId) (param : List Byte)
  | auditAttest (job : JobId) (param : List Byte)
  | auditTrim (job : JobId) (param : List Byte)
  | bankStatus (job : JobId)
  | counterRelease (job : JobId)
  | ownerSet (job : JobId) (param : List Byte)
  | mgmtSet (job : JobId) (param : List Byte)
  | ceremonyOpen (job : JobId)
  | keyImport (job : JobId) (param : List Byte)
  | keyDelete (job : JobId)
  | keyList (job : JobId)
  | ceremonyClose (job : JobId)
  | lcChange (job : JobId) (param : List Byte)
  | attestId (job : JobId)
  | cancel (job : JobId)
  | sbusConfig (job : JobId) (param : List Byte)
  | sbusStatus (job : JobId)
  | unitClear (job : JobId) (failed : Option W16)
  | faultStatus (job : JobId)
  | marginRead (job : JobId)
  | bistReport (job : JobId)
  | fwWrite (job : JobId) (param : List Byte)
  | placementPass
  | sweepYield (slot : SlotId)
  | jobDeadline (job : JobId)
  | feedTimeout (slot : SlotId)
  | jobSettled (job : JobId)
  | staleResult (job : JobId) (gen : W16)
  | completionWrite
  | eventWrite
  | precompute (job : JobId)
  | precomputeRelease (job : JobId)
  | scOpen (job : JobId) (resp : List Byte) (sw : W16)
  | prefetchDone (job : JobId) (gen : W16) (rd : PrefetchRead)
  | tokenGrant
  | admitWait (slot : SlotId)
  | vccQualified (slot : SlotId)
  | clkStart (slot : SlotId)
  | rstRise (slot : SlotId)
  | vccFail (slot : SlotId)
  | ocBlankingEnd (slot : SlotId)
  | atrReceived (slot : SlotId) (raw : List Byte) (faults : CharFaults)
  | noAtr (slot : SlotId)
  | atrGapTimeout (slot : SlotId)
  | ppsResponse (slot : SlotId) (raw : List Byte) (faults : CharFaults)
  | ppsTimeout (slot : SlotId)
  | rateApply (slot : SlotId)
  | iBlock (slot : SlotId) (blk : RawT1)
  | rBlock (slot : SlotId) (blk : RawT1)
  | sIfsRequest (slot : SlotId) (ifsc : Byte)
  | sIfsResponse (slot : SlotId) (ifsd : Byte)
  | sWtxRequest (slot : SlotId) (m : Byte)
  | sAbortRequest (slot : SlotId)
  | sAbortResponse (slot : SlotId)
  | sResynchResponse (slot : SlotId)
  | bwtTimeout (slot : SlotId)
  | cwtOverrun (slot : SlotId)
  | wtTimeout (slot : SlotId)
  | exchLimit (slot : SlotId)
  | lineStuck (slot : SlotId)
  | t0Character (slot : SlotId) (b : Byte) (bad : Bool) (overrun : Bool)
  | errorSignalSeen (slot : SlotId) (idx : Nat)
  | procedureByte (slot : SlotId) (b : Byte) (b2 : Byte)
  | exchangeEnd (slot : SlotId) (noise : Nat) (chars : Nat)
  | clockStop (slot : SlotId)
  | clockRestart (slot : SlotId)
  | modeSwitchAnswer (slot : SlotId) (ok : Bool) (data : List Byte) (sw : W16)
  | galloperClockApply (slot : SlotId)
  | quietEnd (slot : SlotId)
  | rcvToken (slot : SlotId) (tok : W64)
  | rspToken (slot : SlotId) (tok : W64)
  | readBlock (slot : SlotId) (blk : RawBlock)
  | ltsRecord (slot : SlotId) (blk : RawBlock)
  | noResponseToken (slot : SlotId)
  | busyEnd (slot : SlotId)
  | busyLimit (slot : SlotId)
  | busyLimitIdle (slot : SlotId)
  | c7Stuck (slot : SlotId)
  | galloperClockStop (slot : SlotId)
  | galloperClockRestart (slot : SlotId)
  | galloperCodeApply (slot : SlotId)
  | ltsApdu (slot : SlotId) (ok : Bool) (data : List Byte) (sw : W16)
  | eyeSweep (slot : SlotId)
  | trainPattern (slot : SlotId) (blk : RawBlock) (tokenOk : Bool)
  | deactClkStop (slot : SlotId)
  | measurementWindowEnd (slot : SlotId) (r : WindowReading)
  | deactLdoOff (slot : SlotId)
  | emergencyStep (slot : SlotId)
  | deactivationEnd (slot : SlotId)
  | tOffEnd (slot : SlotId)
  | voffAbove (slot : SlotId)
  | overcurrent (slot : SlotId)
  | short (slot : SlotId) (at_ : ShortAt)
  | vccWindow (slot : SlotId)
  | removal (slot : SlotId)
  | supplyTrigger (vcore : Bool)
  | refClockLost
  | refClockRestored
  | presencePresent (slot : SlotId)
  | presenceAbsent (slot : SlotId)
  | presBand (slot : SlotId)
  | unstable (slot : SlotId) (transitions : Nat) (broken : Nat)
  | resolutionActivation (slot : SlotId)
  | comparatorCheck (obj : CheckObj) (c : CompId)
  | comparatorCheckEnd (obj : CheckObj) (c : CompId) (failStep : Option (Fin 3))
  | rotationCheck (ring : RingId) (slot : Fin 8) (c : CompId)
  | handoverEnd (ring : RingId) (agree : Bool)
  | presCheck (slot : SlotId)
  | twinCheck (ring : RingId)
  | ringParked (ring : RingId)
  | railRetarget (ring : RingId)
  | railSettled (ring : RingId)
  | downHoldEnd (ring : RingId)
  | ringUv (ring : RingId)
  | ringOv (ring : RingId)
  | ringOc (ring : RingId)
  | ringOt (ring : RingId)
  | ringStart (ring : RingId)
  | ringSettle (ring : RingId)
  | journalGroupCommit
  | journalDurable
  | journalCopy (chan : ChanId)
  | journalBlockErase (upTo : W64)
  | rppWrite
  | anchorUpdate
  | pagePad (target : TargetId) (block : Nat)
  | blockRelocate (target : TargetId) (block : Nat)
  | wearLevel (target : TargetId)
  | mediaProgramDone (target : TargetId) (block : Nat) (erase : Bool) (passed : Bool)
  | lcDrained
  | lcWaitTimeout
  | debugLcChange (req : SignedReq)
  | debugToken (req : SignedReq)
  | debugClose
  | debugExpiry
  | ceremonyTimeout
  | accessViolation (v : Violation)
  | ruleBarrier (cause : RuleCause)
  | ruleBarrierDrained
  | tamperL1 (sensor : Sensor)
  | tamperL2 (sensor : Sensor)
  | tamperSelfTest (failed : Bool)
  | unitError (u : UnitRef) (code : W16)
  | lockstep (p : PairId)
  | pairWatchdog (p : PairId)
  | deviceWatchdog
  | recoveryDone (u : UnitRef) (ok : Bool)
  | probationEnd (u : UnitRef)
  | fatalError (code : W16)
  | fatalWindowTimeout
  | fatalNested (code : W16)
  | siliconMonitor (core slot bank link : Int)
  | efficiencySample (ring : RingId) (percent : Nat) (railMilliwatt : Nat)
  | retentionCheck (bankA bankB option : Option Nat)
  | eyeSweepRequest (slot : SlotId)
  | planEvaluation
  | guardSwitch
  | guardForce
  | sbCommandFrame (port : PortId)
  | pollResponse (port : PortId) (mu : MuId) (f : SbFrame)
  | pollPeriod (port : PortId) (mu : MuId)
  | respTimeout (port : PortId) (mu : MuId)
  | announce (port : PortId) (mu : MuId) (f : SbFrame)
  | collision (port : PortId)
  | listen (port : PortId)
  | wake (port : PortId)
  | sbStuckLow (port : PortId)
  | sbRecovered (port : PortId)
  | rtsCtsMessage (port : PortId)
  | ctsTimeout (port : PortId)
  | rtsCtsAnswer (port : PortId) (b : Byte)
  | ackTimeout (port : PortId)
  | busStartStop (cut : SbCut)
  | ident
  | status
  | health
  | presence
  | logSel (w : SbWrite)
  | logRead
  | mboxRead
  | mboxWrite (w : SbWrite)
  | nonce
  | slotOff (w : SbWrite)
  | mainReset (w : SbWrite)
  | bistStart (w : SbWrite)
  | bistResult
  | fwOp (w : SbWrite)
  | fwData (w : SbWrite)
  | fwStatus
  | lockoutEnd
  | sideshowAnswer
  | healthSnapshot (tempEighths : W16)
  | vstbyFall
  | vinRingRestored
  | tapInstructionLoad (i : TapInstr)
  | debugHalt (p : PairId)
  | debugResume (p : PairId)
  deriving DecidableEq, Repr

end Sys2Proof
end

