-- ==== Sys2Proof/Decode.lean ====
section
/-! DEFINITION. The commands that words spell: none. spec/opcode_table.json gives no row any bits
(every row's `fields` is empty), so no word spells a command. -/

namespace Sys2Proof

/-- The command that a word of nbits bits spells by the opcode table: the table gives no row bits. -/
def decodeTableWord (_nbits _w : Nat) : Option Instr := none

end Sys2Proof
end

