-- ==== Sys2Proof/Config.lean ====
section
/-! DEFINITION. What the manual leaves open or takes from other standards, as constants with no body:
the TRNG's values, the cryptographic primitives it names by standard (R2), the contents of the cells
written at manufacture, and the estimates whose terms it does not fix. A claim about the model holds
for every choice of them. -/

namespace Sys2Proof.Config

open Sys2Proof

/-- The n-th byte the TRNG yields (R11). Free value. -/
opaque trng : Nat → Byte

/-- SHA-256 and SHA-384 (FIPS 180-4, R2). -/
opaque sha256 : List Byte → List Byte
opaque sha384 : List Byte → List Byte
/-- HMAC-SHA-256 (FIPS 198-1, R2). -/
opaque hmacSha256 : List Byte → List Byte → List Byte
/-- AES-CMAC under a key (SP 800-38B, R2). -/
opaque aesCmac : List Byte → List Byte → List Byte
/-- AES in ECB over whole blocks, under a key (SP 800-38A, R2). -/
opaque aesEcb : List Byte → List Byte → List Byte
/-- AES-CBC: key, IV, data. -/
opaque aesCbcEnc : List Byte → List Byte → List Byte → List Byte
opaque aesCbcDec : List Byte → List Byte → List Byte → List Byte
/-- AES-CTR: key, initial counter block, data. -/
opaque aesCtr : List Byte → List Byte → List Byte → List Byte
/-- Two-key 3DES in ECB and CBC (SP 800-67, R2). -/
opaque tdesEcb : List Byte → List Byte → List Byte
opaque tdesCbcEnc : List Byte → List Byte → List Byte → List Byte
opaque tdesCbcDec : List Byte → List Byte → List Byte → List Byte
/-- ISO/IEC 9797-1 MAC algorithm 3 with padding method 2 (R2). -/
opaque retailMac : List Byte → List Byte → List Byte

/-- ECDSA P-256 verification: public key, message, signature (FIPS 186). -/
opaque ecdsaVerify : List Byte → List Byte → List Byte → Bool
/-- ECDSA P-256 signature of a message by the attestation key, with the draw count as its nonce source. -/
opaque attestSign : Nat → List Byte → List Byte
/-- ECDSA P-384 verification under Oparacy's firmware key (R483): digest, signature. -/
opaque firmwareVerify : List Byte → List Byte → Bool
/-- An ephemeral P-256 key pair from a TRNG draw (R408). -/
opaque p256Private : Nat → List Byte
opaque p256Public : Nat → List Byte
/-- The x-coordinate of an ECDH product (R410): private key, public key. -/
opaque ecdhX : List Byte → List Byte → List Byte

/-- The device serial number, attestation public key and certificate (R407). -/
opaque deviceSerial : W64
opaque attestPublic : List Byte
opaque attestCertificate : List Byte
/-- The key-store key, drawn from the TRNG of the part when it left MANUFACTURING (R402). -/
opaque factoryKeystoreKey : List Byte
/-- Oparacy's request key in boot ROM (R400). -/
opaque oparacyKey : List Byte
/-- The option area's expected signature of a TYPE and SCOPE, written at manufacture (R472). -/
opaque bistSignature : Bool → BitVec 4 → W64

/-- What a GlobalPlatform computation reads (R215, R217): SCP, i and SL, its keys in order, the
encryption counter, and its data in order. -/
structure GpIn where
  scp : Byte
  i : Byte
  sl : Byte
  keys : List (List Byte)
  ctr : Nat
  data : List (List Byte)

/-- Session keys (R215 step 5) by role: 0 ENC, 1 MAC, 2 RMAC, 3 DEK, 4 the initial chaining value. The
keys are the static ENC, MAC, DEK; the data the host challenge and the INITIALIZE UPDATE response. -/
opaque gpDerive : Nat → GpIn → List Byte
/-- Whether the card cryptogram of the response is right (R215 step 5): session ENC and MAC; host
challenge and response. -/
opaque gpCardOk : GpIn → Bool
/-- Host cryptogram (R215 step 6), over the same input. -/
opaque gpHostCryptogram : GpIn → List Byte
/-- The wrapped command and the next chaining value (R217): ENC, MAC; chaining value, APDU. -/
opaque gpWrap : GpIn → List Byte
opaque gpWrapMcv : GpIn → List Byte
/-- Unwrapping of a response (R217): whether its R-MAC verifies, its data, the next R-MAC chaining
value. Keys ENC, RMAC; data chaining value, R-MAC chaining value, response data, status word. -/
opaque gpUnwrapOk : GpIn → Bool
opaque gpUnwrapData : GpIn → List Byte
opaque gpUnwrapRmcv : GpIn → List Byte
/-- Data encryption of a key under the session DEK of SCP02 (R206). -/
opaque gpKeyEnc02 : List Byte → List Byte → List Byte

/-- The CRC that ISO/IEC 7816-3 specifies for T=1 by reference to ISO/IEC 13239 (R89). -/
opaque t1Crc : List Byte → List Byte

/-- Terms of the estimated first-byte time (R186) whose values the manual does not fix, in µs:
activation and ATR by class code, and the record prefetch. -/
opaque estActivation : Nat → Nat
opaque estPrefetch : Nat
/-- The feed time learned from the last feeds (R186), newest first, in µs. -/
opaque estFeed : List Nat → Nat

/-- Factory phase codes of the plan in the option area (R155): slot, line. -/
opaque factoryPhase : Nat → Nat → Nat

/-- The host-visible encodings the manual does not lay out: the BANK_STATUS result (R243). -/
opaque bankStatusLayout : List Nat → List Byte

/-- Which NAND channel a record's pages are least busy on (R186 criterion 5): RECORD_ID. -/
opaque channelLoad : W64 → Nat → Nat

end Sys2Proof.Config
end

