-- ==== Sys2Proof/Machine/Bytes.lean ====
section
/-! DEFINITION. Byte orders, slices and the checks the manual lays out bit by bit: CRC7 (R124), the
Galloper line CRC-16 (R126), CRC-32 (R197, R244), LRC (R89), the station bus checksum and protected
identifier (R387), PRBS-15 (R156) and Galloper tokens (R123). -/

namespace Sys2Proof.Machine

open Sys2Proof

/-- Whether bit n of a word is 1. -/
def bit {w : Nat} (v : BitVec w) (n : Nat) : Bool := v.getLsbD n

/-- The field [lo + len - 1 : lo] of a word, as a number. -/
def field {w : Nat} (v : BitVec w) (lo len : Nat) : Nat := (v.toNat >>> lo) % 2 ^ len

/-- A word with bit n set to a Bool, as a number to be added: 2^n or 0. -/
def bitAt (b : Bool) (n : Nat) : Nat := if b then 2 ^ n else 0

/-- A list kept in order with one more element. -/
def insertBy {α : Type} (le : α → α → Bool) (a : α) : List α → List α
  | [] => [a]
  | b :: l => if le a b then a :: b :: l else b :: insertBy le a l

/-- A list in order, equal elements in their own order. -/
def sortBy {α : Type} (le : α → α → Bool) : List α → List α
  | [] => []
  | a :: l => insertBy le a (sortBy le l)

/-- n bytes of a number, least significant first. -/
def leBytes : Nat → Nat → List Byte
  | 0, _ => []
  | n + 1, v => BitVec.ofNat 8 v :: leBytes n (v / 256)

/-- n bytes of a number, most significant first. -/
def beBytes (n v : Nat) : List Byte := (leBytes n v).reverse

/-- The number a little-endian byte list spells. -/
def ofLe : List Byte → Nat
  | [] => 0
  | b :: bs => b.toNat + 256 * ofLe bs

/-- The number a big-endian byte list spells. -/
def ofBe (bs : List Byte) : Nat := ofLe bs.reverse

/-- Bytes off to off + len - 1 of a list. -/
def slice (bs : List Byte) (off len : Nat) : List Byte := (bs.drop off).take len

/-- The little-endian field of len bytes at off. -/
def leAt (bs : List Byte) (off len : Nat) : Nat := ofLe (slice bs off len)

/-- The big-endian field of len bytes at off. -/
def beAt (bs : List Byte) (off len : Nat) : Nat := ofBe (slice bs off len)

/-- The byte at off, 0 beyond the end. -/
def byteAt (bs : List Byte) (off : Nat) : Byte := bs.getD off 0

/-- A list padded or cut to n bytes with 0x00. -/
def padTo (n : Nat) (bs : List Byte) : List Byte := (bs ++ List.replicate (n - bs.length) 0).take n

/-- Every byte is 0. -/
def allZero (bs : List Byte) : Bool := bs.all (· == 0)

/-- Bits of a byte, most significant first. -/
def bitsMsb (b : Byte) : List Bool := (List.range 8).map (fun i => b.getLsbD (7 - i))

/-- The exclusive-OR of a byte list: LRC (R89), TCK (R98), PCK (R102). -/
def xorAll (bs : List Byte) : Byte := bs.foldl (· ^^^ ·) 0

/-- One step of a CRC of width w with polynomial p, most significant bit first. -/
def crcStep {w : Nat} (p : BitVec w) (c : BitVec w) (b : Bool) : BitVec w :=
  if c.msb != b then (c <<< 1) ^^^ p else c <<< 1

/-- CRC7 of R124 over a list of bits: x^7 + x^3 + 1, initial value 0. -/
def crc7 (bits : List Bool) : BitVec 7 := bits.foldl (crcStep 0x09) 0

/-- The line CRC-16 of R126: x^16 + x^12 + x^5 + 1, initial value 0xFFFF, no final inversion. -/
def crc16 (bs : List Byte) : W16 := (bs.flatMap bitsMsb).foldl (crcStep 0x1021) 0xFFFF

/-- One bit of the IEEE 802.3 CRC-32, least significant bit first (R197, R244). -/
def crc32Bit (c : W32) : W32 := if c.getLsbD 0 then (c >>> 1) ^^^ 0xEDB88320 else c >>> 1

/-- One byte of the IEEE 802.3 CRC-32. -/
def crc32Byte (c : W32) (b : Byte) : W32 :=
  let c := c ^^^ b.zeroExtend 32
  crc32Bit (crc32Bit (crc32Bit (crc32Bit (crc32Bit (crc32Bit (crc32Bit (crc32Bit c)))))))

/-- CRC-32 with the IEEE 802.3 polynomial (R197). -/
def crc32 (bs : List Byte) : W32 := ~~~ (bs.foldl crc32Byte 0xFFFFFFFF)

/-- Sum with each carry added back (R387). -/
def carrySum (bs : List Byte) : Nat :=
  bs.foldl (fun a b => let t := a + b.toNat; if t ≥ 256 then t - 255 else t) 0

/-- The station bus checksum over the PID and the data bytes (R387). -/
def sbChecksum (pid : Byte) (data : List Byte) : Byte := ~~~ (BitVec.ofNat 8 (carrySum (pid :: data)))

/-- The protected identifier of an ID (R387). -/
def sbPid (id : BitVec 6) : Byte :=
  let p0 := id.getLsbD 0 ^^ id.getLsbD 1 ^^ id.getLsbD 2 ^^ id.getLsbD 4
  let p1 := !(id.getLsbD 1 ^^ id.getLsbD 3 ^^ id.getLsbD 4 ^^ id.getLsbD 5)
  BitVec.ofNat 8 (id.toNat + bitAt p0 6 + bitAt p1 7)

/-- n bits of PRBS-15 (x^15 + x^14 + 1) from a seed, most significant bit of the register first (R156). -/
def prbs15 : Nat → BitVec 15 → List Bool
  | 0, _ => []
  | n + 1, r =>
    let b := r.getLsbD 14
    prbs15 n ((r <<< 1) ||| (if r.getLsbD 14 != r.getLsbD 13 then 1 else 0))
      |> List.cons b

/-- A Galloper token's fields (R123). -/
structure Tok where
  op : BitVec 6
  csn : W16
  len : W16
  aux : W16
  deriving DecidableEq, Repr

/-- Bits [62:8] of a token, most significant first: what CRC7 covers (R124). -/
def tokBits (w : W64) : List Bool := (List.range 55).map (fun i => w.getLsbD (62 - i))

/-- A command token (device to card): start 0, direction 1, CRC7, end 1 (R123). -/
def tokPack (t : Tok) : W64 :=
  let w : W64 := BitVec.ofNat 64
    (2 ^ 62 + t.op.toNat * 2 ^ 56 + t.csn.toNat * 2 ^ 40 + t.len.toNat * 2 ^ 24 + t.aux.toNat * 2 ^ 8 + 1)
  w ||| (BitVec.ofNat 64 ((crc7 (tokBits w)).toNat * 2))

/-- A response token, none when it is invalid under R124. -/
def tokRead (w : W64) : Option Tok :=
  if !w.getLsbD 63 && !w.getLsbD 62 && w.getLsbD 0 &&
      field w 1 7 == (crc7 (tokBits w)).toNat then
    some { op := BitVec.ofNat 6 (field w 56 6), csn := BitVec.ofNat 16 (field w 40 16),
           len := BitVec.ofNat 16 (field w 24 16), aux := BitVec.ofNat 16 (field w 8 16) }
  else none

end Sys2Proof.Machine
end

