-- ==== Sys2Proof/Machine/State.lean ====
section
/-! DEFINITION. The state of the KG64 as plain data: everything the manual gives the device, the
queue of waiting commands, and the state after reset. Field docstrings read
`what; width; file R<n>; reset value`. -/

namespace Sys2Proof.Machine

open Sys2Proof

/-! ## Small types -/

/-- Slot states (R69). -/
inductive SlotPhase where
  | off | powerWait | powering | atrWait | ready | galloper | busy | deactivating
  | quarantined | unstable | fenced | bist
  deriving DecidableEq, Repr

/-- Deactivation causes (R71). -/
inductive Cause where
  | none | jobEnd | host | classStep | noAtr | atrError | vccFail | busyLimit | disable
  | removal | overcurrent | short | vccWindow | supplyOrClock | fenceTamper
  deriving DecidableEq, Repr

/-- Sources of a fence (R349 FENCE_SRC). -/
inductive FenceSrc where
  | none | contact | comparator | ring | unit | tamper
  deriving DecidableEq, Repr

/-- Protocol in use (R349 PROTO). -/
inductive Proto where
  | none | t0 | t1 | galloper
  deriving DecidableEq, Repr

/-- Card clock line: stopped low, stopped high (R109), or running. -/
inductive ClkLine where
  | low | high | run
  deriving DecidableEq, Repr

/-- C7 (R38, R48, R122): driven low, in reception behind its pull-up, or push-pull in Galloper mode. -/
inductive IoLine where
  | low | pullUp | pushPull
  deriving DecidableEq, Repr

/-- Where a slot's VCC stands: off (below 0.4 V), ramping, in its window, or discharging. -/
inductive Vcc where
  | off | ramp | on | discharge
  deriving DecidableEq, Repr

/-- The step a deactivation order has reached (R53, R57). -/
inductive DeactStep where
  | rstLow | window | clkLow | linesLow | ldoOff
  deriving DecidableEq, Repr

/-- A deactivation in progress (R53, R57, R60). -/
structure Deact where
  emergency : Bool
  step : DeactStep
  /-- whether step 3 of R53 runs -/
  window : Bool
  /-- the measurement of this window, when it completed -/
  reading : Option WindowReading
  /-- whether the attempt it ends counts as failed when it completes (R52, R60) -/
  counted : Bool
  deriving DecidableEq, Repr

/-- A set of F, D and N (R105). -/
structure Rate where
  f : Nat
  d : Nat
  n : Nat
  deriving DecidableEq, Repr

/-- The Galloper capability object (R112). -/
structure GalCap where
  maxCode : Nat
  depth : Nat
  classB : Bool
  classC : Bool
  stopOk : Bool
  blockKiB : Nat
  deriving DecidableEq, Repr

/-- Exchange statuses (R97, R159). -/
inductive ExchStatus where
  | ok | parity | timeout | lineStuck | resynched | aborted | oversize | extOnT0 | protocol
  | exchLimit | deactivated | cancelled | linkFail | busyLimit | blockSize
  deriving DecidableEq, Repr

/-- Why an exchange is made (R90, R96, R114, R150): a profile step, or one of the engine's own. -/
inductive ExchKind where
  | step | getResponse | sIfs | modeSwitch | ltsApdu | initUpdate | extAuth | resolution
  deriving DecidableEq, Repr

/-- A standard-mode exchange in progress on a slot. -/
structure Exch where
  kind : ExchKind
  job : JobId
  gen : W16
  step : Nat
  /-- the command APDU; for T=1 the part not yet acknowledged follows in `rest` -/
  cmd : List Byte
  rest : List Byte
  resp : List Byte
  respMax : Nat
  /-- T=0: data bytes of the APDU in hand already transferred (R87) -/
  t0Sent : Nat
  /-- T=0: data bytes the device still awaits from the card -/
  t0Expect : Nat
  /-- T=0: errors on the character in hand, and its index when it is one the device sends (R85) -/
  t0Errors : Nat
  t0ErrAt : Nat
  /-- T=0: the APDU of a GET RESPONSE or re-issue in progress, none before one (R87) -/
  t0Follow : Option (List Byte)
  /-- characters that met a full receive FIFO (R107) -/
  overruns : Nat
  deriving DecidableEq, Repr

/-- T=1 protocol state (R89 to R94). -/
structure T1 where
  ns : Bool
  nr : Bool
  ifsc : Nat
  crc : Bool
  cwi : Nat
  bwi : Nat
  /-- multiplier for the next BWT (R94) -/
  wtx : Nat
  /-- failed attempts on the block in hand (R92) -/
  attempts : Nat
  resynchs : Nat
  /-- the last failure was an invalid block other than a CWT overrun (R92) -/
  lastInvalid : Bool
  /-- the last block sent -/
  last : List Byte
  /-- a chain of the device's own is open: R-block awaited (R91) -/
  chaining : Bool
  /-- S(IFS request) outstanding (R90) -/
  ifsOut : Bool
  /-- S(RESYNCH request) outstanding (R92) -/
  resynchOut : Bool
  /-- S(ABORT request) outstanding (R91) -/
  abortOut : Bool
  deriving DecidableEq, Repr

/-- What the Galloper link awaits from the card (R130, R145, R156). -/
inductive GalExpect where
  | none
  | rcv (csn : W16)
  | rsp (csn : W16)
  | block (csn : W16) (len : Nat) (sw : W16)
  | ltsRsp
  | ltsBlock
  | train
  deriving DecidableEq, Repr

/-- A command in the Galloper window (R139, R160): sent as a CMD token and not yet fetched. -/
structure WCmd where
  csn : W16
  job : JobId
  gen : W16
  step : Nat
  kind : ExchKind
  apdu : List Byte
  exp : W16
  respMax : Nat
  /-- transmissions of the CMD (R147) -/
  tx : Nat
  /-- FETCH repeats (R147) -/
  fetches : Nat
  accepted : Bool
  /-- answered REFUSED: never queued (R132) -/
  refused : Bool
  /-- response ready: D0 released for it (R136) -/
  ready : Bool
  jseq : Option W64
  deriving DecidableEq, Repr

/-- A last-transaction-status record (R143): its SID and its commands in order, each with its CSN, its
state (1 QUEUED to 5 INTERRUPTED) and its status word. -/
structure LtsRec where
  sid : W16
  cmds : List (W16 × Nat × W16)
  deriving DecidableEq, Repr

/-- Why the Galloper link is giving up (R148, R149). -/
inductive GiveUp where
  | linkFail | exchLimit
  deriving DecidableEq, Repr

/-- A Galloper card session (R113 to R160). -/
structure Gal where
  /-- clock code in force, staged code and negotiated GCK′ (R116, R154) -/
  code : Nat
  staged : Option Nat
  codeMax : Nat
  depth : Nat
  sid : W16
  csnNext : W16
  window : List WCmd
  /-- waiting for the Galloper clock (R120 step 2), then the quiet time -/
  switching : Bool
  quiet : Bool
  expect : GalExpect
  /-- R147: no CMD until an LTS record read after the error -/
  ltsNeeded : Bool
  ltsTries : Nat
  linkErrors : Nat
  downshifted : Bool
  giveUp : Option GiveUp
  stopped : Bool
  /-- sample phase codes in force of C7, D0, D1, D2 (R154, R155) -/
  phases : Vector Nat 4
  /-- eye sweep in progress: its phase code and, newest first, which lines passed (R156) -/
  sweep : Option (Nat × List (Vector Bool 4))
  deriving DecidableEq, Repr

/-- A command left unsettled by a warm reset (R150). -/
structure Unsettled where
  csn : W16
  job : JobId
  gen : W16
  step : Nat
  status : ExchStatus
  deriving DecidableEq, Repr

/-- The end of a command or exchange, waiting for EXCHANGE_END (R97, R142). -/
structure Ended where
  kind : ExchKind
  job : JobId
  gen : W16
  step : Nat
  csn : W16
  status : ExchStatus
  sw : W16
  resp : List Byte
  /-- HOW of R246: response 0x01, sent never or cancelled 0x02, record 0x03 -/
  how : Nat
  deriving DecidableEq, Repr

/-- The check of a slot's comparators in progress (R300 to R304). -/
inductive CheckPhase where
  | idle
  | running (c : CompId)
  deriving DecidableEq, Repr

/-- One slot: its registers, contacts, filters, card and link (02, 03, 04). -/
structure Slot where
  /-- SLOT_STATE.STATE; 4 bits; 02 R69; reset OFF -/
  phase : SlotPhase
  /-- SLOT_STATE.CAUSE; 4 bits; 02 R71; reset NONE -/
  cause : Cause
  /-- SLOT_CFG_A; 32 bits; 11 R345; reset 0x0E0C0F07 -/
  cfgA : W32
  /-- SLOT_CFG_B; 32 bits; 11 R346; reset 0x0000046A -/
  cfgB : W32
  /-- SLOT_CTRL.ENABLE; 1 bit; 11 R347; reset 0 -/
  enable : Bool
  /-- SLOT_CTRL.DEACTIVATE; 1 bit; 11 R347; reset 0 -/
  deactReq : Bool
  /-- class in use while VCC is on; 2 bits; 11 R349 CLASS; reset none -/
  cls : Option CardClass
  /-- pending class step; class; 02 R42, R72; reset none -/
  stepTo : Option CardClass
  /-- protocol in use; 2 bits; 11 R349 PROTO; reset none -/
  proto : Proto
  /-- failed attempts; 2 bits; 02 R52; reset 0 -/
  failCount : Nat
  /-- VCC level; state; 02 R48, R516; reset off -/
  vcc : Vcc
  /-- slot LDO on; 1 bit; 02 R48, R53; reset off -/
  ldo : Bool
  /-- C2 high; 1 bit; 02 R38, R39; reset low -/
  rst : Bool
  /-- C3; state; 02 R38, R48, R109; reset low -/
  clk : ClkLine
  /-- C7; state; 02 R38, R48, R122; reset low -/
  io : IoLine
  /-- C4 behind its 10 kΩ pull-up instead of the 50 kΩ pull-down; 1 bit; 04 R120; reset pull-down -/
  d0PullUp : Bool
  /-- C4 held low by the card as busy; 1 bit; 04 R136; reset 0 -/
  d0Busy : Bool
  /-- Galloper row of I_OC and I_LIM in force; 1 bit; 02 R41; reset 0 -/
  galLimits : Bool
  /-- t_OFF still running since VCC fell below 0.4 V; 1 bit; 02 R47, R49, R296; reset 0 -/
  tOff : Bool
  /-- holds its ring and global inrush token; 1 bit; 08 R278; reset 0 -/
  token : Bool
  /-- overcurrent and short decisions blanked; 1 bit; 09 R294; reset 0 -/
  blanked : Bool
  /-- t_VS completed since the LDO enable; 1 bit; 02 R48; reset 0 -/
  qualified : Bool
  /-- deactivation in progress; record; 02 R53, R57; reset none -/
  deact : Option Deact
  /-- the activation attempt in progress follows a warm reset; 1 bit; 03 R108; reset 0 -/
  warm : Bool
  /-- filtered presence; 1 bit; 02 R62, R68; reset ABSENT -/
  present : Bool
  /-- PRES_BAND; 1 bit; 02 R65; reset 0 -/
  presBand : Bool
  /-- filter forced to ABSENT and held by a failed presence comparator; 1 bit; 09 R305; reset 0 -/
  presHeld : Bool
  /-- filter transitions in the window t_TW; count; 02 R66; reset 0 -/
  transitions : Nat
  /-- broken runs in the window t_TW; count; 02 R66; reset 0 -/
  brokenRuns : Nat
  /-- UNSTABLE limit reached while powered; 1 bit; 02 R66, R72; reset 0 -/
  unstablePending : Bool
  /-- SLOT_STATE.GAL_FAILED; 1 bit; 04 R151; reset 0 -/
  galFailed : Bool
  /-- SLOT_STATE.PPS_FAILED; 1 bit; 03 R103; reset 0 -/
  ppsFailed : Bool
  /-- SLOT_STATE.FENCE_PENDING; 1 bit; 11 R349; reset 0 -/
  fencePending : Bool
  /-- SLOT_STATE.FENCE_SRC; 3 bits; 11 R349; reset none -/
  fenceSrc : FenceSrc
  /-- error code of the fence in force or pending; 16 bits; 05 R179 FENCED; reset 0 -/
  fenceCode : W16
  /-- the job that holds the slot; JOB_ID; 11 R349 JOB_HELD; reset none -/
  job : Option JobId
  /-- CARD_DIGEST of the card; 64 bits; 05 R175; reset none -/
  digest : Option W64
  /-- identity-step response data of the card; bytes; 06 R206 CARD_ID; reset empty -/
  cardId : List Byte
  /-- the card has ended an ISSUE job DONE since it was inserted; 1 bit; 05 R185; reset 0 -/
  issued : Bool
  /-- key-set inventory; up to 64 x 32 bits; 05 R187; reset empty -/
  inventory : List W32
  /-- feed request outstanding: its job and the TIME it was made; JOB_ID and 64 bits; 05 R186, R190; reset none -/
  feed : Option (JobId × W64)
  /-- no feed is requested until the station next decides PRESENT; 1 bit; 05 R190; reset 0 -/
  feedBlocked : Bool
  /-- eject request due at the end of the deactivation, with its bin and job; 05 R191; reset none -/
  eject : Option (Byte × JobId)
  /-- the mode switch in progress proposed these: clock code, window depth and SID; 4, 3 and 16 bits; 04 R114; reset none -/
  proposal : Option (Nat × Nat × W16)
  /-- activations since the last CLEAR or reset; count; 05 R186; reset 0 -/
  activations : Nat
  /-- the buffer's record, its version and data; 64 KiB buffer record area; 06 R208, 07 R242; reset empty -/
  record : Option (W64 × Nat × List Byte)
  /-- a resolution activation of this slot is due or running, with the profiles left; 07 R253; reset none -/
  resolution : Option (List W16)
  /-- the resolution activation of this start has been made; 1 bit; 07 R253; reset 0 -/
  resolved : Bool
  /-- F, D and N in force; counts; 03 R77; reset 372, 1, 240 -/
  rate : Rate
  /-- Fi code in force, Fd counting as code 1; 4 bits; 03 R77; reset 1 -/
  fiCode : Nat
  /-- staged set of F, D and N; record; 03 R105; reset none -/
  shadow : Option Rate
  /-- inverse convention in force; 1 bit; 03 R98; reset 0 -/
  inverse : Bool
  /-- extra guard time N of TC1; 8 bits; 03 R82; reset 0 -/
  guardN : Byte
  /-- T=0 waiting integer WI; 8 bits; 03 R95; reset 10 -/
  wi : Nat
  /-- clock stop indicator XI; 2 bits; 03 R109; reset 0b00 -/
  xi : Nat
  /-- Galloper capability object of the ATR; 4 bytes; 04 R112; reset none -/
  galCap : Option GalCap
  /-- PPS request outstanding: the bytes sent; 03 R102; reset none -/
  pps : Option (List Byte)
  /-- Fi/Di codes and protocol to apply on acceptance; 03 R100, R101; reset none -/
  ppsPlan : Option (Nat × Nat × Proto)
  /-- T=1 state; record; 03 R89; reset initial -/
  t1 : T1
  /-- exchange in progress; record; 03 R97; reset none -/
  exch : Option Exch
  /-- Galloper session; record; 04 R113; reset none -/
  gal : Option Gal
  /-- previous SID used on the slot; 16 bits; 04 R114; reset 0 -/
  prevSid : W16
  /-- commands unsettled by a warm reset, and the SID of the session that ended; 04 R150; reset empty -/
  unsettled : List Unsettled
  /-- SID of the session the unsettled commands belong to; 16 bits; 04 R150; reset 0 -/
  oldSid : W16
  /-- ended commands and exchanges waiting for EXCHANGE_END; list; 03 R97, 04 R142; reset empty -/
  ended : List Ended
  /-- status of the warm reset to make once the ended exchanges are reported; 1 bit; 03 R97; reset 0 -/
  warmDue : Bool
  /-- record read with the LTS APDU since the card was last powered; 04 R150, 07 R250; reset none -/
  lts : Option LtsRec
  /-- the LTS APDU is due after the S(IFS) exchange; 1 bit; 04 R150, 07 R250; reset 0 -/
  ltsDue : Bool
  /-- noise-flagged characters since the last plan; 16 bits; 15 R464; reset 0 -/
  noiseTotal : Nat
  /-- link errors per line C7, D0, D1, D2; counts; 04 R146; reset 0 -/
  lineErrors : Vector Nat 4
  /-- granted idle window; 1 bit; 05 R189; reset 0 -/
  window : Bool
  /-- comparator check in progress; 09 R300; reset idle -/
  check : CheckPhase
  /-- the presence comparator checked next: PRES_R instead of PRES_A; 1 bit; 09 R301; reset 0 -/
  presNext : Bool
  /-- an activation request waits for an unpowered check to end; 1 bit; 09 R301; reset 0 -/
  actWait : Bool
  deriving DecidableEq, Repr

/-! ## Rings and power admission -/

/-- Phase of a ring converter (R273, R274, R277). -/
inductive RailPhase where
  | off | starting | settled | ramping | draining
  deriving DecidableEq, Repr

structure Ring where
  /-- converter phase; state; 08 R273; reset off -/
  phase : RailPhase
  /-- class of the present rail target; 2 bits; 08 R273, R284 RAIL_RGn; reset C -/
  railCls : CardClass
  /-- headroom in force, in 25 mV steps above 150 mV; 4 bits; 08 R273; reset factory 300 mV (6) -/
  headroom : Nat
  /-- headroom planned and not yet applied; 08 R276; reset none -/
  headroomNext : Option Nat
  /-- down hold running; 1 bit; 08 R275; reset 0 -/
  downHold : Bool
  /-- downward retarget postponed; 1 bit; 08 R275; reset 0 -/
  postponed : Bool
  /-- parked once since the converter start: joined admission; 1 bit; 08 R277; reset 0 -/
  joined : Bool
  /-- ring fenced; 1 bit; 08 R285; reset 0 -/
  fenced : Bool
  /-- fenced after a ring comparator failure: converter stops once every slot is below 0.4 V; 09 R305; reset 0 -/
  stopWhenOff : Bool
  /-- valid inductor value of the option area, in nH, 0 for none; 08 R272; reset 2200 (option area) -/
  inductor : Nat
  /-- rotation: slot and comparator under handover; 09 R302; reset none -/
  rotation : Option (Fin 8 × CompId)
  /-- the standby set has taken over the slot comparator's function; 1 bit; 09 R302; reset 0 -/
  standbyHolds : Bool
  /-- rotation stopped by a failed standby set; 1 bit; 09 R305; reset 0 -/
  rotationStopped : Bool
  /-- which twin (A false, B true) is checked next; 1 bit; 09 R301; reset A -/
  twinB : Bool
  /-- the converter must not start before its ring check passes; ring check due; 09 R301; reset 0 -/
  checkDue : Bool
  /-- ring and standby comparators under check; list of IDs; 09 R300, R301; reset empty -/
  checks : List CompId
  deriving DecidableEq, Repr

/-- A request in the power-admission queue (R279, R280). -/
structure Request where
  slot : SlotId
  cls : CardClass
  /-- TIME when the request joined -/
  since : W64
  /-- W_max in µs -/
  wmax : Nat
  warned : Bool
  deriving DecidableEq, Repr

/-! ## Profiles, jobs, completions and events -/

/-- A substitution entry (R206). -/
structure Sub where
  dst : Nat
  len : Nat
  src : Byte
  sarg : Nat
  deriving DecidableEq, Repr

/-- A profile step (R200). -/
structure Step where
  kind : Byte
  flags : Byte
  tmpl : List Byte
  subs : List Sub
  onFail : Byte
  expSw : W16
  expMask : W16
  altSw : W16
  altMask : W16
  altTo : Byte
  respMax : Nat
  failErr : W16
  exchLimit : Nat
  karg : W32
  next : Byte
  deriving DecidableEq, Repr

/-- A profile image, decoded (R198). -/
structure Profile where
  id : W16
  pflags : Byte
  classes : Byte
  scp : Byte
  ahead : Nat
  busyLimit : Nat
  exchDefault : Nat
  minRecord : Nat
  keys : List W32
  steps : List Step
  deriving DecidableEq, Repr

/-- Key material in a Juggler key slot: its KTYPE (R409) and value. -/
structure KeyMat where
  ktype : Nat
  value : List Byte
  deriving DecidableEq, Repr

/-- A secure channel session (R215 to R217, R223). -/
structure Session where
  scp : Byte
  i : Byte
  sl : Byte
  enc : List Byte
  mac : List Byte
  rmac : List Byte
  dek : List Byte
  mcv : List Byte
  rmcv : List Byte
  encCtr : Nat
  seq : Nat
  deriving DecidableEq, Repr

/-- A checkpoint (R223). -/
structure Checkpoint where
  step : Nat
  stepsRun : Nat
  session : Option Session
  kslots : List (Option KeyMat)
  kslotTypes : List (Option Nat)
  keepLen : Nat
  resultLen : Nat
  deriving DecidableEq, Repr

/-- A command built and waiting in staging, or sent and not yet matched (R209, R222). -/
structure Staged where
  step : Nat
  kind : ExchKind
  apdu : List Byte
  exp : W16
  csn : W16
  jseq : Option W64
  sent : Bool
  cp : Checkpoint
  /-- where its primary row leads: the step to precompute next, and the steps to re-run before it (R203, R221) -/
  after : Option Nat
  afterRe : List Nat
  deriving DecidableEq, Repr

/-- The profile engine's state for one job (R209, R222 to R224). -/
structure Run where
  profile : Profile
  /-- the engine has taken up the job: its parameter data is copied (R206) -/
  taken : Bool
  param : List Byte
  /-- next step to precompute; none once an end target is reached or a sync point is queued -/
  next : Option Nat
  stepsRun : Nat
  keep : List Byte
  staged : List Staged
  base : Checkpoint
  /-- where the status word of the base's command led (R225): the step to precompute next, and the steps to
  re-run after it -/
  baseNext : Option Nat
  baseRe : List Nat
  session : Option Session
  kslots : List (Option KeyMat)
  kslotTypes : List (Option Nat)
  /-- host challenge of the SC_OPEN in progress (R215) -/
  challenge : List Byte
  /-- a held error and the step it belongs to (R209) -/
  held : Option (Nat × W16)
  /-- steps to re-run before `next`, in order (R221) -/
  reentry : List Nat
  deriving DecidableEq, Repr

/-- States of a job the device holds (R180); an ended job is in `closing` or gone. -/
inductive JobPhase where
  | queued | placed | started | resolving
  deriving DecidableEq, Repr

/-- Completion statuses (R173). -/
inductive CStatus where
  | done | failed | indeterminate | cancelled | rejected
  deriving DecidableEq, Repr

structure Job where
  ticket : Ticket
  phase : JobPhase
  /-- slot held (R180) -/
  slot : Option SlotId
  /-- slot of the last dispatch, 0xFF if never placed (R173) -/
  lastSlot : Byte
  /-- current generation, and the generation of the last dispatch (R173, R192) -/
  gen : W16
  lastGen : W16
  replaced : Nat
  /-- TIME at fetch, and order of fetch (R184) -/
  fetched : W64
  seq : Nat
  galloper : Bool
  resultLost : Bool
  late : Bool
  digest : W64
  exch : ExchStatus
  /-- noise-flagged characters of the job and all it received (R79) -/
  noise : Nat × Nat
  /-- core pair that owns the job (R445) -/
  pair : Option PairId
  /-- Juggler whose context the job holds (R211) -/
  jug : Option JugId
  /-- the job's activation of its slot (R180) -/
  activated : Bool
  counter : Option (Nat × W64)
  run : Option Run
  /-- result bytes kept in the job's result store (R208) -/
  result : List Byte
  resultTrunc : Bool
  /-- cancel at the next step boundary (R226), and the error it ends with -/
  cancelWith : Option W16
  deriving DecidableEq, Repr

/-- An ended job whose completion is not yet written (R165, R245). -/
structure Closing where
  jobId : JobId
  seq : Nat
  status : CStatus
  slot : Byte
  error : W16
  gen : W16
  exch : ExchStatus
  cflags : Byte
  digest : W64
  resultLen : Nat
  resultAddr : W64
  result : List Byte
  /-- rule barriers that must drain before it is written (R363) -/
  barriers : Nat
  deriving DecidableEq, Repr

/-- An event (R177). -/
structure Event where
  code : W16
  /-- none: SLOT 0xFF -/
  slot : Option SlotId
  arg : W32
  time : W64
  deriving DecidableEq, Repr

/-- What leaves the device at its pins and on the link, in order (R16, R22, R322). -/
inductive Emission where
  | result (addr : W64) (bytes : List Byte)
  | completion (index : Nat) (c : Closing)
  | cqTail (index : Nat)
  | event (index : Nat) (e : Event) (dropped : Nat)
  | eqTail (index : Nat)
  | msix (vec : Nat)
  | fetchRead (head count : Nat)
  | barData (v : W32)
  | unsupported
  | chars (slot : SlotId) (bytes : List Byte)
  | errorSignal (slot : SlotId)
  | token (slot : SlotId) (tok : W64)
  | block (slot : SlotId) (segs : List (LineSeg × LineSeg × LineSeg))
  | sbFrame (port : PortId) (pid : Byte) (data : List Byte) (checksum : Option Byte)
  | sbMessage (port : PortId) (bytes : List Byte)
  | smbus (bytes : List Byte)
  | smbusNack
  | writeProtect
  | sensorStimulus
  deriving DecidableEq, Repr

/-! ## The data bank -/

/-- RESULT of an outcome entry (R244). -/
inductive JResult where
  | done | notDone | doneHost | notDoneHost
  deriving DecidableEq, Repr

/-- The outcome entry of an intent (R244, R246). -/
structure JOutcome where
  result : JResult
  sw : W16
  how : Nat
  /-- SLOT where settled, 0xFF for the host -/
  slot : Byte
  boot : W32
  timeMs : W32
  /-- in the group waiting for its page program (R247) -/
  queued : Bool
  durable : Bool
  deriving DecidableEq, Repr

/-- A journal intent entry (R244). -/
structure Intent where
  slot : SlotId
  step : Nat
  galloper : Bool
  first : Bool
  write : Bool
  jobId : JobId
  jseq : W64
  digest : W64
  recordId : W64
  counter : W64
  ctrIdx : Nat
  profileId : W16
  gen : W16
  sid : W16
  csn : W16
  boot : W32
  timeMs : W32
  /-- in the group waiting for its page program (R247) -/
  queued : Bool
  durable : Bool
  outcome : Option JOutcome
  deriving DecidableEq, Repr

/-- An audit entry (R260, R431). -/
structure AuditEntry where
  aseq : W64
  atype : Byte
  outcome : Byte
  ctrIdx : W16
  jobId : W32
  counter : W64
  digest : W64
  boot : W32
  timeMs : W32
  chain : List Byte
  deriving DecidableEq, Repr

/-- An issuance counter (R255, R259). -/
structure Counter where
  handle : W32
  next : W64
  top : W64
  bound : Bool
  deriving DecidableEq, Repr

/-- A job that made a FIRST intent and has ended, waiting for its ISSUE_RESULT entry (R262). -/
structure IssueEnd where
  jobId : JobId
  counter : W64
  ctrIdx : Nat
  done : Bool
  deriving DecidableEq, Repr

/-- A stored issuer key (R409 to R411): its value is held only inside the key store and Jugglers. -/
structure StoredKey where
  handle : W32
  ktype : Nat
  usage : Byte
  value : List Byte
  deriving DecidableEq, Repr

/-- A NAND block with a record of its own (R237 to R239): bad, erase count, reads since erase,
listed for refresh, open with unpaired pages. -/
structure Block where
  target : TargetId
  index : Nat
  bad : Bool
  erases : Nat
  reads : Nat
  refresh : Bool
  padDue : Bool
  deriving DecidableEq, Repr

/-- Per-target bank figures (R237, R460). -/
structure Target where
  id : TargetId
  endurance : Nat
  blocks : Nat
  spares : Nat
  spares0 : Nat
  /-- read-reference offsets of the four retention bands (R460) -/
  offsets : Vector Int 4
  mostCorrected : Nat
  deriving DecidableEq, Repr

structure Bank where
  /-- bank formatted; 1 bit; 07 R234; reset unformatted -/
  formatted : Bool
  /-- FORMAT parameters; record; 07 R234, R243; reset none -/
  fmt : Option FormatParams
  /-- targets of the bank; list; 07 R228, R230; reset empty -/
  targets : List Target
  /-- blocks that differ from a fresh one; bad-block table and counts; 07 R237; reset empty -/
  blocks : List Block
  /-- records: RECORD_ID, version, data; 07 R236, R243; reset empty -/
  records : List (W64 × Nat × List Byte)
  /-- profile images by PROFILE_ID; 06 R197, 07 R243; reset empty -/
  profiles : List (W16 × List Byte)
  /-- issuer keys; at most 4096; 13 R411; reset empty -/
  keys : List StoredKey
  /-- Safety Net journal; 07 R244, R248; reset empty -/
  journal : List Intent
  /-- the journal has been scanned and its open entries listed at this start; 1 bit; 01 R34, 07 R249; reset 0 -/
  started : Bool
  /-- next JSEQ; 64 bits; 07 R244; reset 1 -/
  jseqNext : W64
  /-- BOOT start count; 32 bits; 07 R249; reset 0 -/
  boot : W32
  /-- a journal channel is fenced and the new copy is not complete; 07 R247; reset 0 -/
  copyDue : Bool
  /-- JOURNAL_FULL raised and in force; 07 R248; reset 0 -/
  journalFull : Bool
  /-- issuance counters; 256 x (32 + 64 + 64); 07 R255, R259; reset unbound, next 1 -/
  counters : Vector Counter 256
  /-- WC of the newest RPP state programmed; 64 bits; 07 R256; reset 0 -/
  rppWc : W64
  /-- the RPP passed its check at this start; 07 R258; reset 0 -/
  rppValid : Bool
  /-- RP_INVALID in force until the next crypto-erase; 07 R258; reset 0 -/
  rpFail : Bool
  /-- audit log entries kept; 07 R260; reset empty -/
  audit : List AuditEntry
  /-- ASEQ of the next entry; 64 bits; 07 R261; reset 1 -/
  aseqNext : W64
  /-- CHAIN of the newest entry; 32 bytes; 07 R260; reset zeros -/
  chain : List Byte
  /-- TRIM point; 64 bits; 07 R261; reset 0 -/
  trim : W64
  /-- ASEQ in the last AUDIT_ATTEST result; 64 bits; 07 R264; reset 0 -/
  attested : W64
  /-- ANCHOR's ASEQ in the RPP; 64 bits; 07 R256, R263; reset 0 -/
  anchorAseq : W64
  /-- ANCHOR's CHAIN in the RPP; 32 bytes; 07 R256; reset zeros -/
  anchorChain : List Byte
  /-- ended jobs that made a FIRST intent and await their ISSUE_RESULT entry; list; 07 R262; reset empty -/
  issueEnds : List IssueEnd
  /-- crypto-erase seal present in the BBT region: counters and anchor; 07 R266; reset none -/
  sealed : Bool
  /-- media key present; 13 R406; reset none -/
  mediaKey : Bool
  /-- a margin plan is stored in the PLAN region; 07 R35, R462; reset 0 -/
  planStored : Bool
  deriving DecidableEq, Repr

/-! ## Registers, power, security, faults -/

structure Regs where
  /-- GCTRL.ENABLE; 1 bit; 11 R338; reset 0 -/
  enable : Bool
  /-- GCTRL.PAUSE; 1 bit; 11 R338; reset 0 -/
  pause : Bool
  /-- GSTATUS.BOOTED; 1 bit; 11 R339; reset 0 -/
  booted : Bool
  /-- GSTATUS.READY; 1 bit; 01 R34, 11 R339; reset 0 -/
  ready : Bool
  /-- GSTATUS.WIND_DOWN; 1 bit; 11 R339; reset 0 -/
  windDown : Bool
  /-- GSTATUS.DMA_HELD; 1 bit; 10 R324; reset 0 -/
  dmaHeld : Bool
  /-- GSTATUS.FETCH_STALLED; 1 bit; 10 R323; reset 0 -/
  fetchStalled : Bool
  /-- GSTATUS.MBOX_TO_PENDING; 1 bit; 11 R339; reset 0 -/
  mboxToPending : Bool
  /-- GSTATUS.MBOX_FROM_FULL; 1 bit; 11 R339; reset 0 -/
  mboxFromFull : Bool
  /-- GSTATUS.MBOX_LOST; 1 bit W1C; 11 R339; reset 0 -/
  mboxLost : Bool
  /-- CFG_CHECK; 32 bits; 10 R308; reset 0 -/
  cfgCheck : W32
  /-- the slot under check while CFG_CHECK is RUNNING for a slot check; 6 bits; 10 R311; reset none -/
  checkSlot : Option SlotId
  /-- TB_BASE; 64 bits; 11 R340; reset 0 -/
  tbBase : W64
  /-- TB_SIZE; 17 bits; 11 R340; reset 0 -/
  tbSize : W32
  /-- TB_TAIL; 16 bits; 11 R340; reset 0 -/
  tbTail : W32
  /-- TB_HEAD; 16 bits; 11 R340; reset 0 -/
  tbHead : W32
  /-- CQ_BASE; 64 bits; 11 R340; reset 0 -/
  cqBase : W64
  /-- CQ_SIZE; 17 bits; 11 R340; reset 0 -/
  cqSize : W32
  /-- CQ_HEAD; 16 bits; 11 R340; reset 0 -/
  cqHead : W32
  /-- CQ_TAIL; 16 bits; 11 R340; reset 0 -/
  cqTail : W32
  /-- EQ_BASE; 64 bits; 11 R340; reset 0 -/
  eqBase : W64
  /-- EQ_SIZE; 17 bits; 11 R340; reset 0 -/
  eqSize : W32
  /-- EQ_HEAD; 16 bits; 11 R340; reset 0 -/
  eqHead : W32
  /-- EQ_TAIL; 16 bits; 11 R340; reset 0 -/
  eqTail : W32
  /-- IRQ_STATUS; 11 bits W1C; 11 R343; reset 0 -/
  irqStatus : W32
  /-- IRQ_MASK; 32 bits; 11 R343; reset 0xFFFFFFFF -/
  irqMask : W32
  /-- SLOT_SEL; 6 bits; 11 R344; reset 0 -/
  slotSel : SlotId
  /-- POWER_BUDGET; 32 bits; 08 R283; reset 0x14640082 -/
  powerBudget : W32
  /-- SCHED_POLICY; 32 bits; 05 R196; reset 0x00141407 -/
  schedPolicy : W32
  /-- ERR_FIRST; 32 bits; 11 R352; reset 0 -/
  errFirst : W32
  /-- ERR_FIRST_INFO; 32 bits; 11 R352; reset 0 -/
  errInfo : W32
  /-- ERR_COUNT; 32 bits; 11 R352; reset 0 -/
  errCount : W32
  /-- VIOL_ADDR; 64 bits; 11 R353; reset 0 -/
  violAddr : W64
  /-- VIOL_INFO; 32 bits; 11 R353; reset 0 -/
  violInfo : W32
  /-- MARGIN_STATUS; 32 bits; 11 R356; reset boot (0 until BOOTED) -/
  marginStatus : W32
  /-- MBOX_TO_SB; 32 bits; 11 R359; reset 0 -/
  mboxTo : W32
  /-- MBOX_FROM_SB; 32 bits; 11 R359; reset 0 -/
  mboxFrom : W32
  /-- RULE_EPOCH.EPOCH; 16 bits; 11 R361; reset 0x0001 -/
  epoch : W16
  /-- rule changes that have not ended, in order: the first is the one whose barrier runs or comes next; 11 R362; reset none -/
  barrier : List RuleCause
  /-- RULE_EPOCH.BARRIER; 1 bit; 11 R361, R362; reset 0 -/
  barrierOn : Bool
  /-- holding register of TIME_HI; 32 bits; 11 R351; reset 0 -/
  timeHold : W32
  /-- holding register of PRESENT_HI; 32 bits; 11 R351; reset 0 -/
  presentHold : W32
  /-- holding register of FENCED_HI; 32 bits; 11 R351; reset 0 -/
  fencedHold : W32
  /-- TIME_HI:TIME_LO; 64 bits; 01 R24; reset 0 -/
  time : W64
  /-- MSI-X vectors masked in the MSI-X table; 32 bits; 10 R318, R321; reset all masked (PRESUMED) -/
  msixMask : W32
  /-- MSI-X pending bits; 32 bits; 10 R318, R321; reset 0 -/
  msixPending : W32
  /-- Bus Master Enable; 1 bit; 10 R312, R324; reset 0 -/
  busMaster : Bool
  /-- function in D3hot; 1 bit; 10 R324; reset D0 -/
  d3hot : Bool
  /-- consecutive failed ticket-fetch reads; count; 10 R323; reset 0 -/
  fetchFails : Nat
  deriving DecidableEq, Repr

/-- Reach of the main side (R371 MAIN). -/
inductive MainSide where
  | off | reset (src : ResetSource) | up
  deriving DecidableEq, Repr

structure Power where
  /-- VSTBY in range; 1 bit; 01 R26, 18 R497; reset present -/
  vstby : Bool
  /-- main side: off, held in reset, or up; 12 R371; reset up -/
  main : MainSide
  /-- VIN_RING in range, POWER_STATUS.VIN_OK; 1 bit; 08 R284; reset 0 -/
  vinOk : Bool
  /-- VCORE in range; 1 bit; 01 R29; reset 1 -/
  vcoreOk : Bool
  /-- 48 MHz reference running; 1 bit; 01 R25; reset 1 -/
  refClock : Bool
  /-- µs since VSTBY rose (AON timebase); count; 12 R374; reset 0 -/
  aonUs : Nat
  /-- recovery loader running (no bootable bank); 1 bit; 17 R485; reset 0 -/
  loader : Bool
  /-- what the main-side reset found around the device; record; 07 R229, 08 R284, 09 R301, 13 R406; reset nothing attached -/
  board : Board
  deriving DecidableEq, Repr

/-- Life-cycle states (R398). -/
inductive LcState where
  | manufacturing | provisioning | operational | fencedSecure | terminated
  deriving DecidableEq, Repr

/-- What the header of a firmware image says (R483), and whether BODY_HASH and SIG verify. -/
structure FwImage where
  formOk : Bool
  major : Byte
  minor : Byte
  svn : W16
  verified : Bool
  deriving DecidableEq, Repr

/-- Per-bank firmware records (R481, R482) and the image the bank holds. -/
structure FwBank where
  valid : Bool
  eip : Bool
  image : Option FwImage
  deriving DecidableEq, Repr

/-- Standby bank states (R357 STANDBY). -/
inductive BankState where
  | empty | erasing | erased | loading | loaded | valid
  deriving DecidableEq, Repr

structure OptionArea where
  /-- life-cycle cells; state; 13 R398, R399; reset PROVISIONING (factory) -/
  lc : LcState
  /-- WCNT; 64 bits monotonic; 07 R257; reset 0 -/
  wcnt : W64
  /-- firmware SVN floor; 16 bits monotonic; 17 R487; reset 0 -/
  svnFloor : W16
  /-- boot record of bank A; VALID, EIP, image; 17 R481, R484; reset factory image valid -/
  bankA : FwBank
  /-- boot record of bank B; VALID, EIP, image; 17 R481, R484; reset empty -/
  bankB : FwBank
  /-- NEXT: bank B next; 1 bit; 17 R482; reset A -/
  nextB : Bool
  /-- TRIAL; count; 17 R484, R486; reset 0 -/
  trial : Nat
  /-- CONFIRMED; 1 bit; 17 R486; reset 1 -/
  confirmed : Bool
  /-- key-store key; AES-256; 13 R406; reset present -/
  keystoreKey : Option (List Byte)
  /-- attestation key; P-256; 13 R406; reset present -/
  attestKey : Bool
  /-- owner key; 65 bytes; 13 R406; reset none -/
  ownerKey : Option (List Byte)
  /-- management key; AES-128; 13 R406; reset none -/
  mgmtKey : Option (List Byte)
  /-- repair table: repaired arrays and rows; 16 R473; reset empty -/
  repairs : List (W16 × W16)
  deriving DecidableEq, Repr

/-- A life-cycle change in progress (R403). -/
structure LcChange where
  target : LcState
  job : Option JobId
  deriving DecidableEq, Repr

structure Security where
  /-- LC_STATE.CHANGING and the change that runs; 11 R337, 13 R403; reset none -/
  changing : Option LcChange
  /-- open ceremony: CID, nonce, private key, public key; 13 R408; reset none -/
  ceremony : Option (W32 × List Byte × List Byte × List Byte)
  /-- CID of the next ceremony; 32 bits; 13 R408; reset 1 -/
  cidNext : W32
  /-- nonce of the debug path (challenge register); 16 bytes; 13 R401; reset drawn from the TRNG -/
  debugNonce : List Byte
  /-- token session: signer, scope, duration; 13 R420, R421; reset none -/
  debugToken : Option (Byte × Byte × W32)
  /-- consecutive failed tokens; count; 13 R421; reset 0 -/
  tokenFails : Nat
  /-- TAP instruction in the register; 13 R419; reset BYPASS -/
  tap : TapInstr
  /-- core pairs halted through the port; 13 R422; reset none -/
  halted : List PairId
  /-- every right withdrawn by tamper level 2; 13 R417, R425; reset 0 -/
  rightsWithdrawn : Bool
  deriving DecidableEq, Repr

/-- State of a unit (R448 FAULT_STATUS). -/
inductive UnitPhase where
  | service | recovering | probation | fenced
  deriving DecidableEq, Repr

structure Faults where
  /-- units not plainly in service, with the error code of the last recovery or fence; 14 R438, R448; reset empty -/
  units : List (UnitRef × UnitPhase × W16)
  /-- fatal window open, with the code that opened it; 14 R441; reset none -/
  fatalWindow : Option W16
  /-- the placement leader; core pair; 14 R445, R446; reset pair 0 -/
  leader : Option PairId
  deriving DecidableEq, Repr

/-- A standby fault-log entry (R374). -/
structure LogEntry where
  seq : W16
  code : W16
  kindIndex : W16
  severity : Byte
  reason : Byte
  seconds : W32
  deriving DecidableEq, Repr

structure Standby where
  /-- standby fault log; 16 entries, oldest first; 12 R374; reset empty -/
  log : List LogEntry
  /-- SEQ of the next entry; 16 bits; 12 R374; reset 1 -/
  logSeq : W16
  /-- recovery counts per unit and the second of the first; 14 R439, R449; reset empty -/
  recov : List (UnitRef × Nat × Nat)
  /-- Big Top latch: detection not yet handled, level and sensor; 01 R28, 13 R426; reset none -/
  tamper : Option (Nat × Sensor)
  /-- seconds of the level 1 detections counted; 13 R424; reset empty -/
  tamperL1 : List Nat
  /-- presence comparator failures latched in STANDBY: slot, comparator, failing step; 09 R305; reset empty -/
  presFail : List (SlotId × CompId × Nat)
  /-- BIST_REPORT addresses of the last memory run and whether repaired; 16 R474; reset empty -/
  bistFails : List (FailAddr × Bool)
  /-- result of a CORE-scope BIST kept in the AON domain; 16 R471; reset none -/
  coreBist : Option (W32 × W64)
  deriving DecidableEq, Repr

/-- Results of Sideshow commands (R371). -/
inductive SbResult where
  | ok | pending | mainUnavailable | badCommand | badLength | pecFail | authFail | lockedOut | noKey | refused
  deriving DecidableEq, Repr

structure Sideshow where
  /-- strapped address bits; 3 bits; 12 R365; reset 0 (sampled at VSTBY) -/
  straps : BitVec 3
  /-- STATUS CMD: code of the last write command; 8 bits; 12 R371; reset 0 -/
  cmd : Byte
  /-- STATUS RESULT; 8 bits; 12 R371; reset OK -/
  result : SbResult
  /-- answer of the main side not yet seen by Sideshow; 12 R372; reset none -/
  answer : Option SbResult
  /-- rule barriers that must drain before the answer is seen; count; 11 R363; reset 0 -/
  answerBarriers : Nat
  /-- slots named by a SLOT_OFF not yet below 0.4 V; 64 bits; 12 R377; reset none -/
  slotOffWait : List SlotId
  /-- log offset for LOG_READ; 4 bits; 12 R374; reset 0 -/
  logOffset : Nat
  /-- health snapshot, bytes 2 to 41; 12 R373; reset zeros -/
  snapshot : List Byte
  /-- snapshot SEQ; 16 bits; 12 R373; reset 0 -/
  snapSeq : W16
  /-- main-side copy of BIST_CTRL and BIST_SIG as last captured; 12 bytes; 12 R370; reset zeros -/
  bistCopy : List Byte
  /-- nonce; 16 bytes; 12 R375; reset drawn from the TRNG -/
  nonce : List Byte
  /-- consecutive failed tags; count; 12 R376; reset 0 -/
  tagFails : Nat
  /-- lockout running; 1 bit; 12 R376; reset 0 -/
  locked : Bool
  deriving DecidableEq, Repr

/-- Modes of a station bus port (R383). -/
inductive SbMode where
  | off | frame | rtsCts
  deriving DecidableEq, Repr

/-- A command to a mechanics unit (R389, R390, R395). -/
structure SbCmd where
  slot : SlotId
  mu : MuId
  station : Nat
  eject : Bool
  bin : Byte
  job : JobId
  cseq : Nat
  tx : Nat
  deriving DecidableEq, Repr

/-- What a port has sent and awaits an answer to: a command frame with its poll, or a poll (R390). -/
inductive SbTx where
  | command (c : SbCmd)
  | poll (mu : MuId)
  deriving DecidableEq, Repr

structure SbPort where
  /-- configured MODE; 12 R383, R396; reset OFF -/
  mode : SbMode
  /-- STUCK; 1 bit; 12 R394; reset 0 -/
  stuck : Bool
  /-- LISTEN; 1 bit; 12 R392; reset 0 -/
  listening : Bool
  /-- waiting for t_IDL of RXD high, delivering nothing; 1 bit; 12 R393; reset 0 -/
  guarding : Bool
  /-- LISTEN wake latch enabled; 1 bit; 12 R392, R394; reset 0 -/
  wakeLatch : Bool
  /-- ECHO_CHECK; 1 bit; 12 R396; reset 0 -/
  echo : Bool
  /-- RATE; 32 bits; 12 R396; reset 0 -/
  rate : Nat
  /-- LEAD; 8 bits; 12 R396; reset 8 -/
  lead : Nat
  /-- TAIL; 8 bits; 12 R396; reset 8 -/
  tail : Nat
  /-- RESP_TIMEOUT; 8 bits; 12 R396; reset 0 -/
  respTimeout : Nat
  /-- POLL_PERIOD; 8 bits; 12 R396; reset 0 -/
  pollPeriod : Nat
  /-- ACK_TIMEOUT; 8 bits; 12 R396; reset 0 -/
  ackTimeout : Nat
  /-- CTS_TIMEOUT; 8 bits; 12 R396; reset 0 -/
  ctsTimeout : Nat
  /-- MU_MASK; 16 bits; 12 R396; reset 0 -/
  muMask : W16
  /-- commands waiting, in order; 12 R390; reset empty -/
  queue : List SbCmd
  /-- outstanding command of each MU; 12 R390; reset none -/
  out : List SbCmd
  /-- what is being sent, and the attempts made of it; 12 R385; reset none -/
  sending : Option (SbTx × Nat)
  /-- MU being polled; 12 R390; reset none -/
  polling : Option MuId
  /-- last CSEQ of each MU; 16 x 8 bits; 12 R389; reset 0 -/
  cseq : Vector Nat 16
  /-- last poll response of each MU; 16 x 8 bytes; 12 R396; reset zeros -/
  last : Vector (List Byte) 16
  /-- discarded frames; 16 bits; 12 R396; reset 0 -/
  discarded : Nat
  /-- collisions; 16 bits; 12 R396; reset 0 -/
  collisions : Nat
  /-- checksum errors; 16 bits; 12 R396; reset 0 -/
  checksums : Nat
  /-- missing responses; 16 bits; 12 R396; reset 0 -/
  missing : Nat
  /-- unmatched ANNOUNCE frames; 16 bits; 12 R396; reset 0 -/
  announces : Nat
  deriving DecidableEq, Repr

/-- A slot map entry of SBUS_CONFIG (R396). -/
structure SbMap where
  port : PortId
  station : Nat
  mu : MuId
  deriving DecidableEq, Repr

/-- Per-slot margin planning (R455 to R464). -/
structure SlotPlan where
  /-- clock ceiling code in force; 4 bits; 15 R459; reset 0xE -/
  ceiling : Nat
  /-- ceiling for the next plan; 4 bits; 15 R459, R462; reset none -/
  ceilingNext : Option Nat
  /-- planned phase codes C7, D0, D1, D2; 4 x 7 bits; 04 R155; reset factory (free value of Config) -/
  phases : Vector Nat 4
  /-- phase codes for the next plan; 4 x 7 bits; 15 R459, R462; reset none -/
  phasesNext : Option (Vector Nat 4)
  /-- latest three VCC contact readings, newest first; mΩ; 15 R457; reset empty -/
  vccHist : List Nat
  /-- latest three GND contact readings, newest first; mΩ; 15 R457; reset empty -/
  gndHist : List Nat
  /-- standing contact warning; 1 bit; 15 R457; reset 0 -/
  warn : Bool
  /-- LDO dropout; mV; 15 R458; reset 0 -/
  dropout : Nat
  /-- narrowest eye of the last sweep; codes; 15 R464; reset 0 -/
  eye : Nat
  /-- code of the last sweep; 4 bits; 15 R464; reset 0 -/
  eyeCode : Nat
  /-- a sweep has completed; 1 bit; 15 R464; reset 0 -/
  swept : Bool
  /-- second of the last completed sweep; 15 R459; reset 0 -/
  sweptAt : Nat
  /-- Tightrope asks for an idle window; 1 bit; 15 R459; reset 0 -/
  asks : Bool
  /-- last 10 Galloper sessions, downshifted or not, newest first; 15 R459; reset empty -/
  sessions : List Bool
  /-- a session downshifted and no sweep has completed since; 1 bit; 15 R459; reset 0 -/
  sweepOwed : Bool
  /-- last 8 sweeps at the ceiling: eye at least 32; newest first; 15 R459; reset empty -/
  goodSweeps : List Bool
  /-- second of the last ceiling change; 15 R459; reset 0 -/
  changedAt : Nat
  deriving DecidableEq, Repr

structure Tight where
  /-- plan summary in force is MARGIN_STATUS; factory plan in force; 15 R35; reset factory -/
  factory : Bool
  /-- PLAN_SEQ; 8 bits; 15 R462; reset 0 -/
  planSeq : Byte
  /-- GUARD in force; 3 bits; 15 R455; reset 0 -/
  guardBand : Nat
  /-- GUARD planned and not yet applied to the PLL; 15 R456; reset none -/
  guardNext : Option Nat
  /-- GUARD the CORE PLL runs at; 3 bits; 15 R456; reset 0 -/
  guardApplied : Nat
  /-- last 15 drift samples of CORE, SLOT, BANK, LINK in 0.01 %; 15 R455; reset empty -/
  drift : Vector (List Int) 4
  /-- ring headrooms planned, 25 mV steps above 150 mV; 15 R458; reset 6 -/
  headroom : Vector Nat 8
  /-- converter efficiencies; %; 15 R458; reset 0 -/
  efficiency : Vector Nat 8
  /-- per-slot plans; 15 R459; reset initial -/
  slots : Vector SlotPlan 64
  /-- FLASH_LOW; 1 bit; 15 R461; reset 0 -/
  flashLow : Bool
  /-- weakest flash margin; mV; 15 R464; reset 0 -/
  flashMargin : Nat
  /-- TIME at issue of the plan; 64 bits; 15 R464; reset 0 -/
  issuedAt : W64
  /-- read-reference offsets and listed blocks of the plan in force; target, band or block, offset; 15 R460, R462; reset empty -/
  issuedNand : List (Nat × Nat × Int)
  /-- standing warnings of the plan in force by slot, 64 for FLASH_LOW; 15 R462; reset empty -/
  issuedWarn : List Nat
  /-- planned limits reached and reported: 1 to 4 of AGEING_LIMIT, 16 + r for the headroom of ring r; 15 R455, R458; reset empty -/
  limits : List Nat
  deriving DecidableEq, Repr

/-- A BIST run (R468, R471). -/
structure BistRun where
  scope : BitVec 4
  memory : Bool
  /-- ring run: step 3 of R468 reached -/
  testing : Bool
  pass : Nat
  unrepaired : Bool
  deriving DecidableEq, Repr

structure Bist where
  /-- BIST_CTRL.TYPE; 1 bit; 11 R354; reset 0 -/
  type : Bool
  /-- BIST_CTRL.SCOPE; 4 bits; 11 R354; reset 0 -/
  scope : BitVec 4
  /-- BIST_CTRL.RESULT; 2 bits; 11 R354; reset 0 -/
  result : BitVec 2
  /-- BIST_CTRL.REPAIRED; 1 bit; 11 R354; reset 0 -/
  repaired : Bool
  /-- BIST_CTRL.SOURCE; 1 bit; 11 R354; reset 0 -/
  source : Bool
  /-- BIST_CTRL.FAIL_ADDRS; 8 bits; 11 R354; reset 0 -/
  failAddrs : Nat
  /-- BIST_SIG; 64 bits; 11 R355; reset 0 -/
  sig : W64
  /-- the run in progress, BIST_CTRL.START; 11 R354; reset none -/
  run : Option BistRun
  deriving DecidableEq, Repr

structure Fw where
  /-- FW_CTRL.OP; 4 bits; 11 R357; reset 0 -/
  op : BitVec 4
  /-- FW_CTRL.GO; 1 bit; 11 R357; reset 0 -/
  go : Bool
  /-- FW_STATUS.ACTIVE: bank B runs; 1 bit; 11 R357; reset A (boot) -/
  activeB : Bool
  /-- FW_STATUS.STANDBY; 3 bits; 11 R357; reset EMPTY (boot) -/
  standby : BankState
  /-- FW_STATUS.BUSY; 1 bit; 11 R357; reset 0 -/
  busy : Bool
  /-- FW_STATUS.RESULT; 4 bits; 11 R357; reset 0 -/
  result : BitVec 4
  /-- FW_STATUS.LAST_OP; 4 bits; 11 R357; reset 0 -/
  lastOp : BitVec 4
  /-- FW_STATUS.FW_MAJOR; 8 bits; 11 R357; reset 0x02 (boot) -/
  major : Byte
  /-- FW_STATUS.FW_MINOR; 8 bits; 11 R357; reset 0x01 (boot) -/
  minor : Byte
  /-- sectors erased so far; 6 bits; 17 R488; reset 0 -/
  sector : Nat
  /-- background re-erase running; 1 bit; 17 R491; reset 0 -/
  reErase : Bool
  /-- image bytes written to the standby bank, their count the next offset; 17 R489; reset empty -/
  loaded : List Byte
  /-- last accepted write: offset and length; 17 R489; reset none -/
  lastWrite : Option (Nat × Nat)
  deriving DecidableEq, Repr

structure Barker where
  /-- events waiting to be written, oldest first; 05 R166; reset empty -/
  queue : List Event
  /-- events held while disabled, each with its DROPPED field, at most 64; 05 R517; reset empty -/
  held : List (Event × Nat)
  /-- events dropped on a full ring or a full hold; count; 05 R166, R517; reset 0 -/
  overflow : Nat
  /-- TIME of the last event written for each slot; 05 R178; reset none -/
  lastAt : Vector (Option W64) 64
  /-- DROPPED count of each slot; 8 bits saturating; 05 R178; reset 0 -/
  dropped : Vector Nat 64
  deriving DecidableEq, Repr

structure Place where
  /-- order number of the next fetched ticket; count; 05 R184; reset 0 -/
  seqNext : Nat
  /-- stale-result total; count; 05 R192; reset 0 -/
  stale : Nat
  /-- last 16 feed times in µs, newest first; 05 R186; reset empty -/
  feeds : List Nat
  deriving DecidableEq, Repr

/-- A Juggler (R11, R211): jobs whose contexts it holds and the profile keys it caches. -/
structure Juggler where
  /-- contexts in use, at most 8, by JOB_ID; 06 R211; reset none -/
  ctxs : List JobId
  /-- cached profile key handles, most recent first, at most 32; 06 R211; reset empty -/
  cache : List W32
  deriving DecidableEq, Repr

/-- The machine. -/
structure State where
  /-- commands waiting, first in first out; list; block model; reset empty -/
  pending : List Instr
  power : Power
  regs : Regs
  slots : Vector Slot 64
  rings : Vector Ring 8
  /-- power-admission queue, oldest first; at most 64; 08 R279; reset empty -/
  requests : List Request
  /-- jobs the device holds, in fetch order; 05 R180; reset empty -/
  jobs : List Job
  /-- ended jobs whose completions wait, in the order they ended; 05 R165; reset empty -/
  closing : List Closing
  barker : Barker
  place : Place
  jugs : Vector Juggler 8
  bank : Bank
  nv : OptionArea
  sec : Security
  faults : Faults
  standby : Standby
  side : Sideshow
  ports : Vector SbPort 2
  /-- slot map of the station bus; 64 entries; 12 R396; reset unmapped -/
  sbMap : Vector (Option SbMap) 64
  tight : Tight
  bist : Bist
  fw : Fw
  /-- MODEL'S OWN: how many free values have been drawn; count; model; reset 32, the two nonces of the start (DESIGN CHOICE) -/
  draws : Nat
  /-- MODEL'S OWN: what has left the device, oldest first; list; model; reset empty (DESIGN CHOICE) -/
  out : List Emission
  deriving DecidableEq, Repr

/-- Reasons a step can stop with a fault. The KG64 has none: every device error of the manual is state
(ERR_FIRST, events, fences, resets: R436, R441), so no command stops the model and the type is empty. -/
inductive Fault where
  deriving DecidableEq, Repr

/-- Reasons a command can be refused by the model. -/
inductive Refusal where
  /-- no meaning has been written for the command; raised only by an arm of `exec`; safe -/
  | notModelled (mnemonic : String)
  deriving DecidableEq, Repr


/-! ## Reset -/

/-- Checkpoint-free start values of the smaller records. -/
def T1.reset : T1 :=
  { ns := false, nr := false, ifsc := 32, crc := false, cwi := 13, bwi := 4, wtx := 1,
    attempts := 0, resynchs := 0, lastInvalid := false, last := [], chaining := false,
    ifsOut := false, resynchOut := false, abortOut := false }

/-- The rate of ATR_WAIT at the reset activation clock (R45, R77). -/
def Rate.reset : Rate := { f := 372, d := 1, n := 240 }

/-- A slot after a main-side reset (R39, R64, R73, R345, R346, R350). -/
def Slot.reset : Slot :=
  { phase := .off, cause := .none, cfgA := 0x0E0C0F07, cfgB := 0x0000046A, enable := false,
    deactReq := false, cls := none, stepTo := none, proto := .none, failCount := 0,
    vcc := .off, ldo := false, rst := false, clk := .low, io := .low, d0PullUp := false,
    d0Busy := false, galLimits := false, tOff := false, token := false, blanked := false,
    qualified := false, deact := none, warm := false, present := false, presBand := false,
    presHeld := false, transitions := 0, brokenRuns := 0, unstablePending := false,
    galFailed := false, ppsFailed := false, fencePending := false, fenceSrc := .none,
    fenceCode := 0, job := none, digest := none, cardId := [], issued := false,
    inventory := [], feed := none, feedBlocked := false, eject := none, proposal := none, activations := 0,
    record := none, resolution := none, resolved := false, rate := Rate.reset, fiCode := 1, shadow := none, inverse := false,
    guardN := 0, wi := 10, xi := 0, galCap := none, pps := none, ppsPlan := none,
    t1 := T1.reset, exch := none, gal := none, prevSid := 0, unsettled := [], oldSid := 0,
    ended := [], warmDue := false, lts := none, ltsDue := false, noiseTotal := 0,
    lineErrors := Vector.replicate 4 0, window := false, check := .idle, presNext := false, actWait := false }

/-- A ring after a main-side reset (R273, R283). -/
def Ring.reset : Ring :=
  { phase := .off, railCls := .c, headroom := 6, headroomNext := none, downHold := false,
    postponed := false, joined := false, fenced := false, stopWhenOff := false,
    inductor := 2200, rotation := none, standbyHolds := false, rotationStopped := false,
    twinB := false, checkDue := false, checks := [] }

/-- Every BAR0 register at its reset value (R334 and the register tables). -/
def Regs.reset : Regs :=
  { enable := false, pause := false, booted := false, ready := false, windDown := false,
    dmaHeld := false, fetchStalled := false, mboxToPending := false, mboxFromFull := false,
    mboxLost := false, cfgCheck := 0, checkSlot := none, tbBase := 0, tbSize := 0, tbTail := 0,
    tbHead := 0, cqBase := 0, cqSize := 0, cqHead := 0, cqTail := 0, eqBase := 0, eqSize := 0,
    eqHead := 0, eqTail := 0, irqStatus := 0, irqMask := 0xFFFFFFFF, slotSel := 0,
    powerBudget := 0x14640082, schedPolicy := 0x00141407, errFirst := 0, errInfo := 0,
    errCount := 0, violAddr := 0, violInfo := 0, marginStatus := 0, mboxTo := 0, mboxFrom := 0,
    epoch := 1, barrier := [], barrierOn := false, timeHold := 0, presentHold := 0, fencedHold := 0, time := 0,
    msixMask := 0xFFFFFFFF, msixPending := 0, busMaster := false,
    d3hot := false, fetchFails := 0 }

/-- Nothing attached around the device. -/
def Power.noBoard : Board :=
  { targets := [], supplyFail := none, keystoreOk := true, factoryPlanOk := true, vinOk := false }

def Power.reset : Power :=
  { vstby := true, main := .up, vinOk := false, vcoreOk := true, refClock := true, aonUs := 0,
    loader := false, board := Power.noBoard }

def Bank.reset : Bank :=
  { formatted := false, fmt := none, targets := [], blocks := [], records := [], profiles := [],
    keys := [], journal := [], started := false, jseqNext := 1, boot := 0, copyDue := false, journalFull := false,
    counters := Vector.replicate 256 { handle := 0, next := 1, top := 0, bound := false },
    rppWc := 0, rppValid := false, rpFail := false, audit := [], aseqNext := 1,
    chain := List.replicate 32 0, trim := 0, attested := 0, anchorAseq := 0,
    anchorChain := List.replicate 32 0, issueEnds := [], sealed := false, mediaKey := false, planStored := false }

/-- The option area as every part leaves the factory (R398, R484). -/
def OptionArea.factory : OptionArea :=
  { lc := .provisioning, wcnt := 0, svnFloor := 0,
    bankA := { valid := true, eip := false,
               image := some { formOk := true, major := 2, minor := 1, svn := 0, verified := true } },
    bankB := { valid := false, eip := false, image := none },
    nextB := false, trial := 0, confirmed := true,
    keystoreKey := some Config.factoryKeystoreKey, attestKey := true, ownerKey := none,
    mgmtKey := none, repairs := [] }

/-- 16 bytes that the start drew from the TRNG: the n-th draw on (R375, R401). -/
def startNonce (n : Nat) : List Byte := (List.range 16).map (fun i => Config.trng (n + i))

def Security.reset : Security :=
  { changing := none, ceremony := none, cidNext := 1, debugNonce := startNonce 16,
    debugToken := none, tokenFails := 0, tap := .bypass, halted := [], rightsWithdrawn := false }

def Faults.reset : Faults := { units := [], fatalWindow := none, leader := some 0 }

def Standby.reset : Standby :=
  { log := [], logSeq := 1, recov := [], tamper := none, tamperL1 := [],
    presFail := [], bistFails := [], coreBist := none }

def Sideshow.reset : Sideshow :=
  { straps := 0, cmd := 0, result := .ok, answer := none, answerBarriers := 0, slotOffWait := [], logOffset := 0,
    snapshot := List.replicate 40 0, snapSeq := 0, bistCopy := List.replicate 12 0,
    nonce := startNonce 0, tagFails := 0, locked := false }

def SbPort.reset : SbPort :=
  { mode := .off, stuck := false, listening := false, guarding := false, wakeLatch := false,
    echo := false, rate := 0, lead := 8, tail := 8, respTimeout := 0, pollPeriod := 0,
    ackTimeout := 0, ctsTimeout := 0, muMask := 0, queue := [], out := [], sending := none,
    polling := none, cseq := Vector.replicate 16 0,
    last := Vector.replicate 16 (List.replicate 8 0), discarded := 0, collisions := 0,
    checksums := 0, missing := 0, announces := 0 }

/-- The factory values of a slot's plan; its sample phases are written at manufacture (R155). -/
def SlotPlan.factory (n : Nat) : SlotPlan :=
  { ceiling := 14, ceilingNext := none, phases := Vector.ofFn (fun k : Fin 4 => Config.factoryPhase n k.val),
    phasesNext := none, vccHist := [], gndHist := [], warn := false,
    dropout := 0, eye := 0, eyeCode := 0, swept := false, sweptAt := 0, asks := false, sessions := [],
    sweepOwed := false,
    goodSweeps := [], changedAt := 0 }

/-- The factory plan (R35, R273). -/
def Tight.factoryPlan : Tight :=
  { factory := true, planSeq := 0, guardBand := 0, guardNext := none, guardApplied := 0,
    drift := Vector.replicate 4 [], headroom := Vector.replicate 8 6,
    efficiency := Vector.replicate 8 0, slots := Vector.ofFn (fun n : Fin 64 => SlotPlan.factory n.val),
    flashLow := false, flashMargin := 0, issuedAt := 0, issuedNand := [], issuedWarn := [], limits := [] }

def Bist.reset : Bist :=
  { type := false, scope := 0, result := 0, repaired := false, source := false, failAddrs := 0,
    sig := 0, run := none }

def Fw.reset : Fw :=
  { op := 0, go := false, activeB := false, standby := .empty, busy := false, result := 0,
    lastOp := 0, major := 2, minor := 1, sector := 0, reErase := false, loaded := [],
    lastWrite := none }

def Barker.reset : Barker :=
  { queue := [], held := [], overflow := 0, lastAt := Vector.replicate 64 none,
    dropped := Vector.replicate 64 0 }

def Place.reset : Place := { seqNext := 0, stale := 0, feeds := [] }

/-- The device right after a main-side reset of a factory part with nothing attached: every register at
its reset value, before `GSTATUS.BOOTED` rises (R334, R480). -/
def State.reset : State :=
  { pending := [], power := Power.reset, regs := Regs.reset,
    slots := Vector.replicate 64 Slot.reset, rings := Vector.replicate 8 Ring.reset,
    requests := [], jobs := [], closing := [], barker := Barker.reset, place := Place.reset,
    jugs := Vector.replicate 8 { ctxs := [], cache := [] }, bank := Bank.reset,
    nv := OptionArea.factory, sec := Security.reset, faults := Faults.reset,
    standby := Standby.reset, side := Sideshow.reset, ports := Vector.replicate 2 SbPort.reset,
    sbMap := Vector.replicate 64 none, tight := Tight.factoryPlan, bist := Bist.reset,
    fw := Fw.reset, draws := 32, out := [] }

end Sys2Proof.Machine
end

