-- ==== Sys2Proof/Machine/Operands.lean ====
section
/-! DEFINITION. The fields of registers, tickets, profiles and requests, and the code tables of the
manual: how each operand is read. -/

namespace Sys2Proof

open Sys2Proof.Machine

/-! ## Operand types of the commands -/

/-- A number as an index, none when out of range. -/
def Machine.finOf (n i : Nat) : Option (Fin n) := if h : i < n then some ⟨i, h⟩ else none

/-- Comparator IDs (R288). -/
def CompId.code : CompId → Nat
  | .vwl => 0 | .vwh => 1 | .vsc => 2 | .voff => 3 | .oc => 4 | .shC2 => 5 | .shC3 => 6 | .shC4 => 7
  | .shC6 => 8 | .shC7 => 9 | .shC8 => 0xA | .presA => 0xB | .presR => 0xC | .isense => 0x20
  | .ilim => 0x21 | .uvA => 0x22 | .uvB => 0x23 | .ovA => 0x24 | .ovB => 0x25 | .ot => 0x26
  | .sbV1 => 0x27 | .sbV2 => 0x28 | .sbI => 0x29 | .sbSh => 0x2A | .vinLo => 0x30 | .vinHi => 0x31
  | .vcoreLo => 0x32 | .vcoreHi => 0x33

/-- Whether a comparator is one of a slot's, one of a ring's own, of a ring's standby set, or the device's. -/
def CompId.isSlot (c : CompId) : Bool := c.code ≤ 0xC
def CompId.isPresence (c : CompId) : Bool := c == .presA || c == .presR
def CompId.isRing (c : CompId) : Bool := 0x20 ≤ c.code && c.code ≤ 0x26
def CompId.isStandby (c : CompId) : Bool := 0x27 ≤ c.code && c.code ≤ 0x2A
def CompId.isDevice (c : CompId) : Bool := 0x30 ≤ c.code

/-- ERR_FIRST_INFO.KIND and INDEX of a unit (R352). -/
def UnitRef.kind : UnitRef → Nat
  | .device => 0 | .slot _ => 1 | .ring _ => 2 | .chan _ => 3 | .target _ => 4 | .juggler _ => 5
  | .pair _ => 6 | .pk _ => 7 | .roust _ => 8

def UnitRef.index : UnitRef → Nat
  | .device => 0 | .slot n => n.val | .ring n => n.val | .chan n => n.val | .target n => n.val
  | .juggler n => n.val | .pair n => n.val | .pk n => n.val | .roust n => n.val


def Ticket.isIssue (t : Ticket) : Bool := t.type == 1
def Ticket.isSam (t : Ticket) : Bool := t.type == 2
def Ticket.isSlotAdmin (t : Ticket) : Bool := t.type == 3
/-- A ticket that runs a profile (R168). -/
def Ticket.runsProfile (t : Ticket) : Bool := t.isIssue || t.isSam
/-- NON_IDEMPOTENT, with every ISSUE job taken as such (R170). -/
def Ticket.nonIdempotent (t : Ticket) : Bool := t.isIssue || bit t.flags 0
def Ticket.feed (t : Ticket) : Bool := t.isIssue && bit t.flags 1
def Ticket.barrier (t : Ticket) : Bool := bit t.flags 2
def Ticket.affStrict (t : Ticket) : Bool := bit t.flags 3
def Ticket.lateOk (t : Ticket) : Bool := bit t.flags 4
/-- The pinned slot, none for 0xFF (R167). -/
def Ticket.pin (t : Ticket) : Option SlotId := finOf 64 t.pinSlot.toNat


end Sys2Proof

namespace Sys2Proof.Machine

open Sys2Proof

/-! ## SLOT_CFG_A and SLOT_CFG_B (R345, R346) -/

def Slot.classMask (s : Slot) : Nat := field s.cfgA 0 3
def Slot.clkDivAct (s : Slot) : Nat := field s.cfgA 4 10
def Slot.clkDivMin (s : Slot) : Nat := field s.cfgA 14 10
def Slot.galClkMax (s : Slot) : Nat := field s.cfgA 24 4
def Slot.presPolHigh (s : Slot) : Bool := bit s.cfgB 0
def Slot.presRate (s : Slot) : Nat := field s.cfgB 1 2
def Slot.ppsPolicy (s : Slot) : Nat := field s.cfgB 3 2
def Slot.galEn (s : Slot) : Bool := bit s.cfgB 5
def Slot.clkStopEn (s : Slot) : Bool := bit s.cfgB 6
/-- GAL_WINDOW, 5 to 7 taken as 4 (R346). -/
def Slot.galWindow (s : Slot) : Nat := min (field s.cfgB 8 3) 4
def Slot.affClass (s : Slot) : Byte := BitVec.ofNat 8 (field s.cfgB 16 8)

/-- Writable bits of SLOT_CFG_A and SLOT_CFG_B: reserved bits ignore every write (R331). -/
def cfgAWritable : W32 := 0x0FFFFFF7
def cfgBWritable : W32 := 0x00FF077F

/-- CLASS_MASK bit of a class (R345): [0] A, [1] B, [2] C. -/
def classBit : CardClass → Nat
  | .a => 0
  | .b => 1
  | .c => 2

/-- Height of a class: C lowest voltage, A highest (R42). -/
def classRank : CardClass → Nat
  | .c => 1
  | .b => 2
  | .a => 3

def maskHas (mask : Nat) (k : CardClass) : Bool := mask.testBit (classBit k)

/-- The lowest-voltage class of a mask (R42). -/
def lowestClass (mask : Nat) : Option CardClass :=
  if maskHas mask .c then some .c
  else if maskHas mask .b then some .b
  else if maskHas mask .a then some .a
  else none

/-- The next higher class of a mask above a class (R42). -/
def nextClass (mask : Nat) : CardClass → Option CardClass
  | .c => if maskHas mask .b then some .b else if maskHas mask .a then some .a else none
  | .b => if maskHas mask .a then some .a else none
  | .a => none

def higherClass (x y : CardClass) : CardClass := if classRank x ≥ classRank y then x else y

/-! ## POWER_BUDGET and SCHED_POLICY (R283, R196) -/

def Regs.ringTokens (r : Regs) : Nat := field r.powerBudget 0 3
def Regs.globalTokens (r : Regs) : Nat := field r.powerBudget 4 5
/-- WAIT_WARN in µs, 0 for no warning. -/
def Regs.waitWarn (r : Regs) : Nat := field r.powerBudget 16 8 * 100
def Regs.downHold (r : Regs) : Nat := field r.powerBudget 24 8
def powerBudgetWritable : W32 := 0xFFFF01F7
def Regs.grouping (r : Regs) : Bool := bit r.schedPolicy 0
def Regs.maxReplace (r : Regs) : Nat := field r.schedPolicy 1 3
/-- AGE_LIMIT in µs; 0 is taken as 1 (R196). -/
def Regs.ageLimit (r : Regs) : Nat := max 1 (field r.schedPolicy 8 8) * 100000
/-- FEED_TIMEOUT in µs; 0 is taken as 1 (R196). -/
def Regs.feedTimeout (r : Regs) : Nat := max 1 (field r.schedPolicy 16 8) * 100000
def schedPolicyWritable : W32 := 0x00FFFF0F

/-! ## Code tables -/

def SlotPhase.code : SlotPhase → Nat
  | .off => 0 | .powerWait => 1 | .powering => 2 | .atrWait => 3 | .ready => 4 | .galloper => 5
  | .busy => 6 | .deactivating => 7 | .quarantined => 8 | .unstable => 9 | .fenced => 0xA | .bist => 0xB

def Cause.code : Cause → Nat
  | .none => 0 | .jobEnd => 1 | .host => 2 | .classStep => 3 | .noAtr => 4 | .atrError => 5
  | .vccFail => 6 | .busyLimit => 7 | .disable => 8 | .removal => 9 | .overcurrent => 0xA
  | .short => 0xB | .vccWindow => 0xC | .supplyOrClock => 0xD | .fenceTamper => 0xE

/-- Height in the table of R58: the cause recorded when triggers coincide (R60). -/
def Cause.rank : Cause → Nat
  | .supplyOrClock => 6 | .fenceTamper => 5 | .short => 4 | .overcurrent => 3 | .vccWindow => 2
  | .removal => 1 | _ => 0

def FenceSrc.code : FenceSrc → Nat
  | .none => 0 | .contact => 1 | .comparator => 2 | .ring => 3 | .unit => 4 | .tamper => 5

def Proto.code : Proto → Nat
  | .none => 0 | .t0 => 1 | .t1 => 2 | .galloper => 3

def ExchStatus.code : ExchStatus → Nat
  | .ok => 0 | .parity => 1 | .timeout => 2 | .lineStuck => 3 | .resynched => 4 | .aborted => 5
  | .oversize => 6 | .extOnT0 => 7 | .protocol => 8 | .exchLimit => 9 | .deactivated => 0xA
  | .cancelled => 0xB | .linkFail => 0xC | .busyLimit => 0xD | .blockSize => 0xE

/-- Statuses after which the card may have executed the command (R97, R159). -/
def ExchStatus.mayHaveExecuted : ExchStatus → Bool
  | .ok | .extOnT0 | .cancelled | .blockSize => false
  | _ => true

/-- Statuses followed by a warm reset (R97, R159). -/
def ExchStatus.warmReset : ExchStatus → Bool
  | .parity | .timeout | .lineStuck | .protocol | .exchLimit | .linkFail => true
  | _ => false

def CStatus.code : CStatus → Nat
  | .done => 0 | .failed => 1 | .indeterminate => 2 | .cancelled => 3 | .rejected => 4

def LcState.code : LcState → Nat
  | .manufacturing => 0 | .provisioning => 1 | .operational => 2 | .fencedSecure => 3 | .terminated => 4

/-- The state a code names (R337), none for values never read. -/
def lcOfCode : Nat → Option LcState
  | 0 => some .manufacturing | 1 => some .provisioning | 2 => some .operational
  | 3 => some .fencedSecure | 4 => some .terminated | _ => none

def BankState.code : BankState → Nat
  | .empty => 0 | .erasing => 1 | .erased => 2 | .loading => 3 | .loaded => 4 | .valid => 5

def SbResult.code : SbResult → Nat
  | .ok => 0 | .pending => 1 | .mainUnavailable => 2 | .badCommand => 3 | .badLength => 4
  | .pecFail => 5 | .authFail => 6 | .lockedOut => 7 | .noKey => 8 | .refused => 9

def JResult.code : JResult → Nat
  | .done => 1 | .notDone => 2 | .doneHost => 3 | .notDoneHost => 4

/-- The unit that KIND and INDEX name (R448), none when there is none. -/
def unitOf (kind index : Nat) : Option UnitRef :=
  match kind with
  | 0 => some .device
  | 1 => (finOf 64 index).map .slot
  | 2 => (finOf 8 index).map .ring
  | 3 => (finOf 8 index).map .chan
  | 4 => (finOf 32 index).map .target
  | 5 => (finOf 8 index).map .juggler
  | 6 => (finOf 4 index).map .pair
  | 7 => (finOf 2 index).map .pk
  | 8 => (finOf 8 index).map .roust
  | _ => none

/-- The severities of device errors (R434, R435, R476, R429): 0 warning, 1 error, 2 fatal. -/
def severityOf (code : W16) : Nat :=
  if code ∈ ([0x0103, 0x0302, 0x0A04, 0x0A05] : List W16) then 0
  else if code ∈ ([0x0F01, 0x0F02, 0x0F03, 0x0F04, 0x0F05, 0x0F06, 0x0F07, 0x0F08, 0x0F09,
                   0x0B20, 0x0B21] : List W16) then 2
  else 1

/-- The ring of a slot: RGn holds SL(8n) to SL(8n+7) (R1). -/
def ringOf (n : SlotId) : RingId := ⟨n.val / 8, by omega⟩

/-- The k-th slot of a ring (R1). -/
def slotOfRing (r : RingId) (k : Fin 8) : SlotId := ⟨8 * r.val + k.val, by omega⟩

/-- The slots of a ring (R1). -/
def ringSlots (r : RingId) : List SlotId := (List.finRange 8).map (slotOfRing r)

/-- The channel of a target (R309). -/
def chanOf (t : TargetId) : ChanId := ⟨t.val / 4, by omega⟩

/-! ## Tickets (R167 to R170) -/

/-- The OP values each type defines (R168, R243, R396, R407, R448, R464, R474, R489). -/
def opDefined (type op : Byte) : Bool :=
  match type.toNat with
  | 1 | 2 => op == 0
  | 3 => 1 ≤ op.toNat && op.toNat ≤ 4
  | 4 => 1 ≤ op.toNat && op.toNat ≤ 0xC
  | 5 => 1 ≤ op.toNat && op.toNat ≤ 9
  | 6 => op.toNat ∈ [0x01, 0x10, 0x11, 0x20, 0x21, 0x30, 0x40, 0x50]
  | _ => false

/-! ## Rates (R76, R77) -/

/-- Fi, and N_fmax, of a Fi code; none for an RFU code (R76). -/
def fiOf : Nat → Option (Nat × Nat)
  | 0x0 => some (372, 240) | 0x1 => some (372, 192) | 0x2 => some (558, 160) | 0x3 => some (744, 120)
  | 0x4 => some (1116, 80) | 0x5 => some (1488, 60) | 0x6 => some (1860, 48) | 0x9 => some (512, 192)
  | 0xA => some (768, 128) | 0xB => some (1024, 96) | 0xC => some (1536, 64) | 0xD => some (2048, 48)
  | _ => none

/-- Di of a Di code; none for an RFU code (R76). -/
def diOf : Nat → Option Nat
  | 1 => some 1 | 2 => some 2 | 3 => some 4 | 4 => some 8 | 5 => some 16 | 6 => some 32 | 7 => some 64
  | 8 => some 12 | 9 => some 20 | _ => none

/-- The run rate for a Fi code and a Di code: N_run = max(CLK_DIV_MIN, N_fmax) (R77). -/
def runRate (divMin fiCode diCode : Nat) : Rate :=
  let fi := (fiOf fiCode).getD (372, 192)
  { f := fi.1, d := (diOf diCode).getD 1, n := max divMin fi.2 }

/-- Bit lengths of R75: the length in SLOT periods of each of the first k bits after a leading edge. -/
def bitLengths (r : Rate) : Nat → List Nat :=
  let q := r.n * r.f / r.d
  let rem := (r.n * r.f) % r.d
  let rec go : Nat → Nat → List Nat
    | 0, _ => []
    | k + 1, acc =>
      let acc := acc + rem
      if acc ≥ r.d then (q + 1) :: go k (acc - r.d) else q :: go k acc
  fun k => go k 0

/-- The Galloper clock period of a code in 1/16 SLOT periods, ×1000 rounded down (R118): P = 16 × 960 / f. -/
def galMHz : Nat → Option Nat
  | 0x0 => some 26 | 0x1 => some 28 | 0x2 => some 32 | 0x3 => some 36 | 0x4 => some 40 | 0x5 => some 48
  | 0x6 => some 52 | 0x7 => some 56 | 0x8 => some 64 | 0x9 => some 72 | 0xA => some 80 | 0xB => some 88
  | 0xC => some 96 | 0xD => some 104 | 0xE => some 112 | _ => none

/-! ## Keys (R409) -/

/-- The length a KTYPE requires (R409). -/
def ktypeLen : Nat → Option Nat
  | 1 => some 16 | 2 => some 24 | 3 => some 32 | 4 => some 16 | 8 => some 48 | 9 => some 96 | 0xA => some 48
  | _ => none

def ktypeIsAes (k : Nat) : Bool := k == 1 || k == 2 || k == 3
def ktypeIsSet (k : Nat) : Bool := k == 8 || k == 9 || k == 0xA

/-! ## Profile fields (R198 to R202) -/

def Profile.galOk (p : Profile) : Bool := bit p.pflags 0
def Profile.release (p : Profile) : Bool := bit p.pflags 1
def Step.cardChanging (s : Step) : Bool := bit s.flags 0
def Step.wrap (s : Step) : Bool := bit s.flags 1
def Step.ret (s : Step) : Bool := bit s.flags 2
def Step.keep (s : Step) : Bool := bit s.flags 3
def Step.reentry (s : Step) : Bool := bit s.flags 4
def Step.id (s : Step) : Bool := bit s.flags 5
def Step.noAhead (s : Step) : Bool := bit s.flags 6
def Step.isApdu (s : Step) : Bool := s.kind == 1
def Step.isScOpen (s : Step) : Bool := s.kind == 2
/-- Steps that exchange something with the card (R201). -/
def Step.exchanges (s : Step) : Bool := s.isApdu || s.isScOpen
/-- A sync point (R204). -/
def Step.sync (s : Step) : Bool :=
  s.altTo != 0xFF || s.isScOpen || s.noAhead ||
    !(s.expMask == 0xFFFF || (s.expMask == 0xFF00 && s.expSw >>> 8 == 0x61))
/-- The Galloper EXP field of a step (R204). -/
def Step.exp (s : Step) : W16 :=
  if s.sync then 0 else if s.expMask == 0xFFFF then s.expSw else 0x6100
/-- Whether a status word matches a row (R203). -/
def swMatches (sw row mask : W16) : Bool := (sw &&& mask) == (row &&& mask)
/-- A job needs a Juggler context (R211). -/
def Profile.needsContext (p : Profile) : Bool :=
  p.scp != 0 || p.steps.any (fun s => s.kind == 3 || s.kind == 4)

end Sys2Proof.Machine
end

