-- ==== Sys2Proof/Machine/Flags.lean ====
section
/-! DEFINITION. What the registers show: every status bit, count and field the manual computes from
other state (11_register_reference), and the read of one BAR0 register. -/

namespace Sys2Proof.Machine

open Sys2Proof

/-! ## Slots and units -/

def State.slot (s : State) (n : SlotId) : Slot := s.slots[n.val]
def State.ring (s : State) (r : RingId) : Ring := s.rings[r.val]

/-- The slot has VCC applied or falling: POWERING to DEACTIVATING (R62, R69). -/
def SlotPhase.powered : SlotPhase → Bool
  | .powering | .atrWait | .ready | .galloper | .busy | .deactivating => true
  | _ => false

/-- The slot's card is powered and no deactivation runs: POWERING to BUSY (R72). -/
def SlotPhase.live : SlotPhase → Bool
  | .powering | .atrWait | .ready | .galloper | .busy => true
  | _ => false

/-- The exclusion bit of FENCED_LO and FENCED_HI (R70). -/
def SlotPhase.excluded : SlotPhase → Bool
  | .quarantined | .unstable | .fenced => true
  | _ => false

/-- The phase of a unit; a unit not listed is in service (R448). -/
def State.unitPhase (s : State) (u : UnitRef) : UnitPhase :=
  match s.faults.units.find? (fun e => e.1 == u) with
  | some e => e.2.1
  | none => .service

/-- In service: neither recovering nor fenced (R339). -/
def State.inService (s : State) (u : UnitRef) : Bool :=
  s.unitPhase u == .service || s.unitPhase u == .probation

/-- A core pair does work: in service and not halted through the debug port (R422). -/
def State.pairUp (s : State) (p : PairId) : Bool := s.inService (.pair p) && !s.sec.halted.contains p

def State.jugglersUp (s : State) : Nat := ((List.finRange 8).filter (fun j => s.inService (.juggler j))).length

/-- A NAND channel with a target on it (R339). -/
def State.populated (s : State) (c : ChanId) : Bool :=
  s.power.board.targets.any (fun t => chanOf t.target == c)

def State.channelUp (s : State) (c : ChanId) : Bool :=
  s.populated c && s.unitPhase (.chan c) != .fenced

/-- NAND channels populated and not fenced. -/
def State.channelsUp (s : State) : Nat := ((List.finRange 8).filter s.channelUp).length

/-- A word whose bit i is b i, for i below n. -/
def bitsOf (n : Nat) (b : Nat → Bool) : Nat := ((List.range n).map (fun i => bitAt (b i) i)).sum

/-- The same over an index type. -/
def mask (n : Nat) (b : Fin n → Bool) : Nat :=
  ((List.finRange n).map (fun i => bitAt (b i) i.val)).sum

def State.presentBits (s : State) : W64 := BitVec.ofNat 64 (mask 64 (fun n => (s.slot n).present))
def State.fencedBits (s : State) : W64 := BitVec.ofNat 64 (mask 64 (fun n => (s.slot n).phase.excluded))

/-- The high or low half of a 64-bit value. -/
def hi32 (v : W64) : W32 := BitVec.ofNat 32 (v.toNat / 2 ^ 32)
def lo32 (v : W64) : W32 := BitVec.ofNat 32 v.toNat

/-! ## Views -/

/-- The debug port is open, by state or by token (R337, R420). -/
def State.debugOpen (s : State) : Bool :=
  s.nv.lc == .manufacturing || s.nv.lc == .provisioning || s.sec.debugToken.isSome

/-- LC_STATE (R337): STATE is loaded at boot. -/
def State.lcStateReg (s : State) : W32 :=
  BitVec.ofNat 32 ((if s.regs.booted then s.nv.lc.code else 0) + bitAt s.debugOpen 4 +
    bitAt s.sec.changing.isSome 5)

/-- Open journal intents (R244). -/
def State.openIntents (s : State) : List Intent := s.bank.journal.filter (fun e => e.outcome.isNone)

/-- A ring, Juggler, core pair or NAND channel is fenced (R339 DEGRADED). -/
def State.degraded (s : State) : Bool :=
  s.rings.any (·.fenced) ||
  s.faults.units.any (fun e => e.2.1 == .fenced &&
    match e.1 with
    | .juggler _ | .pair _ | .chan _ | .ring _ => true
    | _ => false)

/-- GSTATUS (R339): the unit bits are loaded at boot. -/
def State.gstatus (s : State) : W32 :=
  let boot (v : Nat) : Nat := if s.regs.booted then v else 0
  BitVec.ofNat 32 (bitAt s.regs.booted 0 + bitAt s.regs.ready 1 + bitAt s.regs.windDown 2 +
    bitAt s.degraded 3 + bitAt (!s.openIntents.isEmpty) 4 + bitAt s.regs.dmaHeld 5 +
    bitAt s.regs.fetchStalled 6 + bitAt s.regs.mboxToPending 8 + bitAt s.regs.mboxFromFull 9 +
    bitAt s.regs.mboxLost 10 + boot (mask 4 (fun p => s.pairUp p)) * 2 ^ 12 +
    boot (mask 8 (fun j => s.inService (.juggler j))) * 2 ^ 16 + boot (mask 8 s.channelUp) * 2 ^ 24)

/-- CLASS of SLOT_STATE (R349). -/
def classCode : Option CardClass → Nat
  | none => 0
  | some .c => 1
  | some .b => 2
  | some .a => 3

/-- PROTO of SLOT_STATE: 0b00 outside READY, GALLOPER and BUSY (R349). -/
def Slot.protoCode (s : Slot) : Nat :=
  match s.phase with
  | .ready | .galloper | .busy => s.proto.code
  | _ => 0

/-- SLOT_STATE (R349). -/
def Slot.stateReg (s : Slot) : W32 :=
  BitVec.ofNat 32 (s.phase.code + s.cause.code * 2 ^ 4 +
    (if s.vcc == .off then 0 else classCode s.cls) * 2 ^ 8 + s.protoCode * 2 ^ 10 +
    (if s.protoCode == 3 then (s.gal.map (·.code)).getD 0 else 0) * 2 ^ 12 + min s.failCount 3 * 2 ^ 16 +
    bitAt s.present 18 + bitAt s.presBand 19 + bitAt s.job.isSome 20 + bitAt s.galFailed 21 +
    bitAt s.ppsFailed 22 + bitAt s.fencePending 23 + s.fenceSrc.code * 2 ^ 24)

/-- SLOT_CTRL (R347): CLEAR is done at once and reads 0 (R74). -/
def Slot.ctrlReg (s : Slot) : W32 := BitVec.ofNat 32 (bitAt s.enable 0 + bitAt s.deactReq 1)

/-- Tokens in use, of the device and of a ring (R278). -/
def State.tokensUsed (s : State) : Nat := (s.slots.toList.filter (·.token)).length
def State.ringTokensUsed (s : State) (r : RingId) : Nat :=
  ((ringSlots r).filter (fun n => (s.slot n).token)).length

/-- RAIL_RGn (R284). -/
def Ring.railCode (r : Ring) : Nat := if r.phase == .off then 0 else classCode (some r.railCls)

/-- POWER_STATUS (R284). -/
def State.powerStatus (s : State) : W32 :=
  BitVec.ofNat 32 (((List.finRange 8).map (fun r => (s.ring r).railCode * 4 ^ r.val)).sum +
    s.tokensUsed * 2 ^ 16 + s.requests.length * 2 ^ 21 +
    bitAt (s.rings.any (fun r => r.phase == .ramping)) 28 + bitAt s.power.vinOk 29)

/-- BIST_CTRL (R354). -/
def State.bistCtrl (s : State) : W32 :=
  BitVec.ofNat 32 (bitAt s.bist.run.isSome 0 + bitAt s.bist.type 1 + s.bist.scope.toNat * 2 ^ 4 +
    s.bist.result.toNat * 2 ^ 8 + bitAt s.bist.repaired 10 + bitAt s.bist.source 11 +
    min s.bist.failAddrs 255 * 2 ^ 16)

/-- FW_STATUS as its registers hold it (R357). -/
def State.fwStatusRaw (s : State) : W32 :=
  BitVec.ofNat 32 (bitAt s.fw.activeB 0 + bitAt s.nv.nextB 1 + s.fw.standby.code * 2 ^ 2 +
    bitAt s.fw.busy 5 + bitAt (s.nv.bankA.eip || s.nv.bankB.eip) 6 + s.fw.result.toNat * 2 ^ 8 +
    s.fw.lastOp.toNat * 2 ^ 12 + s.fw.minor.toNat * 2 ^ 16 + s.fw.major.toNat * 2 ^ 24)

/-- FW_STATUS (R357): its boot fields read 0 until BOOTED (R334). -/
def State.fwStatus (s : State) : W32 :=
  if s.regs.booted || s.power.loader then s.fwStatusRaw
  else BitVec.ofNat 32 (bitAt s.fw.busy 5 + s.fw.result.toNat * 2 ^ 8 + s.fw.lastOp.toNat * 2 ^ 12)

/-- Bits of a Tightrope plan's summary (R356). -/
def Tight.summary (t : Tight) (refresh : Bool) : W32 :=
  BitVec.ofNat 32 (t.planSeq.toNat + bitAt t.factory 8 + t.guardBand * 2 ^ 9 +
    (t.slots.toList.filter (fun p => p.ceiling < 0xE)).length * 2 ^ 12 +
    (t.slots.toList.filter (·.warn)).length * 2 ^ 19 + bitAt refresh 26 + bitAt t.flashLow 27)

/-- NAND blocks are listed for refresh (R356 REFRESH). -/
def State.refreshListed (s : State) : Bool := s.bank.blocks.any (·.refresh)

/-- RULE_EPOCH (R361). -/
def State.ruleEpoch (s : State) : W32 :=
  BitVec.ofNat 32 (s.regs.epoch.toNat + bitAt s.regs.barrierOn 16)

/-- What a read of the BAR0 register at a byte offset returns (R330, R331): reserved offsets return 0. -/
def State.readReg (s : State) (off : Nat) : W32 :=
  let sl := s.slot s.regs.slotSel
  match off with
  | 0x000 => 0x4B470040
  | 0x004 => 0x000000B0
  | 0x008 => s.lcStateReg
  | 0x00C => BitVec.ofNat 32 (bitAt s.regs.enable 0 + bitAt s.regs.pause 1)
  | 0x010 => s.gstatus
  | 0x014 => s.regs.cfgCheck
  | 0x018 => lo32 s.regs.tbBase
  | 0x01C => hi32 s.regs.tbBase
  | 0x020 => s.regs.tbSize
  | 0x024 => s.regs.tbTail
  | 0x028 => s.regs.tbHead
  | 0x02C => lo32 s.regs.cqBase
  | 0x030 => hi32 s.regs.cqBase
  | 0x034 => s.regs.cqSize
  | 0x038 => s.regs.cqHead
  | 0x03C => s.regs.cqTail
  | 0x040 => lo32 s.regs.eqBase
  | 0x044 => hi32 s.regs.eqBase
  | 0x048 => s.regs.eqSize
  | 0x04C => s.regs.eqHead
  | 0x050 => s.regs.eqTail
  | 0x054 => s.regs.irqStatus
  | 0x058 => s.regs.irqMask
  | 0x05C => BitVec.ofNat 32 s.regs.slotSel.val
  | 0x060 => sl.cfgA
  | 0x064 => sl.cfgB
  | 0x068 => sl.ctrlReg
  | 0x06C => sl.stateReg
  | 0x070 => lo32 s.presentBits
  | 0x074 => s.regs.presentHold
  | 0x078 => lo32 s.fencedBits
  | 0x07C => s.regs.fencedHold
  | 0x080 => s.regs.powerBudget
  | 0x084 => s.powerStatus
  | 0x088 => s.regs.schedPolicy
  | 0x08C => s.regs.errFirst
  | 0x090 => s.regs.errInfo
  | 0x094 => s.regs.errCount
  | 0x098 => lo32 s.regs.violAddr
  | 0x09C => hi32 s.regs.violAddr
  | 0x0A0 => s.regs.violInfo
  | 0x0A4 => s.bistCtrl
  | 0x0A8 => lo32 s.bist.sig
  | 0x0AC => hi32 s.bist.sig
  | 0x0B0 => s.regs.marginStatus
  | 0x0B4 => BitVec.ofNat 32 (s.fw.op.toNat + bitAt s.fw.go 31)
  | 0x0B8 => s.fwStatus
  | 0x0BC => lo32 s.regs.time
  | 0x0C0 => s.regs.timeHold
  | 0x0C4 => s.regs.mboxTo
  | 0x0C8 => s.regs.mboxFrom
  | 0x0CC => s.ruleEpoch
  | _ => 0

end Sys2Proof.Machine
end

