-- ==== Sys2Proof/Machine/Ops.lean ====
section
/-! DEFINITION. The operations the meanings share: access to slots, rings and jobs; emissions,
interrupts and events; errors and the standby log; the admission queue; the two deactivation orders;
the journal and the audit log; the ends of a job; fences; rule barriers. -/

namespace Sys2Proof.Machine

open Sys2Proof

/-- What a meaning answers. -/
abbrev Out := Host.Outcome State Fault Refusal

/-- A meaning that acts only under a condition: otherwise the command cannot arise and changes nothing
(notes/assumptions/1.md). -/
def State.gate (s : State) (c : Bool) (f : State → State) : Out := .next (if c then f s else s)

/-! ## Access -/

def State.updSlot (s : State) (n : SlotId) (f : Slot → Slot) : State :=
  { s with slots := s.slots.set n.val (f s.slots[n.val]) n.isLt }

def State.updRing (s : State) (r : RingId) (f : Ring → Ring) : State :=
  { s with rings := s.rings.set r.val (f s.rings[r.val]) r.isLt }

def State.updJob (s : State) (id : JobId) (f : Job → Job) : State :=
  { s with jobs := s.jobs.map (fun j => if j.ticket.jobId == id then f j else j) }

def State.findJob (s : State) (id : JobId) : Option Job := s.jobs.find? (fun j => j.ticket.jobId == id)

/-- The job that holds a slot (R180). -/
def State.holder (s : State) (n : SlotId) : Option Job := (s.slot n).job.bind s.findJob

/-- Apply an update for every element of a list, in order. -/
def forEach {α : Type} (l : List α) (f : α → State → State) (s : State) : State :=
  l.foldl (fun s a => f a s) s

/-- Apply an update under a condition. -/
def onlyIf (c : Bool) (f : State → State) (s : State) : State := if c then f s else s

/-- The main side is powered, out of reset and clocked. -/
def State.mainUp (s : State) : Bool := s.power.vstby && s.power.main == .up

/-- Firmware runs (R480 step 8) and its rights stand (R425). -/
def State.booted (s : State) : Bool := s.mainUp && s.regs.booted && !s.sec.rightsWithdrawn

/-- Milliseconds since the start (R244). -/
def State.timeMs (s : State) : W32 := BitVec.ofNat 32 (s.regs.time.toNat / 1000)

def slotByte : Option SlotId → Byte
  | none => 0xFF
  | some n => BitVec.ofNat 8 n.val

/-! ## What leaves the device -/

def emit (e : Emission) (s : State) : State := { s with out := s.out ++ [e] }

/-- Requests reach the link (R324). -/
def State.canSend (s : State) : Bool := s.regs.busMaster && !s.regs.d3hot

/-- Vector n: sent, or its pending bit set while it is masked in the MSI-X table or cannot be sent (R321, R324). -/
def sendVector (n : Nat) (s : State) : State :=
  if bit s.regs.msixMask n || !s.canSend then
    { s with regs.msixPending := s.regs.msixPending ||| BitVec.ofNat 32 (2 ^ n) }
  else emit (.msix n) s

/-- Interrupt source n fires (R320, R321). -/
def fireIrq (n : Nat) (s : State) : State :=
  let was := bit s.regs.irqStatus n
  let s := { s with regs.irqStatus := s.regs.irqStatus ||| BitVec.ofNat 32 (2 ^ n) }
  if (n ≥ 2 && was) || bit s.regs.irqMask n then s else sendVector n s

/-- An event arises: the Barker takes it in order (R177). -/
def raise (code : W16) (slot : Option SlotId) (arg : Nat) (s : State) : State :=
  { s with barker.queue := s.barker.queue ++
      [{ code := code, slot := slot, arg := BitVec.ofNat 32 arg, time := s.regs.time }] }

/-! ## Random values -/

/-- n fresh TRNG bytes: free values (R11). -/
def State.random (s : State) (n : Nat) : List Byte := (List.range n).map (fun i => Config.trng (s.draws + i))

/-- The state after n TRNG bytes were drawn. -/
def State.drew (s : State) (n : Nat) : State := { s with draws := s.draws + n }

/-! ## Errors and the standby log (R352, R374, R436) -/

def kindIndex (kind index : Nat) : Nat := index % 256 + kind * 2 ^ 8

/-- ERR_FIRST_INFO of an error (R352). -/
def errInfoOf (code : W16) (kind index : Nat) (job : Option JobId) (esc : Bool) : W32 :=
  BitVec.ofNat 32 (kindIndex kind index + severityOf code * 2 ^ 12 + bitAt esc 14 +
    ((job.map (fun j => j.toNat % 65536)).getD 0) * 2 ^ 16)

/-- ARG of an ERROR event (R437). -/
def errArgOf (code : W16) (kind index : Nat) (esc : Bool) : Nat :=
  code.toNat + kind * 2 ^ 16 + index % 256 * 2 ^ 20 + severityOf code * 2 ^ 28 + bitAt esc 30

/-- A device error is latched and counted and its ERROR event raised (R436), for a unit given by KIND
and INDEX. ESCALATED is also set in the latched record when it belongs to the unit (R439). In the fatal window
an error of lower severity is only counted (R442). -/
def latchAt (code : W16) (kind index : Nat) (slot : Option SlotId) (job : Option JobId) (esc : Bool)
    (s : State) : State :=
  let valid := bit s.regs.errFirst 31
  let counted := s.faults.fatalWindow.isSome && severityOf code != 2
  let total := min 0xFFFF (field s.regs.errCount 16 16 + 1)
  let later := if valid then min 0xFFFF (field s.regs.errCount 0 16 + 1) else field s.regs.errCount 0 16
  let count : W32 := BitVec.ofNat 32 (later + total * 2 ^ 16)
  let info :=
    if valid then
      if esc && field s.regs.errInfo 0 12 == kindIndex kind index then s.regs.errInfo ||| 0x4000
      else s.regs.errInfo
    else errInfoOf code kind index job esc
  if counted then { s with regs.errCount := count }
  else
    let s := { s with regs.errInfo := info, regs.errCount := count,
                      regs.errFirst := if valid then s.regs.errFirst
                                       else BitVec.ofNat 32 (code.toNat + 2 ^ 31) }
    let s := if valid then s else fireIrq 2 s
    raise 0x0F01 slot (errArgOf code kind index esc) s

def UnitRef.slotOf : UnitRef → Option SlotId
  | .slot n => some n
  | _ => none

/-- A device error of a unit (R436). -/
def latchError (code : W16) (u : UnitRef) (job : Option JobId) (esc : Bool) (s : State) : State :=
  latchAt code u.kind u.index (UnitRef.slotOf u) job esc s

/-- Seconds since VSTBY rose (R374). -/
def State.aonSeconds (s : State) : Nat := s.power.aonUs / 1000000

/-- A standby fault-log entry (R374): 16 entries, the oldest overwritten. -/
def logStandby (code : W16) (kind index : Nat) (reason : Byte) (s : State) : State :=
  let e : LogEntry :=
    { seq := s.standby.logSeq, code := code, kindIndex := BitVec.ofNat 16 (kindIndex kind index),
      severity := BitVec.ofNat 8 (severityOf code), reason := reason,
      seconds := BitVec.ofNat 32 s.aonSeconds }
  let log := s.standby.log ++ [e]
  { s with standby.log := log.drop (log.length - 16), standby.logSeq := s.standby.logSeq + 1 }

/-! ## Refused accesses (R353, R415) -/

/-- VIOL_INFO of a first violation (R353). -/
def violInfoOf (s : State) (master : Nat) (access : Nat) (region : Nat) : W32 :=
  BitVec.ofNat 32 (master + access * 2 ^ 4 + region * 2 ^ 8 + s.regs.epoch.toNat % 256 * 2 ^ 16 + 2 ^ 31)

/-- MORE counts one more, saturating at 127 (R353). -/
def violMore (v : W32) : W32 :=
  if field v 24 7 < 127 then v + 0x01000000 else v

/-- A refused access: the first fills the record and fires bit 9, a later one counts in MORE; each raises
VIOLATION (R353, R415). -/
def recordViolation (master access region : Nat) (addr : W64) (slot : Option SlotId) (s : State) : State :=
  let s :=
    if bit s.regs.violInfo 31 then { s with regs.violInfo := violMore s.regs.violInfo }
    else fireIrq 9 { s with regs.violAddr := addr, regs.violInfo := violInfoOf s master access region }
  raise 0x0B05 slot (master + region * 2 ^ 8 + s.regs.epoch.toNat * 2 ^ 16) s

/-- Host writes to FW_CTRL and BIST_CTRL are refused in FENCED_SECURE and TERMINATED (R415). -/
def State.hostLocked (s : State) : Bool :=
  s.nv.lc == .fencedSecure || s.nv.lc == .terminated || s.sec.rightsWithdrawn

/-- A host write that Midway refuses is dropped (R415). -/
def refuseHostWrite (off : Nat) (s : State) : State :=
  recordViolation 0xA 1 0x09 (BitVec.ofNat 64 (0x40000000 + off)) none s

/-- A host write of a BAR0 register: refused once tamper level 2 has withdrawn every right (R417, R425). -/
def State.hostWrite (s : State) (off : Nat) (f : State → State) : Out :=
  s.gate s.mainUp (fun s => if s.sec.rightsWithdrawn then refuseHostWrite off s else f s)

/-- A host read of a BAR0 register; a refused one returns 0x0BAD_0BAD (R415). -/
def State.hostRead (s : State) (off : Nat) (f : State → State) : Out :=
  s.gate s.mainUp (fun s =>
    if s.sec.rightsWithdrawn then
      emit (.barData 0x0BAD0BAD) (recordViolation 0xA 0 0x09 (BitVec.ofNat 64 (0x40000000 + off)) none s)
    else f s)

/-! ## Rule barriers (R362, R417) -/

/-- A rule change asks for its barrier; a second one waits for the first (R362). -/
def askBarrier (c : RuleCause) (s : State) : State := { s with regs.barrier := s.regs.barrier ++ [c] }

/-! ## Units -/

def setUnit (u : UnitRef) (p : UnitPhase) (code : W16) (s : State) : State :=
  { s with faults.units := (u, p, code) :: s.faults.units.filter (fun e => e.1 != u) }

/-! ## The admission queue (R278 to R281) -/

/-- Requests of one ring, oldest first. -/
def State.ringQueue (s : State) (r : RingId) : List Request := s.requests.filter (fun q => ringOf q.slot == r)

/-- The highest class held by a slot of the ring whose supply is on (R273); C for none. -/
def State.ringClass (s : State) (r : RingId) : CardClass :=
  (ringSlots r).foldl (fun k n =>
    let x := s.slot n
    if x.phase.powered then higherClass k (x.cls.getD .c) else k) .c

/-- A request leaves the queue without a token; no contact has changed (R72, R279). -/
def leaveQueue (n : SlotId) (s : State) : State :=
  let s := { s with requests := s.requests.filter (fun q => q.slot != n) }
  if (s.slot n).phase == .powerWait then
    s.updSlot n (fun x => { x with phase := .off, cls := none, actWait := false })
  else s

/-- Upward rail steps along a list of requests from a class (R280). -/
def upSteps : CardClass → List Request → Nat
  | _, [] => 0
  | k, q :: qs => if classRank q.cls > classRank k then 1 + upSteps q.cls qs else upSteps k qs

/-- W_max in µs of a request behind the queue as it stands (R280): b and G the budgets, m the
retargets the ring must still complete. -/
def State.waitBound (s : State) (n : SlotId) (k : CardClass) (ahead : List Request) : Nat :=
  let r := ringOf n
  let own := ahead.filter (fun q => ringOf q.slot == r)
  let b := max 1 s.regs.ringTokens
  let g := max 1 s.regs.globalTokens
  let m := (if (s.ring r).phase == .ramping then 1 else 0) +
    upSteps (s.ring r).railCls (own ++ [{ slot := n, cls := k, since := 0, wmax := 0, warned := false }])
  (own.length / b + ahead.length / g) * 552 + min m 3 * 1002

/-- W_max of every queued request, recomputed (R282). -/
def recomputeBounds (s : State) : State :=
  let rec go : List Request → List Request → List Request
    | _, [] => []
    | ahead, q :: qs => { q with wmax := s.waitBound q.slot q.cls ahead } :: go (ahead ++ [q]) qs
  { s with requests := go [] s.requests }

/-- EXTEST or INTEST is loaded: no slot activates (R419). -/
def State.scanLoaded (s : State) : Bool := s.sec.tap == .extest || s.sec.tap == .intest

/-- The conditions of R47 on the slot itself. -/
def State.canActivate (s : State) (n : SlotId) : Bool :=
  let x := s.slot n
  x.present && x.enable && x.phase == .off && !x.tOff && !s.scanLoaded && !(s.ring (ringOf n)).fenced

/-- An accepted activation request: POWER_WAIT, and a place in the queue with its W_max; it waits for
an unpowered comparator check to end first (R47, R72, R280, R301). -/
def joinQueue (n : SlotId) (k : CardClass) (s : State) : State :=
  if (s.slot n).check != .idle then s.updSlot n (fun x => { x with actWait := true, stepTo := some k })
  else
    let q : Request := { slot := n, cls := k, since := s.regs.time,
                         wmax := s.waitBound n k s.requests, warned := false }
    let s := { s with requests := s.requests ++ [q] }
    let s := s.updRing (ringOf n) (fun r =>
      if r.downHold && r.railCls == k then { r with downHold := false } else r)
    s.updSlot n (fun x => { x with phase := .powerWait, cls := some k, actWait := false, stepTo := none })

/-- The class an activation attempt starts at: the lowest of CLASS_MASK (R42). -/
def Slot.firstClass (x : Slot) : Option CardClass := lowestClass x.classMask

/-- An activation request (R47): refused, changing nothing, when a condition fails. -/
def requestActivation (n : SlotId) (s : State) : State :=
  match (s.slot n).firstClass with
  | some k =>
    if s.canActivate n then joinQueue n k (s.updSlot n (fun x => { x with activations := x.activations + 1 })) else s
  | none => s

/-! ## Deactivation (R53, R57, R60) -/

/-- Link, exchange and measurement state that ends with the card's power. -/
def Slot.endLink (x : Slot) : Slot :=
  { x with exch := none, gal := none, pps := none, ppsPlan := none, t1 := T1.reset, shadow := none,
           proto := .none, galLimits := false, d0Busy := false, warm := false, window := false,
           unsettled := [], ended := [], warmDue := false, lts := none, ltsDue := false, token := false, inverse := false, proposal := none }

def State.planOf (s : State) (n : SlotId) : SlotPlan := s.tight.slots[n.val]

def setPlan (n : SlotId) (p : SlotPlan) (s : State) : State :=
  { s with tight.slots := s.tight.slots.set n.val p n.isLt }

/-- The result of a reading history, newest first: the median of three, the lower of two, or the one (R457). -/
def contactResult : List Nat → Nat
  | [] => 0
  | [a] => a
  | [a, b] => min a b
  | a :: b :: c :: _ => max (min a b) (min (max a b) c)

/-- A ceiling for the next plan; the sweeps at the old one count no more (R459). -/
def SlotPlan.setCeiling (p : SlotPlan) (c now : Nat) : SlotPlan :=
  if c == p.ceilingNext.getD p.ceiling then p
  else { p with ceilingNext := some c, goodSweeps := [], changedAt := now }

/-- A Galloper session ended: whether it downshifted is kept of the last 10, and the third of them that did
lowers the ceiling by one (R459). -/
def SlotPlan.session (p : SlotPlan) (down : Bool) (now : Nat) : SlotPlan :=
  let l := (down :: p.sessions).take 10
  let p := { p with sessions := l, sweepOwed := p.sweepOwed || down }
  if down && 3 ≤ (l.filter id).length then p.setCeiling (p.ceilingNext.getD p.ceiling - 1) now else p

/-- The end of a slot's Galloper session reaches the margin planner. -/
def endGalSession (n : SlotId) (s : State) : State :=
  match (s.slot n).gal with
  | none => s
  | some g => setPlan n ((s.planOf n).session g.downshifted s.aonSeconds) s

/-- A deactivation ends the rotation of the slot's comparators at once (R303). -/
def endRotation (n : SlotId) (s : State) : State :=
  match (s.ring (ringOf n)).rotation with
  | some (k, _) =>
    if k.val == n.val % 8 then
      (s.updRing (ringOf n) (fun r => { r with rotation := none, standbyHolds := false })).updSlot n (fun x =>
        { x with check := .idle })
    else s
  | none => s

/-- The start of a normal deactivation: RST low, tokens returned (R53 step 1, R72, R278). The
measurement window is omitted for VCC_FAIL, before t_VS, and on the way to BIST. -/
def startNormal (n : SlotId) (c : Cause) (forBist : Bool) (s : State) : State :=
  if (s.slot n).phase.live then
    (endRotation n (endGalSession n s)).updSlot n (fun x =>
      { x.endLink with
        phase := .deactivating, cause := c, rst := false,
        deact := some { emergency := false, step := .rstLow,
                        window := x.qualified && c != .vccFail && !forBist,
                        reading := none, counted := false } })
  else s

/-- The start of an emergency order, or its coincidence with one already running (R57, R60, R298):
`counted` remembers that the attempt counts if the cause stays an attempt's (R52). -/
def startEmergency (n : SlotId) (c : Cause) (s : State) : State :=
  let x := s.slot n
  if x.phase.live then
    (endRotation n (endGalSession n s)).updSlot n (fun x =>
      { x.endLink with
        phase := .deactivating, cause := c, rst := false, stepTo := none,
        deact := some { emergency := true, step := .rstLow, window := false, reading := none,
                        counted := x.phase == .powering || x.phase == .atrWait } })
  else if x.phase == .deactivating then
    match x.deact with
    | none => s
    | some d =>
      if d.emergency then
        if d.step != .ldoOff && c.rank > x.cause.rank then s.updSlot n (fun x => { x with cause := c })
        else s
      else
        s.updSlot n (fun x =>
          { x with cause := c, stepTo := none, token := false,
                   deact := some { d with emergency := true, window := false, reading := none,
                                          counted := x.cause == .classStep,
                                          step := if d.step == .window then .clkLow else d.step } })
  else s

/-! ## The journal (R244 to R247) and the audit log (R260) -/

/-- An outcome entry closes an open intent (R244, R246). -/
def settle (jseq : W64) (r : JResult) (sw : W16) (how : Nat) (slot : Option SlotId) (s : State) : State :=
  { s with bank.journal := s.bank.journal.map (fun e =>
      if e.jseq == jseq && e.outcome.isNone then
        { e with outcome := some { result := r, sw := sw, how := how, slot := slotByte slot,
                                   boot := s.bank.boot, timeMs := s.timeMs, queued := true, durable := false } }
      else e) }

/-- Steps precomputed and never sent are NOT_DONE (R246), as is an SC_OPEN whose EXTERNAL AUTHENTICATE never
went out (R244). -/
def settleUnsent (j : Job) (s : State) : State :=
  match j.run with
  | none => s
  | some r =>
    forEach (r.staged.filter (fun t => !t.sent || t.kind == .initUpdate)) (fun t s =>
      match t.jseq with
      | some q => settle q .notDone 0 2 j.slot s
      | none => s) s

/-- Bytes 0 to 31 of an audit entry (R260). -/
def auditHead (e : AuditEntry) : List Byte :=
  [e.atype, e.outcome] ++ leBytes 2 e.ctrIdx.toNat ++ leBytes 4 e.jobId.toNat ++ leBytes 8 e.counter.toNat ++
    leBytes 8 e.digest.toNat ++ leBytes 4 e.boot.toNat ++ leBytes 4 e.timeMs.toNat

/-- An audit entry's 64 bytes (R260). -/
def auditBytes (e : AuditEntry) : List Byte := auditHead e ++ padTo 32 e.chain

/-- Codewords of a page (R231). -/
def codewords (t : TargetReport) : Nat := (t.mainBytes + t.spareBytes - 80) / 1234

/-- Audit entries the AUDIT region holds: 16 to a 1 KiB unit, striped with one parity unit in n
(R231, R233, R234). -/
def State.auditCapacity (s : State) : Nat :=
  match s.bank.fmt, s.power.board.targets with
  | some f, t :: ts =>
    let n := max 1 s.channelsUp
    f.auditBlocksPerTarget * (ts.length + 1) * t.pages * codewords t * 16 * (n - 1) / n
  | _, _ => 0

/-- An audit entry is written: next ASEQ, chained to the one before (R260, R261); at 90 % full the
event is raised (R264). -/
def audit (atype outcome : Byte) (ctrIdx : Nat) (job : W32) (counter digest : W64) (s : State) : State :=
  if !s.bank.formatted then s
  else
    let e : AuditEntry :=
      { aseq := s.bank.aseqNext, atype := atype, outcome := outcome, ctrIdx := BitVec.ofNat 16 ctrIdx,
        jobId := job, counter := counter, digest := digest, boot := s.bank.boot, timeMs := s.timeMs,
        chain := [] }
    let chain := Config.sha256 (s.bank.chain ++ auditHead e)
    let was := s.bank.audit.length * 100
    let s := { s with bank.audit := s.bank.audit ++ [{ e with chain := chain }],
                      bank.aseqNext := s.bank.aseqNext + 1, bank.chain := chain }
    let cap := s.auditCapacity
    onlyIf (was < cap * 90 && cap * 90 ≤ was + 100)
      (raise 0x0709 none ((was + 100) / max 1 cap)) s

/-- The audit region is full (R264). -/
def State.auditFull (s : State) : Bool := s.bank.formatted && s.auditCapacity ≤ s.bank.audit.length

/-- WCNT one higher; the cells only rise, so at their end they stay (R257). -/
def bumpWcnt (w : W64) : W64 := if w == 0xFFFFFFFFFFFFFFFF then w else w + 1

/-- An RPP write (R256, R257, R263): the state with WC = WCNT is programmed to both copies with the
anchor up to date, then WCNT rises by 1. -/
def rppWrite (s : State) : State :=
  if !s.bank.formatted then s
  else
    { s with bank.rppWc := s.nv.wcnt, bank.anchorAseq := s.bank.aseqNext - 1,
             bank.anchorChain := s.bank.chain, nv.wcnt := bumpWcnt s.nv.wcnt }

/-- Every open WRITE entry of an ended job has closed, so its ISSUE_RESULT entry is written (R262). -/
def issueResult (i : IssueEnd) (s : State) : State :=
  let mine := s.bank.journal.filter (fun e => e.jobId == i.jobId && e.counter == i.counter && e.ctrIdx == i.ctrIdx)
  let writes := mine.filter (·.write)
  let durable (e : Intent) : Bool := match e.outcome with | some o => o.durable | none => false
  if writes.all durable then
    let res (p : JResult → Bool) (e : Intent) : Bool := match e.outcome with | some o => p o.result | none => false
    let wrote := writes.any (res (fun r => r == .done || r == .doneHost))
    let host := writes.any (res (fun r => r == .doneHost || r == .notDoneHost))
    let oc : Nat := (if i.done then 1 else if wrote then 2 else 3) + bitAt host 7
    let dig : W64 := ((mine.find? (·.first)).map (·.digest)).getD 0
    let s := { s with bank.issueEnds := s.bank.issueEnds.filter (fun k => k != i) }
    audit 0x01 (BitVec.ofNat 8 oc) i.ctrIdx i.jobId i.counter dig s
  else s

def issueResults (s : State) : State := forEach s.bank.issueEnds issueResult s

/-! ## The station bus queue (R190, R191, R389) -/

/-- A FEED or EJECT command joins its port's queue; an unmapped slot sends none (R396). -/
def stationCommand (n : SlotId) (eject : Bool) (bin : Byte) (job : JobId) (s : State) : State :=
  match s.sbMap[n.val] with
  | none => s
  | some m =>
    let p := s.ports[m.port.val]
    let c := if p.cseq[m.mu.val] ≥ 255 then 1 else p.cseq[m.mu.val] + 1
    let cmd : SbCmd := { slot := n, mu := m.mu, station := m.station, eject := eject, bin := bin,
                         job := job, cseq := c, tx := 0 }
    let p := { p with queue := p.queue ++ [cmd], cseq := p.cseq.set m.mu.val c m.mu.isLt }
    { s with ports := s.ports.set m.port.val p m.port.isLt }

/-- Bin by completion status (R191, R389). -/
def binOf : CStatus → Byte
  | .done => 1
  | .indeterminate => 3
  | _ => 2

/-! ## Ends of a job (R165, R173, R180, R191 to R195) -/

/-- The job's context is zeroised (R211). -/
def releaseContext (j : Job) (s : State) : State :=
  match j.jug with
  | none => s
  | some g =>
    let u := s.jugs[g.val]
    { s with jugs := s.jugs.set g.val { u with ctxs := u.ctxs.filter (· != j.ticket.jobId) } g.isLt }

/-- The completion an ended job will have (R173, R174). -/
def closingOf (j : Job) (st : CStatus) (err : W16) (barriers : Nat) : Closing :=
  let cut := j.result.length > j.ticket.resultMax.toNat
  let res := j.result.take j.ticket.resultMax.toNat
  { jobId := j.ticket.jobId, seq := j.seq, status := st, slot := j.lastSlot,
    error := if st == .done then 0 else err, gen := j.lastGen, exch := j.exch,
    cflags := BitVec.ofNat 8 (bitAt j.late 0 + bitAt (j.replaced != 0) 1 + bitAt (cut || j.resultTrunc) 2 +
      bitAt j.galloper 3 + bitAt j.resultLost 4),
    digest := j.digest, resultLen := res.length, resultAddr := j.ticket.resultAddr, result := res,
    barriers := barriers }

def pushClosing (c : Closing) (s : State) : State := { s with closing := s.closing ++ [c] }

/-- The run of ring scope that covers a slot (R468). -/
def State.ringUnderTest (s : State) (r : RingId) : Bool :=
  match s.bist.run with
  | some b => b.scope.toNat == r.val
  | none => false

/-- A slot that a job has just left goes on to what waited for the job's end: a ring test (R468), a
pending fence (R305) or a wind-down (R316). -/
def slotFreed (n : SlotId) (s : State) : State :=
  let x := s.slot n
  if s.ringUnderTest (ringOf n) then startNormal n .host true s
  else if x.fencePending then startNormal n .host false s
  else if s.regs.windDown then startNormal n .disable false s
  else s

/-- The slot of an ended job: free, marked, and ejected where the job or its profile releases the card
(R165, R185, R191). -/
def freeSlot (j : Job) (st : CStatus) (s : State) : State :=
  match j.slot with
  | none => s
  | some n =>
    let s := s.updSlot n (fun x =>
      { x with job := none, issued := x.issued || (j.ticket.isIssue && st == .done) })
    let x := s.slot n
    let releases := j.ticket.feed ||
      (j.phase != .placed && (match j.run with | some r => r.profile.release | none => false))
    let s :=
      if !releases then s
      else if x.phase.live then
        startNormal n .jobEnd false (s.updSlot n (fun x => { x with eject := some (binOf st, j.ticket.jobId) }))
      else if x.phase == .deactivating then
        if x.cause == .removal then s
        else s.updSlot n (fun x => { x with eject := some (binOf st, j.ticket.jobId) })
      else if x.present then stationCommand n true (binOf st) j.ticket.jobId (leaveQueue n s)
      else leaveQueue n s
    slotFreed n s

/-- The job made a FIRST intent: its ISSUE_RESULT entry is due, at once when no WRITE entry of it is open
(R262). -/
def noteIssueEnd (j : Job) (st : CStatus) (s : State) : State :=
  match j.counter with
  | none => s
  | some (idx, v) =>
    let i : IssueEnd := { jobId := j.ticket.jobId, counter := v, ctrIdx := idx, done := st == .done }
    issueResult i { s with bank.issueEnds := s.bank.issueEnds ++ [i] }

/-- Open entries of jobs the device no longer holds, against the limit of 4096: JOURNAL_FULL is raised when it
is reached (R248). -/
def noteJournal (s : State) : State :=
  let n := (s.openIntents.filter (fun e => (s.findJob e.jobId).isNone)).length
  if n < 4096 then { s with bank.journalFull := false }
  else if s.bank.journalFull then s
  else raise 0x0704 none s.openIntents.length { s with bank.journalFull := true }

/-- The entries that an ended job leaves open count against the journal's limit (R248). -/
def noteLeft (j : Job) (s : State) : State := if j.run.isSome then noteJournal s else s

/-- A job in which more than 1 received character in 64 carried the noise flag raises NOISE (R79). -/
def noteNoise (j : Job) (s : State) : State :=
  onlyIf (j.noise.2 < j.noise.1 * 64) (raise 0x0107 j.slot j.noise.1) s

/-- A job ends: its completion waits in the order of ends (R165), its slot and context are free. -/
def endJobAfter (barriers : Nat) (id : JobId) (st : CStatus) (err : W16) (s : State) : State :=
  match s.findJob id with
  | none => s
  | some j =>
    let s := noteNoise j (settleUnsent j s)
    let s := noteIssueEnd j st s
    let s := releaseContext j s
    let s := { s with jobs := s.jobs.filter (fun k => k.ticket.jobId != id) }
    freeSlot j st (noteLeft j (pushClosing (closingOf j st err barriers) s))

def endJob (id : JobId) (st : CStatus) (err : W16) (s : State) : State := endJobAfter 0 id st err s

/-- The job's deadline has passed and it may not start late (R180). -/
def State.deadlinePassed (s : State) (j : Job) : Bool :=
  j.ticket.deadline != 0 && !j.ticket.lateOk && j.ticket.deadline.toNat < s.regs.time.toNat

/-- The job is taken back to QUEUED with the next generation (R180, R192, R193, R195), or ends when the
limit or the deadline forbids it (R194); in a wind-down it would be QUEUED and ends (R316). -/
def replaceJob (id : JobId) (s : State) : State :=
  match s.findJob id with
  | none => s
  | some j =>
    if s.regs.windDown then endJob id .cancelled 0x0A03 s
    else if s.regs.maxReplace ≤ j.replaced then endJob id .failed 0x020B s
    else if s.deadlinePassed j then endJob id .cancelled 0x0209 s
    else
      let s := releaseContext j (settleUnsent j s)
      let s := s.updJob id (fun j =>
        { j with phase := .queued, slot := none, gen := j.gen + 1, replaced := j.replaced + 1, pair := none,
                 jug := none, activated := false, run := none, result := [], resultTrunc := false })
      match j.slot with
      | none => s
      | some n => slotFreed n (s.updSlot n (fun x => { x with job := none }))

/-- An exchange was cut by the loss of the slot: EXCH is DEACTIVATED (R97, R173). -/
def markCut (n : SlotId) (s : State) : State :=
  let x := s.slot n
  let cut := x.exch.isSome || (match x.gal with | some g => !g.window.isEmpty | none => false)
  match x.job with
  | some id => if cut then s.updJob id (fun j => { j with exch := .deactivated }) else s
  | none => s

/-- The job of a lost slot (R180, R193, R194): before its first byte and when it may run twice it is
re-placed; a NON_IDEMPOTENT one is RESOLVING, or ends at once when its card is gone or must not be
queried again. The deactivation that a SLOT_ADMIN DEACTIVATE makes is no loss of its slot. -/
def lostJob (n : SlotId) (c : Cause) (s : State) : State :=
  match s.holder n with
  | none => s
  | some j =>
    let id := j.ticket.jobId
    match j.phase with
    | .queued => s
    | .placed => replaceJob id s
    | .started =>
      if j.ticket.isSlotAdmin && j.ticket.op == 2 then s
      else if !j.ticket.nonIdempotent then replaceJob id s
      else if c == .removal then endJob id .indeterminate 0x020C s
      else if c == .busyLimit then endJob id .indeterminate 0x020D s
      else s.updJob id (fun j => { j with phase := .resolving })
    | .resolving =>
      if c == .removal then endJob id .indeterminate 0x020C s
      else if c == .busyLimit then endJob id .indeterminate 0x020D s
      else s

/-- A normal deactivation that takes the slot from its job (R55, R193). -/
def loseNormal (n : SlotId) (c : Cause) (s : State) : State :=
  lostJob n c (startNormal n c false (markCut n s))

/-- An emergency order and its effect on the job (R58, R193). -/
def loseEmergency (n : SlotId) (c : Cause) (s : State) : State :=
  lostJob n c (startEmergency n c (markCut n s))

/-- Every powered slot runs the emergency order (R25, R29, R425). -/
def emergencyAll (c : Cause) (s : State) : State :=
  forEach (List.finRange 64) (fun n s => if (s.slot n).phase.powered then loseEmergency n c s else s) s

/-! ## Fences (R72, R305, R439, R447) -/

/-- The slot enters FENCED: its record is gone and FENCED is raised (R72, R242, R307). -/
def enterFenced (n : SlotId) (src : FenceSrc) (code : W16) (s : State) : State :=
  raise 0x0105 (some n) code.toNat
    (s.updSlot n (fun x =>
      { x with phase := .fenced, fenceSrc := src, fenceCode := code, fencePending := false, record := none,
               stepTo := none, actWait := false, deact := none }))

/-- A fence becomes pending; one already pending stays, unless it is the contact fence that
SLOT_CTRL.CLEAR could lift (R349). -/
def markFence (n : SlotId) (src : FenceSrc) (code : W16) (s : State) : State :=
  s.updSlot n (fun x =>
    if x.fencePending && x.fenceSrc != .contact then x
    else { x with fencePending := true, fenceSrc := src, fenceCode := code })

/-- A fence of a slot; `down` is how a powered one is taken down (R72, R305, R447). -/
def fenceSlotBy (down : SlotId → State → State) (n : SlotId) (src : FenceSrc) (code : W16) (s : State) : State :=
  match (s.slot n).phase with
  | .fenced =>
    if (s.slot n).fenceSrc == .contact then
      s.updSlot n (fun x => { x with fenceSrc := src, fenceCode := code })
    else s
  | .off | .quarantined | .unstable => lostJob n .none (enterFenced n src code s)
  | .powerWait => lostJob n .none (enterFenced n src code (leaveQueue n s))
  | .bist => markFence n src code s
  | _ => down n (markFence n src code s)

/-- A fence by the Hall of Mirrors or a tamper response: emergency order, cause FENCE_TAMPER (R58, R447). -/
def fenceSlot (n : SlotId) (src : FenceSrc) (code : W16) (s : State) : State :=
  fenceSlotBy (fun n => loseEmergency n .fenceTamper) n src code s

/-- Jobs of a core pair: as jobs whose slot was deactivated, with cause HOST (R444 step 3). -/
def losePairJobs (p : PairId) (s : State) : State :=
  forEach (s.jobs.filter (fun j => j.pair == some p)) (fun j s =>
    match j.slot with
    | some n =>
      if (s.slot n).phase.live then loseNormal n .host s
      else lostJob n .host (leaveQueue n s)
    | none => s) s

/-- The next pair in service leads (R446). -/
def handOver (s : State) : State :=
  let next := (List.finRange 4).find? s.pairUp
  if next == s.faults.leader then s
  else
    let s := { s with faults.leader := next }
    match next with
    | some p => raise 0x0F05 none p.val s
    | none => s

/-- Contexts of a lost Juggler (R214). -/
def loseJuggler (g : JugId) (s : State) : State :=
  let ids := s.jugs[g.val].ctxs
  let s := { s with jugs := s.jugs.set g.val { ctxs := [], cache := [] } g.isLt }
  forEach ids (fun id s =>
    match s.findJob id with
    | some j =>
      match j.slot with
      | some n =>
        if j.phase == .placed then lostJob n .host s
        else if (s.slot n).phase.live then loseNormal n .host s
        else lostJob n .host s
      | none => s
    | none => s) s

/-- The two channels of the mirrored regions: the lowest populated ones in service (R233, R247). -/
def State.mirrorChans (s : State) : List ChanId := ((List.finRange 8).filter s.channelUp).take 2

/-- A fence of a ring: its slots are fenced, its requests leave, its converter stops at once or when
every slot is below 0.4 V (R285, R305). -/
def fenceRing (stopNow : Bool) (down : SlotId → State → State) (r : RingId) (code : W16) (s : State) : State :=
  let s := s.updRing r (fun x =>
    { x with fenced := true, joined := false, downHold := false, postponed := false, rotation := none,
             phase := if stopNow then .off else x.phase, stopWhenOff := !stopNow })
  forEach (ringSlots r) (fun n s => fenceSlotBy down n .ring code s) s

/-- The event and log entry of a unit's fence, and its rights (R374, R417, R437). -/
def noteFence (u : UnitRef) (code : W16) (s : State) : State :=
  let s := setUnit u .fenced code s
  let s := raise 0x0F02 none (u.kind + u.index * 2 ^ 4 + code.toNat * 2 ^ 16) s
  askBarrier .unitRights (logStandby code u.kind u.index 0 s)

/-- A unit is fenced (R439, R447). -/
def fenceUnit (u : UnitRef) (code : W16) (s : State) : State :=
  match u with
  | .slot n => fenceSlot n .unit code (noteFence u code s)
  | .ring r => fenceRing true (fun n => loseEmergency n .supplyOrClock) r code (noteFence u code s)
  | .juggler g => loseJuggler g (noteFence u code s)
  | .pair p =>
    let s := losePairJobs p (noteFence u code s)
    if s.faults.leader == some p then handOver s else s
  | .chan c =>
    let mirrored := s.mirrorChans.contains c
    let s := noteFence u code s
    if mirrored && s.bank.formatted then { s with bank.copyDue := true } else s
  | _ => noteFence u code s

/-! ## SLOT_OFF (R377) -/

/-- SLOT_OFF completes when its last slot is below 0.4 V (R377). -/
def slotOffDone (n : SlotId) (s : State) : State :=
  if s.side.slotOffWait.contains n then
    let l := s.side.slotOffWait.filter (· != n)
    { s with side.slotOffWait := l, side.answer := if l.isEmpty then some .ok else s.side.answer }
  else s

/-! ## Failed comparator checks and converters (R273, R305 to R307) -/

/-- MON_CHECK_FAIL (R307): step 1 to 3; ring number, or 0xF. -/
def monFailEvent (code : W16) (slot : Option SlotId) (c : CompId) (step : Nat) (ring : Nat) (s : State) : State :=
  raise 0x0901 slot (code.toNat + c.code * 2 ^ 16 + step * 2 ^ 24 + ring * 2 ^ 28) s

/-- What the slot knows of its card is gone when the filter decides ABSENT (R52, R65, R103, R151, R175, R185,
R187). -/
def Slot.cardGone (x : Slot) : Slot :=
  { x with present := false, presBand := false, failCount := 0, digest := none, cardId := [], issued := false,
           inventory := [], galFailed := false, ppsFailed := false, resolution := none }

/-- The filter decides ABSENT, with its event; or it is forced or restarted there (R62, R68, R72, R305). -/
def decideAbsent (n : SlotId) (s : State) : State :=
  onlyIf s.mainUp (raise 0x0101 (some n) 0) (s.updSlot n Slot.cardGone)

/-- A slot comparator fails its check while the slot is unpowered: the slot is fenced at once; a presence
comparator also forces its filter to ABSENT and holds it there (R305). -/
def failSlotComp (n : SlotId) (c : CompId) (step : Nat) (s : State) : State :=
  let code : W16 := if c.isPresence then 0x0902 else 0x0901
  let s := monFailEvent code (some n) c step 0xF (latchError code (.slot n) none true s)
  let s := if c.isPresence then s.updSlot n (fun x => { x with presHeld := true }) else s
  let s := if c.isPresence && (s.slot n).present then decideAbsent n s else s
  fenceSlot n .comparator code (logStandby code 1 n.val 0 s)

/-- A ring's converter starts, behind its ring check, when the device is enabled and a slot of the ring
is (R273, R277). -/
def startConverter (r : RingId) (s : State) : State :=
  let x := s.ring r
  if s.regs.enable && !s.regs.windDown && x.phase == .off && !x.fenced && (s.ringUnderTest r) == false &&
      (ringSlots r).any (fun n => (s.slot n).enable) then
    s.updRing r (fun x => { x with phase := .starting, railCls := .c, checkDue := true, joined := false,
                                   downHold := false, postponed := false })
  else s

/-! ## Results of tickets -/

/-- A ticket that runs no profile ends with a result (R174). -/
def finish (id : JobId) (st : CStatus) (err : W16) (result : List Byte) (s : State) : State :=
  endJob id st err (s.updJob id (fun j => { j with result := result }))

/-- A failed one. -/
def failJob (id : JobId) (err : W16) (s : State) : State := endJob id .failed err s

/-- A ticket whose command changes a rule completes after the barriers asked so far (R363). -/
def finishAfterBarrier (id : JobId) (st : CStatus) (err : W16) (s : State) : State :=
  endJobAfter s.regs.barrier.length id st err s

/-- The job with this JOB_ID, when its ticket has this TYPE and OP and it waits to run (R168). -/
def State.ticketOf (s : State) (id : JobId) (type op : Nat) : Option Job :=
  (s.findJob id).filter (fun j => j.ticket.type.toNat == type && j.ticket.op.toNat == op && j.phase == .queued)

end Sys2Proof.Machine
end

