-- ==== Sys2Proof/Machine/Booth.lean ====
section
/-! DEFINITION. The completion and event rings: writing one entry, and what is held (R162, R165, R166,
R178, R517). -/

namespace Sys2Proof.Machine

open Sys2Proof

/-- The next index of a ring (R162). -/
def nextIndex (i size : W32) : W32 := BitVec.ofNat 32 ((i.toNat + 1) % max 1 size.toNat)

/-- A ring is full: producer plus 1 equals consumer (R162). -/
def ringFull (prod cons size : W32) : Bool := nextIndex prod size == cons

/-- Entries from one index up to another (R162, R164). -/
def span (cons prod size : W32) : Nat := (prod.toNat + size.toNat - cons.toNat) % max 1 size.toNat

/-- Entries may be written: enabled and not held (R324, R517). -/
def State.ringsOpen (s : State) : Bool := s.regs.enable && !s.regs.dmaHeld && s.canSend

/-! ## Completions -/

/-- Every outcome entry of the job is durable (R245). -/
def State.outcomesDurable (s : State) (id : JobId) : Bool :=
  s.bank.journal.all (fun e => e.jobId != id || match e.outcome with | some o => o.durable | none => true)

/-- The completion at the head may be written (R165, R245, R363, R441). -/
def State.completionReady (s : State) (c : Closing) : Bool :=
  s.ringsOpen && !ringFull s.regs.cqTail s.regs.cqHead s.regs.cqSize && c.barriers == 0 &&
    s.faults.fatalWindow.isNone && (c.status == .indeterminate || s.outcomesDurable c.jobId)

/-- One completion: result bytes, entry, tail, message (R16, R322). -/
def writeCompletion (s : State) : State :=
  match s.closing with
  | [] => s
  | c :: rest =>
    if s.completionReady c then
      let i := s.regs.cqTail
      let t := nextIndex i s.regs.cqSize
      let s := { s with closing := rest }
      let s := if c.result.isEmpty then s else emit (.result c.resultAddr c.result) s
      let s := emit (.completion i.toNat c) s
      fireIrq 0 (emit (.cqTail t.toNat) { s with regs.cqTail := t })
    else s

/-! ## Events -/

/-- One event entry, tail and message (R166); the ring has room. -/
def writeEntry (e : Event) (dropped : Nat) (s : State) : State :=
  let i := s.regs.eqTail
  let t := nextIndex i s.regs.eqSize
  fireIrq 1 (emit (.eqTail t.toNat) { emit (.event i.toNat e dropped) s with regs.eqTail := t })

def State.eqFull (s : State) : Bool := ringFull s.regs.eqTail s.regs.eqHead s.regs.eqSize

/-- EQ_OVERFLOW comes before any other event once an entry is free (R166). -/
def writeOverflow (s : State) : State :=
  if s.barker.overflow != 0 && s.ringsOpen && !s.eqFull then
    let e : Event := { code := 0x0204, slot := none, arg := BitVec.ofNat 32 s.barker.overflow, time := s.regs.time }
    writeEntry e 0 { s with barker.overflow := 0 }
  else s

/-- An entry is written, or counted when the ring is full (R166). -/
def putEntry (e : Event) (dropped : Nat) (s : State) : State :=
  let s := writeOverflow s
  if s.eqFull then { s with barker.overflow := s.barker.overflow + 1 } else writeEntry e dropped s

/-- The slot wrote an event in the 10 ms before this one arose (R178). -/
def Barker.limited (b : Barker) (e : Event) : Bool :=
  match e.slot with
  | none => false
  | some n =>
    match b.lastAt[n.val] with
    | none => false
    | some t => e.time.toNat < t.toNat + 10000

/-- The event counts as written for its slot's limit, and DROPPED restarts (R178). -/
def Barker.note (b : Barker) (e : Event) : Barker :=
  match e.slot with
  | none => b
  | some n => { b with lastAt := b.lastAt.set n.val (some e.time) n.isLt, dropped := b.dropped.set n.val 0 n.isLt }

/-- DROPPED of an event of a slot (R177, R178). -/
def Barker.droppedOf (b : Barker) (e : Event) : Nat :=
  match e.slot with
  | none => 0
  | some n => b.dropped[n.val]

/-- DROPPED counts one more, saturating (R177). -/
def Barker.drop (b : Barker) (e : Event) : Barker :=
  match e.slot with
  | none => b
  | some n => { b with dropped := b.dropped.set n.val (min 255 (b.dropped[n.val] + 1)) n.isLt }

/-- The Barker deals with the oldest waiting event: dropped by the rate limit, held while the device is
disabled, written, or counted when the ring is full (R166, R178, R517). While DMA is held it waits. -/
def writeEvent (s : State) : State :=
  match s.barker.queue with
  | [] => s
  | e :: rest =>
    let b := { s.barker with queue := rest }
    if b.limited e then { s with barker := b.drop e }
    else if !s.regs.enable then
      if b.held.length ≥ 64 then { s with barker := { b with overflow := b.overflow + 1 } }
      else { s with barker := { b.note e with held := b.held ++ [(e, b.droppedOf e)] } }
    else if !s.ringsOpen then s
    else
      let s := writeOverflow { s with barker := b }
      if s.eqFull then { s with barker.overflow := s.barker.overflow + 1 }
      else writeEntry e (s.barker.droppedOf e) { s with barker := s.barker.note e }

/-- The held events at PASS: EQ_OVERFLOW first, then each in order (R517). -/
def flushHeld (s : State) : State :=
  let held := s.barker.held
  let s := writeOverflow { s with barker.held := [] }
  forEach held (fun e s => putEntry e.1 e.2 s) s

/-- All that is held goes out, in order: completions, then events (R324). -/
def flushRings (s : State) : State :=
  let s := forEach (List.range s.closing.length) (fun _ s => writeCompletion s) s
  forEach (List.range s.barker.queue.length) (fun _ s => writeEvent s) s

end Sys2Proof.Machine
end

