-- ==== Sys2Proof/Machine/HostLink.lean ====
section
/-! DEFINITION. The host link: DMA holds, MSI-X, refused BAR requests, the configuration checks, the
wind-down and the slot enables (10_host_link, 11_register_reference). -/

namespace Sys2Proof.Machine

open Sys2Proof

/-! ## DMA, MSI-X, BAR requests -/

/-- DMA_HOLD (R324): Bus Master Enable is cleared, or the function enters D3hot. -/
def execDmaHold (d3hot : Bool) (s : State) : Out :=
  s.gate s.mainUp (fun s =>
    let s := if d3hot then { s with regs.d3hot := true } else { s with regs.busMaster := false }
    if s.regs.enable && !s.regs.dmaHeld then
      latchError 0x0A04 .device none false { s with regs.dmaHeld := true }
    else s)

/-- Pending vectors that are no longer masked are sent (R318, R321, R324). -/
def sendPending (s : State) : State :=
  forEach (List.range 32) (fun n s =>
    if bit s.regs.msixPending n && !bit s.regs.msixMask n && s.canSend then
      emit (.msix n) { s with regs.msixPending := s.regs.msixPending &&& ~~~(BitVec.ofNat 32 (2 ^ n)) }
    else s) s

/-- DMA_RESUMED (R324): both conditions are lifted; the event is raised and what was held is written in
order. -/
def execDmaResumed (s : State) : Out :=
  s.gate s.mainUp (fun s =>
    let held := s.regs.dmaHeld
    let s := { s with regs.busMaster := true, regs.d3hot := false, regs.dmaHeld := false }
    let s := if held then flushRings (raise 0x0A02 none s.closing.length s) else s
    sendPending s)

/-- MSIX_UNMASK (R318, R321): the vector's mask bit is cleared; a pending message is sent. -/
def execMsixUnmask (vec : Fin 32) (s : State) : Out :=
  s.gate s.mainUp (fun s =>
    sendPending { s with regs.msixMask := s.regs.msixMask &&& ~~~(BitVec.ofNat 32 (2 ^ vec.val)) })

/-- BAR_ACCESS_REFUSED (R319, R325): a long request, and any while Memory Space Enable is 0, completes with
Unsupported Request; a partial or poisoned write is dropped. -/
def execBarAccessRefused (r : BarRefusal) (s : State) : Out :=
  s.gate s.mainUp (fun s =>
    match r with
    | .tooLong | .memDisabled => emit .unsupported s
    | .partialWrite | .poisonedWrite => s)

/-! ## The device check (R310, R312) -/

/-- CFG_CHECK's status is RUNNING (R308). -/
def State.checkRunning (s : State) : Bool := field s.regs.cfgCheck 0 2 == 1

/-- A write is dropped during a check: WR_DROPPED (R313). -/
def dropWrite (s : State) : State := { s with regs.cfgCheck := s.regs.cfgCheck ||| 8 }

/-- A failed condition: reason code, OBJ_KIND, OBJ_INDEX. -/
abbrev CheckFail := Nat × Nat × Nat

/-- OBJ_INDEX of a register field (R309). -/
def fieldObj (off lsb : Nat) : Nat := off / 4 * 64 + lsb

/-- A ring size the manual allows (R161). -/
def ringSizeOk (n : Nat) : Bool := n ∈ [16, 32, 64, 128, 256, 512, 1024, 2048, 4096, 8192, 16384, 32768, 65536]

def overlaps (a la b lb : Nat) : Bool := a < b + lb && b < a + la

/-- Inductor values the option area may name, in nH (R272). -/
def inductorOk (v : Nat) : Bool := v == 2200 || v == 3300 || v == 4700

def failIf (c : Bool) (f : CheckFail) : List CheckFail := if c then [f] else []

def lcFails (s : State) : List CheckFail :=
  failIf (s.nv.lc == .manufacturing) (0x60, 0, 0) ++ failIf (s.nv.lc == .fencedSecure) (0x61, 0, 0) ++
  failIf (s.nv.lc == .terminated) (0x62, 0, 0) ++ failIf s.standby.tamper.isSome (0x63, 0, 0) ++
  failIf (s.nv.keystoreKey.isNone || !s.power.board.keystoreOk) (0x64, 0, 0)

def hostFails (s : State) : List CheckFail :=
  let r := s.regs
  let tl := r.tbSize.toNat * 64
  let cl := r.cqSize.toNat * 32
  let el := r.eqSize.toNat * 16
  failIf (field r.tbBase 0 12 != 0) (0x01, 5, fieldObj 0x018 0) ++
  failIf (field r.cqBase 0 12 != 0) (0x01, 5, fieldObj 0x02C 0) ++
  failIf (field r.eqBase 0 12 != 0) (0x01, 5, fieldObj 0x040 0) ++
  failIf (!ringSizeOk r.tbSize.toNat) (0x02, 5, fieldObj 0x020 0) ++
  failIf (!ringSizeOk r.cqSize.toNat) (0x02, 5, fieldObj 0x034 0) ++
  failIf (!ringSizeOk r.eqSize.toNat) (0x02, 5, fieldObj 0x048 0) ++
  failIf (overlaps r.tbBase.toNat tl r.cqBase.toNat cl) (0x03, 5, fieldObj 0x02C 0) ++
  failIf (overlaps r.tbBase.toNat tl r.eqBase.toNat el || overlaps r.cqBase.toNat cl r.eqBase.toNat el)
    (0x03, 5, fieldObj 0x040 0) ++
  failIf (!r.busMaster) (0x04, 0, 0) ++
  (match s.power.board.supplyFail with | some (c, _) => [(0x05, 6, c.code)] | none => []) ++
  failIf (!r.booted) (0x06, 0, 0) ++
  failIf (!(List.finRange 4).any s.pairUp) (0x07, 0, 0) ++
  failIf (!s.bank.planStored && !s.power.board.factoryPlanOk) (0x08, 0, 0)

/-- The lowest-numbered object of a list that fails a test. -/
def firstObj {α : Type} (l : List α) (p : α → Bool) (code kind : Nat) (idx : α → Nat) : List CheckFail :=
  match l.find? p with
  | some a => [(code, kind, idx a)]
  | none => []

def powerFails (s : State) : List CheckFail :=
  let r := s.regs
  firstObj (List.finRange 8) (fun g => !inductorOk (s.ring g).inductor) 0x30 2 (·.val) ++
  failIf (!(1 ≤ r.ringTokens && r.ringTokens ≤ 4)) (0x31, 5, fieldObj 0x080 0) ++
  failIf (!(1 ≤ r.globalTokens && r.globalTokens ≤ 16)) (0x32, 5, fieldObj 0x080 4) ++
  failIf (r.globalTokens < r.ringTokens) (0x33, 5, fieldObj 0x080 4) ++
  failIf (!s.power.vinOk) (0x34, 0, 0) ++
  failIf (r.powerBudget &&& ~~~powerBudgetWritable != 0)
    (0x35, 5, fieldObj 0x080 (if bit r.powerBudget 3 then 3 else 9))

/-- The targets in order of number (R309). -/
def State.targets (s : State) : List TargetReport :=
  (List.finRange 32).filterMap (fun i => s.power.board.targets.find? (fun t => t.target == i))

def bankFails (s : State) : List CheckFail :=
  let l := s.targets
  let idx (t : TargetReport) : Nat := t.target.val
  let differs (t : TargetReport) : Bool :=
    match l.head? with
    | some t0 => t.geometry != t0.geometry || t.endurance != t0.endurance
    | none => false
  failIf (((List.finRange 8).filter s.populated).length < 2) (0x40, 0, 0) ++
  firstObj l (fun t => t.fail == some .init) 0x41 4 idx ++
  firstObj l differs 0x42 4 idx ++
  firstObj l (fun t => t.fail == some .timingMode) 0x43 4 idx ++
  firstObj l (fun t => t.fail == some .modeVerify) 0x44 4 idx ++
  firstObj l (fun t => !(t.mainBytes == 8192 || t.mainBytes == 16384) || codewords t < 4) 0x45 4 idx ++
  failIf ((l.map (·.capacity)).sum > 4000000000000) (0x46, 0, 0)

def policyFails (s : State) : List CheckFail :=
  failIf (s.regs.schedPolicy &&& ~~~schedPolicyWritable != 0)
    (0x50, 5, fieldObj 0x088 (if field s.regs.schedPolicy 4 4 != 0 then 4 else 24))

/-- The conditions of a device check that fail, in the order of R310. -/
def State.deviceFails (s : State) : List CheckFail :=
  lcFails s ++ hostFails s ++ powerFails s ++ bankFails s ++ policyFails s

/-- CFG_CHECK at the end of a check (R308): WR_DROPPED and SOURCE stay. -/
def checkReport (old : W32) (f : Option CheckFail) : W32 :=
  let keep := bitAt (bit old 2) 2 + bitAt (bit old 3) 3
  match f with
  | none => BitVec.ofNat 32 (2 + keep)
  | some (code, kind, idx) => BitVec.ofNat 32 (3 + keep + code * 2 ^ 8 + kind * 2 ^ 16 + idx * 2 ^ 20)

/-- DEVICE_CHECK (R310, R313): a write of 1 to GCTRL.ENABLE. -/
def execDeviceCheck (s : State) : Out :=
  s.hostWrite 0x00C (fun s =>
    if s.checkRunning then dropWrite s
    else if s.regs.enable then s
    else { s with regs.cfgCheck := 1, regs.checkSlot := none })

/-- DEVICE_CHECK_END (R308, R310, R277, R517). -/
def execDeviceCheckEnd (s : State) : Out :=
  s.gate (s.mainUp && s.checkRunning && s.regs.checkSlot.isNone) (fun s =>
    match s.deviceFails.head? with
    | some f => fireIrq 3 { s with regs.cfgCheck := checkReport s.regs.cfgCheck (some f) }
    | none =>
      let s := fireIrq 3 { s with regs.cfgCheck := checkReport s.regs.cfgCheck none, regs.enable := true }
      forEach (List.finRange 8) startConverter (flushHeld s))

/-! ## Wind-down (R316) -/

/-- A job stops at its next step boundary (R226); one that has no exchange on the wire is at one. -/
def askCancel (id : JobId) (err : W16) (s : State) : State :=
  s.updJob id (fun j => { j with cancelWith := some (j.cancelWith.getD err) })

/-- Nothing of the job is on the wire or waits to be reported: it stands at a step boundary (R226, R305). -/
def State.atBoundary (s : State) (n : SlotId) : Bool :=
  let x := s.slot n
  x.exch.isNone && x.ended.isEmpty &&
    (match x.gal with | some g => g.window.isEmpty && g.giveUp.isNone | none => true) && x.unsettled.isEmpty

/-- A cancelled job that stands at a step boundary ends now; its slot deactivates (R180, R226). -/
def cancelNow (id : JobId) (s : State) : State :=
  match s.findJob id with
  | none => s
  | some j =>
    match j.cancelWith, j.slot with
    | some err, some n =>
      if j.phase == .started && s.atBoundary n then
        startNormal n .jobEnd false (endJob id .cancelled err s)
      else s
    | _, _ => s

/-- A converter that is off, out of admission (R273). -/
def Ring.stop (r : Ring) : Ring :=
  { r with phase := .off, joined := false, downHold := false, postponed := false, checkDue := false }

/-- The converter of a ring with no enabled slot is off once none of its slots has power (R273). -/
def stopUnused (r : RingId) (s : State) : State :=
  if (ringSlots r).all (fun n => !(s.slot n).enable && !(s.slot n).phase.powered) then s.updRing r Ring.stop else s

def stopAllConverters (s : State) : State := { s with rings := s.rings.map Ring.stop }

/-- No slot is powered or waits to be. -/
def State.allDown (s : State) : Bool := s.slots.all (fun x => !x.phase.powered && x.phase != .powerWait)

/-- Step 6 of a wind-down: the converters stop once no job runs and every slot is down (R316). -/
def windDownStep6 (s : State) : State :=
  if s.regs.windDown && s.jobs.isEmpty && s.allDown then stopAllConverters s else s

/-- Steps 1 to 6 of a wind-down (R316). -/
def beginWindDown (s : State) : State :=
  let s := { s with regs.windDown := true }
  let s := forEach ((s.jobs.filter (fun j => j.phase == .queued || j.phase == .placed)).map (·.ticket.jobId))
    (fun id s => endJob id .cancelled 0x0A03 s) s
  let s := forEach ((s.jobs.filter (fun j => j.phase == .started && !j.ticket.nonIdempotent)).map (·.ticket.jobId))
    (fun id s => cancelNow id (askCancel id 0x0A03 s)) s
  windDownStep6 (forEach (List.finRange 64) (fun n s =>
    if (s.slot n).job.isNone then
      let s := leaveQueue n s
      if (s.slot n).phase.live then startNormal n .disable false s else s
    else s) s)

/-- WIND_DOWN (R316): a write of 0 to GCTRL.ENABLE while it reads 1. -/
def execWindDown (s : State) : Out :=
  s.hostWrite 0x00C (fun s => if s.regs.enable && !s.regs.windDown then beginWindDown s else s)

/-- Everything of R316 up to step 7 is done: no job, every slot down, every completion and event written. -/
def State.windDownDone (s : State) : Bool :=
  s.jobs.isEmpty && s.allDown && s.closing.isEmpty &&
    s.barker.queue.isEmpty && s.barker.overflow == 0

/-- WIND_DOWN_END (R316 steps 6 to 8): READY falls, ENABLE reads 0, the converters stop. -/
def execWindDownEnd (s : State) : Out :=
  s.gate (s.mainUp && s.regs.windDown && s.windDownDone) (fun s =>
    let s := stopAllConverters s
    let s := if s.regs.ready then fireIrq 4 { s with regs.ready := false } else s
    fireIrq 10 { s with regs.enable := false, regs.windDown := false })

/-- GCTRL_PAUSE (R338). -/
def execGctrlPause (pause : Bool) (s : State) : Out :=
  s.hostWrite 0x00C (fun s => { s with regs.pause := pause })

/-! ## The slot window (R311, R314, R344 to R348) -/

/-- Which of codes 0x11 to 0x17 values of SLOT_CFG_A and SLOT_CFG_B break, lowest first (R312). -/
def cfgFault (a b : W32) : Option Nat :=
  let div := field a 4 10
  let low := field a 14 10
  if a &&& ~~~cfgAWritable != 0 || b &&& ~~~cfgBWritable != 0 then some 0x11
  else if field a 0 3 == 0 then some 0x12
  else if !(192 ≤ div && div ≤ 960) then some 0x13
  else if !(48 ≤ low && low ≤ 960) then some 0x14
  else if field b 3 2 == 3 then some 0x15
  else if field b 8 3 == 0 then some 0x16
  else if field a 24 4 == 0xF then some 0x17
  else none

/-- SLOT_ENABLE (R311, R313): a write of 1 to SLOT_CTRL.ENABLE of the slot in SLOT_SEL. -/
def execSlotEnable (s : State) : Out :=
  s.hostWrite 0x068 (fun s =>
    if s.checkRunning then dropWrite s
    else if (s.slot s.regs.slotSel).enable then s
    else { s with regs.cfgCheck := 5, regs.checkSlot := some s.regs.slotSel })

/-- The first failed condition of a slot check before its comparators (R311, R470). -/
def State.slotFail (s : State) (n : SlotId) : Option CheckFail :=
  let x := s.slot n
  if !s.regs.enable then some (0x10, 1, n.val)
  else match cfgFault x.cfgA x.cfgB with
  | some c => some (c, 1, n.val)
  | none =>
    if x.phase == .bist || s.ringUnderTest (ringOf n) then some (0x18, 1, n.val)
    else if (s.ring (ringOf n)).fenced then some (0x19, 2, (ringOf n).val)
    else if !inductorOk (s.ring (ringOf n)).inductor then some (0x30, 2, (ringOf n).val)
    else none

/-- A passed slot check enables its slot (R308, R311), and its ring's converter may start (R277). -/
def enableSlot (n : SlotId) (s : State) : State :=
  startConverter (ringOf n) (s.updSlot n (fun x => { x with enable := true }))

/-- The report of a slot check; `failed` is the comparator and step that failed (R308, R311, R305). -/
def endSlotCheckOf (n : SlotId) (failed : Option (CompId × Nat)) (s : State) : State :=
  match s.slotFail n, failed with
  | some f, _ => fireIrq 3 { s with regs.cfgCheck := checkReport s.regs.cfgCheck (some f) }
  | none, some (c, k) =>
    let f : CheckFail := (0x1A, 6, n.val * 64 + c.code)
    failSlotComp n c k (fireIrq 3 { s with regs.cfgCheck := checkReport s.regs.cfgCheck (some f) })
  | none, none => enableSlot n (fireIrq 3 { s with regs.cfgCheck := checkReport s.regs.cfgCheck none })

/-- A slot leaves placement: ENABLE cleared, a powered slot deactivates normally with cause DISABLE, a
waiting request leaves the queue, a class step due is dropped; its job is a job whose slot was deactivated
(R47, R72, R347, R348). -/
def disableSlot (n : SlotId) (s : State) : State :=
  let s := s.updSlot n (fun x => { x with enable := false, actWait := false })
  let x := s.slot n
  stopUnused (ringOf n)
    (if x.phase.live then loseNormal n .disable s
     else if x.phase == .powerWait then lostJob n .disable (leaveQueue n s)
     else if x.phase == .off then lostJob n .disable (s.updSlot n (fun x => { x with stepTo := none }))
     else s)

/-- SLOT_CHECK_END (R308, R311, R305, R277, R377): a slot that SLOT_OFF named meanwhile is switched off at once. -/
def execSlotCheckEnd (failed : Option (CompId × Nat)) (s : State) : Out :=
  match s.regs.checkSlot with
  | none => .next s
  | some n =>
    s.gate (s.mainUp && s.checkRunning) (fun s =>
      let s := endSlotCheckOf n failed { s with regs.checkSlot := none }
      if s.side.slotOffWait.contains n then slotOffDone n (disableSlot n s) else s)

/-- SLOT_DISABLE (R347): a write of 0 to SLOT_CTRL.ENABLE. -/
def execSlotDisable (s : State) : Out :=
  s.hostWrite 0x068 (fun s => if (s.slot s.regs.slotSel).enable then disableSlot s.regs.slotSel s else s)

/-- SLOT_DEACTIVATE (R72, R74, R347, R348): no effect in a state without VCC; POWER_WAIT leaves the queue. -/
def execSlotDeactivate (s : State) : Out :=
  s.hostWrite 0x068 (fun s =>
    let n := s.regs.slotSel
    let x := s.slot n
    if x.phase.live then
      (loseNormal n .host s).updSlot n (fun x => { x with deactReq := true })
    else if x.phase == .deactivating then s.updSlot n (fun x => { x with deactReq := true })
    else if x.phase == .powerWait then lostJob n .host (leaveQueue n s)
    else s)

/-- SLOT_CLEAR (R52, R72, R74, R457): QUARANTINED, UNSTABLE and a contact fence are lifted. -/
def clearSlot (n : SlotId) (s : State) : State :=
  let x := s.slot n
  let done := fun (s : State) => s.updSlot n (fun x =>
    { x with phase := .off, failCount := 0, activations := 0 })
  match x.phase with
  | .quarantined => done s
  | .unstable =>
    let s := done s
    let s := if x.present then decideAbsent n s else s
    s.updSlot n (fun x => { x with transitions := 0, brokenRuns := 0, unstablePending := false })
  | .fenced =>
    if x.fenceSrc == .contact then
      let p := { s.tight.slots[n.val] with
        vccHist := [], gndHist := [], warn := false,
        ceiling := (SlotPlan.factory n.val).ceiling, ceilingNext := some (SlotPlan.factory n.val).ceiling,
        phases := (SlotPlan.factory n.val).phases, phasesNext := some (SlotPlan.factory n.val).phases,
        goodSweeps := [], sessions := [], sweepOwed := false }
      let s := { s with tight.slots := s.tight.slots.set n.val p n.isLt }
      done (s.updSlot n (fun x => { x with fenceSrc := .none, fenceCode := 0 }))
    else s
  | _ => s

def execSlotClear (s : State) : Out := s.hostWrite 0x068 (fun s => clearSlot s.regs.slotSel s)

/-- A register write keeps reserved bits as they are (R331). -/
def maskWrite (m old v : W32) : W32 := (v &&& m) ||| (old &&& ~~~m)

/-- Clearing CLK_STOP_EN restarts a stopped clock; the slot stays in READY or GALLOPER (R346). -/
def unstopClock (x : Slot) : Slot :=
  let stopped := (x.phase == .ready && x.clk != .run) || (match x.gal with | some g => g.stopped | none => false)
  if x.clkStopEn || !stopped then x
  else { x with clk := .run, gal := x.gal.map (fun g => { g with stopped := false }) }

/-- A GAL_CLK_MAX below the code in force stages the lower code for the next idle (R154, R345). -/
def stageCode (x : Slot) : Slot :=
  { x with gal := x.gal.map (fun g =>
      if x.galClkMax < g.code then { g with staged := some (min x.galClkMax (g.staged.getD x.galClkMax)) } else g) }

/-- A changed CLK_DIV_MIN stages the run clock for the Fi in force while the slot runs in standard mode (R77,
R105). -/
def stageDivider (old : Nat) (x : Slot) : Slot :=
  if x.clkDivMin != old && (x.phase == .ready || x.phase == .busy) && x.gal.isNone then
    let r := x.shadow.getD x.rate
    { x with shadow := some { r with n := max x.clkDivMin ((fiOf x.fiCode).getD (372, 192)).2 } }
  else x

/-- SLOT_CFG_WRITE (R313, R314, R331, R345, R346): `regB` selects SLOT_CFG_B. PRES_POL is stored only
while the slot is disabled; clearing CLK_STOP_EN restarts a stopped clock. -/
def execSlotCfgWrite (regB : Bool) (v : W32) (s : State) : Out :=
  s.hostWrite (if regB then 0x064 else 0x060) (fun s =>
    let n := s.regs.slotSel
    let x := s.slot n
    if s.checkRunning && s.regs.checkSlot == some n then dropWrite s
    else
      let wb := if x.enable then cfgBWritable &&& ~~~1 else cfgBWritable
      let a := if regB then x.cfgA else maskWrite cfgAWritable x.cfgA v
      let b := if regB then maskWrite wb x.cfgB v else x.cfgB
      let bad := if x.enable then cfgFault a b else none
      match bad with
      | some c => raise 0x0A03 (some n) c s
      | none =>
        s.updSlot n (fun x => stageDivider x.clkDivMin (stageCode (unstopClock { x with cfgA := a, cfgB := b }))))

/-- SLOT_SEL_WRITE (R344): a write with a reserved bit set is ignored as a whole. -/
def execSlotSelWrite (v : W32) (s : State) : Out :=
  s.hostWrite 0x05C (fun s =>
    match finOf 64 v.toNat with
    | some n => { s with regs.slotSel := n }
    | none => s)

end Sys2Proof.Machine
end

