-- ==== Sys2Proof/Machine/Reset.lean ====
section
/-! DEFINITION. Reset, boot and the start of the bank: the crypto-erase (R266), the start order (R480)
as one shared operation, and the commands VSTBY_RISE to FLR of the table. -/

namespace Sys2Proof.Machine

open Sys2Proof

/-! ## Crypto-erase (R266, R405) -/

/-- Counters after an erase: kept with their bindings, or restarted at 1 and unbound (R266). -/
def erasedCounters (keep : Bool) (c : Vector Counter 256) : Vector Counter 256 :=
  if keep then c else Vector.replicate 256 { handle := 0, next := 1, top := 0, bound := false }

/-- Steps 4 to 7 of R266: the media key is destroyed (and replaced unless `newKey` is false), every
region but BBT is empty, the counters and the chain continue or restart, and Tightrope goes back to the
factory plan. -/
def cryptoErase (keep newKey : Bool) (s : State) : State :=
  let b := s.bank
  let b : Bank :=
    { b with records := [], profiles := [], keys := [], journal := [], jseqNext := 1, copyDue := false,
             journalFull := false, counters := erasedCounters keep b.counters, rpFail := false,
             rppValid := newKey && b.formatted,
             audit := [], aseqNext := if keep then b.aseqNext else 1,
             chain := if keep then b.chain else List.replicate 32 0,
             trim := if keep then b.trim else 0, attested := if keep then b.attested else 0,
             anchorAseq := if keep then b.anchorAseq else 0,
             anchorChain := if keep then b.anchorChain else List.replicate 32 0,
             issueEnds := [], sealed := false, mediaKey := newKey && b.formatted, planStored := false }
  let s := { s with bank := b, tight := Tight.factoryPlan }
  if newKey then rppWrite s else s

/-- LC_CHANGE audit entry and RPP write: step 2 of R266 (R431). -/
def auditLcChange (old new : LcState) (s : State) : State :=
  rppWrite (audit 0x04 0 0 0 (BitVec.ofNat 64 (old.code + new.code * 256)) 0 s)

/-- What a level 2 detection destroys (R425 steps 2 and 4, R405): nothing more in TERMINATED, keys only in
FENCED_SECURE. -/
def tamperWipe (s : State) : State :=
  match s.nv.lc with
  | .terminated | .fencedSecure => s
  | old =>
    let s := auditLcChange old .fencedSecure s
    let s := cryptoErase false true s
    { s with nv.lc := .fencedSecure, nv.keystoreKey := none }

/-! ## Bank selection (R483, R484, R485) -/

/-- The image of a bank passes R483 against the SVN floor. -/
def imagePasses (floor : W16) (b : FwBank) : Bool :=
  match b.image with
  | some i => i.formOk && i.verified && floor.toNat ≤ i.svn.toNat
  | none => false

/-- Why boot refuses a bank: 0 none, 1 EIP, 2 VALID clear, 3 image check (R484, R494). -/
def bankRefusal (floor : W16) (b : FwBank) : Nat :=
  if b.eip then 1 else if !b.valid then 2 else if !imagePasses floor b then 3 else 0

def OptionArea.fwBank (o : OptionArea) (isB : Bool) : FwBank := if isB then o.bankB else o.bankA

def OptionArea.setBank (o : OptionArea) (isB : Bool) (f : FwBank → FwBank) : OptionArea :=
  if isB then { o with bankB := f o.bankB } else { o with bankA := f o.bankA }

/-- Why NEXT is refused: as a bank, or 4 for a trial that is used up (R484). -/
def nextRefusal (o : OptionArea) : Nat :=
  let r := bankRefusal o.svnFloor (o.fwBank o.nextB)
  if r != 0 then r else if !o.confirmed && o.trial == 0 then 4 else 0

/-- The bank chosen, none for the recovery loader (R484, R485). -/
def chooseBank (o : OptionArea) : Option Bool :=
  if nextRefusal o == 0 then some o.nextB
  else if bankRefusal o.svnFloor (o.fwBank (!o.nextB)) == 0 then some (!o.nextB)
  else none

/-- The standby bank's state at start: VALID, EMPTY, or ERASING again behind an EIP marker (R484, R491). -/
def standbyAtStart (o : OptionArea) (isB : Bool) : BankState :=
  let b := o.fwBank isB
  if b.eip then .erasing else if bankRefusal o.svnFloor b == 0 then .valid else .empty

/-- Step 7 of R480: the bank, its registers and its records (R484 to R486, R491). -/
def selectBank (s : State) : State :=
  let o := s.nv
  match chooseBank o with
  | some isB =>
    let st := standbyAtStart o (!isB)
    let img := (o.fwBank isB).image
    let o' := if isB != o.nextB then { o with nextB := isB, confirmed := true, trial := 0 }
              else if !o.confirmed then { o with trial := o.trial - 1 } else o
    let s := { s with nv := o', power.loader := false,
                      fw := { Fw.reset with activeB := isB, standby := st,
                                            busy := st == .erasing, reErase := st == .erasing,
                                            major := (img.map (·.major)).getD 0,
                                            minor := (img.map (·.minor)).getD 0 } }
    let s := if isB != o.nextB then raise 0x1101 none (bitAt isB 0 + nextRefusal o * 2 ^ 8) s else s
    if st == .erasing then raise 0x1102 none (bitAt (!isB) 0) s else s
  | none =>
    let st := standbyAtStart o false
    let s := { s with power.loader := true,
                      fw := { Fw.reset with activeB := true, standby := st, busy := st == .erasing,
                                            reErase := st == .erasing, major := 0, minor := 0 } }
    if st == .erasing then raise 0x1102 none 0 s else s

/-! ## The start order (R480) -/

/-- What the bank still holds after the wipe: durable journal entries and outcomes (R247, R249). -/
def durableJournal (l : List Intent) : List Intent :=
  (l.filter (·.durable)).map (fun e =>
    { e with queued := false, outcome := e.outcome.filter (fun o => o.durable) })

/-- Jobs cut by the reset did not end DONE; those whose FIRST intent is in the journal still get their
ISSUE_RESULT entry (R182, R262). -/
def issueEndsAfterReset (b : Bank) (jobs : List Job) : List IssueEnd :=
  let cut := jobs.filterMap (fun j => j.counter.map (fun c =>
    ({ jobId := j.ticket.jobId, counter := c.2, ctrIdx := c.1, done := false } : IssueEnd)))
  (b.issueEnds ++ cut).filter (fun i =>
    b.journal.any (fun e => e.durable && e.first && e.jobId == i.jobId && e.counter == i.counter))

def bankAfterReset (b : Bank) (jobs : List Job) : Bank :=
  { b with journal := durableJournal b.journal, copyDue := false, started := false, rppValid := false,
           rpFail := false, issueEnds := issueEndsAfterReset b jobs, attested := 0, journalFull := false }

/-- The plan in the bank survives, the factory plan is taken otherwise (R35); measurements in progress
and readings not in a plan restart. -/
def tightAfterReset (stored : Bool) (t : Tight) : Tight :=
  if stored then
    { t with guardNext := none, guardApplied := t.guardBand, drift := Vector.replicate 4 [],
             slots := t.slots.map (fun p => { p with asks := false }) }
  else Tight.factoryPlan

/-- Recovery counts after a start: a unit fenced before it starts with 2 (R449). -/
def recovAfterReset (units : List (UnitRef × UnitPhase × W16)) (now : Nat)
    (l : List (UnitRef × Nat × Nat)) : List (UnitRef × Nat × Nat) :=
  let fenced := (units.filter (fun e => e.2.1 == .fenced)).map (·.1)
  fenced.map (fun u => (u, 2, now)) ++ l.filter (fun e => !fenced.contains e.1)

/-- The management port over a main-side reset: a PENDING command ends, the lockout and its count end, a
new nonce is drawn (R372, R375, R376, R378). -/
def sideAfterReset (nonce : List Byte) (d : Sideshow) : Sideshow :=
  { d with result := if d.result == .pending then (if d.cmd == 0x21 then .ok else .mainUnavailable)
                     else d.result,
           answer := none, answerBarriers := 0, slotOffWait := [], nonce := nonce, tagFails := 0, locked := false }

/-- Registers at reset; the function's configuration space and the MSI-X table are kept (R334, R480),
unless VCORE itself was absent. -/
def regsAfterReset (src : ResetSource) (r : Regs) : Regs :=
  if src == .vcoreRise then Regs.reset
  else { Regs.reset with busMaster := r.busMaster, d3hot := r.d3hot, msixMask := r.msixMask }

/-- Slots at a start: OFF, or FENCED by the tamper response in FENCED_SECURE (R73, R425). -/
def slotAtStart (lc : LcState) : Slot :=
  if lc == .fencedSecure then
    { Slot.reset with phase := .fenced, fenceSrc := .tamper, fenceCode := 0x0B21 }
  else Slot.reset

/-- Sensors in the row order of R423, from 1 (R430). -/
def sensorCode : Sensor → Nat
  | .mesh => 1 | .light => 2 | .vcoreGlitch => 3 | .vstbyMonitor => 4 | .clockGlitch => 5 | .temperature => 6
  | .selfTest => 7

/-- A tamper detection latched while the main side was unpowered is handled (R28, R426): level 2 wipes,
level 1, counted when it was detected, is logged; a TAMPER event names it (R430). -/
def handleTamper (s : State) : State :=
  match s.standby.tamper with
  | none => s
  | some (level, x) =>
    let s := raise 0x0B06 none (level + sensorCode x * 2 ^ 8) { s with standby.tamper := none }
    if level == 2 then tamperWipe (logStandby 0x0B21 0 0 0 s)
    else logStandby 0x0B20 0 0 0 s

/-- A presence comparator that failed in STANDBY fences its slot at the start (R305). -/
def latchedPresence (e : SlotId × CompId × Nat) (s : State) : State :=
  let s := latchError 0x0902 (.slot e.1) none true s
  let s := raise 0x0901 (some e.1) (0x0902 + e.2.1.code * 2 ^ 16 + e.2.2 * 2 ^ 24 + 0xF * 2 ^ 28) s
  let s := s.updSlot e.1 (fun x => { x with presHeld := true, present := false })
  fenceSlot e.1 .comparator 0x0902 s

/-- A supply comparator that failed its check at reset is reported (R301, R305, R307). -/
def reportSupply (b : Board) (s : State) : State :=
  match b.supplyFail with
  | none => s
  | some (c, k) =>
    raise 0x0901 none (0x0905 + c.code * 2 ^ 16 + (k.val + 1) * 2 ^ 24 + 0xF * 2 ^ 28)
      (latchAt 0x0905 0 0 none none false s)

/-- PRIOR_RESET reports the last standby-log entry (R437, R449). -/
def priorReset (s : State) : State :=
  match s.standby.log.getLast? with
  | some e => raise 0x0F04 none (e.code.toNat + e.seq.toNat * 2 ^ 16) s
  | none => raise 0x0F04 none 0 s

/-- The copy that Sideshow's BIST_RESULT answers from is captured when a run starts and when it ends (R370).
Mark: DEDUCED (log 108). -/
def captureBist (s : State) : State :=
  { s with side.bistCopy := leBytes 4 s.bistCtrl.toNat ++ leBytes 8 s.bist.sig.toNat }

/-- The result of a CORE-scope BIST kept in the AON domain is written (R471, R480 step 7). -/
def restoreCoreBist (s : State) : State :=
  match s.standby.coreBist with
  | none => s
  | some (c, sig) =>
    let b : Bist := { type := bit c 1, scope := BitVec.ofNat 4 (field c 4 4),
                      result := BitVec.ofNat 2 (field c 8 2), repaired := bit c 10, source := bit c 11,
                      failAddrs := field c 16 8, sig := sig, run := none }
    fireIrq 7 (captureBist { s with bist := b, standby.coreBist := none })

/-- The main-side reset with the wipe: steps 1 to 7 of R480 on the board as it stands. A slot whose card had
power restarts in OFF with t_OFF running (R47, R73). -/
def mainReset (src : ResetSource) (board : Board) (s : State) : State :=
  let hot := s.slots.map (fun x => x.tOff || x.vcc != .off)
  let nonce := s.random 16
  let s := s.drew 16
  let dbg := s.random 16
  let s := s.drew 16
  let recov := recovAfterReset s.faults.units s.aonSeconds s.standby.recov
  let s : State :=
    { State.reset with
      pending := s.pending, draws := s.draws, out := s.out, nv := s.nv,
      power := { s.power with main := .up, board := board, vinOk := board.vinOk,
                              vcoreOk := true, refClock := true, loader := false },
      regs := regsAfterReset src s.regs, bank := bankAfterReset s.bank s.jobs,
      standby := { s.standby with recov := recov, presFail := [] },
      side := sideAfterReset nonce s.side,
      sec := { Security.reset with cidNext := s.sec.cidNext, debugNonce := dbg },
      tight := tightAfterReset s.bank.planStored s.tight }
  let pres := s.standby.presFail
  let s := handleTamper s
  let s := { s with slots := hot.map (fun t => { slotAtStart s.nv.lc with tOff := t }) }
  let s := priorReset s
  let s := reportSupply board s
  let s := forEach pres latchedPresence s
  restoreCoreBist (selectBank s)

/-- A reset by a cause that leaves the board as it was. -/
def resetBy (src : ResetSource) (s : State) : State := mainReset src s.power.board s

/-! ## Commands -/

/-- VSTBY_RISE (R365, R374, R449): the standby domain starts empty but for Big Top's latch; the straps
are sampled; every presence filter starts at ABSENT; the main side is held in reset until VCORE rises. -/
def execVstbyRise (straps : BitVec 3) (s : State) : Out :=
  s.gate (!s.power.vstby) (fun s =>
    { s with power := { s.power with vstby := true, main := .off, aonUs := 0 },
             standby := { Standby.reset with tamper := s.standby.tamper },
             side := { Sideshow.reset with straps := straps, nonce := [] },
             slots := Vector.replicate 64 Slot.reset })

/-- Standby-log entry of a reset source that has one (R479). -/
def logSource (src : ResetSource) (s : State) : State :=
  match src with
  | .sideshow reason => logStandby 0 0 0 reason s
  | .deviceWatchdog => logStandby 0x0F08 0 0 0 s
  | .fatalWindow => logStandby (s.faults.fatalWindow.getD 0x0F09) 0 0 0 s
  | .tamperL1 => logStandby 0x0B20 0 0 0 s
  | .tamperL2 => logStandby 0x0B21 0 0 0 s
  | .refClock => logStandby 0x0F01 0 0 0 s
  | .supply => logStandby 0x0F02 0 0 0 s
  | _ => s

/-- MAIN_SIDE_RESET (R479, R480): any source runs the start order. -/
def execMainSideReset (src : ResetSource) (board : Board) (s : State) : Out :=
  s.gate (s.power.vstby && (src == .vcoreRise || s.power.main != .off))
    (fun s => mainReset src board (logSource src s))

/-- BOOTED (R334, R339, R480 step 8). -/
def execBooted (s : State) : Out :=
  s.gate (s.mainUp && !s.regs.booted && !s.power.loader) (fun s =>
    { s with regs.booted := true, regs.marginStatus := s.tight.summary s.refreshListed })

/-- The RPP copy a start takes: the newest whose TAG verifies and whose WC is WCNT, programmed just
before a power loss, or WCNT - 1 (R258). -/
def pickRpp (wcnt : W64) (l : List RppCopy) : Option RppCopy :=
  match l.find? (fun c => c.tagOk && c.wc == wcnt) with
  | some c => some c
  | none => l.find? (fun c => c.tagOk && c.wc.toNat + 1 == wcnt.toNat)

/-- A counter of the RPP state as read, at its RESERVED_TOP + 1; what lay between is skipped (R259). -/
def restoreCounter (i : Fin 256) (h : W32) (top : W64) (s : State) : State :=
  let c := s.bank.counters[i.val]
  let skipped := top.toNat + 1 - c.next.toNat
  let c' : Counter := { c with handle := h, top := top, next := top + 1, bound := h != 0 || i.val == 0 }
  let s := { s with bank.counters := s.bank.counters.set i.val c' i.isLt }
  if skipped == 0 then s
  else
    raise 0x0705 none (i.val + skipped % 2 ^ 24 * 2 ^ 8)
      (audit 0x02 0 i.val 0 c.next (BitVec.ofNat 64 skipped) s)

/-- A new reservation of 256 values for every counter in use (R259). -/
def reserveAll (s : State) : State :=
  { s with bank.counters := s.bank.counters.map (fun c => if c.top == 0 then c else { c with top := c.top + 256 }) }

/-- The RPP check of a start (R258, R259). -/
def startRpp (copies : List RppCopy) (s : State) : State :=
  match pickRpp s.nv.wcnt copies with
  | none => raise 0x070A none s.nv.wcnt.toNat { s with bank.rpFail := true }
  | some c =>
    let s := if c.wc == s.nv.wcnt then { s with nv.wcnt := bumpWcnt s.nv.wcnt } else s
    let s := { s with bank.rppValid := true, bank.rppWc := c.wc, bank.trim := c.trim,
                      bank.anchorAseq := c.anchorAseq, bank.anchorChain := c.anchorChain,
                      bank.jseqNext := BitVec.ofNat 64 (max s.bank.jseqNext.toNat (c.jseqHw.toNat + 1)) }
    let s := forEach (List.finRange 256) (fun i s =>
      match c.counters[i.val]? with
      | some (h, top) => restoreCounter i h top s
      | none => s) s
    rppWrite (reserveAll s)

/-- The journal scan (R249): the open entries are listed, BOOT rises, JSEQ continues. -/
def scanJournal (s : State) : State :=
  let hi := (s.bank.journal.map (fun e => e.jseq.toNat)).foldl max 0
  let s := { s with bank.boot := s.bank.boot + 1,
                    bank.jseqNext := BitVec.ofNat 64 (max s.bank.jseqNext.toNat (hi + 1)) }
  noteJournal (raise 0x0701 none s.openIntents.length s)

/-- BANK_START (R249, R258, R259, R266, R480 step 9): a pending seal first, then the RPP, then the scan. -/
def execBankStart (copies : List RppCopy) (s : State) : Out :=
  s.gate (s.booted && !s.bank.started) (fun s =>
    let s := if s.bank.sealed then cryptoErase true true s else s
    let s := if s.bank.formatted then issueResults (scanJournal (startRpp copies s)) else s
    { s with bank.started := true })

/-- Every ring with an enabled slot is parked and has joined admission, or is fenced (R34, R277). -/
def State.admissionArmed (s : State) : Bool :=
  (List.finRange 8).all (fun r =>
    let x := s.ring r
    x.joined || x.fenced || (ringSlots r).all (fun n => !(s.slot n).enable))

/-- READY_RISE (R34, R320): the plan is loaded, the journal scanned, admission armed. -/
def execReadyRise (s : State) : Out :=
  s.gate (s.booted && s.regs.enable && !s.regs.windDown && !s.regs.ready && s.bank.started && s.admissionArmed)
    (fun s => fireIrq 4 { s with regs.ready := true })

/-- PCIE_RESET (R326, R479). -/
def execPcieReset (kind : LinkReset) (s : State) : Out :=
  s.gate (s.power.vstby && s.power.main != .off) (fun s =>
    resetBy (match kind with | .perst => .perst | .hotReset => .hotReset | .linkDown => .linkDown) s)

/-- FLR (R326): a main-side reset; configuration space is kept and the link stays trained. -/
def execFlr (s : State) : Out := s.gate s.mainUp (fun s => resetBy .flr s)

end Sys2Proof.Machine
end

