-- ==== Sys2Proof/Machine/Fatal.lean ====
section
/-! DEFINITION. The fatal window (R441, R442) as shared operations. -/

namespace Sys2Proof.Machine

open Sys2Proof

/-- Steps 3 and 4 of the fatal window are done: no slot is powered and no journal entry waits (R441). -/
def State.fatalDrained (s : State) : Bool :=
  s.allDown && s.bank.journal.all (fun e =>
    e.durable && (match e.outcome with | some o => o.durable | none => true))

/-- Step 5 of the fatal window when steps 3 and 4 have ended (R441). -/
def fatalProgress (s : State) : State :=
  if s.faults.fatalWindow.isSome && s.fatalDrained then resetBy .fatalWindow s else s

/-- Every powered slot deactivates normally with cause HOST; waiting requests leave (R441 step 3). -/
def fatalDown (s : State) : State :=
  forEach (List.finRange 64) (fun n s => startNormal n .host false (leaveQueue n s)) s

/-- A fatal error (R441, R442): the first opens the window, a second resets at once with FATAL_NESTED in the
standby log. -/
def openFatal (code : W16) (kind index : Nat) (s : State) : State :=
  match s.faults.fatalWindow with
  | some _ => resetBy .fatalWindow (logStandby 0x0F09 0 0 0 s)
  | none =>
    let s := logStandby code kind index 0 (latchAt code kind index none none false s)
    fatalProgress (fatalDown { s with faults.fatalWindow := some code })

/-- A unit is fenced; with no core pair left in service that is fatal (R434, R439, R447, R452). -/
def fenceFully (u : UnitRef) (code : W16) (s : State) : State :=
  let s := fenceUnit u code s
  match u with
  | .pair _ => if (List.finRange 4).any (fun p => s.inService (.pair p)) then s else openFatal 0x0F06 0 0 s
  | _ => s

end Sys2Proof.Machine
end

