-- ==== Sys2Proof/Machine/Image.lean ====
section
/-! DEFINITION. Profile images: reading one and every check the image alone decides (06 R197 to R204,
R206, R207, R210, R212, R213, R215, R216). -/

namespace Sys2Proof.Machine

open Sys2Proof

/-! ## Fields of a step -/

/-- KARG's low nibbles (R201): bits [4k+3:4k]. -/
def Step.nib (s : Step) (k : Nat) : Nat := field s.karg (4 * k) 4
def Step.method (s : Step) : Nat := s.nib 1
/-- JUGGLER's operation and its output offset in the keep area (R201). -/
def Step.jugOp (s : Step) : Nat := field s.karg 0 8
def Step.jugOff (s : Step) : Nat := field s.karg 16 16
/-- SC_OPEN's KVN, i and security level (R201). -/
def Step.kvn (s : Step) : Byte := BitVec.ofNat 8 (field s.karg 8 8)
def Step.scI (s : Step) : Byte := BitVec.ofNat 8 (field s.karg 16 8)
def Step.scSl (s : Step) : Byte := BitVec.ofNat 8 (field s.karg 24 8)

/-- Key operands name a profile key or a job key slot (R210). -/
def operandOk (n : Nat) : Bool := n ≤ 3 || (8 ≤ n && n ≤ 0xF)

/-! ## Checks of one step -/

/-- The template's Lc equals its data length (R207), for each form of a command APDU. -/
def apduOk (t : List Byte) : Bool :=
  let b := t.drop 4
  if t.length < 4 then false
  else if b.length ≤ 1 then true
  else if byteAt b 0 != 0 then
    b.length == (byteAt b 0).toNat + 1 || b.length == (byteAt b 0).toNat + 2
  else if b.length == 3 then true
  else
    let n := beAt b 1 2
    n > 0 && (b.length == n + 3 || b.length == n + 5)

/-- KARG's rules by KIND (R201, R210, R212, R213, R215, R216). -/
def kargOk (scp : Byte) (s : Step) : Bool :=
  let len := s.tmpl.length
  match s.kind.toNat with
  | 1 => s.karg == 0 && apduOk s.tmpl
  | 2 => scp != 0 && operandOk (s.nib 0) && s.method ≤ 2 && (s.method != 2 || scp == 2) &&
      (if scp == 2 then s.scI ∈ ([0x15, 0x55] : List Byte) else s.scI ∈ ([0x00, 0x10, 0x30, 0x70] : List Byte)) &&
      (s.scSl ∈ ([0x01, 0x03, 0x11, 0x13] : List Byte) || (scp == 3 && s.scSl == 0x33))
  | 3 => operandOk (s.nib 0) && s.nib 2 ≤ 7 && 1 ≤ s.nib 3 && s.nib 3 ≤ 4 && field s.karg 16 16 == 0 &&
      (match s.method with
       | 1 => 1 ≤ len && len ≤ 64
       | 2 => s.nib 3 == 4 && len == 16
       | 3 => s.nib 3 ≤ 3 && len == if s.nib 3 == 1 then 16 else 32
       | _ => false)
  | 4 => 1 ≤ s.jugOp && s.jugOp ≤ 0xC && (s.jugOp == 8 || s.jugOp == 9 || operandOk (s.nib 2)) &&
      (!(s.jugOp == 0xB || s.jugOp == 0xC) || s.nib 3 ≤ 7) && s.jugOff ≤ 4096
  | 5 => s.karg == 0
  | _ => false

/-- One substitution entry (R206). -/
def subOk (tmplLen : Nat) (u : Sub) : Bool :=
  1 ≤ u.len && u.len ≤ 4096 && u.dst + u.len ≤ tmplLen && 1 ≤ u.src.toNat && u.src.toNat ≤ 7 &&
  (u.src != 5 || ((u.len == 4 || u.len == 8) && u.sarg == 0)) && (u.src != 6 || u.sarg == 0) &&
  (u.src != 7 || (u.sarg % 16 ≤ 7 && u.sarg / 16 % 16 ≤ 1 && u.sarg / 256 == 0))

/-- Entries do not overlap (R206). -/
def subsApart : List Sub → Bool
  | [] => true
  | u :: us => us.all (fun v => u.dst + u.len ≤ v.dst || v.dst + v.len ≤ u.dst) && subsApart us

/-- A target names a step below N_STEPS or an end (R203). -/
def targetOk (n : Nat) (t : Byte) : Bool := t.toNat < n || t == 0xFD || t == 0xFE

/-- The checks of step k (R199 to R207). -/
def stepOk (p : Profile) (k : Nat) (s : Step) : Bool :=
  let n := p.steps.length
  1 ≤ s.kind.toNat && s.kind.toNat ≤ 5 && !bit s.flags 7 && (!s.wrap || s.isApdu) &&
  !(s.cardChanging && s.reentry) &&
  (if k == 0 then s.isApdu && s.id && !s.wrap && !s.cardChanging &&
      s.subs.all (fun u => u.src == 1 || u.src == 2 || u.src == 6)
    else !s.id) &&
  (targetOk n s.onFail || s.onFail == 0xFF) && (targetOk n s.altTo || s.altTo == 0xFF) &&
  (targetOk n s.next || (s.next == 0xFF && k + 1 < n)) && s.respMax ≤ 2048 && kargOk p.scp s &&
  s.subs.all (subOk s.tmpl.length) && subsApart s.subs &&
  (p.scp != 0 || (!s.wrap && s.subs.all (fun u => u.src != 7)))

/-! ## Reading -/

def readSub (b : List Byte) : Sub :=
  { dst := leAt b 0 2, len := leAt b 2 2, src := byteAt b 4, sarg := leAt b 5 3 }

/-- A step record with its template and substitutions (R200); RESP_MAX counts 16 bytes. -/
def readStep (area r : List Byte) : Step :=
  { kind := byteAt r 0, flags := byteAt r 1, tmpl := slice area (leAt r 2 2) (leAt r 4 2),
    subs := (List.range (byteAt r 8).toNat).map (fun i => readSub (slice area (leAt r 6 2 + 8 * i) 8)),
    onFail := byteAt r 9, expSw := BitVec.ofNat 16 (leAt r 10 2), expMask := BitVec.ofNat 16 (leAt r 12 2),
    altSw := BitVec.ofNat 16 (leAt r 14 2), altMask := BitVec.ofNat 16 (leAt r 16 2), altTo := byteAt r 18,
    respMax := 16 * (byteAt r 19).toNat, failErr := BitVec.ofNat 16 (leAt r 20 2), exchLimit := leAt r 22 2,
    karg := BitVec.ofNat 32 (leAt r 24 4), next := byteAt r 28 }

/-- Ranges and zero bytes of a step record (R200). -/
def recordOk (areaLen : Nat) (r : List Byte) : Bool :=
  leAt r 2 2 + leAt r 4 2 ≤ areaLen && (byteAt r 8).toNat ≤ 32 &&
    leAt r 6 2 + 8 * (byteAt r 8).toNat ≤ areaLen && allZero (slice r 29 3)

/-- The profile an image spells, before its checks (R198). -/
def readProfile (img : List Byte) : Profile :=
  let n := (byteAt img 5).toNat
  let area := img.drop (64 + 32 * n)
  { id := BitVec.ofNat 16 (leAt img 0 2), pflags := byteAt img 3, classes := byteAt img 4, scp := byteAt img 6,
    ahead := (byteAt img 7).toNat, busyLimit := leAt img 8 2, exchDefault := leAt img 10 2,
    minRecord := leAt img 14 2,
    keys := (List.range 4).map (fun i => BitVec.ofNat 32 (leAt img (16 + 4 * i) 4)),
    steps := (List.range n).map (fun k => readStep area (slice img (64 + 32 * k) 32)) }

/-- The header's own checks (R197, R198). -/
def imageHeaderOk (img : List Byte) : Bool :=
  let n := (byteAt img 5).toNat
  64 ≤ img.length && img.length ≤ 65536 && img.length == 64 + 32 * n + leAt img 12 2 &&
  leAt img 0 2 != 0 && byteAt img 2 == 1 && (byteAt img 3).toNat < 4 && (byteAt img 4).toNat < 8 &&
  byteAt img 4 != 0 && 1 ≤ n && n ≤ 253 && (byteAt img 6 ∈ ([0, 2, 3] : List Byte)) &&
  1 ≤ (byteAt img 7).toNat && (byteAt img 7).toNat ≤ 4 && leAt img 8 2 ≤ 10000 &&
  allZero (slice img 32 28) &&
  leAt img 60 4 == (crc32 (img.take 60 ++ [0, 0, 0, 0] ++ img.drop 64)).toNat

/-- The profile of an image that passes every image check (R197). -/
def parseProfile (img : List Byte) : Option Profile :=
  let p := readProfile img
  let n := (byteAt img 5).toNat
  if imageHeaderOk img &&
      (List.range n).all (fun k => recordOk (leAt img 12 2) (slice img (64 + 32 * k) 32)) &&
      (p.steps.zipIdx).all (fun e => stepOk p e.2 e.1) then
    some p
  else none

/-- The Galloper busy limit and the exchange limit of a step, in ms (R198, R200). -/
def Profile.busyMs (p : Profile) : Nat := if p.busyLimit == 0 then 500 else p.busyLimit
def Profile.limitMs (p : Profile) (s : Step) : Nat :=
  if s.exchLimit != 0 then s.exchLimit else if p.exchDefault != 0 then p.exchDefault else 5000

/-- Any step changes the card (R248, R258). -/
def Profile.changesCard (p : Profile) : Bool := p.steps.any Step.cardChanging

end Sys2Proof.Machine
end

