-- ==== Sys2Proof/Machine/Tickets.lean ====
section
/-! DEFINITION. Tickets (05_jobs_and_placement): fetching and checking them, what every ticket that runs
at once shares, and the SLOT_ADMIN actions that touch no card. -/

namespace Sys2Proof.Machine

open Sys2Proof

/-! ## Profiles and records as stored -/

/-- The stored image of a profile, none when there is none (R243). -/
def State.image (s : State) (id : W16) : Option (List Byte) :=
  (s.bank.profiles.find? (fun e => e.1 == id)).map (·.2)

/-- A stored profile that passes its checks (R197). -/
def State.profile (s : State) (id : W16) : Option Profile := (s.image id).bind parseProfile

/-- A stored record's version and data (R236); an entry without data is one deleted. -/
def State.record (s : State) (id : W64) : Option (Nat × List Byte) :=
  match s.bank.records.find? (fun e => e.1 == id) with
  | some (_, v, d) => if d.isEmpty then none else some (v, d)
  | none => none

/-! ## Fetching (R163, R171, R323) -/

/-- The first check a ticket fails, in the order of R172 (R171): its completion's status and error. -/
def State.ticketFault (s : State) (t : Ticket) : Option (CStatus × W16) :=
  if !opDefined t.type t.op then some (.rejected, 0x0201)
  else if field t.flags 5 11 != 0 || t.reserved != 0 || (t.paramLen != 0 && t.paramAddr == 0) then
    some (.rejected, 0x0202)
  else if (t.pin.isNone && t.pinSlot != 0xFF) || (t.isSlotAdmin && t.pin.isNone) then some (.rejected, 0x0203)
  else if (s.findJob t.jobId).isSome then some (.rejected, 0x0204)
  else if !t.runsProfile then none
  else if !s.bank.formatted then some (.failed, 0x0701)
  else if (s.image t.profileId).isNone then some (.rejected, 0x0205)
  else if (s.profile t.profileId).isNone then some (.rejected, 0x060A)
  else none

/-- A job as it enters the queue (R180). -/
def newJob (t : Ticket) (now : W64) (seq : Nat) : Job :=
  { ticket := t, phase := .queued, slot := none, lastSlot := 0xFF, gen := 0, lastGen := 0, replaced := 0,
    fetched := now, seq := seq, galloper := false, resultLost := false, late := false, digest := 0,
    exch := .ok, noise := (0, 0), pair := none, jug := none, activated := false, counter := none, run := none, result := [],
    resultTrunc := false, cancelWith := none }

/-- One fetched ticket: TB_HEAD moves past it once it is in the queue or rejected (R14, R171). -/
def takeTicket (t : Ticket) (s : State) : State :=
  let j := newJob t s.regs.time s.place.seqNext
  let s := { s with place.seqNext := s.place.seqNext + 1, regs.tbHead := nextIndex s.regs.tbHead s.regs.tbSize }
  match s.ticketFault t with
  | some (st, err) => pushClosing (closingOf j st err 0) s
  | none => { s with jobs := s.jobs ++ [j] }

/-- Jobs in the ticket queue: those that hold no slot (R180). -/
def State.queueLength (s : State) : Nat := (s.jobs.filter (fun j => j.slot.isNone)).length

/-- Tickets that one read may take (R15, R163). -/
def State.fetchable (s : State) : Nat :=
  min 64 (min (span s.regs.tbHead s.regs.tbTail s.regs.tbSize) (4096 - s.queueLength))

/-- The Ticket Booth fetches (R163, R316, R323, R324, R441). -/
def State.canFetch (s : State) : Bool :=
  s.booted && s.ringsOpen && !s.regs.windDown && !s.regs.fetchStalled && s.faults.fatalWindow.isNone &&
    s.fetchable != 0

/-- TICKET_FETCH (R163, R171). -/
def execTicketFetch (tickets : List Ticket) (s : State) : Out :=
  s.gate s.canFetch (fun s =>
    let l := tickets.take s.fetchable
    forEach l takeTicket (emit (.fetchRead s.regs.tbHead.toNat l.length) { s with regs.fetchFails := 0 }))

/-- FETCH_RETRY (R323): the third failure stops fetching. -/
def execFetchRetry (s : State) : Out :=
  s.gate s.canFetch (fun s =>
    if s.regs.fetchFails + 1 < 3 then { s with regs.fetchFails := s.regs.fetchFails + 1 }
    else
      raise 0x0A01 none s.regs.tbHead.toNat
        (latchError 0x0A01 .device none false { s with regs.fetchFails := 0, regs.fetchStalled := true }))

/-! ## Tickets that run at once -/

/-- A BARRIER job waits for the completions of every job fetched before it (R181). -/
def State.barred (s : State) (j : Job) : Bool :=
  j.ticket.barrier && (s.jobs.any (fun k => k.seq < j.seq) || s.closing.any (fun c => c.seq < j.seq))

/-- A queued ticket that needs no slot may run: READY (R34), not barred, no fatal window; bank and key work
also waits while placement is paused or a life-cycle change runs (R338, R403). -/
def State.mayRun (s : State) (j : Job) : Bool :=
  s.booted && s.regs.ready && s.faults.fatalWindow.isNone && !s.barred j &&
    (j.ticket.type == 6 || (!s.regs.pause && s.sec.changing.isNone))

/-- Run a queued ticket of a TYPE and OP. -/
def runTicket (id : JobId) (type op : Nat) (f : Job → State → State) (s : State) : Out :=
  match s.ticketOf id type op with
  | some j => s.gate (s.mayRun j) (f j)
  | none => .next s

/-- The parameter data of a ticket: PARAM_LEN bytes (R167). -/
def Job.data (j : Job) (param : List Byte) : List Byte := padTo j.ticket.paramLen.toNat param

def Job.paramLen (j : Job) : Nat := j.ticket.paramLen.toNat

/-- A ticket ends DONE with its result (R174). -/
def doneWith (id : JobId) (result : List Byte) (s : State) : State := finish id .done 0 result s

/-- A result of fixed-size entries is cut only between entries (R174). -/
def entriesThatFit (j : Job) (header size : Nat) (l : List (List Byte)) : List (List Byte) :=
  l.take ((j.ticket.resultMax.toNat - header) / size)

/-- The ticket ends DONE with a header and the entries that fit. -/
def doneWithEntries (j : Job) (header : List Byte) (size : Nat) (l : List (List Byte)) (s : State) : State :=
  let kept := entriesThatFit j header.length size l
  let id := j.ticket.jobId
  doneWith id (header ++ kept.flatten)
    (s.updJob id (fun k => { k with resultTrunc := kept.length < l.length }))

/-! ## ISSUE and SAM_OP -/

/-- The engine takes up a placed job: at most 4096 bytes of its parameter data are copied (R206). -/
def takeUp (id : JobId) (param : List Byte) (s : State) : State :=
  s.updJob id (fun j =>
    { j with run := j.run.map (fun r => { r with taken := true, param := (j.data param).take 4096 }) })

/-- A placed job that the engine has not taken up. -/
def State.untaken (s : State) (id : JobId) : Option Job :=
  (s.findJob id).filter (fun j => j.phase == .placed &&
    (match j.run with | some r => !r.taken | none => false))

/-- ISSUE (R168, R206): a NON_IDEMPOTENT job's profile run is taken up. -/
def execIssue (job : JobId) (param : List Byte) (s : State) : Out :=
  match s.untaken job with
  | some j => s.gate (s.booted && j.ticket.isIssue) (takeUp job param)
  | none => .next s

/-- SAM_OP (R168, R206). -/
def execSamOp (job : JobId) (param : List Byte) (s : State) : Out :=
  match s.untaken job with
  | some j => s.gate (s.booted && j.ticket.isSam) (takeUp job param)
  | none => .next s

/-! ## SLOT_ADMIN (R168, R172, R176, R187) -/

/-- The job passes its first byte: STARTED, LATE when its deadline has passed (R169, R176, R180). -/
def startJob (id : JobId) (s : State) : State :=
  s.updJob id (fun j =>
    { j with phase := .started,
             late := j.late || (j.ticket.deadline != 0 && j.ticket.deadline.toNat < s.regs.time.toNat) })

/-- A placed SLOT_ADMIN job of an OP, with its slot; it may start now or its deadline has passed. -/
def adminTicket (id : JobId) (op : Nat) (f : Job → SlotId → State → State) (s : State) : Out :=
  match (s.findJob id).filter (fun j => j.ticket.isSlotAdmin && j.ticket.op.toNat == op && j.phase == .placed) with
  | none => .next s
  | some j =>
    match j.slot with
    | none => .next s
    | some n =>
      s.gate (s.booted && s.faults.fatalWindow.isNone) (fun s =>
        if s.deadlinePassed j then endJob id .cancelled 0x0209 s else f j n s)

/-- ACTIVATE (R47, R168, R172): the ticket ends when the slot reaches READY. -/
def adminActivate (j : Job) (n : SlotId) (s : State) : State :=
  let id := j.ticket.jobId
  if s.canActivate n && (s.slot n).firstClass.isSome then
    requestActivation n ((startJob id s).updJob id (fun j => { j with activated := true }))
  else failJob id 0x020E s

def execActivate (job : JobId) (s : State) : Out := adminTicket job 1 adminActivate s

/-- DEACTIVATE (R55, R74, R168): the ticket ends when the slot is below 0.4 V. -/
def adminDeactivate (j : Job) (n : SlotId) (s : State) : State :=
  let id := j.ticket.jobId
  match (s.slot n).phase with
  | .powerWait => doneWith id [] (leaveQueue n s)
  | .deactivating => startJob id s
  | p => if p.live then startNormal n .host false (startJob id s) else failJob id 0x020E s

def execDeactivate (job : JobId) (s : State) : Out := adminTicket job 2 adminDeactivate s

/-- The KEYSET_ID values of an INVENTORY ticket (R187). -/
def keysetIds (p : List Byte) : List W32 :=
  (List.range (p.length / 4)).map (fun i => BitVec.ofNat 32 (leAt p (4 * i) 4))

/-- INVENTORY (R187): 1 to 64 values, or BAD_FIELD. -/
def adminInventory (param : List Byte) (j : Job) (n : SlotId) (s : State) : State :=
  let id := j.ticket.jobId
  let len := j.paramLen
  if len % 4 == 0 && 4 ≤ len && len ≤ 256 then
    doneWith id [] (s.updSlot n (fun x => { x with inventory := keysetIds (j.data param) }))
  else failJob id 0x0202 s

def execInventory (job : JobId) (param : List Byte) (s : State) : Out := adminTicket job 4 (adminInventory param) s

end Sys2Proof.Machine
end

