-- ==== Sys2Proof/Machine/BankOps.lean ====
section
/-! DEFINITION. BANK_OP tickets (07_data_bank_and_journal R234, R243, R254 to R265) and PARAM_READ_FAIL. -/

namespace Sys2Proof.Machine

open Sys2Proof

/-- Bank work before FORMAT ends NOT_FORMATTED (R268). -/
def bankTicket (id : JobId) (op : Nat) (f : Job → State → State) (s : State) : Out :=
  runTicket id 4 op (fun j s => if s.bank.formatted then f j s else failJob id 0x0701 s) s

/-- An operation that takes no parameter data (R243). -/
def noParam (f : Job → State → State) (j : Job) (s : State) : State :=
  if j.paramLen == 0 then f j s else failJob j.ticket.jobId 0x0202 s

/-- An operation that takes parameter data of one length (R243). -/
def paramOf (len : Nat) (f : Job → State → State) (j : Job) (s : State) : State :=
  if j.paramLen == len then f j s else failJob j.ticket.jobId 0x0202 s

/-! ## FORMAT -/

/-- A target of a new bank: 2 % of its good blocks, and at least 16, are spares (R237). -/
def newTarget (f : FormatParams) (t : TargetReport) : Target :=
  let bad := (f.factoryBad.filter (fun b => b.1 == t.target)).length
  let spares := max 16 ((t.blocks - bad) / 50)
  { id := t.target, endurance := t.endurance, blocks := t.blocks, spares := spares, spares0 := spares,
    offsets := Vector.replicate 4 0, mostCorrected := 0 }

def factoryBadBlock (b : TargetId × Nat) : Block :=
  { target := b.1, index := b.2, bad := true, erases := 0, reads := 0, refresh := false, padDue := false }

/-- The empty bank that FORMAT lays out, with a new media key and RPP (R234, R237, R261, R406). -/
def formattedBank (f : FormatParams) (s : State) : Bank :=
  { Bank.reset with
    formatted := true, fmt := some f, targets := s.targets.map (newTarget f),
    blocks := f.factoryBad.map factoryBadBlock, started := true, boot := s.bank.boot, rppValid := true,
    mediaKey := true,
    counters := Vector.replicate 256 { handle := 0, next := 1, top := 0, bound := false } }

/-- FORMAT (R234, R243, R268): only on an unformatted bank. -/
def execFormat (job : JobId) (param : FormatParams) (s : State) : Out :=
  runTicket job 4 1 (fun _ s =>
    if s.bank.formatted then failJob job 0x0702 s
    else if param.auditBlocksPerTarget < 64 || param.retryLevels > 7 then failJob job 0x0202 s
    else doneWith job [] (rppWrite { s with bank := formattedBank param s })) s

/-! ## Space -/

/-- 1 KiB units of some bytes (R233). -/
def unitsOf (n : Nat) : Nat := (n + 1023) / 1024

/-- Units in use in DATA: records, profile images and keys (R234). -/
def State.usedUnits (s : State) : Nat :=
  (s.bank.records.map (fun r => unitsOf r.2.2.length)).sum +
    (s.bank.profiles.map (fun p => unitsOf p.2.length)).sum + s.bank.keys.length

/-- Units DATA holds: what the audit region, the spares and the mirrored regions leave, less parity (R233,
R234, R237). A target without spares takes no writes. -/
def State.dataUnits (s : State) : Nat :=
  match s.bank.fmt, s.power.board.targets with
  | some f, t :: _ =>
    let n := max 1 s.channelsUp
    let per := (s.bank.targets.map (fun k =>
      if k.spares == 0 then 0 else k.blocks - f.auditBlocksPerTarget - k.spares0)).sum
    (per - 160) * t.pages * codewords t * (n - 1) / n
  | _, _ => 0

/-- Room for some more units (R268 BANK_FULL). -/
def State.hasRoom (s : State) (units : Nat) : Bool := s.usedUnits + units ≤ s.dataUnits

/-! ## Records -/

/-- A record is replaced as a whole, with its next version (R236). -/
def storeRecord (id : W64) (d : List Byte) (s : State) : State :=
  let v := match s.bank.records.find? (fun e => e.1 == id) with | some (_, v, _) => v + 1 | none => 1
  { s with bank.records := (id, v, d) :: s.bank.records.filter (fun e => e.1 != id) }

/-- The entries of a batch in order, none from the first that breaks its limits on (R243): the entries, and
whether all n are there with nothing left over. -/
def readBatch : Nat → List Byte → List (W64 × List Byte) × Bool × Bool
  | 0, p => ([], true, p.isEmpty)
  | n + 1, p =>
    let len := leAt p 8 4
    let padded := (len + 7) / 8 * 8
    if p.length < 16 || len < 1 || len > 45056 || leAt p 12 4 != 0 || p.length < 16 + padded then ([], false, true)
    else
      let rest := readBatch n (p.drop (16 + padded))
      ((BitVec.ofNat 64 (leAt p 0 8), slice p 16 len) :: rest.1, rest.2)

/-- Records are written in order until one finds no room; how many were (R243, R268). -/
def writeBatch : List (W64 × List Byte) → Nat → State → State × Nat × Bool
  | [], n, s => (s, n, true)
  | (id, d) :: l, n, s =>
    if s.hasRoom (unitsOf d.length) then writeBatch l (n + 1) (storeRecord id d s) else (s, n, false)

/-- RECORD_WRITE (R243): each record durable on its own; a failed batch reports how many were written. -/
def recordWrite (param : List Byte) (j : Job) (s : State) : State :=
  let id := j.ticket.jobId
  let n := j.ticket.arg.toNat
  if n < 1 || n > 4096 || j.paramLen > 16777216 then failJob id 0x0202 s
  else
    let b := readBatch n (j.data param)
    if b.2.1 && !b.2.2 then failJob id 0x0202 s
    else
      let w := writeBatch b.1 0 s
      let count := leBytes 4 w.2.1
      if !w.2.2 then finish id .failed 0x0704 count w.1
      else if b.2.1 then doneWith id count w.1
      else finish id .failed 0x0703 count w.1

def execRecordWrite (job : JobId) (param : List Byte) (s : State) : Out :=
  bankTicket job 2 (recordWrite param) s

/-- One RECORD_ID deleted, and counted when it was held (R243). -/
def deleteRecord (id : W64) (a : State × Nat) : State × Nat :=
  if (a.1.record id).isSome then (storeRecord id [] a.1, a.2 + 1) else a

/-- RECORD_DELETE (R243). -/
def recordDelete (param : List Byte) (j : Job) (s : State) : State :=
  let id := j.ticket.jobId
  if j.paramLen % 8 != 0 then failJob id 0x0202 s
  else
    let p := j.data param
    let r := (List.range (j.paramLen / 8)).foldl
      (fun a i => deleteRecord (BitVec.ofNat 64 (leAt p (8 * i) 8)) a) (s, 0)
    doneWith id (leBytes 4 r.2) r.1

def execRecordDelete (job : JobId) (param : List Byte) (s : State) : Out :=
  bankTicket job 3 (recordDelete param) s

/-- PARAM_READ_FAIL (R323): a job before its start ends FAILED with PARAM_READ; a RECORD_WRITE batch keeps and
reports the records that were read whole before the failure. `got` is what was read. -/
def execParamReadFail (job : JobId) (got : List Byte) (s : State) : Out :=
  match s.findJob job with
  | none => .next s
  | some j =>
    s.gate (s.booted && j.ticket.paramLen != 0 &&
        (j.phase == .queued || (j.phase == .placed && (match j.run with | some r => !r.taken | none => true))))
      (fun s =>
        if j.ticket.type == 4 && j.ticket.op == 2 && s.bank.formatted then
          let w := writeBatch (readBatch j.ticket.arg.toNat (got.take (j.paramLen - 1))).1 0 s
          finish job .failed 0x0A02 (leBytes 4 w.2.1) w.1
        else failJob job 0x0A02 s)

/-! ## Profiles -/

/-- PROFILE_WRITE (R197, R243): a bad image stores nothing. -/
def profileWrite (param : List Byte) (j : Job) (s : State) : State :=
  let id := j.ticket.jobId
  let img := j.data param
  match parseProfile img with
  | none => failJob id 0x060A s
  | some p =>
    if !s.hasRoom (unitsOf img.length) then failJob id 0x0704 s
    else doneWith id []
      { s with bank.profiles := (p.id, img) :: s.bank.profiles.filter (fun e => e.1 != p.id) }

def execProfileWrite (job : JobId) (param : List Byte) (s : State) : Out :=
  bankTicket job 4 (profileWrite param) s

/-- A job the device holds names the profile (R243). -/
def State.profileInUse (s : State) (id : W16) : Bool :=
  s.jobs.any (fun j => j.ticket.runsProfile && j.ticket.profileId == id)

/-- PROFILE_DELETE (R243): PROFILE_IN_USE, then NO_PROFILE. -/
def profileDelete (j : Job) (s : State) : State :=
  let id := j.ticket.jobId
  let pid : W16 := BitVec.ofNat 16 j.ticket.arg.toNat
  let known := j.ticket.arg.toNat < 65536
  if known && s.profileInUse pid then failJob id 0x0706 s
  else if !known || (s.image pid).isNone then failJob id 0x0205 s
  else doneWith id [] { s with bank.profiles := s.bank.profiles.filter (fun e => e.1 != pid) }

def execProfileDelete (job : JobId) (s : State) : Out := bankTicket job 5 (noParam profileDelete) s

/-! ## The journal -/

/-- An intent entry's bytes 0 to 59 (R244). -/
def intentHead (e : Intent) : List Byte :=
  [0x01, BitVec.ofNat 8 e.slot.val, BitVec.ofNat 8 e.step,
   BitVec.ofNat 8 (bitAt e.galloper 0 + bitAt e.first 1 + bitAt e.write 2)] ++
  leBytes 4 e.jobId.toNat ++ leBytes 8 e.jseq.toNat ++ leBytes 8 e.digest.toNat ++ leBytes 8 e.recordId.toNat ++
  leBytes 8 e.counter.toNat ++ leBytes 2 e.ctrIdx ++ leBytes 2 e.profileId.toNat ++ leBytes 2 e.gen.toNat ++
  leBytes 2 e.sid.toNat ++ leBytes 2 e.csn.toNat ++ [0, 0] ++ leBytes 4 e.boot.toNat ++ leBytes 4 e.timeMs.toNat

/-- An intent entry's 64 bytes (R244). -/
def intentBytes (e : Intent) : List Byte :=
  let h := intentHead e
  h ++ leBytes 4 (crc32 h).toNat

/-- JOURNAL_LIST (R243): the open entries from a JSEQ on, in JSEQ order. -/
def journalList (param : List Byte) (j : Job) (s : State) : State :=
  if j.paramLen != 0 && j.paramLen != 8 then failJob j.ticket.jobId 0x0202 s
  else
    let first := if j.paramLen == 0 then 0 else leAt (j.data param) 0 8
    let l := sortBy (fun a b => a.jseq.toNat ≤ b.jseq.toNat)
      (s.openIntents.filter (fun e => first ≤ e.jseq.toNat))
    doneWithEntries j [] 64 (l.map intentBytes) s

def execJournalList (job : JobId) (param : List Byte) (s : State) : Out :=
  bankTicket job 6 (journalList param) s

/-- JOURNAL_CLOSE (R246, R254): BAD_FIELD, NO_ENTRY, ENTRY_BUSY, else the host's outcome and its audit entry. -/
def journalClose (param : List Byte) (j : Job) (s : State) : State :=
  let id := j.ticket.jobId
  let p := j.data param
  let oc := byteAt p 8
  let q : W64 := BitVec.ofNat 64 (leAt p 0 8)
  if !(oc == 3 || oc == 4) || !allZero (slice p 9 7) then failJob id 0x0202 s
  else
    match s.openIntents.find? (fun e => e.jseq == q) with
    | none => failJob id 0x0708 s
    | some e =>
      if (s.findJob e.jobId).isSome then failJob id 0x0709 s
      else
        let s := settle q (if oc == 3 then .doneHost else .notDoneHost) 0 5 none s
        let s := audit 0x03 0 e.ctrIdx e.jobId e.counter q s
        doneWith id [] (noteJournal (raise 0x0702 none q.toNat s))

def execJournalClose (job : JobId) (param : List Byte) (s : State) : Out :=
  bankTicket job 7 (paramOf 16 (journalClose param)) s

/-! ## The audit log -/

/-- AUDIT_READ (R243, R261): ASEQ of the first entry returned, entries returned, 4 zero bytes, the entries. -/
def auditRead (param : List Byte) (j : Job) (s : State) : State :=
  let p := j.data param
  let first := leAt p 0 8
  let l := (s.bank.audit.filter (fun e => first ≤ e.aseq.toNat)).take (leAt p 8 4)
  let kept := entriesThatFit j 16 64 (l.map auditBytes)
  let a := match l.head? with | some e => e.aseq.toNat | none => first
  doneWithEntries j (leBytes 8 a ++ leBytes 4 kept.length ++ [0, 0, 0, 0]) 64 (l.map auditBytes) s

def execAuditRead (job : JobId) (param : List Byte) (s : State) : Out :=
  bankTicket job 8 (paramOf 12 (auditRead param)) s

/-- The attested data of R265, before its signature. -/
def attestData (s : State) (nonce : List Byte) : List Byte :=
  let b := s.bank
  padTo 16 nonce ++ leBytes 4 b.boot.toNat ++ leBytes 8 s.nv.wcnt.toNat ++ leBytes 8 b.anchorAseq.toNat ++
    padTo 32 b.anchorChain ++ leBytes 8 b.trim.toNat ++
    b.counters.toList.flatMap (fun c => leBytes 4 c.handle.toNat ++ leBytes 8 (c.next.toNat - 1))

/-- AUDIT_ATTEST (R265): an RPP write first. -/
def auditAttest (param : List Byte) (j : Job) (s : State) : State :=
  let s := rppWrite s
  let d := attestData s (j.data param)
  let sig := padTo 64 (Config.attestSign s.draws (Config.sha256 d))
  doneWith j.ticket.jobId (d ++ sig) { s.drew 32 with bank.attested := s.bank.anchorAseq }

def execAuditAttest (job : JobId) (param : List Byte) (s : State) : Out :=
  bankTicket job 9 (paramOf 16 (auditAttest param)) s

/-- AUDIT_TRIM (R261, R264): BAD_TRIM beyond what was attested. -/
def auditTrim (param : List Byte) (j : Job) (s : State) : State :=
  let id := j.ticket.jobId
  let a := leAt (j.data param) 0 8
  if a > s.bank.attested.toNat then failJob id 0x070D s
  else doneWith id []
    { s with bank.audit := s.bank.audit.filter (fun e => a < e.aseq.toNat),
             bank.trim := BitVec.ofNat 64 (max a s.bank.trim.toNat) }

def execAuditTrim (job : JobId) (param : List Byte) (s : State) : Out :=
  bankTicket job 0xA (paramOf 8 (auditTrim param)) s

/-! ## Status and counters -/

/-- What BANK_STATUS reports: geometry, free units, channel health and spares per target (R243); its layout is
not in the manual. -/
def bankFigures (s : State) : List Nat :=
  let t := s.power.board.targets.head?
  [(t.map (·.geometry.toNat)).getD 0, (t.map (·.pages)).getD 0, (t.map codewords).getD 0,
   s.dataUnits - s.usedUnits, mask 8 (fun c => s.populated c), mask 8 (fun c => s.channelUp c)] ++
    s.bank.targets.map (·.spares)

/-- BANK_STATUS (R243). -/
def execBankStatus (job : JobId) (s : State) : Out :=
  bankTicket job 0xB (noParam (fun _ s => doneWith job (Config.bankStatusLayout (bankFigures s)) s)) s

/-- A job the device holds uses a counter index or the handle bound to it (R255). -/
def State.counterInUse (s : State) (i : Nat) (h : W32) : Bool :=
  s.jobs.any (fun j =>
    (match j.counter with | some (k, _) => k == i | none => false) ||
    (j.ticket.runsProfile &&
      (match s.profile j.ticket.profileId with | some p => p.keys.head? == some h | none => false)))

/-- COUNTER_RELEASE (R255): an RPP write and a COUNTER_RELEASE audit entry; RESERVED_TOP stays. -/
def counterRelease (j : Job) (s : State) : State :=
  let id := j.ticket.jobId
  match finOf 256 j.ticket.arg.toNat with
  | none => failJob id 0x0202 s
  | some i =>
    let c := s.bank.counters[i.val]
    if i.val == 0 then failJob id 0x0202 s
    else if !c.bound then doneWith id [] s
    else if s.bank.keys.any (fun k => k.handle == c.handle) || s.counterInUse i.val c.handle then
      failJob id 0x0710 s
    else
      let free : Counter := { c with handle := 0, bound := false }
      let s := rppWrite { s with bank.counters := s.bank.counters.set i.val free i.isLt }
      doneWith id []
        (audit 0x0A 0 i.val 0 (c.next - 1) (BitVec.ofNat 64 c.handle.toNat) s)

def execCounterRelease (job : JobId) (s : State) : Out := bankTicket job 0xC (noParam counterRelease) s

end Sys2Proof.Machine
end

