-- ==== Sys2Proof/Machine/Checks.lean ====
section
/-! DEFINITION. Consequences of failed comparator checks and of converters that stop, shared by the
monitors, the self-test and the ring faults (09_analogue_monitors R305, 08 R273). -/

namespace Sys2Proof.Machine

open Sys2Proof

/-- The converter of a ring fenced by a failed ring comparator stops once every slot of the ring is
below 0.4 V (R305). -/
def stopIfDown (r : RingId) (s : State) : State :=
  if (s.ring r).stopWhenOff && (ringSlots r).all (fun n => !(s.slot n).phase.powered) then
    s.updRing r (fun x => { x.stop with stopWhenOff := false })
  else s

/-- A ring comparator failed its check: the ring and its slots are fenced, powered slots deactivating
normally with cause HOST (R305, R307). -/
def failRingComp (r : RingId) (c : CompId) (step : Nat) (s : State) : State :=
  let s := latchError 0x0904 (.ring r) none true s
  let s := monFailEvent 0x0904 none c step r.val s
  let s := noteFence (.ring r) 0x0904 s
  stopIfDown r (fenceRing false (fun n => loseNormal n .host) r 0x0904 s)

end Sys2Proof.Machine
end

