-- ==== Sys2Proof/Machine/Bist.lean ====
section
/-! DEFINITION. The built-in self-test (16_self_test): starting a run, the ring run and the domain
run. -/

namespace Sys2Proof.Machine

open Sys2Proof

/-- A scope's ring, for the scopes 0x0 to 0x7 (R466). -/
def scopeRing (scope : BitVec 4) : Option RingId := finOf 8 scope.toNat

/-- A start is allowed (R466, R467). -/
def State.bistAllowed (s : State) (memory source : Bool) (scope : BitVec 4) : Bool :=
  let k := scope.toNat
  k ≤ 0xC && !(memory && k == 0xC) && (k < 8 || !s.regs.enable) && (k != 0xB || source) &&
    !s.regs.windDown && s.sec.changing.isNone &&
    Config.bistSignature memory scope != 0xFFFFFFFFFFFFFFFF

/-- A run that ends NOT_RUN (R355): the BIST interrupt is raised. -/
def endNotRun (s : State) : State :=
  fireIrq 7 (captureBist { s with bist.run := none, bist.result := 3 })

/-- Steps 1 and 2 of a ring run: requests leave the queue, idle powered slots deactivate without the
measurement window (R468). -/
def drainRing (r : RingId) (s : State) : State :=
  forEach (ringSlots r) (fun n s =>
    if (s.slot n).phase == .powerWait then lostJob n .host (leaveQueue n s)
    else if (s.slot n).job.isNone then startNormal n .host true s
    else s) s

/-- The `BIST_CTRL` START of either source: ignored while a run exists, NOT_RUN when not allowed
(R354, R355, R467). A memory run clears the addresses of the last one (R474). -/
def startBist (memory source : Bool) (scope : BitVec 4) (s : State) : State :=
  if s.bist.run.isSome then s
  else
    let s := { s with bist.type := memory, bist.scope := scope, bist.source := source }
    if !s.bistAllowed memory source scope then endNotRun s
    else
      let run : BistRun := { scope := scope, memory := memory, testing := (scopeRing scope).isNone,
                             pass := if memory then 1 else 3, unrepaired := false }
      let s := { s with bist.run := some run, bist.repaired := false, bist.failAddrs := 0,
                        standby.bistFails := if memory then [] else s.standby.bistFails }
      let s := captureBist s
      match scopeRing scope with
      | some r => drainRing r s
      | none => askBarrier .bist s

/-- A start written by the host (R415: refused in FENCED_SECURE and TERMINATED). -/
def hostBist (memory : Bool) (scope : BitVec 4) (s : State) : State :=
  if s.hostLocked then refuseHostWrite 0x0A4 s else startBist memory false scope s

/-- LOGIC_BIST (R354, R466, R467). -/
def execLogicBist (scope : BitVec 4) (s : State) : Out := s.gate s.mainUp (hostBist false scope)

/-- MEMORY_BIST (R354, R466, R467). -/
def execMemoryBist (scope : BitVec 4) (s : State) : Out := s.gate s.mainUp (hostBist true scope)

/-- The ring of the run in progress that has not reached step 3 of R468. -/
def State.draining (s : State) : Option RingId :=
  match s.bist.run with
  | some b => if b.testing then none else scopeRing b.scope
  | none => none

/-- Every slot of the ring is OFF or excluded and no job holds one (R468 steps 2 and 3). -/
def State.ringDrained (s : State) (r : RingId) : Bool :=
  (ringSlots r).all (fun n =>
    let x := s.slot n
    x.job.isNone && (x.phase == .off || x.phase.excluded))

/-- BIST_RING_DRAINED (R468 steps 3 to 5): the OFF slots enter BIST, the converter stops and the barrier
grants the controller its rights. -/
def execBistRingDrained (s : State) : Out :=
  match s.draining with
  | none => .next s
  | some r =>
    s.gate (s.mainUp && s.ringDrained r) (fun s =>
      let s := forEach (ringSlots r) (fun n s =>
        if (s.slot n).phase == .off then
          s.updSlot n (fun x => { x with phase := .bist, stepTo := none, actWait := false }) else s) s
      askBarrier .bist { s.updRing r Ring.stop with
                         bist.run := s.bist.run.map (fun b => { b with testing := true }) })

/-- BIST_DRAIN_TIMEOUT (R469). -/
def execBistDrainTimeout (s : State) : Out := s.gate (s.mainUp && s.draining.isSome) endNotRun

/-- Repairs of a first pass: those a spare covers (R473). -/
def newRepairs (fails : List FailAddr) (old : List (W16 × W16)) : List (W16 × W16) :=
  old ++ ((fails.filter (·.spare)).map (fun f => (f.array, f.row))).filter (fun k => !old.contains k)

/-- BIST_PASS_END (R473): the first pass maps spares and is repeated; a failure no spare covers, or one
that the second pass still finds, leaves the run to end FAIL. -/
def execBistPassEnd (fails : List FailAddr) (s : State) : Out :=
  match s.bist.run with
  | none => .next s
  | some b =>
    s.gate (s.mainUp && b.memory && b.testing && b.pass < 3) (fun s =>
      if b.pass == 1 then
        let bad := fails.any (fun f => !f.spare)
        { s with bist.failAddrs := min 255 fails.length, bist.repaired := fails.any (·.spare),
                 nv.repairs := newRepairs fails s.nv.repairs,
                 standby.bistFails := fails.map (fun f => (f, f.spare)),
                 bist.run := some { b with pass := if fails.isEmpty || bad then 3 else 2, unrepaired := bad } }
      else
        { s with bist.run := some { b with pass := 3, unrepaired := !fails.isEmpty },
                 standby.bistFails := s.standby.bistFails.map (fun e => (e.1, e.2 && !fails.contains e.1)) })

/-- The run passed: the MISR equals its entry and nothing is left unrepaired (R472). -/
def BistRun.passed (b : BistRun) (sig : W64) : Bool :=
  sig == Config.bistSignature b.memory b.scope && !b.unrepaired

/-- The result of a run is written (R468 step 8). -/
def writeResult (b : BistRun) (sig : W64) (s : State) : State :=
  fireIrq 7 (captureBist { s with bist.result := if b.passed sig then 1 else 2, bist.sig := sig, bist.run := none })

/-- Steps 6 and 7 of a ring run: buffers zeroised after a memory run, slots back from BIST (R468); a fence
that came meanwhile takes its slot now (R72). -/
def returnSlots (b : BistRun) (r : RingId) (s : State) : State :=
  forEach (ringSlots r) (fun n s =>
    let s := if b.memory then s.updSlot n (fun x => { x with record := none }) else s
    let x := s.slot n
    if x.phase != .bist then s
    else
      let s := s.updSlot n (fun x => { x with phase := .off })
      if x.fencePending then enterFenced n x.fenceSrc x.fenceCode s else s) s

/-- A FAIL of a ring run fences the ring (R475). -/
def failRingRun (r : RingId) (s : State) : State :=
  let was := (s.ring r).fenced
  let s := latchError 0x0807 (.ring r) none (!was) s
  if was then s else fenceUnit (.ring r) 0x0807 s

/-- BIST_RUN_END (R468 steps 6 to 8, R305, R475): `ringFail` and `slotFails` are the checks of step 7 that
failed. -/
def execBistRunEnd (sig : W64) (ringFail : Option (CompId × Nat)) (slotFails : List (SlotId × CompId × Nat))
    (s : State) : Out :=
  match s.bist.run with
  | none => .next s
  | some b =>
    match scopeRing b.scope with
    | none => .next s
    | some r =>
      s.gate (s.mainUp && b.testing && b.pass == 3) (fun s =>
        let s := askBarrier .bist (returnSlots b r s)
        let s := match ringFail with
          | some (c, k) => if (s.ring r).fenced then s else failRingComp r c k s
          | none => s
        let s := forEach (slotFails.filter (fun e => ringOf e.1 == r))
          (fun e s => failSlotComp e.1 e.2.1 e.2.2 s) s
        let s := writeResult b sig s
        if b.passed sig then s else failRingRun r s)

/-- Units whose unrepaired arrays fence them (R475). -/
def State.unrepairedUnits (s : State) : List UnitRef :=
  ((s.standby.bistFails.filter (fun e => !e.2)).map (·.1.unit)).filter (fun u =>
    match u with
    | .juggler _ | .pair _ | .chan _ => true
    | _ => false)

/-- A FAIL of a domain run (R475, R476). -/
def failDomainRun (b : BistRun) (s : State) : State :=
  let units := if b.memory then s.unrepairedUnits.eraseDups else []
  let s := latchAt 0x0F0A 0 b.scope.toNat none none false s
  forEach units (fun u s => if s.unitPhase u == .fenced then s else fenceFully u 0x0F0A s) s

/-- The restoring of a scope before the result (R471): key slots and contexts are empty after a crypto run;
a CORE run resets the main side with the wipe, its result held in the AON domain. -/
def restoreScope (b : BistRun) (sig : W64) (s : State) : State :=
  if b.scope == 0x9 then { s with jugs := Vector.replicate 8 { ctxs := [], cache := [] } }
  else if b.scope == 0xA then
    let t := { s with bist.result := if b.passed sig then 1 else 2, bist.run := none }
    resetBy .coreBist { s with standby.coreBist := some (t.bistCtrl, sig) }
  else s

/-- BIST_DOMAIN_END (R471, R475). -/
def execBistDomainEnd (sig : W64) (s : State) : Out :=
  match s.bist.run with
  | none => .next s
  | some b =>
    s.gate (s.mainUp && b.testing && b.pass == 3 && (scopeRing b.scope).isNone) (fun s =>
      let s := restoreScope b sig s
      let s := if b.scope == 0xA then s else askBarrier .bist (writeResult b sig s)
      if b.passed sig then s else failDomainRun b s)

end Sys2Proof.Machine
end

