-- ==== Sys2Proof/Machine/KeyOps.lean ====
section
/-! DEFINITION. KEY_OP tickets (13_security R400 to R412): ceremonies, signed requests, imports, the key
store and the ticket path of a life-cycle change. -/

namespace Sys2Proof.Machine

open Sys2Proof

/-! ## Signed requests (R400, R401) -/

/-- The 32 bytes a request's signature covers first (R400). -/
def requestBytes (r : SignedReq) : List Byte :=
  leBytes 8 r.dsn.toNat ++ padTo 16 r.nonce ++ [r.kind, r.signer, r.argA, r.argB] ++ leBytes 4 r.argC.toNat

/-- A request read from 96 bytes of parameter data (R400). -/
def readRequest (p : List Byte) : SignedReq :=
  { dsn := BitVec.ofNat 64 (leAt p 0 8), nonce := slice p 8 16, kind := byteAt p 24, signer := byteAt p 25,
    argA := byteAt p 26, argB := byteAt p 27, argC := BitVec.ofNat 32 (leAt p 28 4), sig := slice p 32 64 }

/-- The signer's public key (R400), none where there is none. -/
def State.signerKey (s : State) (signer : Byte) : Option (List Byte) :=
  if signer == 1 then some Config.oparacyKey else if signer == 2 then s.nv.ownerKey else none

/-- A request is genuine for a path's nonce and KIND (R401): DSN, nonce, KIND, and the signature over the first
32 bytes and the payload. -/
def State.requestOk (s : State) (r : SignedReq) (nonce : List Byte) (kind : Byte) (payload : List Byte) : Bool :=
  r.dsn == Config.deviceSerial && r.nonce == nonce && r.kind == kind &&
    (match s.signerKey r.signer with
     | some k => Config.ecdsaVerify k (requestBytes r ++ payload) r.sig
     | none => false)

/-- The ticket path's nonce after a check (R401). -/
def renewCeremonyNonce (s : State) : State :=
  match s.sec.ceremony with
  | some (cid, _, priv, pub) =>
    { s.drew 16 with sec.ceremony := some (cid, s.random 16, priv, pub) }
  | none => s

/-- The nonce of the ticket path, none without a ceremony (R401). -/
def State.ceremonyNonce (s : State) : Option (List Byte) := s.sec.ceremony.map (fun c => c.2.1)

/-! ## Tickets of this type -/

/-- An OP outside its states ends STATE_LOCKED (R407, R412). -/
def keyTicket (id : JobId) (op : Nat) (provOnly : Bool) (f : Job → State → State) (s : State) : Out :=
  runTicket id 5 op (fun j s =>
    if s.nv.lc == .provisioning || (!provOnly && s.nv.lc == .operational) then f j s
    else failJob id 0x0B09 s) s

/-- Key work that needs the bank, where issuer keys lie (R268, R406). -/
def needBank (f : Job → State → State) (j : Job) (s : State) : State :=
  if s.bank.formatted then f j s else failJob j.ticket.jobId 0x0701 s

/-! ## OWNER_SET -/

/-- The first 8 bytes of a hash as a CARD_DIGEST field (R175, R431). -/
def digestOf (d : List Byte) : W64 := BitVec.ofNat 64 (ofLe (padTo 8 (Config.sha256 d)))

/-- OWNER_SET (R401, R407, R412): the first owner key as given; a replacement needs a signed request. -/
def ownerSet (param : List Byte) (j : Job) (s : State) : State :=
  let id := j.ticket.jobId
  let p := j.data param
  let key := slice p 0 65
  let store := fun (s : State) =>
    doneWith id [] (audit 0x07 0 0 0 0 (digestOf key) { s with nv.ownerKey := some key })
  if byteAt p 0 != 4 then failJob id 0x0202 s
  else
    match s.nv.ownerKey with
    | none => if j.paramLen == 65 then store s else failJob id 0x0202 s
    | some _ =>
      if j.paramLen != 161 then failJob id 0x0202 s
      else
        let r := readRequest (slice p 65 96)
        let ok := r.signer == 2 && r.argA == 0 && r.argB == 0 && r.argC == 0 &&
          (match s.ceremonyNonce with | some n => s.requestOk r n 3 key | none => false)
        let s := renewCeremonyNonce s
        if ok then store s else failJob id 0x0B02 s

def execOwnerSet (job : JobId) (param : List Byte) (s : State) : Out := keyTicket job 1 true (ownerSet param) s

/-! ## Import packets (R409, R410) -/

/-- The SP 800-108 counter-mode KDF of R518. -/
def kdfBlocks (key fixed : List Byte) : Nat → Nat → List Byte
  | _, 0 => []
  | i, n + 1 => Config.aesCmac key (beBytes 4 i ++ fixed) ++ kdfBlocks key fixed (i + 1) n

/-- L bytes of it (R518). -/
def kdf (key fixed : List Byte) (len : Nat) : List Byte := (kdfBlocks key fixed 1 ((len + 15) / 16)).take len

/-- An import packet's fields (R409). -/
structure Packet where
  cid : W32
  handle : W32
  ktype : Nat
  usage : Byte
  klen : Nat
  hpub : List Byte
  ct : List Byte
  tag : List Byte
  sig : List Byte
  /-- what TAG and SIG cover -/
  toTag : List Byte
  toSig : List Byte
  deriving DecidableEq, Repr

def readPacket (p : List Byte) : Packet :=
  let k := leAt p 10 2
  { cid := BitVec.ofNat 32 (leAt p 0 4), handle := BitVec.ofNat 32 (leAt p 4 4), ktype := (byteAt p 8).toNat,
    usage := byteAt p 9, klen := k, hpub := slice p 12 65, ct := slice p 80 k, tag := slice p (80 + k) 16,
    sig := slice p (96 + k) 64, toTag := p.take (80 + k), toSig := p.take (96 + k) }

/-- The packet's lengths, values and zero bytes (R243, R409); MGMT_SET takes KTYPE 1 and its own handle (R407). -/
def packetOk (mgmt : Bool) (p : List Byte) : Bool :=
  let k := readPacket p
  ktypeLen k.ktype == some k.klen && k.usage.toNat < 16 && allZero (slice p 77 3) && p.length == 160 + k.klen &&
    (if mgmt then k.ktype == 1 && k.handle == 0xFFFFFFFF
     else k.handle != 0 && k.handle != 0xFFFFFFFF)

/-- KENC and KMAC of a packet under a ceremony key (R410 steps 3 and 4). -/
def importKeys (priv : List Byte) (p : List Byte) : List Byte :=
  let k := readPacket p
  kdf (Config.ecdhX priv k.hpub) ([0x4B, 0x47, 0x49, 0x4D, 0x00] ++ slice p 0 8 ++ [0x00, 0x00, 0x02, 0x00]) 64

/-- The first check of R410 that fails, none when steps 1 to 5 pass. -/
def State.importFault (s : State) (p : List Byte) : Option W16 :=
  let k := readPacket p
  match s.sec.ceremony with
  | none => some 0x0B03
  | some (cid, _, priv, _) =>
    if cid != k.cid then some 0x0B03
    else
      match s.nv.ownerKey with
      | none => some 0x0B08
      | some o =>
        if !Config.ecdsaVerify o (leBytes 8 Config.deviceSerial.toNat ++ k.toSig) k.sig then some 0x0B02
        else if Config.aesCmac ((importKeys priv p).drop 32) k.toTag != k.tag then some 0x0B04
        else none

/-- The plaintext key (R410 step 6). -/
def State.importValue (s : State) (p : List Byte) : List Byte :=
  match s.sec.ceremony with
  | none => []
  | some (_, _, priv, _) =>
    padTo (readPacket p).klen
      (Config.aesCtr ((importKeys priv p).take 32) (slice p 0 8 ++ List.replicate 8 0) (readPacket p).ct)

/-- The check value of a key (R410); of a set, that of ENC. -/
def checkValue (ktype : Nat) (v : List Byte) : List Byte :=
  let k := if ktypeIsSet ktype then v.take (v.length / 3) else v
  if ktype == 4 || ktype == 0xA then padTo 3 (Config.tdesEcb k (List.replicate 8 0))
  else padTo 3 (Config.aesEcb k (List.replicate 16 1))

/-- MGMT_SET (R407, R412): the management key goes to the option area; the lockout count restarts. -/
def mgmtSet (param : List Byte) (j : Job) (s : State) : State :=
  let id := j.ticket.jobId
  let p := j.data param
  if !packetOk true p then failJob id 0x0202 s
  else
    match s.importFault p with
    | some e => failJob id e s
    | none =>
      let v := s.importValue p
      let cv := checkValue 1 v
      let s := { s with nv.mgmtKey := some v, side.tagFails := 0 }
      doneWith id (cv ++ [0]) (audit 0x08 0 0 0 0 (BitVec.ofNat 64 (ofLe cv)) s)

def execMgmtSet (job : JobId) (param : List Byte) (s : State) : Out := keyTicket job 2 true (mgmtSet param) s

/-! ## Ceremonies (R408) -/

/-- The open ceremony closes: its private key is gone and CEREMONY_CLOSED is raised (R408, R430). -/
def closeCeremony (s : State) : State :=
  match s.sec.ceremony with
  | some (cid, _, _, _) => raise 0x0B02 none cid.toNat { s with sec.ceremony := none }
  | none => s

/-- Bytes 0 to 87 of the CEREMONY_OPEN result (R408). -/
def ceremonyHead (cid : W32) (nonce pub : List Byte) : List Byte :=
  leBytes 4 cid.toNat ++ padTo 16 nonce ++ padTo 65 pub ++ [0, 0, 0]

/-- CEREMONY_OPEN (R408). -/
def ceremonyOpen (j : Job) (s : State) : State :=
  let s := closeCeremony s
  let cid := s.sec.cidNext
  let nonce := s.random 16
  let s := s.drew 16
  let pub := Config.p256Public s.draws
  let head := ceremonyHead cid nonce pub
  let sig := padTo 64 (Config.attestSign (s.draws + 32)
    (Config.sha256 (leBytes 8 Config.deviceSerial.toNat ++ head)))
  let s := { s.drew 64 with sec.ceremony := some (cid, nonce, Config.p256Private s.draws, pub),
                            sec.cidNext := cid + 1 }
  doneWith j.ticket.jobId (head ++ sig) s

def execCeremonyOpen (job : JobId) (s : State) : Out := keyTicket job 3 false (noParam ceremonyOpen) s

/-- CEREMONY_CLOSE (R407, R408): ARG names the open ceremony. -/
def ceremonyClose (j : Job) (s : State) : State :=
  match s.sec.ceremony with
  | some (cid, _, _, _) =>
    if cid == j.ticket.arg then doneWith j.ticket.jobId [] (closeCeremony s) else failJob j.ticket.jobId 0x0B03 s
  | none => failJob j.ticket.jobId 0x0B03 s

def execCeremonyClose (job : JobId) (s : State) : Out := keyTicket job 7 false (noParam ceremonyClose) s

/-! ## The key store -/

/-- KEY_IMPORT (R409, R410, R411). -/
def keyImport (param : List Byte) (j : Job) (s : State) : State :=
  let id := j.ticket.jobId
  let p := j.data param
  let k := readPacket p
  if !packetOk false p then failJob id 0x0202 s
  else
    match s.importFault p with
    | some e => failJob id e s
    | none =>
      if s.bank.keys.any (fun e => e.handle == k.handle) then failJob id 0x0B05 s
      else if s.bank.keys.length ≥ 4096 then failJob id 0x0B07 s
      else if !s.hasRoom 1 then failJob id 0x0704 s
      else
        let v := s.importValue p
        let cv := checkValue k.ktype v
        let key : StoredKey := { handle := k.handle, ktype := k.ktype, usage := k.usage, value := v }
        let s := { s with bank.keys := s.bank.keys ++ [key] }
        doneWith id (cv ++ [0])
          (audit 0x05 0 0 0 (BitVec.ofNat 64 k.handle.toNat)
            (BitVec.ofNat 64 (ofLe cv + k.ktype * 2 ^ 24)) s)

def execKeyImport (job : JobId) (param : List Byte) (s : State) : Out :=
  keyTicket job 4 false (needBank (keyImport param)) s

/-- A job the device holds runs a profile that names the handle (R411). -/
def State.keyInUse (s : State) (h : W32) : Bool :=
  s.jobs.any (fun j => j.ticket.runsProfile &&
    (match j.run with
     | some r => r.profile.keys.contains h
     | none => match s.profile j.ticket.profileId with | some p => p.keys.contains h | none => false))

/-- A handle leaves every Juggler's cache. -/
def dropCached (h : W32) (s : State) : State :=
  { s with jugs := s.jugs.map (fun u => { u with cache := u.cache.filter (· != h) }) }

/-- KEY_DELETE (R407, R411). -/
def keyDelete (j : Job) (s : State) : State :=
  let id := j.ticket.jobId
  let h := j.ticket.arg
  if !s.bank.keys.any (fun e => e.handle == h) then failJob id 0x0B06 s
  else if s.keyInUse h then failJob id 0x0B0A s
  else
    let s := dropCached h { s with bank.keys := s.bank.keys.filter (fun e => e.handle != h) }
    doneWith id [] (audit 0x06 0 0 0 (BitVec.ofNat 64 h.toNat) 0 s)

def execKeyDelete (job : JobId) (s : State) : Out := keyTicket job 5 false (needBank (noParam keyDelete)) s

/-- One entry of a KEY_LIST result (R407). -/
def keyEntry (k : StoredKey) : List Byte :=
  leBytes 4 k.handle.toNat ++ [BitVec.ofNat 8 k.ktype, k.usage] ++ checkValue k.ktype k.value ++ [0, 0, 0]

/-- KEY_LIST (R407): the handles at or above ARG, in handle order. -/
def keyList (j : Job) (s : State) : State :=
  let l := sortBy (fun a b => a.handle.toNat ≤ b.handle.toNat)
    (s.bank.keys.filter (fun k => j.ticket.arg.toNat ≤ k.handle.toNat))
  doneWithEntries j [] 12 (l.map keyEntry) s

def execKeyList (job : JobId) (s : State) : Out := keyTicket job 6 false (needBank (noParam keyList)) s

/-! ## LC_CHANGE and ATTEST_ID -/

/-- The rows of R402 that a genuine request on the ticket path matches. -/
def State.lcRow (s : State) (r : SignedReq) : Option LcState :=
  match s.nv.lc, lcOfCode r.argA.toNat with
  | .provisioning, some .operational =>
    if r.signer == 2 && s.nv.ownerKey.isSome && s.nv.mgmtKey.isSome then some .operational else none
  | .operational, some .provisioning => if r.signer == 2 then some .provisioning else none
  | .provisioning, some .terminated | .operational, some .terminated => some .terminated
  | _, _ => none

/-- A request of the ticket path to change the state as it is now (R401). -/
def State.lcRequestOk (s : State) (r : SignedReq) : Bool :=
  r.argB.toNat == s.nv.lc.code && r.argC == 0 &&
    (match s.ceremonyNonce with | some n => s.requestOk r n 1 [] | none => false)

/-- LC_CHANGE (R401 to R403 step 1): the change starts and the ticket waits for its end. -/
def lcChange (param : List Byte) (j : Job) (s : State) : State :=
  let id := j.ticket.jobId
  let r := readRequest (j.data param)
  let ok := s.lcRequestOk r
  let row := s.lcRow r
  let s := renewCeremonyNonce s
  if !ok then failJob id 0x0B02 s
  else
    match row with
    | none => failJob id 0x0B01 s
    | some t =>
      { s.updJob id (fun j => { j with phase := .started }) with
        sec.changing := some { target := t, job := some id } }

def execLcChange (job : JobId) (param : List Byte) (s : State) : Out :=
  keyTicket job 8 false (paramOf 96 (lcChange param)) s

/-- ATTEST_ID (R407). -/
def attestId (j : Job) (s : State) : State :=
  doneWith j.ticket.jobId
    (leBytes 8 Config.deviceSerial.toNat ++ padTo 65 Config.attestPublic ++ [0, 0, 0] ++
      Config.attestCertificate.take 1024) s

def execAttestId (job : JobId) (s : State) : Out := keyTicket job 9 false (noParam attestId) s

end Sys2Proof.Machine
end

