-- ==== Sys2Proof/Machine/Link.lean ====
section
/-! DEFINITION. The card link: characters and T=1 blocks, standard-mode exchanges, the warm reset,
Galloper tokens, blocks, link errors and give-ups, as shared operations (03_character_layer,
04_galloper_mode). -/

namespace Sys2Proof.Machine

open Sys2Proof

/-! ## Characters (R98, R22) -/

/-- A byte as its bits stand on C7: inverted and reversed under inverse convention (R98). -/
def lineByte (inverse : Bool) (b : Byte) : Byte :=
  if inverse then BitVec.ofNat 8 (ofBits (bitsMsb (~~~b))) else b
where
  ofBits (l : List Bool) : Nat := l.foldr (fun x a => (if x then 1 else 0) + 2 * a) 0

/-- Characters go out on C7. -/
def sendChars (n : SlotId) (bs : List Byte) (s : State) : State :=
  emit (.chars n (bs.map (lineByte (s.slot n).inverse))) s

def updExch (n : SlotId) (f : Exch → Exch) (s : State) : State :=
  s.updSlot n (fun x => { x with exch := x.exch.map f })

def updT1 (n : SlotId) (f : T1 → T1) (s : State) : State := s.updSlot n (fun x => { x with t1 := f x.t1 })

/-! ## Ends of exchanges -/

/-- What the end of an exchange says about the card: 1 a response, 2 certainly not executed, 0 open (R246). -/
def howOf : ExchStatus → Nat
  | .ok => 1
  | .cancelled | .blockSize | .extOnT0 => 2
  | _ => 0

/-- A standard-mode exchange ends with a status and waits to be reported (R97). -/
def endExch (n : SlotId) (st : ExchStatus) (sw : W16) (resp : List Byte) (s : State) : State :=
  match (s.slot n).exch with
  | none => s
  | some e =>
    let r : Ended := { kind := e.kind, job := e.job, gen := e.gen, step := e.step, csn := 0, status := st,
                       sw := sw, resp := resp, how := howOf st }
    s.updSlot n (fun x =>
      { x with exch := none, ended := x.ended ++ [r],
               t1 := { x.t1 with chaining := false, ifsOut := false, resynchOut := false, abortOut := false } })

/-- A response with its status word is complete: OK, or OVERSIZE beyond the response area (R97, R200). -/
def endResponse (n : SlotId) (data : List Byte) (sw : W16) (s : State) : State :=
  match (s.slot n).exch with
  | none => s
  | some e => endExch n (if data.length > e.respMax then .oversize else .ok) sw (data.take e.respMax) s

/-! ## T=1 (R89 to R94) -/

/-- A block: NAD 0x00, PCB, LEN, INF and the LRC or CRC (R89). -/
def t1Block (crc : Bool) (pcb : Byte) (inf : List Byte) : List Byte :=
  let b := [0x00, pcb, BitVec.ofNat 8 inf.length] ++ inf
  b ++ (if crc then padTo 2 (Config.t1Crc b) else [xorAll b])

/-- PCB values (R89, R91, R92). -/
def pcbI (ns more : Bool) : Byte := BitVec.ofNat 8 (bitAt ns 6 + bitAt more 5)
def pcbR (nr : Bool) (err : Nat) : Byte := BitVec.ofNat 8 (0x80 + bitAt nr 4 + err)

/-- The EDC of a block is right (R89). -/
def edcOk (crc : Bool) (b : List Byte) : Bool :=
  let n := if crc then 2 else 1
  let body := b.take (b.length - n)
  b.drop (b.length - n) == (if crc then padTo 2 (Config.t1Crc body) else [xorAll body])

/-- A PCB the protocol defines (R89). -/
def pcbDefined (p : Byte) : Bool :=
  if !bit p 7 then field p 0 5 == 0
  else if !bit p 6 then !bit p 5 && field p 0 4 ≤ 2
  else p ∈ ([0xC0, 0xE0, 0xC1, 0xE1, 0xC2, 0xE2, 0xC3, 0xE3] : List Byte)

/-- PCB and INF of a received block that meets every condition of R89, none for an invalid block. -/
def t1Read (crc : Bool) (r : RawT1) : Option (Byte × List Byte) :=
  let b := r.bytes
  let n := if crc then 2 else 1
  let len := (byteAt b 2).toNat
  if !r.parity && r.overruns == 0 && b.length == 3 + len + n && byteAt b 0 == 0 && len ≤ 254 &&
      pcbDefined (byteAt b 1) && edcOk crc b then
    some (byteAt b 1, slice b 3 len)
  else none

/-- The part of the command that fits IFSC goes out as the next I-block (R91, R106). -/
def sendIBlock (n : SlotId) (s : State) : State :=
  let x := s.slot n
  match x.exch with
  | none => s
  | some e =>
    let rest := e.rest.drop x.t1.ifsc
    let blk := t1Block x.t1.crc (pcbI x.t1.ns (!rest.isEmpty)) (e.rest.take x.t1.ifsc)
    let s := updExch n (fun e => { e with rest := rest }) s
    let s := updT1 n (fun t =>
      { t with ns := !t.ns, last := blk, chaining := !rest.isEmpty, attempts := 1, resynchs := 0, wtx := 1 }) s
    sendChars n blk s

/-- A block that is no I-block goes out. -/
def sendBlock (n : SlotId) (pcb : Byte) (inf : List Byte) (s : State) : State :=
  sendChars n (t1Block (s.slot n).t1.crc pcb inf) s

/-- An S-block that asks for an answer, remembered for repetition. -/
def sendRequest (n : SlotId) (pcb : Byte) (inf : List Byte) (f : T1 → T1) (s : State) : State :=
  let blk := t1Block (s.slot n).t1.crc pcb inf
  sendChars n blk (updT1 n (fun t => f { t with last := blk, attempts := 1 }) s)

/-- The last block goes out again, as one more attempt (R92). -/
def resendLast (n : SlotId) (s : State) : State :=
  sendChars n (s.slot n).t1.last (updT1 n (fun t => { t with attempts := t.attempts + 1 }) s)

/-- S(RESYNCH request) (R92). -/
def sendResynch (n : SlotId) (s : State) : State :=
  sendBlock n 0xC0 [] (updT1 n (fun t => { t with resynchOut := true, resynchs := t.resynchs + 1 }) s)

/-- The attempts on a block are used up: resynchronise, and after the third request end the exchange (R92). -/
def t1Escalate (n : SlotId) (s : State) : State :=
  let t := (s.slot n).t1
  if t.resynchOut && 3 ≤ t.resynchs then endExch n (if t.lastInvalid then .parity else .timeout) 0 [] s
  else sendResynch n s

/-- A failed attempt (R92): `err` is the indication of the R-block, 1 parity or EDC, 2 other; `invalid` says
that the failure was a block invalid other than by a CWT overrun. -/
def t1Fail (n : SlotId) (err : Nat) (invalid : Bool) (s : State) : State :=
  let s := updT1 n (fun t => { t with lastInvalid := invalid, wtx := 1 }) s
  let t := (s.slot n).t1
  if t.resynchOut || 3 ≤ t.attempts then t1Escalate n s
  else sendBlock n (pcbR t.nr err) [] (updT1 n (fun t => { t with attempts := t.attempts + 1 }) s)

/-- Which error an invalid block's R-block names (R92). -/
def t1ErrOf (crc : Bool) (r : RawT1) : Nat := if r.parity || !edcOk crc r.bytes then 1 else 2

/-- The device awaits a block from the card. -/
def State.t1Awaits (s : State) (n : SlotId) : Bool :=
  let x := s.slot n
  s.mainUp && x.proto == .t1 && x.phase == .busy && x.exch.isSome

/-- The exchange's job has been asked to stop (R91, R226). -/
def State.stopAsked (s : State) (n : SlotId) : Bool :=
  match s.holder n with
  | some j => j.cancelWith.isSome
  | none => false

/-! ## Starting standard-mode exchanges (R87 to R91) -/

/-- A command APDU with extended lengths (R88). -/
def extendedApdu (a : List Byte) : Bool := 5 < a.length && byteAt a 4 == 0

/-- The five header characters of an APDU under T=0: without data or Le, P3 is 0. -/
def t0Header (a : List Byte) : List Byte := padTo 5 (a.take 5)

/-- The command data of an APDU under T=0. -/
def t0Data (a : List Byte) : List Byte := if a.length ≤ 5 then [] else slice a 5 (byteAt a 4).toNat

/-- The response data an APDU without command data asks for under T=0: 0 stands for 256. -/
def t0Le (a : List Byte) : Nat :=
  if a.length == 5 then (if byteAt a 4 == 0 then 256 else (byteAt a 4).toNat) else 0

/-- An exchange starts: the slot is BUSY and its first characters go out (R72, R88, R91). -/
def startExch (n : SlotId) (kind : ExchKind) (job : JobId) (gen : W16) (step : Nat) (apdu : List Byte)
    (respMax : Nat) (s : State) : State :=
  let e : Exch :=
    { kind := kind, job := job, gen := gen, step := step, cmd := apdu, rest := apdu, resp := [],
      respMax := respMax, t0Sent := 0, t0Expect := 0, t0Errors := 0, t0ErrAt := 0, t0Follow := none,
      overruns := 0 }
  let s := s.updSlot n (fun x => { x with exch := some e, phase := .busy })
  if (s.slot n).proto == .t1 then sendIBlock n s
  else if extendedApdu apdu then endExch n .extOnT0 0 [] s
  else sendChars n (t0Header apdu) s

/-- S(IFS request) with IFSD 0xFE (R90). -/
def startIfs (n : SlotId) (s : State) : State :=
  let e : Exch :=
    { kind := .sIfs, job := 0, gen := 0, step := 0, cmd := [], rest := [], resp := [], respMax := 0,
      t0Sent := 0, t0Expect := 0, t0Errors := 0, t0ErrAt := 0, t0Follow := none, overruns := 0 }
  let s := s.updSlot n (fun x => { x with exch := some e, phase := .busy })
  sendRequest n 0xC1 [0xFE] (fun t => { t with ifsOut := true, resynchs := 0, wtx := 1 }) s

/-! ## Warm reset (R108, R160) -/

/-- A session of the job on the slot ends with the card's state (R220). -/
def endSession (n : SlotId) (s : State) : State :=
  match (s.slot n).job with
  | none => s
  | some id => s.updJob id (fun j => { j with run := j.run.map (fun r => { r with session := none }) })

/-- A warm reset: default rate and activation clock at once, RST low, VCC and CLK left running; the ATR is
awaited once RST rises (R45, R108, R160). -/
def startWarm (n : SlotId) (s : State) : State :=
  (endSession n (endGalSession n s)).updSlot n (fun x =>
    { x with phase := .atrWait, warm := true, rst := false, clk := .run, io := .pullUp, d0PullUp := false,
             d0Busy := false, galLimits := false, proto := .none, rate := { Rate.reset with n := x.clkDivAct }, fiCode := 1,
             shadow := none, exch := none, pps := none, ppsPlan := none, t1 := T1.reset, window := false,
             inverse := false, proposal := none, lts := none, ltsDue := false, warmDue := false,
             oldSid := (x.gal.map (·.sid)).getD x.oldSid, gal := none })

/-- The warm reset that waits for the ended exchanges to be reported (R97). -/
def tryWarm (n : SlotId) (s : State) : State :=
  let x := s.slot n
  if x.warmDue && x.ended.isEmpty && x.exch.isNone && x.phase.live then startWarm n s else s

/-- The card is marked Galloper-failed, with one event (R151). -/
def markGalFailed (n : SlotId) (s : State) : State :=
  raise 0x0108 (some n) 0 (s.updSlot n (fun x => { x with galFailed := true }))

/-! ## Galloper blocks and tokens (R123 to R130) -/

def updGal (n : SlotId) (f : Gal → Gal) (s : State) : State :=
  s.updSlot n (fun x => { x with gal := x.gal.map f })

/-- The CSN after one (R141). -/
def nextCsn (c : W16) : W16 := if c == 0xFFFF then 1 else c + 1

/-- Segments of a block of L bytes (R127). -/
def segCount (len : Nat) : Nat := (len + 89) / 90

/-- Line k of a segment: bytes k, k + 3, … of its 90, and their CRC-16 (R126). -/
def lineSeg (seg : List Byte) (k : Nat) : LineSeg :=
  let b := (List.range 30).map (fun j => byteAt seg (3 * j + k))
  { bytes := b, crc := crc16 b }

/-- The segments that carry a block (R126, R127). -/
def blockSegs (bs : List Byte) : List (LineSeg × LineSeg × LineSeg) :=
  (List.range (segCount bs.length)).map (fun i =>
    let seg := padTo 90 (slice bs (90 * i) 90)
    (lineSeg seg 0, lineSeg seg 1, lineSeg seg 2))

def LineSegOk (l : LineSeg) : Bool := l.bytes.length == 30 && crc16 l.bytes == l.crc

/-- Which of D0, D1, D2 carry a wrong CRC (R128). -/
def badLines (b : RawBlock) : List Nat :=
  (if b.segs.all (fun g => LineSegOk g.1) then [] else [1]) ++
  (if b.segs.all (fun g => LineSegOk g.2.1) then [] else [2]) ++
  (if b.segs.all (fun g => LineSegOk g.2.2) then [] else [3])

/-- The lines a bad block concerns: those with wrong CRCs, or all three when its framing is wrong. -/
def blockErrors (len : Nat) (b : RawBlock) : List Nat :=
  if !b.startOk || !b.endOk || b.segs.length != segCount len then [1, 2, 3] else badLines b

/-- The bytes of a good block (R126 to R128). -/
def blockBytes (len : Nat) (b : RawBlock) : List Byte :=
  ((b.segs.map (fun g => (List.range 30).flatMap (fun j =>
    [byteAt g.1.bytes j, byteAt g.2.1.bytes j, byteAt g.2.2.bytes j]))).flatten).take len

/-- A command token goes out on C7 (R123, R130). -/
def sendToken (n : SlotId) (op : BitVec 6) (csn : W16) (len : Nat) (aux : W16) (want : GalExpect) (s : State) : State :=
  emit (.token n (tokPack { op := op, csn := csn, len := BitVec.ofNat 16 len, aux := aux }))
    (updGal n (fun g => { g with expect := want }) s)

/-- A CMD token with its write block (R130); one more transmission of the command. -/
def sendCmd (n : SlotId) (w : WCmd) (s : State) : State :=
  let s := updGal n (fun g =>
    { g with window := g.window.map (fun v => if v.csn == w.csn then { v with tx := v.tx + 1 } else v) }) s
  emit (.block n (blockSegs w.apdu)) (sendToken n 0x01 w.csn w.apdu.length w.exp (.rcv w.csn) s)

/-- A FETCH token (R130, R147). -/
def sendFetch (n : SlotId) (w : WCmd) (s : State) : State :=
  let s := updGal n (fun g =>
    { g with window := g.window.map (fun v => if v.csn == w.csn then { v with fetches := v.fetches + 1 } else v) }) s
  sendToken n 0x02 w.csn 0 0 (.rsp w.csn) s

/-- An LTS token (R145). -/
def sendLts (n : SlotId) (s : State) : State :=
  sendToken n 0x03 0 0 0 .ltsRsp (updGal n (fun g => { g with ltsTries := g.ltsTries + 1 }) s)

/-- No token or block is in progress and the link may send one (R120, R152, R153). -/
def Gal.free (g : Gal) : Bool := g.expect == .none && !g.switching && !g.quiet && !g.stopped

/-- BUSY while a command is unfetched, a token or block is in progress, or an end waits to be reported;
GALLOPER otherwise (R160). -/
def galPhase (n : SlotId) (s : State) : State :=
  s.updSlot n (fun x =>
    match x.gal with
    | none => x
    | some g =>
      if x.phase == .busy || x.phase == .galloper then
        { x with phase :=
            if g.sweep.isSome then .galloper
            else if g.window.isEmpty && g.expect == .none && x.ended.isEmpty then .galloper
            else .busy }
      else x)

/-! ## Ends of Galloper commands -/

/-- A command of the window ends with a status (R142, R148). -/
def endedCmd (w : WCmd) (st : ExchStatus) (sw : W16) (how : Nat) : Ended :=
  { kind := w.kind, job := w.job, gen := w.gen, step := w.step, csn := w.csn, status := st, sw := sw,
    resp := [], how := how }

def pushEnded (n : SlotId) (l : List Ended) (s : State) : State :=
  s.updSlot n (fun x => { x with ended := x.ended ++ l })

/-! ## The last-transaction-status record (R143, R251) -/

/-- A record read from 23 bytes (R143); entries in state EMPTY carry no CSN. -/
def readLts (b : List Byte) : LtsRec :=
  { sid := BitVec.ofNat 16 (beAt b 1 2),
    cmds := (List.range 4).filterMap (fun k =>
      let st := (byteAt b (5 + 5 * k)).toNat
      if st == 0 then none
      else some (BitVec.ofNat 16 (beAt b (3 + 5 * k) 2), st, BitVec.ofNat 16 (beAt b (6 + 5 * k) 2))) }

/-- A record with a form R143 knows. -/
def ltsOk (b : List Byte) : Bool := b.length == 23 && byteAt b 0 == 1

/-- CSN a is later than CSN b (R251). -/
def csnLater (a b : W16) : Bool :=
  let d := (a.toNat + 65535 - b.toNat) % 65535
  1 ≤ d && d ≤ 32767

def LtsRec.find (r : LtsRec) (csn : W16) : Option (Nat × W16) :=
  (r.cmds.find? (fun e => e.1 == csn)).map (·.2)

/-- What the record says of a CSN of its own session (R251): executed with a status word, not executed, or
none when it cannot tell. -/
def LtsRec.verdict (r : LtsRec) (csn : W16) : Option (Option W16) :=
  match r.find csn with
  | some (3, sw) => some (some sw)
  | some (4, _) => some none
  | some (5, _) => some none
  | some _ => none
  | none => if r.cmds.isEmpty || r.cmds.any (fun e => csnLater csn e.1) then some none else none

/-- The open intents of a session that a record settles, with HOW 0x03 or 0x04 (R246, R251). -/
def settleFrom (n : SlotId) (r : LtsRec) (how : Nat) (l : List Intent) (s : State) : State :=
  forEach l (fun e s =>
    if e.galloper && e.sid == r.sid then
      match r.verdict e.csn with
      | some (some sw) => settle e.jseq .done sw how (some n) s
      | some none => settle e.jseq .notDone 0 how (some n) s
      | none => s
    else s) s

/-! ## Link errors and give-ups (R146 to R149) -/

/-- The device gives up (R148): the record is read first, unless it need not be. -/
def beginGiveUp (n : SlotId) (why : GiveUp) (s : State) : State :=
  updGal n (fun g => if g.giveUp.isSome then g else { g with giveUp := some why, ltsTries := 0, sweep := none }) s

/-- Every unfetched command ends, by the record or with the status given, and a warm reset follows (R148 steps 2
and 3, R149, R151). -/
def abandon (n : SlotId) (base : ExchStatus) (mark : Bool) (rec : Option LtsRec) (s : State) : State :=
  let x := s.slot n
  match x.gal with
  | none => s
  | some g =>
    let endOf (w : WCmd) : Ended :=
      if w.refused then endedCmd w .cancelled 0 2
      else
        match rec.bind (fun r => r.find w.csn) with
        | some (3, sw) => endedCmd w base sw 3
        | some (4, _) => endedCmd w .cancelled 0 3
        | some (5, _) => endedCmd w .cancelled 0 3
        | _ => endedCmd w base 0 0
    let open_ (w : WCmd) : Bool :=
      !w.refused && (match rec.bind (fun r => r.verdict w.csn) with | some _ => false | none => true)
    let left : List Unsettled := (g.window.filter open_).map (fun w =>
      { csn := w.csn, job := w.job, gen := w.gen, step := w.step, status := base })
    let s := match rec with
      | some r => settleFrom n r 3 (s.openIntents.filter (fun e => e.sid == g.sid && e.slot == n &&
          g.window.any (fun w => !w.refused && (w.csn == e.csn || (w.kind == ExchKind.initUpdate && nextCsn w.csn == e.csn))))) s
      | none => s
    let s := s.updSlot n (fun x =>
      { x with ended := x.ended ++ g.window.map endOf, unsettled := x.unsettled ++ left, warmDue := true,
               gal := some { g with window := [], expect := .none, ltsNeeded := false } })
    tryWarm n (onlyIf mark (markGalFailed n) s)

/-- The end of a give-up (R148, R151). -/
def concludeGiveUp (n : SlotId) (rec : Option LtsRec) (s : State) : State :=
  match ((s.slot n).gal.bind (·.giveUp)) with
  | some .exchLimit => abandon n .exchLimit false rec s
  | _ => abandon n .linkFail true rec s

/-- What the link sends next of its own (R130, R147, R148): the record while giving up, FETCH before CMD, the
record after a link error, then a command that must be sent again. -/
def pump (n : SlotId) (s : State) : State :=
  let s := match (s.slot n).gal with
    | none => s
    | some g =>
      if !g.free || !(s.slot n).phase.live || (s.slot n).warmDue then s
      else if g.giveUp.isSome then
        if g.ltsTries < 3 then sendLts n s else concludeGiveUp n none s
      else
        match g.window.find? (fun w => !w.refused) with
        | some w =>
          if w.accepted && w.ready && w.fetches < 4 then sendFetch n w s
          else if g.ltsNeeded then sendLts n s
          else
            match g.window.find? (fun w => !w.refused && !w.accepted) with
            | some v => sendCmd n v s
            | none => s
        | none => if g.ltsNeeded then sendLts n s else s
  galPhase n s

/-- A link error on lines 0 C7, 1 to 3 D0 to D2 (R146 to R148). -/
def linkError (n : SlotId) (lines : List Nat) (s : State) : State :=
  let x := s.slot n
  match x.gal with
  | none => s
  | some g =>
    let cnt (k : Fin 4) : Nat := x.lineErrors[k.val] + (if lines.contains k.val then 1 else 0)
    let errs := g.linkErrors + 1
    let drop := errs % 2 == 0 && g.code != 0
    let g := { g with
      linkErrors := errs, expect := .none, ltsNeeded := true, sweep := none,
      downshifted := g.downshifted || drop,
      staged := if drop then some (min (g.code - 1) (g.staged.getD (g.code - 1))) else g.staged }
    let worn := g.window.any (fun w => w.accepted && w.ready && 4 ≤ w.fetches)
    let s := s.updSlot n (fun x => { x with lineErrors := Vector.ofFn cnt, gal := some g })
    if 8 ≤ errs || g.code == 0 || worn then beginGiveUp n .linkFail s else s

/-- A link error, and what the link does next. -/
def afterLinkError (n : SlotId) (lines : List Nat) (s : State) : State := pump n (linkError n lines s)

end Sys2Proof.Machine
end

