-- ==== Sys2Proof/Machine/Engine.lean ====
section
/-! DEFINITION. The profile engine as shared operations (06_profiles_and_secure_messaging, 07 R244 to R255): key
operands, substitutions, internal steps, intents, staging, matching, rollback and the ends of a run. -/

namespace Sys2Proof.Machine

open Sys2Proof

/-! ## Keys (R210 to R213, R411) -/

/-- The key an operand names: KTYPE, USAGE and value; none when the store or the job key slot holds none (R210). -/
def State.keyOf (s : State) (r : Run) (op : Nat) : Option (Nat × Byte × List Byte) :=
  if op ≤ 3 then
    let h := r.profile.keys.getD op 0
    if h == 0 then none
    else (s.bank.keys.find? (fun k => k.handle == h)).map (fun k => (k.ktype, k.usage, k.value))
  else (r.kslots.getD (op - 8) none).map (fun k => (k.ktype, 0x0F, k.value))

/-- USAGE bit and key types a JUGGLER operation needs; none for the hashes (R213, R411). -/
def juggleNeed : Nat → Option (Nat × List Nat)
  | 1 | 2 | 3 | 0xC => some (2, [1, 2, 3])
  | 4 => some (3, [1, 2, 3])
  | 5 | 6 => some (2, [4])
  | 7 => some (3, [4])
  | 0xA => some (3, [1, 2, 3, 4])
  | 0xB => some (1, [1, 2, 3])
  | _ => none

/-- Operand, USAGE bit and key types of a step that uses a key (R201, R212, R213, R215, R411). -/
def keyNeed (scp : Byte) (st : Step) : Option (Nat × Nat × List Nat) :=
  match st.kind.toNat with
  | 2 => some (st.nib 0, 0,
      if st.method == 0 then (if scp == 2 then [0xA] else [8, 9]) else if st.method == 1 then [1, 2, 3] else [4])
  | 3 => some (st.nib 0, 1, if st.method == 2 then [4] else [1, 2, 3])
  | 4 => (juggleNeed st.jugOp).map (fun n => (st.nib 2, n))
  | _ => none

/-- KEY_MISSING or KEY_USAGE of a step's key operand (R209 step 1, R411). -/
def State.keyFault (s : State) (r : Run) (st : Step) : Option W16 :=
  match keyNeed r.profile.scp st with
  | none => none
  | some (op, use, types) =>
    match s.keyOf r op with
    | none => some 0x0608
    | some (kt, u, _) => if bit u use && types.contains kt then none else some 0x0B0B

def State.keyValue (s : State) (r : Run) (op : Nat) : List Byte :=
  match s.keyOf r op with
  | some (_, _, v) => v
  | none => []

/-! ## Substitutions (R206) -/

/-- A key encrypted under the session DEK, with its check value when asked (R206). -/
def keyWrapBytes (se : Session) (k : KeyMat) (check : Bool) : List Byte :=
  let ct :=
    if se.scp == 2 then padTo k.value.length (Config.gpKeyEnc02 se.dek k.value)
    else
      let plain := if k.value.length == 24 then k.value ++ [0x80, 0, 0, 0, 0, 0, 0, 0] else k.value
      padTo plain.length (Config.aesCbcEnc se.dek (List.replicate 16 0) plain)
  let fill : Byte := if se.scp == 2 then 0 else 1
  let kcv :=
    if k.ktype == 4 then padTo 3 (Config.tdesEcb k.value (List.replicate 8 fill))
    else padTo 3 (Config.aesEcb k.value (List.replicate 16 fill))
  ct ++ (if check then kcv else [])

/-- Bytes off to off + len - 1 of a source, none beyond its end. -/
def ranged (d : List Byte) (off len : Nat) : Option (List Byte) :=
  if off + len ≤ d.length then some (slice d off len) else none

/-- The record data in the slot buffer of the job's record (R208, R242). -/
def State.bufferOf (s : State) (n : SlotId) (rec : W64) : List Byte :=
  match (s.slot n).record with
  | some (id, _, d) => if rec != 0 && id == rec then d else []
  | none => []

/-- What an entry takes from its source; none outside it (R206). -/
def State.subSource (s : State) (n : SlotId) (j : Job) (r : Run) (ctr : Option W64) (u : Sub) : Option (List Byte) :=
  match u.src.toNat with
  | 1 => ranged (s.bufferOf n j.ticket.recordId) u.sarg u.len
  | 2 => ranged r.param u.sarg u.len
  | 3 => ranged r.keep u.sarg u.len
  | 4 => ranged (s.slot n).cardId u.sarg u.len
  | 5 => ctr.bind (fun v => if v.toNat < 256 ^ u.len then some (beBytes u.len v.toNat) else none)
  | 6 => some (s.random u.len)
  | 7 =>
    match r.session, r.kslots.getD (u.sarg % 16) none with
    | some se, some k =>
      let b := keyWrapBytes se k (u.sarg / 16 % 16 == 1)
      if b.length == u.len then some b else none
    | _, _ => none
  | _ => none

/-- The error of the first entry that cannot be substituted (R206, R209): a KEYWRAP without a session is
NO_SESSION, of an empty key slot KEY_MISSING. -/
def State.subFault (s : State) (n : SlotId) (j : Job) (r : Run) (ctr : Option W64) (l : List Sub) : Option W16 :=
  l.findSome? (fun u =>
    if u.src == 7 && r.session.isNone then some 0x0603
    else if u.src == 7 && (r.kslots.getD (u.sarg % 16) none).isNone then some 0x0608
    else if (s.subSource n j r ctr u).isNone then some 0x0602
    else none)

/-- Substitution in entry order (R209 step 3); RANDOM draws from the TRNG. -/
def substitute (n : SlotId) (j : Job) (r : Run) (ctr : Option W64) : List Sub → List Byte → State → List Byte × State
  | [], t, s => (t, s)
  | u :: us, t, s =>
    let b := padTo u.len ((s.subSource n j r ctr u).getD [])
    substitute n j r ctr us (t.take u.dst ++ b ++ t.drop (u.dst + u.len)) (if u.src == 6 then s.drew u.len else s)

/-! ## Counters and intents (R170, R209, R244, R245, R255, R259) -/

/-- A step that needs an intent entry (R170, R202). -/
def journalled (j : Job) (k : Nat) (st : Step) : Bool :=
  st.exchanges && k != 0 && (j.ticket.nonIdempotent || st.cardChanging)

/-- The index that counts for a KEY_H0 handle: 0, the bound one, or the lowest free one (R255). -/
def State.counterIndex (s : State) (h : W32) : Option (Fin 256) :=
  if h == 0 then some 0
  else
    match (List.finRange 256).find? (fun i => s.bank.counters[i.val].bound && s.bank.counters[i.val].handle == h) with
    | some i => some i
    | none => (List.finRange 256).find? (fun i => i.val != 0 && !s.bank.counters[i.val].bound)

/-- A counter as its next value is taken: a binding that starts anew continues above RESERVED_TOP (R255). -/
def Counter.bindTo (c : Counter) (h : W32) : Counter :=
  if c.bound || h == 0 then { c with bound := true }
  else { c with handle := h, bound := true, next := if c.top == 0 then c.next else c.top + 1 }

/-- The value the job's counter has or would take (R206, R209). -/
def State.counterValue (s : State) (j : Job) (r : Run) (willConsume : Bool) : Option W64 :=
  match j.counter with
  | some (_, v) => some v
  | none =>
    if willConsume then
      (s.counterIndex (r.profile.keys.getD 0 0)).map (fun i =>
        (s.bank.counters[i.val].bindTo (r.profile.keys.getD 0 0)).next)
    else none

/-- The job's FIRST intent consumes the next value, behind a reservation where it would pass
RESERVED_TOP (R255, R259). -/
def consumeCounter (id : JobId) (i : Fin 256) (h : W32) (s : State) : State :=
  let c := s.bank.counters[i.val].bindTo h
  let v := c.next
  let full := c.top.toNat < v.toNat
  let c' : Counter := { c with next := v + 1, top := if full then c.top + 256 else c.top }
  let s := { s with bank.counters := s.bank.counters.set i.val c' i.isLt }
  let s := onlyIf full rppWrite s
  s.updJob id (fun j => { j with counter := some (i.val, v) })

/-- An intent entry joins the group for the journal (R244, R245). -/
def writeIntent (id : JobId) (n : SlotId) (k : Nat) (st : Step) (first : Bool) (csn : W16) (s : State) : State :=
  match s.findJob id with
  | none => s
  | some j =>
    let x := s.slot n
    let gal := x.proto == .galloper
    let e : Intent :=
      { slot := n, step := k, galloper := gal, first := first, write := st.cardChanging, jobId := id,
        jseq := s.bank.jseqNext, digest := x.digest.getD 0, recordId := j.ticket.recordId,
        counter := (j.counter.map (·.2)).getD 0, ctrIdx := (j.counter.map (·.1)).getD 0,
        profileId := j.ticket.profileId, gen := j.gen, sid := if gal then (x.gal.map (·.sid)).getD 0 else 0,
        csn := if gal then csn else 0, boot := s.bank.boot, timeMs := s.timeMs, queued := true, durable := false,
        outcome := none }
    { s with bank.journal := s.bank.journal ++ [e], bank.jseqNext := s.bank.jseqNext + 1 }

/-! ## The run -/

def updRun (id : JobId) (f : Run → Run) (s : State) : State :=
  s.updJob id (fun j => { j with run := j.run.map f })

/-- An error is held until the step becomes the next to send (R209). -/
def holdError (id : JobId) (k : Nat) (err : W16) (s : State) : State :=
  updRun id (fun r => { r with held := some (k, err), next := none }) s

/-- FAIL_ERR of a step (R200). -/
def Step.failCode (st : Step) : W16 := if st.failErr == 0 then 0x0601 else st.failErr

/-- NEXT of step k as a target (R200). -/
def Step.nextTarget (st : Step) (k : Nat) : Nat := if st.next == 0xFF then k + 1 else st.next.toNat

/-- The run goes on along the primary path after step k: to the next step to re-run, or as NEXT says; an end
target 0xFE waits as a held error, 0xFD as a run with nothing left (R203, R221, R222). -/
def Run.follow (r : Run) (k : Nat) (st : Step) : Run :=
  match r.reentry with
  | y :: ys => { r with next := some y, reentry := ys }
  | [] =>
    let t := st.nextTarget k
    if t < 0xFD then { r with next := some t }
    else if t == 0xFD then { r with next := none }
    else { r with next := none, held := some (k, st.failCode) }

/-- A checkpoint of the run as it stands (R223). -/
def Run.checkpoint (r : Run) (k : Nat) (resultLen : Nat) : Checkpoint :=
  { step := k, stepsRun := r.stepsRun, session := r.session, kslots := r.kslots, kslotTypes := r.kslotTypes,
    keepLen := r.keep.length, resultLen := resultLen }

/-- The state of a checkpoint is restored (R224 step 2); R-MAC chaining stays with the responses taken. -/
def Run.restore (r : Run) (c : Checkpoint) : Run :=
  let rm := r.session.map (·.rmcv)
  { r with stepsRun := c.stepsRun, session := c.session.map (fun se => { se with rmcv := rm.getD se.rmcv }),
           kslots := c.kslots, kslotTypes := c.kslotTypes, keep := r.keep.take c.keepLen }

/-- The keep area with data written at an offset (R206, R213). -/
def writeKeep (keep : List Byte) (off : Nat) (d : List Byte) : List Byte :=
  (padTo off keep ++ d ++ keep.drop (off + d.length)).take 4096

/-- The run of a job has nothing staged and nothing left: it ends DONE, or with the error it holds (R203, R209). -/
def settleIdle (id : JobId) (s : State) : State :=
  match s.findJob id with
  | none => s
  | some j =>
    match j.run with
    | none => s
    | some r =>
      if !r.staged.isEmpty || r.next.isSome then s
      else
        match r.held with
        | some (_, e) => failJob id e s
        | none => endJob id .done 0 s

/-! ## Internal steps (R201, R212, R213) -/

/-- The length of a destination key type (R212). -/
def keyLen (kt : Nat) : Nat := (ktypeLen kt).getD 16

def Run.setKey (r : Run) (k : Nat) (m : KeyMat) : Run := { r with kslots := r.kslots.set k (some m) }

/-- DIVERSIFY (R212). -/
def diversify (r : Run) (st : Step) (key d : List Byte) : Run :=
  let kt := st.nib 3
  let v :=
    match st.method with
    | 1 => kdf key d (keyLen kt)
    | 2 => padTo 16 (Config.tdesEcb key d)
    | _ => padTo (keyLen kt) (Config.aesEcb key d)
  { (r.setKey (st.nib 2) { ktype := kt, value := v }) with kslotTypes := r.kslotTypes.set (st.nib 2) (some kt) }

/-- JUGGLER (R213). -/
def juggle (r : Run) (st : Step) (key d : List Byte) : Run :=
  let data (o : List Byte) : Run := { r with keep := writeKeep r.keep st.jugOff o }
  let dst := st.nib 3
  match st.jugOp with
  | 1 => data (padTo (d.length - 16) (Config.aesCbcEnc key (d.take 16) (d.drop 16)))
  | 2 => data (padTo (d.length - 16) (Config.aesCbcDec key (d.take 16) (d.drop 16)))
  | 3 => data (padTo (d.length - 16) (Config.aesCtr key (d.take 16) (d.drop 16)))
  | 4 => data (padTo 16 (Config.aesCmac key d))
  | 5 => data (padTo (d.length - 8) (Config.tdesCbcEnc key (d.take 8) (d.drop 8)))
  | 6 => data (padTo (d.length - 8) (Config.tdesCbcDec key (d.take 8) (d.drop 8)))
  | 7 => data (padTo 8 (Config.retailMac key d))
  | 8 => data (padTo 32 (Config.sha256 d))
  | 9 => data (padTo 48 (Config.sha384 d))
  | 0xA => data (padTo 32 (Config.hmacSha256 key d))
  | 0xB =>
    let kt := (r.kslotTypes.getD dst none).getD 1
    r.setKey dst { ktype := kt, value := kdf key d (keyLen kt) }
  | _ =>
    let v := padTo (d.length - 16) (Config.aesCbcDec key (d.take 16) (d.drop 16))
    let kt := (r.kslotTypes.getD dst none).getD (if v.length == 32 then 3 else 1)
    r.setKey dst { ktype := kt, value := v }

/-- One internal step, with its key value and its template after substitution. -/
def internalStep (r : Run) (st : Step) (key d : List Byte) : Run :=
  match st.kind.toNat with
  | 3 => diversify r st key d
  | 4 => juggle r st key d
  | _ => { r with session := none }

/-! ## Wrapping (R217) -/

def Session.gp (se : Session) (ctr : Nat) (keys data : List (List Byte)) : Config.GpIn :=
  { scp := se.scp, i := se.i, sl := se.sl, keys := keys, ctr := ctr, data := data }

/-- A wrapped command and the session after it. -/
def Session.wrapCmd (se : Session) (apdu : List Byte) : List Byte × Session :=
  let g := se.gp se.encCtr [se.enc, se.mac] [se.mcv, apdu]
  (Config.gpWrap g, { se with mcv := Config.gpWrapMcv g, encCtr := se.encCtr + 1, seq := se.seq + 1 })

/-- A response unwrapped with the counter of its command: its data and R-MAC chaining value; none when its
R-MAC does not verify (R217, R219). -/
def Session.unwrapRsp (se : Session) (rmcv data : List Byte) (sw : W16) : Option (List Byte × List Byte) :=
  if !bit se.sl 4 then some (data, rmcv)
  else
    let g := se.gp (se.encCtr - 1) [se.enc, se.rmac] [se.mcv, rmcv, data, beBytes 2 sw.toNat]
    if Config.gpUnwrapOk g then some (Config.gpUnwrapData g, Config.gpUnwrapRmcv g) else none

/-! ## Precompute (R209, R222) -/

/-- The step expects 61xx and its response comes with a GET RESPONSE (R204). -/
def Step.is61 (st : Step) : Bool := st.expMask == 0xFF00 && st.expSw >>> 8 == 0x61

def getResponse : List Byte := [0x00, 0xC0, 0x00, 0x00, 0x00]

/-- A step waits for data that an unmatched step will produce (R209). -/
def Run.waitsFor (r : Run) (st : Step) : Bool :=
  st.subs.any (fun u =>
    (u.src == 3 && r.staged.any (fun t => match r.profile.steps[t.step]? with | some p => p.keep | none => false)) ||
    (u.src == 4 && r.staged.any (fun t => t.step == 0)))

/-- Commands queued and not yet matched, without GET RESPONSEs (R222, R223). -/
def Run.ahead (r : Run) : Nat := (r.staged.filter (fun t => t.kind != .getResponse)).length

/-- What the command of a step would take in staging (R208, R222). -/
def Run.cmdSize (r : Run) (st : Step) : Nat :=
  match r.session with
  | some se => if st.wrap then (se.wrapCmd st.tmpl).1.length else st.tmpl.length
  | none => st.tmpl.length

/-- Precompute stops before step k (R222): AHEAD, staging space, a sync point or the identity step queued, a
wait, or a new SC_OPEN behind unmatched commands (R220). -/
def Run.stops (r : Run) (st : Step) : Bool :=
  r.waitsFor st || r.staged.any (fun t => t.step == 0) ||
  (st.exchanges &&
    (r.profile.ahead ≤ r.ahead ||
      (!r.staged.isEmpty && 18432 < (r.staged.map (·.apdu.length)).sum + r.cmdSize st) ||
      (st.isScOpen && !r.staged.isEmpty)))

/-- Take the next CSNs of the session (R141); 0 in standard mode. -/
def takeCsn (n : SlotId) (s : State) : W16 × State :=
  match (s.slot n).gal with
  | some g => (g.csnNext, updGal n (fun g => { g with csnNext := nextCsn g.csnNext }) s)
  | none => (0, s)

/-- The intent of a journalled step; the first consumes the job's counter (R209 step 2). -/
def intentFor (id : JobId) (n : SlotId) (k : Nat) (st : Step) (csn : W16) (s : State) : Option W64 × State :=
  match s.findJob id with
  | none => (none, s)
  | some j =>
    if !journalled j k st then (none, s)
    else
      let h := (j.run.bind (fun r => r.profile.keys.head?)).getD 0
      let first := j.counter.isNone
      let s := match first, s.counterIndex h with
        | true, some i => consumeCounter id i h s
        | _, _ => s
      (some s.bank.jseqNext, writeIntent id n k st first csn s)

/-- Why a journalled step may not have its first intent (R255, R264). -/
def State.intentFault (s : State) (j : Job) (r : Run) (k : Nat) (st : Step) : Option W16 :=
  if !journalled j k st || j.counter.isSome then none
  else if j.ticket.nonIdempotent && s.auditFull then some 0x070B
  else if (s.counterIndex (r.profile.keys.getD 0 0)).isNone then some 0x070F
  else none

/-- The first check of R209 step 1 that step k fails. -/
def State.stepFault (s : State) (n : SlotId) (j : Job) (r : Run) (k : Nat) (st : Step) : Option W16 :=
  match s.keyFault r st with
  | some e => some e
  | none =>
    if st.wrap && r.session.isNone then some 0x0603
    else
      match s.subFault n j r (s.counterValue j r (journalled j k st)) st.subs with
      | some e => some e
      | none => s.intentFault j r k st

/-- Commands queued in staging with the run as it stands after them (R209 step 5, R223). -/
def queueStaged (id : JobId) (l : List Staged) (follow : Run → Run) (s : State) : State :=
  updRun id (fun r => follow { r with staged := r.staged ++ l }) s

/-- The INITIALIZE UPDATE of an SC_OPEN step (R215 steps 1 and 2); its CSNs are those of both commands (R244). -/
def stageScOpen (id : JobId) (n : SlotId) (j : Job) (k : Nat) (st : Step) (s : State) : State :=
  let ch := s.random 8
  let (c1, s) := takeCsn n (s.drew 8)
  let (c2, s) := takeCsn n s
  let (q, s) := intentFor id n k st c2 s
  let s := updRun id (fun r => { r with session := none, challenge := ch }) s
  match (s.findJob id).bind (·.run) with
  | none => s
  | some r =>
    let t : Staged :=
      { step := k, kind := .initUpdate, apdu := [0x80, 0x50, st.kvn, 0x00, 0x08] ++ ch ++ [0x00], exp := 0, csn := c1,
        jseq := q, sent := false, cp := r.checkpoint k j.result.length, after := (r.follow k st).next,
        afterRe := (r.follow k st).reentry }
    queueStaged id [t] (fun r => { r with next := none }) s

/-- An APDU step: intent, substitution, wrapping, staging; its GET RESPONSE directly behind it (R204, R209). A
command too long holds STAGING: wrapped over 8192 bytes (R207), plain over the staging area (R208). -/
def stageApdu (id : JobId) (n : SlotId) (j : Job) (r : Run) (k : Nat) (st : Step) (s : State) : State :=
  let (csn, s) := takeCsn n s
  let (q, s) := intentFor id n k st csn s
  let ctr := ((s.findJob id).bind (·.counter)).map (·.2)
  let (plain, s) := substitute n j r ctr st.subs st.tmpl s
  let (cmd, se) := match r.session with
    | some se => if st.wrap then ((se.wrapCmd plain).1, some (se.wrapCmd plain).2) else (plain, some se)
    | none => (plain, none)
  if (if st.wrap then 8192 else 18432) < cmd.length then
    let s := match q with | some q => settle q .notDone 0 2 (some n) s | none => s
    holdError id k 0x0609 s
  else
    let s := updRun id (fun r => { r with session := se }) s
    let cp := { r with session := se }.checkpoint k j.result.length
    let t : Staged :=
      { step := k, kind := .step, apdu := cmd, exp := st.exp, csn := csn, jseq := q, sent := false, cp := cp,
        after := (r.follow k st).next, afterRe := (r.follow k st).reentry }
    let early := st.is61 && !st.sync
    let (gcsn, s) := if early then takeCsn n s else (0, s)
    let g : Staged :=
      { t with kind := .getResponse, apdu := getResponse, exp := 0x9000, csn := gcsn, jseq := none }
    queueStaged id (if early then [t, g] else [t])
      (fun r => if st.sync then { r with next := none } else r.follow k st) s

/-- Precompute up to and including the next command step; internal steps on the way run at once (R209, R222).
The bound on their number is that of R205. -/
def precompute : Nat → JobId → SlotId → State → State
  | 0, _, _, s => s
  | fuel + 1, id, n, s =>
    match s.findJob id with
    | none => s
    | some j =>
      match j.run, j.run.bind (·.next) with
      | some r, some k =>
        match r.profile.steps[k]? with
        | none => s
        | some st =>
          if r.stops st then s
          else if 1024 ≤ r.stepsRun then settleIdle id (holdError id k 0x0607 s)
          else
            let s := updRun id (fun r => { r with stepsRun := r.stepsRun + 1 }) s
            let r := { r with stepsRun := r.stepsRun + 1 }
            match s.stepFault n j r k st with
            | some e => settleIdle id (holdError id k e s)
            | none =>
              if st.isScOpen then stageScOpen id n j k st s
              else if st.isApdu then settleIdle id (stageApdu id n j r k st s)
              else
                let key := s.keyValue r (if st.kind == 3 then st.nib 0 else st.nib 2)
                let (d, s) := substitute n j r (s.counterValue j r false) st.subs st.tmpl s
                let s := updRun id (fun r => (internalStep r st key d).follow k st) s
                precompute fuel id n (settleIdle id s)
      | _, _ => s

/-! ## Open journal entries of the card (R175, R250 to R252) -/

/-- The open entries that the card's digest matches. -/
def State.entriesOf (s : State) (digest : W64) : List Intent := s.openIntents.filter (fun e => e.digest == digest)

/-- Entries matched by the card are settled from its record, each with its event (R250, R251). -/
def settleCard (n : SlotId) (l : List Intent) (s : State) : State :=
  let s := match (s.slot n).lts with
    | some r => settleFrom n r 4 l s
    | none => s
  forEach l (fun e s =>
    if s.openIntents.any (fun o => o.jseq == e.jseq) then
      raise 0x0703 (some n) (e.jseq.toNat % 2 ^ 32) s
    else raise 0x0702 (some n) (e.jseq.toNat % 2 ^ 32) s) s

/-- The card's identity is known: its entries are resolved before the job's first byte, and a job on a card
with an unresolvable one ends JOURNAL_OPEN (R175, R252). -/
def admitCard (id : JobId) (n : SlotId) (ok : State → State) (s : State) : State :=
  match (s.slot n).digest with
  | none => s
  | some d =>
    let s := s.updJob id (fun j => { j with digest := d })
    let s := noteJournal (settleCard n (s.entriesOf d) s)
    if (s.entriesOf d).isEmpty then ok s else failJob id 0x0707 s

/-! ## Matching (R203, R217 to R224, R246) -/

/-- Later commands are dropped: never sent or cancelled by the card, they are NOT_DONE (R224, R246). -/
def dropStaged (id : JobId) (n : SlotId) (l : List Staged) (s : State) : State :=
  let s := forEach l (fun t s => match t.jseq with | some q => settle q .notDone 0 2 (some n) s | none => s) s
  updRun id (fun r => { r with staged := r.staged.filter (fun t => !l.contains t) }) s

/-- Go to a target (R203). -/
def goTarget (id : JobId) (st : Step) (t : Nat) (s : State) : State :=
  if t < 0xFD then updRun id (fun r => { r with next := some t, reentry := [], held := none, baseNext := some t, baseRe := [] }) s
  else if t == 0xFD then endJob id .done 0 s
  else failJob id st.failCode s

/-- Data taken from a response belongs to every checkpoint after its step (R223). -/
def Run.grow (r : Run) (keep result : Nat) : Run :=
  { r with staged := r.staged.map (fun t =>
      { t with cp := { t.cp with keepLen := t.cp.keepLen + keep, resultLen := t.cp.resultLen + result } }) }

/-- RETURN takes the response data into the result store (R202, R208). -/
def takeResult (id : JobId) (d : List Byte) (s : State) : State :=
  s.updJob id (fun j =>
    let res := (j.result ++ d).take 4096
    { j with resultTrunc := j.resultTrunc || 4096 < j.result.length + d.length, result := res,
             run := j.run.map (fun r => r.grow 0 (res.length - j.result.length)) })

/-- KEEP takes it into the keep area (R202, R206). -/
def takeKeep (id : JobId) (d : List Byte) (s : State) : State :=
  updRun id (fun r =>
    let k := (r.keep ++ d).take 4096
    { r with keep := k }.grow (k.length - r.keep.length) 0) s

def takeData (id : JobId) (st : Step) (d : List Byte) (s : State) : State :=
  onlyIf st.keep (takeKeep id d) (onlyIf st.ret (takeResult id d) s)

/-- Where a status word leads besides the primary row: ALT, or ON_FAIL with 0xFF as 0xFE (R203). -/
def Step.otherTarget (st : Step) (sw : W16) : Nat :=
  if st.altTo != 0xFF && swMatches sw st.altSw st.altMask then st.altTo.toNat
  else if st.onFail == 0xFF then 0xFE else st.onFail.toNat

/-- The identity step has matched: the slot keeps digest and data, and the entries of the card are resolved
(R175, R252). -/
def takeIdentity (id : JobId) (n : SlotId) (d : List Byte) (s : State) : State :=
  admitCard id n (fun s => s)
    (s.updSlot n (fun x => { x with cardId := d, digest := some (BitVec.ofNat 64 (leAt (padTo 8 (Config.sha256 d)) 0 8)) }))

/-- Staged command t of step st is matched with the step's status word (R203, R217 to R224, R246); `rsw` and
`data` are what its response carried. A GET RESPONSE takes the primary row with 9000 alone (R204). -/
def matchStep (id : JobId) (n : SlotId) (t : Staged) (st : Step) (sw rsw : W16) (data : List Byte) (s : State) : State :=
  match (s.findJob id).bind (·.run) with
  | none => s
  | some r =>
    let closed := st.wrap && (sw == 0x6982 || sw == 0x6988)
    let plain : Option (List Byte × List Byte) :=
      match t.cp.session with
      | some se => if st.wrap && !closed then se.unwrapRsp ((r.session.map (·.rmcv)).getD se.rmcv) data rsw
                   else some (data, (r.session.map (·.rmcv)).getD se.rmcv)
      | none => some (data, [])
    match plain with
    | none => endJob id .indeterminate 0x0606 (updRun id (fun r => { r with session := none }) s)
    | some (d, rm) =>
      let s := match t.jseq with | some q => settle q .done rsw 1 (some n) s | none => s
      let s := updRun id (fun r =>
        { r with session := r.session.map (fun se => { se with rmcv := rm }),
                 staged := r.staged.erase t }) s
      let close (s : State) : State :=
        onlyIf (closed || (st.isScOpen && sw != 0x9000)) (updRun id (fun r => { r with session := none })) s
      if (if t.kind == .getResponse then rsw == 0x9000 else swMatches sw st.expSw st.expMask) then
        let s := updRun id (fun r => { r with base := t.cp, baseNext := t.after, baseRe := t.afterRe }) s
        let s := close (takeData id st d s)
        let s := if st.sync then updRun id (fun r => r.follow t.step st) s else s
        let s := if t.step == 0 then takeIdentity id n d s else s
        settleIdle id s
      else
        let s := dropStaged id n ((((s.findJob id).bind (·.run)).map (·.staged)).getD []) s
        let s := updRun id (fun r => { r.restore t.cp with base := t.cp }) s
        let s := s.updJob id (fun j => { j with result := j.result.take t.cp.resultLen })
        let s := close (takeData id st d s)
        goTarget id st (st.otherTarget sw) s

end Sys2Proof.Machine
end

