-- ==== Sys2Proof/Machine/SlotElec.lean ====
section
/-! DEFINITION. Activation and deactivation of a slot, emergency triggers, supplies and the reference
clock (02_slot_electrical, 08 R278 to R281, 01 R25 to R29). -/

namespace Sys2Proof.Machine

open Sys2Proof

/-! ## Admission (R278, R279, R281) -/

/-- The ring may grant: parked or settled with no retarget needed, in admission, with a token left (R274, R278). -/
def State.ringMayGrant (s : State) (r : RingId) (k : CardClass) : Bool :=
  let x := s.ring r
  x.phase == .settled && x.joined && !x.fenced && x.headroomNext.isNone && classRank k ≤ classRank x.railCls &&
    s.ringTokensUsed r < s.regs.ringTokens

/-- The oldest request whose ring can grant; within a ring only the oldest counts (R279). -/
def State.nextGrant (s : State) : Option Request :=
  s.requests.find? (fun q =>
    (match s.ringQueue (ringOf q.slot) with | h :: _ => h.slot == q.slot | [] => false) &&
      s.ringMayGrant (ringOf q.slot) q.cls && (s.slot q.slot).present)

/-- Card-link state of a slot as an activation begins (R45, R77, R82, R95, R109). -/
def Slot.freshLink (x : Slot) : Slot :=
  { x.endLink with rate := { Rate.reset with n := x.clkDivAct }, fiCode := 1, guardN := 0, wi := 10, xi := 0, galCap := none,
                   clk := .low, io := .low, rst := false, d0PullUp := false }

/-- A grant: both tokens are taken and the LDO starts under blanking (R48 step 2, R278). -/
def grant (q : Request) (s : State) : State :=
  let s := { s with requests := s.requests.filter (fun p => p.slot != q.slot) }
  s.updSlot q.slot (fun x =>
    { x.freshLink with phase := .powering, cls := some q.cls, token := true, ldo := true, vcc := .ramp,
                       blanked := true, qualified := false, warm := false })

/-- TOKEN_GRANT (R48 step 2, R278, R279). -/
def execTokenGrant (s : State) : Out :=
  s.gate (s.mainUp && s.power.vinOk && s.power.vcoreOk && s.tokensUsed < s.regs.globalTokens) (fun s =>
    match s.nextGrant with
    | some q => grant q s
    | none => s)

/-- ADMIT_WAIT (R281, R286): once for a request, beyond the threshold in force. -/
def execAdmitWait (slot : SlotId) (s : State) : Out :=
  match s.requests.find? (fun q => q.slot == slot) with
  | none => .next s
  | some q =>
    let wait := s.regs.time.toNat - q.since.toNat
    s.gate (s.mainUp && !q.warned && s.regs.waitWarn != 0 && s.regs.waitWarn < wait) (fun s =>
      raise 0x0801 (some slot) (min 0xFFFF (wait / 10) + min 0xFFFF (q.wmax / 10) * 2 ^ 16)
        { s with requests := s.requests.map (fun p => if p.slot == slot then { p with warned := true } else p) })

/-! ## Activation (R48, R50, R52) -/

/-- A slot in a given phase, while the main side is up. -/
def State.inPhase (s : State) (n : SlotId) (p : SlotPhase) : Bool := s.mainUp && (s.slot n).phase == p

/-- VCC_QUALIFIED (R48 step 3, R278). -/
def execVccQualified (slot : SlotId) (s : State) : Out :=
  s.gate (s.inPhase slot .powering && !(s.slot slot).qualified) (fun s =>
    s.updSlot slot (fun x => { x with qualified := true, vcc := .on, token := false, io := .pullUp }))

/-- CLK_START (R48 step 4). -/
def execClkStart (slot : SlotId) (s : State) : Out :=
  s.gate (s.inPhase slot .powering && (s.slot slot).qualified && (s.slot slot).clk != .run) (fun s =>
    s.updSlot slot (fun x => { x with clk := .run }))

/-- RST_RISE (R48 step 5, R72), also of a warm reset (R108). -/
def execRstRise (slot : SlotId) (s : State) : Out :=
  let x := s.slot slot
  s.gate (s.mainUp && !x.rst && x.clk == .run &&
      (x.phase == .powering && x.qualified || x.phase == .atrWait && x.warm)) (fun s =>
    s.updSlot slot (fun x => { x with rst := true, phase := .atrWait }))

/-- An attempt fails: the count rises and the slot deactivates with the cause (R52). -/
def failAttempt (n : SlotId) (c : Cause) (s : State) : State :=
  loseNormal n c (s.updSlot n (fun x => { x with failCount := min 3 (x.failCount + 1) }))

/-- VCC_FAIL (R50, R72, R278). -/
def execVccFail (slot : SlotId) (s : State) : Out :=
  s.gate (s.inPhase slot .powering && !(s.slot slot).qualified) (failAttempt slot .vccFail)

/-- OC_BLANKING_END (R48, R294). -/
def execOcBlankingEnd (slot : SlotId) (s : State) : Out :=
  s.gate (s.mainUp && (s.slot slot).blanked) (fun s => s.updSlot slot (fun x => { x with blanked := false }))

/-- The class a step would go to (R42). -/
def Slot.stepClass (x : Slot) : Option CardClass := x.cls.bind (nextClass x.classMask)

/-- A class step: a normal deactivation that keeps the job, and a new attempt at the next class (R42, R72). -/
def classStep (n : SlotId) (k : CardClass) (s : State) : State :=
  (startNormal n .classStep false s).updSlot n (fun x => { x with stepTo := some k })

/-- No ATR, or an indicator that excludes the class: a class step, or a failed attempt with the cause when no
higher class is left. After a warm reset no class step is made (R42, R72, R108). -/
def stepOrFail (n : SlotId) (c : Cause) (s : State) : State :=
  let x := s.slot n
  match (if x.warm then none else x.stepClass) with
  | some k => classStep n k s
  | none => failAttempt n c s

/-! ## Normal deactivation (R53, R56, R457) -/

/-- A normal order at a step. -/
def State.atDeact (s : State) (n : SlotId) (st : DeactStep) : Bool :=
  match (s.slot n).deact with
  | some d => (s.slot n).phase == .deactivating && !d.emergency && d.step == st
  | none => false

def setDeact (n : SlotId) (f : Deact → Deact) (s : State) : State :=
  s.updSlot n (fun x => { x with deact := x.deact.map f })

/-- C7, C4, C6 and C8 fall (R53 step 4). -/
def linesLow (n : SlotId) (s : State) : State :=
  (setDeact n (fun d => { d with step := .linesLow }) s).updSlot n (fun x => { x with io := .low, d0PullUp := false })

/-- DEACT_CLK_STOP (R53 steps 2 to 4): without the window the lines fall next. -/
def execDeactClkStop (slot : SlotId) (s : State) : Out :=
  s.gate (s.mainUp && s.atDeact slot .rstLow) (fun s =>
    let w := match (s.slot slot).deact with | some d => d.window | none => false
    let s := s.updSlot slot (fun x => { x with clk := .low })
    if w then setDeact slot (fun d => { d with step := .window }) s else linesLow slot s)

/-- The slot's plan after a window: readings saturate at 4000 mΩ; the standing warning has hysteresis (R457). -/
def SlotPlan.take (p : SlotPlan) (r : WindowReading) : SlotPlan :=
  let v := (min 4000 r.vcc :: p.vccHist).take 3
  let g := (min 4000 r.gnd :: p.gndHist).take 3
  let k := max (contactResult v) (contactResult g)
  { p with vccHist := v, gndHist := g, dropout := r.dropout,
           warn := if 500 ≤ k then true else if k < 450 then false else p.warn }

/-- The higher of the VCC and GND results (R56, R179). -/
def SlotPlan.worst (p : SlotPlan) : Nat := max (contactResult p.vccHist) (contactResult p.gndHist)

/-- What a result means: a warning event from 0.5 Ω, and a contact fence at the end of the deactivation from
1.5 Ω (R56, R434). -/
def judgeContact (n : SlotId) (s : State) : State :=
  let k := (s.planOf n).worst
  let s := onlyIf (500 ≤ k) (raise 0x0106 (some n) k) s
  onlyIf (1500 ≤ k) (fun s => latchError 0x0101 (.slot n) none true (markFence n .contact 0x0101 s)) s

/-- MEASUREMENT_WINDOW_END (R53 step 4, R56, R457, R458). -/
def execMeasurementWindowEnd (slot : SlotId) (r : WindowReading) (s : State) : Out :=
  s.gate (s.mainUp && s.atDeact slot .window) (fun s =>
    let s := setDeact slot (fun d => { d with reading := some r }) s
    linesLow slot (judgeContact slot (setPlan slot ((s.planOf slot).take r) s)))

/-- The LDO goes off and VCC discharges (R53 step 5, R57, R516). -/
def ldoOff (n : SlotId) (s : State) : State :=
  (setDeact n (fun d => { d with step := .ldoOff }) s).updSlot n (fun x =>
    { x with ldo := false, vcc := .discharge, blanked := false })

/-- DEACT_LDO_OFF (R53 step 5). -/
def execDeactLdoOff (slot : SlotId) (s : State) : Out :=
  s.gate (s.mainUp && s.atDeact slot .linesLow) (ldoOff slot)

/-! ## The emergency order (R57) -/

/-- EMERGENCY_STEP (R57): CLK at once, then the lines, then the LDO. -/
def execEmergencyStep (slot : SlotId) (s : State) : Out :=
  match (s.slot slot).deact with
  | none => .next s
  | some d =>
    s.gate (s.power.vstby && d.emergency && (s.slot slot).phase == .deactivating) (fun s =>
      match d.step with
      | .rstLow | .window =>
        setDeact slot (fun d => { d with step := .clkLow }) (s.updSlot slot (fun x => { x with clk := .low }))
      | .clkLow => linesLow slot s
      | .linesLow => ldoOff slot s
      | .ldoOff => s)

/-! ## The end of a deactivation (R52, R72) -/

/-- The rail class of a ring fell when a slot left: the down hold starts, unless a request wants the class the
rail is at (R275). -/
def railFell (r : RingId) (before : CardClass) (s : State) : State :=
  let now := s.ringClass r
  let x := s.ring r
  if classRank now < classRank before && classRank now < classRank x.railCls && x.phase != .off && !x.postponed then
    s.updRing r (fun x => { x with downHold := !(s.ringQueue r).any (fun q => q.cls == x.railCls) })
  else s

/-- The eject request of a released card (R191): none when it was removed. -/
def ejectAtEnd (n : SlotId) (s : State) : State :=
  let x := s.slot n
  match x.eject with
  | none => s
  | some (bin, job) =>
    let s := s.updSlot n (fun x => { x with eject := none })
    if x.cause == .removal then s else stationCommand n true bin job s

/-- A job on the slot that no longer has one to run on (R180, R193). -/
def loseIfExcluded (n : SlotId) (s : State) : State :=
  if (s.slot n).phase == .off then s else lostJob n .none s

/-- The slot of a deactivation that is over: every line low, VCC off, t_OFF running (R53 step 6, R516). -/
def Slot.down (x : Slot) (fails : Bool) : Slot :=
  { x.endLink with
    phase := .off, deact := none, vcc := .off, ldo := false, cls := none, rst := false, clk := .low, io := .low,
    d0PullUp := false, qualified := false, blanked := false, deactReq := false, tOff := true,
    failCount := if fails then min 3 (x.failCount + 1) else x.failCount,
    resolution := if x.stepTo.isSome then x.resolution else none }

/-- The attempt counts as failed when the recorded emergency cause is one of three (R52, R60). -/
def Slot.countsNow (x : Slot) : Bool :=
  match x.deact with
  | some d => d.counted && (x.cause == .overcurrent || x.cause == .short || x.cause == .vccWindow)
  | none => false

/-- UNSTABLE, with its event (R72, R179). -/
def enterUnstable (n : SlotId) (s : State) : State :=
  raise 0x0104 (some n) (s.slot n).transitions
    (s.updSlot n (fun x => { x with phase := .unstable, unstablePending := false, stepTo := none, resolution := none }))

/-- QUARANTINED, with its event (R52, R72, R179). -/
def enterQuarantined (n : SlotId) (s : State) : State :=
  raise 0x0103 (some n) (s.slot n).cause.code
    (s.updSlot n (fun x => { x with phase := .quarantined, stepTo := none, resolution := none }))

/-- Where the slot goes: FENCED, then UNSTABLE, then QUARANTINED, then OFF with or without a class step (R72). -/
def settleSlot (n : SlotId) (s : State) : State :=
  let x := s.slot n
  if x.fencePending then enterFenced n x.fenceSrc x.fenceCode s
  else if x.unstablePending then enterUnstable n s
  else if 3 ≤ x.failCount then enterQuarantined n s
  else s

/-- A SLOT_ADMIN DEACTIVATE ends when its slot is below 0.4 V (R168). -/
def adminDown (n : SlotId) (s : State) : State :=
  match s.holder n with
  | some j => if j.ticket.isSlotAdmin && j.ticket.op == 2 && j.phase == .started then doneWith j.ticket.jobId [] s else s
  | none => s

/-- Everything that waits for VCC below 0.4 V. -/
def endDeactivation (n : SlotId) (s : State) : State :=
  let r := ringOf n
  let before := s.ringClass r
  let fails := (s.slot n).countsNow
  let s := settleSlot n (s.updSlot n (fun x => x.down fails))
  let s := loseIfExcluded n (adminDown n (ejectAtEnd n s))
  let s := slotOffDone n (stopUnused r (stopIfDown r (railFell r before s)))
  fatalProgress (windDownStep6 s)

/-- DEACTIVATION_END (R72, R516): the VOFF decision after the LDO-off step. -/
def execDeactivationEnd (slot : SlotId) (s : State) : Out :=
  match (s.slot slot).deact with
  | none => .next s
  | some d => s.gate (s.power.vstby && (s.slot slot).phase == .deactivating && d.step == .ldoOff) (endDeactivation slot)

/-- A slot that a job waits on asks for power when it may (R47, R180, R190). -/
def wantActivation (n : SlotId) (s : State) : State :=
  match s.holder n with
  | some j =>
    if j.ticket.runsProfile && (j.phase == .placed || j.phase == .started) && s.canActivate n &&
        (s.slot n).firstClass.isSome then
      (requestActivation n s).updJob j.ticket.jobId (fun j => { j with activated := true })
    else s
  | none => s

/-- T_OFF_END (R47, R72): a class step asks for its token, or is dropped with its slot's job when its conditions
no longer hold. -/
def execTOffEnd (slot : SlotId) (s : State) : Out :=
  s.gate (s.mainUp && (s.slot slot).tOff && (s.slot slot).vcc == .off) (fun s =>
    let s := s.updSlot slot (fun x => { x with tOff := false })
    if (s.slot slot).phase != .off then s
    else
      match (s.slot slot).stepTo with
      | some k =>
        let s := s.updSlot slot (fun x => { x with stepTo := none })
        if s.canActivate slot && !(s.regs.windDown && (s.slot slot).job.isNone) then joinQueue slot k s
        else lostJob slot .none (s.updSlot slot (fun x => { x with resolution := none }))
      | none => wantActivation slot s)

/-- VOFF_ABOVE (R296): t_OFF starts again. -/
def execVoffAbove (slot : SlotId) (s : State) : Out :=
  s.gate (s.mainUp && !(s.slot slot).ldo && (s.slot slot).vcc == .off) (fun s =>
    s.updSlot slot (fun x => { x with tOff := true }))

/-! ## Emergency triggers (R58, R295, R298) -/

/-- OVERCURRENT (R40, R58). -/
def execOvercurrent (slot : SlotId) (s : State) : Out :=
  s.gate (s.mainUp && (s.slot slot).ldo && !(s.slot slot).blanked) (loseEmergency slot .overcurrent)

/-- A contact with a short sense decides; VSC after its blanking (R288, R294). -/
def Slot.shortDecides (x : Slot) : ShortAt → Bool
  | .vcc => x.ldo && !x.blanked
  | .contact c => x.ldo && 5 ≤ c.code && c.code ≤ 0xA

/-- SHORT (R58, R297). -/
def execShort (slot : SlotId) (at_ : ShortAt) (s : State) : Out :=
  s.gate (s.mainUp && (s.slot slot).shortDecides at_) (loseEmergency slot .short)

/-- VCC_WINDOW (R58, R294). -/
def execVccWindow (slot : SlotId) (s : State) : Out :=
  s.gate (s.mainUp && (s.slot slot).ldo && (s.slot slot).qualified) (loseEmergency slot .vccWindow)

/-- REMOVAL (R58, R62). -/
def execRemoval (slot : SlotId) (s : State) : Out :=
  s.gate (s.mainUp && (s.slot slot).present && (s.slot slot).phase.powered) (fun s =>
    loseEmergency slot .removal (decideAbsent slot s))

/-! ## Supplies and the reference clock (R25, R26, R29, R479) -/

/-- A Sideshow command that waits for the main side ends when the main side leaves UP; MAIN_RESET is the
exception (R372, R378). -/
def sideLost (s : State) : State :=
  { s with side.result := if s.side.result == .pending && s.side.cmd != 0x21 then .mainUnavailable else s.side.result,
           side.answer := none, side.answerBarriers := 0, side.slotOffWait := [] }

/-- SUPPLY_TRIGGER (R29, R441, R479): with VCORE present a main-side reset follows, without it the main side is
off. -/
def execSupplyTrigger (vcore : Bool) (s : State) : Out :=
  s.gate s.mainUp (fun s =>
    let s := emergencyAll .supplyOrClock s
    let s := logStandby 0x0F02 0 0 0 (latchAt 0x0F02 0 0 none none false s)
    if vcore then
      sideLost { s with power := { s.power with main := .off, vcoreOk := false } }
    else
      let p : Power := { s.power with vinOk := false, board := { s.power.board with vinOk := false } }
      resetBy .supply { s with power := p })

/-- REF_CLOCK_LOST (R25, R374): the main side is held in reset. -/
def execRefClockLost (s : State) : Out :=
  s.gate (s.mainUp && s.power.refClock) (fun s =>
    let s := emergencyAll .supplyOrClock s
    let s := logStandby 0x0F01 0 0 0 (latchAt 0x0F01 0 0 none none false s)
    sideLost { s with power := { s.power with main := .reset .refClock, refClock := false } })

/-- REF_CLOCK_RESTORED (R25, R479). -/
def execRefClockRestored (s : State) : Out :=
  s.gate (s.power.vstby && s.power.main == .reset .refClock) (resetBy .refClock)

/-- VSTBY_FALL (R26): everything is lost but what Big Top latched. -/
def execVstbyFall (s : State) : Out :=
  s.gate s.power.vstby (fun s =>
    { s with power := { s.power with vstby := false, main := .off, aonUs := 0 },
             standby := { Standby.reset with tamper := s.standby.tamper }, side := { Sideshow.reset with nonce := [] },
             slots := Vector.replicate 64 Slot.reset })

/-- VIN_RING_RESTORED (R284). -/
def execVinRingRestored (s : State) : Out :=
  s.gate s.power.vstby (fun s =>
    { s with power := { s.power with vinOk := true, board := { s.power.board with vinOk := true } } })

end Sys2Proof.Machine
end

