-- ==== Sys2Proof/Machine/CharLayer.lean ====
section
/-! DEFINITION. ATR, PPS, T=0 and T=1 on the wire, the clock stop and the warm reset
(03_character_layer), and the resolution activation's exchanges (07 R253). -/

namespace Sys2Proof.Machine

open Sys2Proof

/-! ## The ATR (R98) -/

/-- What an ATR says. -/
structure Atr where
  /-- characters it has to its end -/
  length : Nat
  ta1 : Option Byte
  tc1 : Option Byte
  ta2 : Option Byte
  tc2 : Option Byte
  /-- protocols named by the TD bytes, in order -/
  protos : List Nat
  /-- TA, TB and TC of the first T=1 group from the third on -/
  ta3 : Option Byte
  tb3 : Option Byte
  tc3 : Option Byte
  /-- the first T=15 TA -/
  ta15 : Option Byte
  hist : List Byte
  deriving DecidableEq, Repr

/-- The interface bytes of the groups a Y nibble announces (R98): group number, protocol of the group, position.
The bound is the number of characters an ATR can have. -/
def readGroups (b : List Byte) : Nat → Nat → Nat → Nat → Nat → Atr → Atr
  | 0, _, _, _, pos, a => { a with length := pos }
  | fuel + 1, y, g, t, pos, a =>
    let has (k : Nat) : Bool := y.testBit k
    let posB := pos + (if has 0 then 1 else 0)
    let posC := posB + (if has 1 then 1 else 0)
    let posD := posC + (if has 2 then 1 else 0)
    let ta := if has 0 then some (byteAt b pos) else none
    let tb := if has 1 then some (byteAt b posB) else none
    let tc := if has 2 then some (byteAt b posC) else none
    let typed := 3 ≤ g
    let a := { a with
      ta1 := if g == 1 then ta else a.ta1, tc1 := if g == 1 then tc else a.tc1,
      ta2 := if g == 2 then ta else a.ta2, tc2 := if g == 2 then tc else a.tc2,
      ta3 := if typed && t == 1 && a.ta3.isNone then ta else a.ta3,
      tb3 := if typed && t == 1 && a.tb3.isNone then tb else a.tb3,
      tc3 := if typed && t == 1 && a.tc3.isNone then tc else a.tc3,
      ta15 := if typed && t == 15 && a.ta15.isNone then ta else a.ta15 }
    if has 3 then
      let td := byteAt b posD
      readGroups b fuel (field td 4 4) (g + 1) (field td 0 4) (posD + 1)
        { a with protos := a.protos ++ [field td 0 4] }
    else { a with length := posD }

/-- TCK is present when a TD names a protocol other than T=0 (R98). -/
def Atr.hasTck (a : Atr) : Bool := a.protos.any (· != 0)

/-- An ATR read from its characters, TS first (R98). -/
def readAtr (b : List Byte) : Atr :=
  let t0 := byteAt b 1
  let a := readGroups b 33 (field t0 4 4) 1 0 2
    { length := 2, ta1 := none, tc1 := none, ta2 := none, tc2 := none, protos := [], ta3 := none, tb3 := none,
      tc3 := none, ta15 := none, hist := [] }
  let k := field t0 0 4
  { a with hist := slice b a.length k, length := a.length + k + (if a.hasTck then 1 else 0) }

/-- Received intact (R42): TS, at most 33 characters, no gap, no parity or framing error, TCK right. -/
def atrIntact (raw : List Byte) (f : CharFaults) : Bool :=
  let a := readAtr raw
  (byteAt raw 0 == 0x3B || byteAt raw 0 == 0x3F) && a.length ≤ 33 && a.length ≤ raw.length && !f.parity && !f.gap &&
    (!a.hasTck || xorAll (slice raw 1 (a.length - 1)) == 0)

/-- Protocols offered, in order (R100). -/
def Atr.offered (a : Atr) : List Nat :=
  if a.protos.isEmpty then [0] else a.protos.filter (fun p => p == 0 || p == 1)

/-- Fi and Di codes of a byte, none when one is RFU (R76). -/
def rateCodes (b : Byte) : Option (Nat × Nat) :=
  if (fiOf (field b 4 4)).isSome && (diOf (field b 0 4)).isSome then some (field b 4 4, field b 0 4) else none

/-- A content rule of R99 is broken. -/
def Atr.broken (a : Atr) : Bool :=
  a.offered.isEmpty ||
    (match a.ta2 with
     | some t => 1 < field t 0 4 || bit t 4 || (match a.ta1 with | some b => (rateCodes b).isNone | none => false)
     | none => false) ||
    a.ta3 == some 0 || a.ta3 == some 0xFF ||
    (match a.tb3 with | some b => 9 < field b 4 4 | none => false)

/-- The class indicator excludes the class in use (R42): T=15 TA bits A, B and C. -/
def Atr.excludes (a : Atr) (k : Option CardClass) : Bool :=
  match a.ta15, k with
  | some t, some k =>
    field t 0 3 != 0 && !bit t (match k with | .a => 0 | .b => 1 | .c => 2)
  | _, _ => false

/-- The first compact-TLV object 0x54 whose value begins with 0x47 (R112). -/
def findCap : Nat → List Byte → Option (List Byte)
  | 0, _ => none
  | _ + 1, [] => none
  | fuel + 1, h :: t =>
    let len := field h 0 4
    if t.length < len then none
    else if h == 0x54 && byteAt t 0 == 0x47 then some (t.take 4)
    else findCap fuel (t.drop len)

/-- The Galloper capability object of the historical bytes; an invalid one counts as none (R112). -/
def galCapOf (hist : List Byte) : Option GalCap :=
  if byteAt hist 0 != 0x80 then none
  else
    match findCap 16 (hist.drop 1) with
    | none => none
    | some v =>
      let c1 := byteAt v 1
      let c2 := byteAt v 2
      let c3 := (byteAt v 3).toNat
      let depth := field c2 0 3
      if field c1 4 4 == 1 && field c1 0 4 != 0xF && 1 ≤ depth && depth ≤ 4 && field c2 6 2 == 0 &&
          1 ≤ c3 && c3 ≤ 0x3F then
        some { maxCode := field c1 0 4, depth := depth, classB := bit c2 3, classC := bit c2 4, stopOk := bit c2 5,
               blockKiB := c3 }
      else none

/-! ## PPS (R101, R102) -/

def protoOf (p : Nat) : Proto := if p == 1 then .t1 else .t0

/-- Protocol, Fi and Di codes that apply without PPS (R100); Fd and Dd are codes 1 and 1. -/
def Atr.plain (a : Atr) : Nat × Nat × Nat :=
  match a.ta2 with
  | some t =>
    let r := ((a.ta1.bind rateCodes)).getD (1, 1)
    (field t 0 4, r.1, r.2)
  | none => (a.offered.headD 0, 1, 1)

/-- What PPS would propose, and TA1 when it goes along; none when no PPS is sent (R101, R103). -/
def Atr.proposal (a : Atr) (policy : Nat) (failed : Bool) : Option (Nat × Option (Byte × Nat × Nat)) :=
  let p := if a.offered.contains 1 then 1 else 0
  let ta := if policy == 1 then a.ta1.bind (fun b => (rateCodes b).map (fun r => (b, r.1, r.2))) else none
  let differs := p != a.offered.headD 0 || (match ta with | some (b, _, _) => b != 0x11 | none => false)
  if a.ta2.isNone && !failed && (policy == 1 || policy == 2) && differs then some (p, ta) else none

/-- The PPS request (R102). -/
def ppsRequest (p : Nat) (ta : Option Byte) : List Byte :=
  let b : List Byte := [0xFF, BitVec.ofNat 8 (p + bitAt ta.isSome 4)] ++ ta.toList
  b ++ [xorAll b]

/-! ## The resolution activation's steps (R253) -/

/-- The lowest open entry of a profile that names the slot. -/
def State.lowestOpen (s : State) (n : SlotId) (p : W16) : Option Intent :=
  (s.openIntents.filter (fun e => e.slot == n && e.profileId == p)).foldl
    (fun a e => match a with | some b => if e.jseq.toNat < b.jseq.toNat then some e else some b | none => some e) none

/-- Step 0 of a profile as the resolution sends it: RECORD substitutions from its lowest open entry's record,
RANDOM from the TRNG; none when it needs anything else or its record is not stored. -/
def resolutionStep (n : SlotId) (p : W16) (s : State) : Option (Step × List Byte × State) :=
  match (s.profile p).bind (·.steps.head?), s.lowestOpen n p with
  | some st, some e =>
    let rec build : List Sub → List Byte → State → Option (List Byte × State)
      | [], t, s => some (t, s)
      | u :: us, t, s =>
        let put (b : List Byte) : List Byte := t.take u.dst ++ padTo u.len b ++ t.drop (u.dst + u.len)
        match u.src.toNat with
        | 1 =>
          match s.record e.recordId with
          | some (_, d) => if u.sarg + u.len ≤ d.length then build us (put (slice d u.sarg u.len)) s else none
          | none => none
        | 6 => build us (put (s.random u.len)) (s.drew u.len)
        | _ => none
    (build st.subs st.tmpl s).map (fun r => (st, r.1, r.2))
  | _, _ => none

/-- The next profile's step 0 goes out; after the last the slot deactivates (R253). -/
def resolveNext (n : SlotId) : List W16 → State → State
  | [], s => startNormal n .host false (s.updSlot n (fun x => { x with resolution := none }))
  | p :: ps, s =>
    match resolutionStep n p s with
    | some (st, apdu, s) =>
      startExch n .resolution 0 0 0 apdu st.respMax (s.updSlot n (fun x => { x with resolution := some (p :: ps) }))
    | none => resolveNext n ps s

/-- The slot stands in READY with its card idle: a resolution goes on, and a warm reset due is made. -/
def whenReady (n : SlotId) (s : State) : State :=
  let x := s.slot n
  if x.phase != .ready || x.exch.isSome then s
  else if x.warmDue then tryWarm n s
  else
    match x.resolution with
    | some l => if x.ended.isEmpty then resolveNext n l s else s
    | none => s

/-! ## READY (R77, R90, R100, R108) -/

/-- A SLOT_ADMIN ACTIVATE or WARM_RESET ends when the slot reaches READY (R168). -/
def adminReady (n : SlotId) (s : State) : State :=
  match s.holder n with
  | some j =>
    if j.ticket.isSlotAdmin && (j.ticket.op == 1 || j.ticket.op == 3) && j.phase == .started then
      doneWith j.ticket.jobId [] s
    else s
  | none => s

/-- The record of the last transactions must be read: commands a warm reset left unsettled, or an open Galloper
entry and a capable card (R150, R250). -/
def State.ltsWanted (s : State) (n : SlotId) : Bool :=
  let x := s.slot n
  x.proto == .t1 && (!x.unsettled.isEmpty || (x.galCap.isSome && x.lts.isNone && s.openIntents.any (·.galloper)))

/-- ATR and PPS are accepted: the count restarts, the run clock is staged, and under T=1 S(IFS) goes first (R52,
R77, R90, R100, R108). -/
def acceptCard (n : SlotId) (fi di : Nat) (p : Proto) (s : State) : State :=
  let s := s.updSlot n (fun x =>
    { x with phase := .ready, failCount := 0, proto := p, fiCode := fi, shadow := some (runRate x.clkDivMin fi di),
             pps := none, ppsPlan := none, warm := false, unsettled := if p == .t1 then x.unsettled else [] })
  let s := s.updSlot n (fun x => { x with ltsDue := s.ltsWanted n })
  let s := adminReady n s
  if (s.slot n).phase != .ready then s
  else if p == .t1 then startIfs n s
  else whenReady n s

/-- Parameters of the ATR that hold whatever the PPS brings (R82, R89, R91, R95, R98, R109, R112). -/
def Slot.takeAtr (x : Slot) (raw : List Byte) (a : Atr) : Slot :=
  { x with
    inverse := byteAt raw 0 == 0x3F, guardN := a.tc1.getD 0,
    wi := ((a.tc2.map (·.toNat)).getD 10), xi := ((a.ta15.map (fun t => field t 6 2)).getD 0),
    galCap := galCapOf a.hist,
    t1 := { T1.reset with ifsc := (a.ta3.map (·.toNat)).getD 32, crc := (a.tc3.map (fun t => bit t 0)).getD false,
                          cwi := (a.tb3.map (fun t => field t 0 4)).getD 13,
                          bwi := (a.tb3.map (fun t => field t 4 4)).getD 4 } }

/-- A slot that awaits its ATR. -/
def State.awaitsAtr (s : State) (n : SlotId) : Bool :=
  s.inPhase n .atrWait && (s.slot n).rst && (s.slot n).pps.isNone

/-- ATR_RECEIVED (R42, R98 to R102, R112): not intact is an error; an excluding indicator is a class step; then
the content rules; then PPS or READY. -/
def execAtrReceived (slot : SlotId) (raw : List Byte) (faults : CharFaults) (s : State) : Out :=
  s.gate (s.awaitsAtr slot) (fun s =>
    let a := readAtr raw
    if !atrIntact raw faults then failAttempt slot .atrError s
    else if a.excludes (s.slot slot).cls then stepOrFail slot .atrError s
    else if a.broken then failAttempt slot .atrError s
    else
      let s := s.updSlot slot (fun x => x.takeAtr raw a)
      let x := s.slot slot
      match a.proposal x.ppsPolicy x.ppsFailed with
      | some (p, ta) =>
        let req := ppsRequest p (ta.map (·.1))
        let plan := match ta with | some (_, f, d) => (f, d, protoOf p) | none => (1, 1, protoOf p)
        sendChars slot req (s.updSlot slot (fun x => { x with pps := some req, ppsPlan := some plan }))
      | none =>
        let (p, f, d) := a.plain
        acceptCard slot f d (protoOf p) s)

/-- NO_ATR (R42, R51, R72, R108). -/
def execNoAtr (slot : SlotId) (s : State) : Out := s.gate (s.awaitsAtr slot) (stepOrFail slot .noAtr)

/-- ATR_GAP_TIMEOUT (R42, R99). -/
def execAtrGapTimeout (slot : SlotId) (s : State) : Out := s.gate (s.awaitsAtr slot) (failAttempt slot .atrError)

/-- The PPS failed for this card (R103). -/
def failPps (n : SlotId) (s : State) : State :=
  failAttempt n .atrError (s.updSlot n (fun x => { x with ppsFailed := true }))

/-- What a PPS response settles (R102): the plan for an echo, Fd and Dd when PPS1 is left out, none for a failure. -/
def ppsOutcome (req raw : List Byte) (f : CharFaults) (plan : Nat × Nat × Proto) : Option (Nat × Nat × Proto) :=
  let short := [0xFF, byteAt req 1 &&& 0xEF, 0xFF ^^^ (byteAt req 1 &&& 0xEF)]
  if f.parity || f.gap then none
  else if raw == req then some plan
  else if req.length == 4 && raw == short then some (1, 1, plan.2.2)
  else none

/-- PPS_RESPONSE (R102, R103). -/
def execPpsResponse (slot : SlotId) (raw : List Byte) (faults : CharFaults) (s : State) : Out :=
  match (s.slot slot).pps, (s.slot slot).ppsPlan with
  | some req, some plan =>
    s.gate (s.inPhase slot .atrWait) (fun s =>
      match ppsOutcome req raw faults plan with
      | some (f, d, p) => acceptCard slot f d p s
      | none => failPps slot s)
  | _, _ => .next s

/-- PPS_TIMEOUT (R102, R103). -/
def execPpsTimeout (slot : SlotId) (s : State) : Out :=
  s.gate (s.inPhase slot .atrWait && (s.slot slot).pps.isSome) (failPps slot)

/-- RATE_APPLY (R105, R111): not while the clock is stopped. -/
def execRateApply (slot : SlotId) (s : State) : Out :=
  s.gate (s.mainUp && (s.slot slot).clk == .run) (fun s =>
    s.updSlot slot (fun x => { x with rate := x.shadow.getD x.rate, shadow := none }))

/-! ## T=1 (R89 to R94, R96) -/

/-- Overruns a block reports (R107). -/
def noteOverruns (n : SlotId) (k : Nat) (s : State) : State := updExch n (fun e => { e with overruns := e.overruns + k }) s

/-- The last block is asked for again: one more attempt (R92). -/
def t1Repeat (n : SlotId) (s : State) : State :=
  if 3 ≤ (s.slot n).t1.attempts then t1Escalate n (updT1 n (fun t => { t with lastInvalid := false }) s) else resendLast n s

/-- S(ABORT request) at a chain boundary of a step that is cancelled (R91). -/
def sendAbort (n : SlotId) (s : State) : State :=
  sendRequest n 0xC2 [] (fun t => { t with abortOut := true, resynchs := 0, wtx := 1 }) s

/-- A complete response under T=1: fewer than two bytes carry no status word (R97). -/
def t1Complete (n : SlotId) (resp : List Byte) (s : State) : State :=
  if resp.length < 2 then endExch n .protocol 0 [] s
  else
    let k := resp.length - 2
    endResponse n (resp.take k) (BitVec.ofNat 16 (beAt resp k 2)) s

/-- An I-block that meets R89, with its PCB and INF (R91). -/
def takeIBlock (n : SlotId) (pcb : Byte) (inf : List Byte) (s : State) : State :=
  let t := (s.slot n).t1
  if t.resynchOut || t.ifsOut || t.abortOut || t.chaining || bit pcb 6 != t.nr then t1Fail n 2 true s
  else
    let s := updT1 n (fun t => { t with nr := !t.nr, attempts := 1, resynchs := 0, wtx := 1, lastInvalid := false }) s
    let s := updExch n (fun e => { e with resp := e.resp ++ inf }) s
    if bit pcb 5 then
      if s.stopAsked n then sendAbort n s
      else sendBlock n (pcbR (s.slot n).t1.nr 0) [] s
    else t1Complete n (((s.slot n).exch.map (·.resp)).getD []) s

/-- I_BLOCK (R89, R91, R92, R97). -/
def execIBlock (slot : SlotId) (blk : RawT1) (s : State) : Out :=
  s.gate (s.t1Awaits slot) (fun s =>
    let crc := (s.slot slot).t1.crc
    let s := noteOverruns slot blk.overruns s
    match t1Read crc blk with
    | none => t1Fail slot (t1ErrOf crc blk) true s
    | some (pcb, inf) => if bit pcb 7 then s else takeIBlock slot pcb inf s)

/-- An R-block that meets R89, with its N(R) (R91, R92). -/
def takeRBlock (n : SlotId) (nr : Bool) (s : State) : State :=
  let t := (s.slot n).t1
  if t.resynchOut then t1Fail n 2 true s
  else if t.ifsOut || t.abortOut then t1Repeat n s
  else if nr != t.ns then t1Repeat n s
  else if t.chaining then
    if s.stopAsked n then sendAbort n s else sendIBlock n s
  else t1Fail n 2 true s

/-- R_BLOCK (R89, R91, R92). -/
def execRBlock (slot : SlotId) (blk : RawT1) (s : State) : Out :=
  s.gate (s.t1Awaits slot) (fun s =>
    let crc := (s.slot slot).t1.crc
    let s := noteOverruns slot blk.overruns s
    match t1Read crc blk with
    | none => t1Fail slot (t1ErrOf crc blk) true s
    | some (pcb, _) => if bit pcb 7 && !bit pcb 6 then takeRBlock slot (bit pcb 4) s else s)

/-- A valid S-block from the card is served unless S(RESYNCH) is outstanding (R92). -/
def takeSBlock (n : SlotId) (valid : Bool) (f : State → State) (s : State) : State :=
  if !valid || (s.slot n).t1.resynchOut then t1Fail n 2 true s else f s

/-- S_IFS_REQUEST (R90): values 0x01 to 0xFE. -/
def execSIfsRequest (slot : SlotId) (ifsc : Byte) (s : State) : Out :=
  s.gate (s.t1Awaits slot)
    (takeSBlock slot (ifsc != 0 && ifsc != 0xFF) (fun s =>
      sendBlock slot 0xE1 [ifsc] (updT1 slot (fun t => { t with ifsc := ifsc.toNat, wtx := 1 }) s)))

/-- After the S(IFS) exchange: the last-transaction-status APDU when it is due, else READY (R90, R150, R250). -/
def afterIfs (n : SlotId) (s : State) : State :=
  let s := s.updSlot n (fun x => { x with exch := none, phase := .ready, t1 := { x.t1 with ifsOut := false, attempts := 0 } })
  if (s.slot n).ltsDue then
    startExch n .ltsApdu 0 0 0 [0x80, 0x3C, 0x00, 0x00, 0x17] 23 (s.updSlot n (fun x => { x with ltsDue := false }))
  else whenReady n s

/-- S_IFS_RESPONSE (R90): the value proposed, or an invalid block. -/
def execSIfsResponse (slot : SlotId) (ifsd : Byte) (s : State) : Out :=
  s.gate (s.t1Awaits slot)
    (takeSBlock slot (ifsd == 0xFE && (s.slot slot).t1.ifsOut) (afterIfs slot))

/-- S_WTX_REQUEST (R94). -/
def execSWtxRequest (slot : SlotId) (m : Byte) (s : State) : Out :=
  s.gate (s.t1Awaits slot)
    (takeSBlock slot (m != 0) (fun s =>
      sendBlock slot 0xE3 [m] (updT1 slot (fun t => { t with wtx := m.toNat }) s)))

/-- S_ABORT_REQUEST (R91). -/
def execSAbortRequest (slot : SlotId) (s : State) : Out :=
  s.gate (s.t1Awaits slot)
    (takeSBlock slot true (fun s => endExch slot .aborted 0 [] (sendBlock slot 0xE2 [] s)))

/-- S_ABORT_RESPONSE (R91). -/
def execSAbortResponse (slot : SlotId) (s : State) : Out :=
  s.gate (s.t1Awaits slot)
    (takeSBlock slot (s.slot slot).t1.abortOut (fun s => endExch slot .aborted 0 [] s))

/-- The exchange in progress is S(IFS). -/
def Slot.inIfs (x : Slot) : Bool := match x.exch with | some e => e.kind == .sIfs | none => false

/-- S_RESYNCH_RESPONSE (R93): sequence numbers 0, the exchange ends RESYNCHED, S(IFS) goes again. -/
def execSResynchResponse (slot : SlotId) (s : State) : Out :=
  s.gate (s.t1Awaits slot) (fun s =>
    if !(s.slot slot).t1.resynchOut then t1Fail slot 2 true s
    else
      let s := if (s.slot slot).inIfs then s else endExch slot .resynched 0 [] s
      startIfs slot (updT1 slot (fun t => { t with ns := false, nr := false, resynchOut := false, chaining := false }) s))

/-- BWT_TIMEOUT (R92, R96). -/
def execBwtTimeout (slot : SlotId) (s : State) : Out := s.gate (s.t1Awaits slot) (t1Fail slot 2 false)

/-- CWT_OVERRUN (R92, R96). -/
def execCwtOverrun (slot : SlotId) (s : State) : Out := s.gate (s.t1Awaits slot) (t1Fail slot 2 false)

/-! ## T=0 (R84 to R88) -/

/-- A T=0 exchange is in progress. -/
def State.t0Runs (s : State) (n : SlotId) : Bool :=
  let x := s.slot n
  s.mainUp && x.proto == .t0 && x.phase == .busy && x.exch.isSome

/-- WT_TIMEOUT (R96). -/
def execWtTimeout (slot : SlotId) (s : State) : Out := s.gate (s.t0Runs slot) (endExch slot .timeout 0 [])

/-- EXCH_LIMIT (R96, R148). -/
def execExchLimit (slot : SlotId) (s : State) : Out :=
  match (s.slot slot).gal with
  | some g => s.gate (s.mainUp && !g.window.isEmpty && g.giveUp.isNone) (fun s => pump slot (beginGiveUp slot .exchLimit s))
  | none => s.gate (s.mainUp && (s.slot slot).exch.isSome) (endExch slot .exchLimit 0 [])

/-- LINE_STUCK (R81). -/
def execLineStuck (slot : SlotId) (s : State) : Out :=
  s.gate (s.mainUp && (s.slot slot).exch.isSome && (s.slot slot).gal.isNone) (endExch slot .lineStuck 0 [])

/-- An error on one T=0 character; `at_` tells characters apart. The fifth ends the exchange (R85). -/
def t0Error (n : SlotId) (at_ : Nat) (again : State → State) (s : State) : State :=
  match (s.slot n).exch with
  | none => s
  | some e =>
    let k := if e.t0ErrAt == at_ then e.t0Errors + 1 else 1
    let s := updExch n (fun e => { e with t0Errors := k, t0ErrAt := at_ }) s
    if 5 ≤ k then endExch n .parity 0 [] s else again s

/-- T0_CHARACTER (R84, R85, R107): a bad one, or one that finds the FIFO full, is answered with the error signal. -/
def execT0Character (slot : SlotId) (b : Byte) (bad overrun : Bool) (s : State) : Out :=
  s.gate (s.t0Runs slot) (fun s =>
    if bad || overrun then
      t0Error slot 0 (fun s => s) (noteOverruns slot (if overrun then 1 else 0) (emit (.errorSignal slot) s))
    else
      updExch slot (fun e =>
        if e.t0Expect == 0 then e
        else { e with resp := e.resp ++ [b], t0Expect := e.t0Expect - 1, t0Errors := 0, t0ErrAt := 0 }) s)

/-- The APDU in hand under T=0 (R87). -/
def Exch.apdu (e : Exch) : List Byte := e.t0Follow.getD e.cmd

/-- The characters the device has sent of the APDU in hand. -/
def Exch.sentChars (e : Exch) : List Byte := t0Header e.apdu ++ (t0Data e.apdu).take e.t0Sent

/-- ERROR_SIGNAL_SEEN (R84, R85). -/
def execErrorSignalSeen (slot : SlotId) (idx : Nat) (s : State) : Out :=
  match (s.slot slot).exch with
  | none => .next s
  | some e =>
    s.gate (s.t0Runs slot && idx < e.sentChars.length)
      (t0Error slot (idx + 1) (sendChars slot [byteAt e.sentChars idx]))

/-- INS, or INS xor 0xFF: the rest of the data, or one byte of it, goes out or is awaited (R87). -/
def t0Proceed (n : SlotId) (e : Exch) (one : Bool) (s : State) : State :=
  let data := t0Data e.apdu
  if !data.isEmpty then
    let k := if one then 1 else data.length - e.t0Sent
    let b := slice data e.t0Sent k
    sendChars n b (updExch n (fun e => { e with t0Sent := e.t0Sent + b.length }) s)
  else
    let left := t0Le e.apdu - e.t0Sent
    let k := if one then min 1 left else left
    updExch n (fun e => { e with t0Expect := k, t0Sent := e.t0Sent + k }) s

/-- GET RESPONSE or the re-issued command goes out (R87). -/
def t0Again (n : SlotId) (a : List Byte) (s : State) : State :=
  sendChars n (t0Header a) (updExch n (fun e => { e with t0Follow := some a, t0Sent := 0 }) s)

/-- One procedure byte, with the byte after it where it is SW1 (R87). -/
def takeProcedure (n : SlotId) (e : Exch) (b b2 : Byte) (s : State) : State :=
  let ins := byteAt e.apdu 1
  let s := updExch n (fun e => { e with t0Errors := 0, t0ErrAt := 0 }) s
  if b == ins then t0Proceed n e false s
  else if b == ins ^^^ 0xFF then t0Proceed n e true s
  else if b == 0x60 then s
  else if b == 0x61 then t0Again n [0x00, 0xC0, 0x00, 0x00, b2] s
  else if b == 0x6C then t0Again n (if (t0Data e.apdu).isEmpty then e.apdu.take 4 ++ [b2] else e.apdu) s
  else if field b 4 4 == 6 || field b 4 4 == 9 then
    endResponse n e.resp (BitVec.ofNat 16 (b.toNat * 256 + b2.toNat)) s
  else endExch n .protocol 0 [] s

/-- PROCEDURE_BYTE (R87, R97). -/
def execProcedureByte (slot : SlotId) (b b2 : Byte) (s : State) : Out :=
  match (s.slot slot).exch with
  | none => .next s
  | some e => s.gate (s.t0Runs slot && e.t0Expect == 0) (takeProcedure slot e b b2)

/-! ## Clock stop (R109 to R111) and warm reset (R108) -/

/-- Nothing is queued for the slot (R109). -/
def State.slotQuiet (s : State) (n : SlotId) : Bool :=
  match s.holder n with
  | some j => match j.run with | some r => r.staged.isEmpty | none => true
  | none => true

/-- CLOCK_STOP (R109). -/
def execClockStop (slot : SlotId) (s : State) : Out :=
  let x := s.slot slot
  s.gate (s.inPhase slot .ready && x.clk == .run && x.exch.isNone && x.ended.isEmpty && x.clkStopEn && x.xi != 0 &&
      s.slotQuiet slot) (fun s =>
    s.updSlot slot (fun x => { x with clk := if x.xi == 2 then .high else .low }))

/-- CLOCK_RESTART (R109, R111). -/
def execClockRestart (slot : SlotId) (s : State) : Out :=
  s.gate (s.inPhase slot .ready && (s.slot slot).clk != .run) (fun s =>
    s.updSlot slot (fun x => { x with clk := .run }))

/-- SLOT_ADMIN WARM_RESET of a card in READY, GALLOPER or BUSY (R108, R160, R168, R172). -/
def adminWarm (j : Job) (n : SlotId) (s : State) : State :=
  let p := (s.slot n).phase
  if p == .ready || p == .galloper || p == .busy then startWarm n (startJob j.ticket.jobId s)
  else failJob j.ticket.jobId 0x020E s

def execWarmReset (job : JobId) (s : State) : Out := adminTicket job 3 adminWarm s

end Sys2Proof.Machine
end

