-- ==== Sys2Proof/Machine/Debug.lean ====
section
/-! DEFINITION. The debug access port: the TAP's instructions and the halting of core pairs (13_security R419,
R420, R422). -/

namespace Sys2Proof.Machine

open Sys2Proof

/-- EXTEST and INTEST are accepted: the port is open and every slot is OFF or excluded (R419). -/
def State.scanAllowed (s : State) : Bool :=
  s.debugOpen && s.slots.all (fun x => x.phase == .off || x.phase.excluded)

/-- What the instruction register takes (R419). -/
def State.tapTakes (s : State) (i : TapInstr) : TapInstr :=
  match i with
  | .extest | .intest => if s.scanAllowed then i else .bypass
  | _ => i

/-- TAP_INSTRUCTION_LOAD (R419): once no scan instruction is loaded, slots that wait on one may activate. -/
def execTapInstructionLoad (i : TapInstr) (s : State) : Out :=
  s.gate s.mainUp (fun s =>
    let was := s.scanLoaded
    let s := { s with sec.tap := s.tapTakes i }
    if was && !s.scanLoaded then forEach (List.finRange 64) wantActivation s else s)

/-- The port may halt a pair: it is open by state, or its token's scope has bit 0 (R420). -/
def State.mayHalt (s : State) : Bool :=
  s.nv.lc == .manufacturing || s.nv.lc == .provisioning ||
    (match s.sec.debugToken with | some (_, scope, _) => bit scope 0 | none => false)

/-- DEBUG_HALT (R422): the pair drops out of placement and its jobs are handled as a fenced pair's. -/
def execDebugHalt (p : PairId) (s : State) : Out :=
  s.gate (s.mainUp && s.mayHalt && !s.sec.halted.contains p) (fun s =>
    let s := losePairJobs p { s with sec.halted := p :: s.sec.halted }
    if s.faults.leader == some p then handOver s else s)

/-- DEBUG_RESUME (R422): the pair returns to placement. -/
def execDebugResume (p : PairId) (s : State) : Out :=
  s.gate (s.mainUp && s.sec.halted.contains p) (fun s =>
    handOver { s with sec.halted := s.sec.halted.filter (· != p) })

end Sys2Proof.Machine
end

