-- ==== Sys2Proof/Machine/Exchange.lean ====
section
/-! DEFINITION. What the end of an exchange does to the job and the slot (03 R97, 04 R142, R159, 05 R192 to
R195, 06 R203, R204, R224, R225), and the end of RESOLVING. -/

namespace Sys2Proof.Machine

open Sys2Proof

/-! ## Stale results (R192) -/

/-- A result of an old generation is discarded and counted, with its event. -/
def noteStale (job : JobId) (s : State) : State :=
  raise 0x0205 none job.toNat { s with place.stale := s.place.stale + 1 }

/-- STALE_RESULT (R192): a result whose generation is not the job's current one. -/
def execStaleResult (job : JobId) (gen : W16) (s : State) : Out :=
  s.gate (s.booted && (match s.findJob job with | some j => j.gen != gen || j.phase == .queued | none => true))
    (noteStale job)

/-! ## Reports of one exchange -/

/-- The staged command that an ended exchange belongs to. -/
def Run.stagedOf (r : Run) (e : Ended) : Option Staged :=
  r.staged.find? (fun t => t.sent && t.kind == e.kind && t.step == e.step && t.csn == e.csn)

/-- A 61xx step: its entry is settled and its GET RESPONSE is next, in staging already or put there now (R204). -/
def take61 (id : JobId) (n : SlotId) (t : Staged) (sw : W16) (s : State) : State :=
  let s := match t.jseq with | some q => settle q .done sw 1 (some n) s | none => s
  match (s.findJob id).bind (·.run) with
  | none => s
  | some r =>
    let rest := r.staged.erase t
    if rest.any (fun g => g.kind == .getResponse && g.step == t.step) then
      updRun id (fun r => { r with staged := rest }) s
    else
      let (c, s) := takeCsn n s
      let g : Staged := { t with kind := .getResponse, apdu := getResponse, exp := 0x9000, csn := c, jseq := none, sent := false }
      updRun id (fun r => { r with staged := g :: rest }) s

/-- A response came back (R203, R204). -/
def takeOk (id : JobId) (n : SlotId) (t : Staged) (st : Step) (e : Ended) (s : State) : State :=
  if t.kind == .step && st.is61 && e.sw >>> 8 == 0x61 then take61 id n t e.sw s
  else if t.kind == .getResponse && e.sw == 0x9000 then matchStep id n t st st.expSw e.sw e.resp s
  else matchStep id n t st e.sw e.sw e.resp s

/-- A GET RESPONSE is queued again behind its step, which was executed: the run stands as it did after that
step was queued (R204, R225). -/
def Run.rebuildResponse (r : Run) (t : Staged) : Run :=
  let sync := match r.profile.steps[t.step]? with | some st => st.sync | none => true
  { r.restore t.cp with staged := [t], next := if sync then none else t.after,
                        reentry := if sync then r.reentry else t.afterRe,
                        held := if t.after.isNone then r.held else none }

/-- The command was not executed: it and every later one are dropped, and the run goes back to the base
checkpoint and on from where its status word led (R142, R225). A GET RESPONSE alone is built again: its step was
executed. -/
def takeCancelled (id : JobId) (n : SlotId) (t : Staged) (how : Nat) (s : State) : State :=
  let s := match t.jseq with | some q => settle q .notDone 0 how (some n) s | none => s
  match (s.findJob id).bind (·.run) with
  | none => s
  | some r =>
    let s := dropStaged id n r.staged s
    if t.kind == .getResponse then
      let (c, s) := takeCsn n s
      updRun id (fun r => r.rebuildResponse { t with csn := c, sent := false }) s
    else updRun id (fun r => { r.restore r.base with next := r.baseNext, reentry := r.baseRe, held := none }) s

/-- Any other ending (R180, R193, R194): before the first byte and when it may run twice the job is re-placed,
otherwise it waits for its outcome. -/
def takeFailed (id : JobId) (n : SlotId) (t : Staged) (e : Ended) (s : State) : State :=
  let unexecuted := !e.status.mayHaveExecuted || t.kind == .initUpdate
  let s := match t.jseq with
    | some q => if unexecuted then settle q .notDone 0 2 (some n) s else s
    | none => s
  match s.findJob id with
  | none => s
  | some j =>
    if j.phase == .resolving then s
    else if j.cancelWith.isSome then
      updRun id (fun r => { r with staged := r.staged.erase t, next := none }) s
    else if j.phase == .started && j.ticket.nonIdempotent then s.updJob id (fun j => { j with phase := .resolving })
    else replaceJob id s

/-- An ended command of a job's run. -/
def reportStep (n : SlotId) (e : Ended) (s : State) : State :=
  match (s.findJob e.job).filter (fun j => j.gen == e.gen && j.phase != .queued) with
  | none => noteStale e.job s
  | some j =>
    match j.run.bind (fun r => (r.stagedOf e).bind (fun t => (r.profile.steps[t.step]?).map (fun st => (t, st)))) with
    | none => s
    | some (t, st) =>
      let s := s.updJob e.job (fun j => { j with exch := e.status })
      match e.status with
      | .ok => if j.phase == .resolving then s else takeOk e.job n t st e s
      | .cancelled =>
        if j.phase == .resolving then
          match t.jseq with | some q => settle q .notDone 0 e.how (some n) s | none => s
        else takeCancelled e.job n t e.how s
      | _ => takeFailed e.job n t e s

/-- A resolution activation's step 0 ended (R251, R253): the entries of its profile that its digest matches are
settled. -/
def reportResolution (n : SlotId) (e : Ended) (s : State) : State :=
  match (s.slot n).resolution with
  | some (p :: ps) =>
    let s := s.updSlot n (fun x => { x with resolution := some ps })
    match (s.profile p).bind (·.steps.head?) with
    | some st =>
      if e.status == .ok && swMatches e.sw st.expSw st.expMask then
        noteJournal (settleCard n ((s.entriesOf (digestOf e.resp)).filter (fun i => i.profileId == p)) s)
      else s
    | none => s
  | _ => s

/-- A fence is pending and the slot stands at a step boundary: it deactivates with cause HOST (R305). -/
def State.fenceNow (s : State) (n : SlotId) : Bool :=
  let x := s.slot n
  x.phase.live && x.fencePending && s.atBoundary n

/-- Where the slot stands once the end is reported (R97, R159, R160, R305). -/
def afterReport (n : SlotId) (s : State) : State :=
  let x := s.slot n
  if !x.phase.live then s
  else if s.fenceNow n then loseNormal n .host s
  else if x.gal.isSome then tryWarm n (pump n s)
  else
    let s := s.updSlot n (fun x => if x.phase == .busy && x.exch.isNone then { x with phase := .ready } else x)
    whenReady n s

/-- The noise figures of an exchange go to the slot and to its job (R79). -/
def addNoise (n : SlotId) (job : JobId) (noise chars : Nat) (s : State) : State :=
  (s.updSlot n (fun x => { x with noiseTotal := min 0xFFFF (x.noiseTotal + noise) })).updJob job
    (fun j => { j with noise := (j.noise.1 + noise, j.noise.2 + chars) })

/-- Ends that other rows report: the mode switch, the last-transaction-status APDU, and the response to
INITIALIZE UPDATE. -/
def Ended.reportedElsewhere (e : Ended) : Bool :=
  e.kind == .modeSwitch || e.kind == .ltsApdu || (e.kind == .initUpdate && e.status == .ok)

/-- The oldest ended exchange is reported. -/
def reportEnd (n : SlotId) (e : Ended) (rest : List Ended) (noise chars : Nat) (s : State) : State :=
  let s := addNoise n e.job noise chars s
  let s := s.updSlot n (fun x =>
    { x with ended := rest, warmDue := x.warmDue || (e.status.warmReset && x.gal.isNone) })
  let s := match e.kind with
    | .sIfs => s
    | .resolution => reportResolution n e s
    | _ => cancelNow e.job (reportStep n e s)
  afterReport n s

/-- EXCHANGE_END (R97, R142, R159): `noise` and `chars` count the flagged and all characters received (R79). -/
def execExchangeEnd (slot : SlotId) (noise chars : Nat) (s : State) : Out :=
  match (s.slot slot).ended with
  | [] => .next s
  | e :: rest => s.gate (s.booted && !e.reportedElsewhere) (reportEnd slot e rest noise chars)

/-! ## RESOLVING (R194, R221) -/

/-- The slot has finished deactivating or its warm reset, with nothing left to settle (R194). -/
def State.slotSettled (s : State) (n : SlotId) : Bool :=
  let x := s.slot n
  x.phase == .off || x.phase.excluded ||
    ((x.phase == .ready || x.phase == .galloper) && x.exch.isNone && x.ended.isEmpty && !x.warmDue && !x.ltsDue &&
      x.unsettled.isEmpty)

/-- The run continues at its next step after its session ended (R220, R221): first the REENTRY steps before it,
the identity step when the slot holds no digest. The next step is where the base's status word led. -/
def Run.reenter (r : Run) (hasId : Bool) : Run :=
  let r := { r with base := { r.base with session := none } }
  match r.baseNext with
  | none => { r with staged := [], session := none }
  | some k =>
    let again := ((List.range k).filter (fun i =>
      (i == 0 && !hasId) || (match r.profile.steps[i]? with | some st => st.reentry | none => false))) ++ k :: r.baseRe
    { r.restore r.base with staged := [], session := none, held := none, next := again.head?, reentry := again.drop 1,
                            baseNext := again.head?, baseRe := again.drop 1 }

/-- The job continues (R194, R221). -/
def resumeJob (id : JobId) (n : SlotId) (s : State) : State :=
  let hasId := (s.slot n).digest.isSome
  let s := s.updJob id (fun j => { j with phase := .started, run := j.run.map (fun r => r.reenter hasId) })
  settleIdle id (wantActivation n s)

/-- What the entries of the job's generation say (R194). -/
def settleResolving (j : Job) (n : SlotId) (s : State) : State :=
  let id := j.ticket.jobId
  let s := settleUnsent j s
  let mine : List Intent := s.bank.journal.filter (fun e => e.jobId == id && e.gen == j.gen)
  let read : List JOutcome := (mine.filterMap (·.outcome)).filter (fun o => o.how == 3)
  let lost := read.filter (fun o => o.result == .done)
  let got61 := match j.run with
    | some r => (match r.staged with | t :: _ => t.kind == ExchKind.getResponse | [] => false)
    | none => false
  if mine.any (fun e => e.outcome.isNone) then endJob id .indeterminate 0x020D s
  else
    match lost.getLast? with
    | some o =>
      let s := s.updJob id (fun j => { j with resultLost := true })
      if o.sw == 0x9000 || o.sw >>> 8 == 0x61 then endJob id .done 0 s else failJob id 0x0601 s
    | none =>
      if got61 then endJob id .done 0 (s.updJob id (fun j => { j with resultLost := true }))
      else if !(j.exch == ExchStatus.ok || j.exch == ExchStatus.cancelled) || !read.isEmpty then replaceJob id s
      else if (s.slot n).phase.excluded || !(s.slot n).enable then replaceJob id s
      else resumeJob id n s

/-- JOB_SETTLED (R194): a RESOLVING job's slot is down or reset and its outcome is known. -/
def execJobSettled (job : JobId) (s : State) : Out :=
  match (s.findJob job).filter (fun j => j.phase == .resolving) with
  | none => .next s
  | some j =>
    match j.slot with
    | none => .next s
    | some n => s.gate (s.booted && s.slotSettled n) (settleResolving j n)

end Sys2Proof.Machine
end

