-- ==== Sys2Proof/Machine/Registers.lean ====
section
/-! DEFINITION. Writes and reads of BAR0 registers with their own rows (11_register_reference). -/

namespace Sys2Proof.Machine

open Sys2Proof

/-- TB_TAIL_WRITE (R164, R323, R341). -/
def execTbTailWrite (v : W32) (s : State) : Out :=
  s.hostWrite 0x024 (fun s =>
    if v.toNat < s.regs.tbSize.toNat then
      { s with regs.tbTail := v, regs.fetchStalled := false, regs.fetchFails := 0 }
    else raise 0x0201 none v.toNat s)

/-- A head value inside the span from the current head to the current tail (R164). -/
def headOk (v head tail size : W32) : Bool :=
  v.toNat < size.toNat && span head v size ≤ span head tail size

/-- CQ_HEAD_WRITE (R164). -/
def execCqHeadWrite (v : W32) (s : State) : Out :=
  s.hostWrite 0x038 (fun s =>
    if headOk v s.regs.cqHead s.regs.cqTail s.regs.cqSize then { s with regs.cqHead := v }
    else raise 0x0202 none v.toNat s)

/-- EQ_HEAD_WRITE (R164, R166): an entry that frees lets EQ_OVERFLOW be written first. -/
def execEqHeadWrite (v : W32) (s : State) : Out :=
  s.hostWrite 0x04C (fun s =>
    if headOk v s.regs.eqHead s.regs.eqTail s.regs.eqSize then writeOverflow { s with regs.eqHead := v }
    else raise 0x0203 none v.toNat s)

/-- A device check runs: the registers it reads drop writes (R313). -/
def State.deviceCheckRuns (s : State) : Bool := s.checkRunning && s.regs.checkSlot.isNone

/-- RING_SIZE_WRITE (R161, R313, R342): accepted while disabled, it restarts the ring. -/
def execRingSizeWrite (ring : RingName) (v : W32) (s : State) : Out :=
  s.hostWrite (match ring with | .tb => 0x020 | .cq => 0x034 | .eq => 0x048) (fun s =>
    if s.deviceCheckRuns then dropWrite s
    else if s.regs.enable then s
    else
      let v := v &&& 0x1FFFF
      match ring with
      | .tb => { s with regs.tbSize := v, regs.tbTail := 0, regs.tbHead := 0 }
      | .cq => { s with regs.cqSize := v, regs.cqHead := 0, regs.cqTail := 0 }
      | .eq => { s with regs.eqSize := v, regs.eqHead := 0, regs.eqTail := 0 })

/-- Budgets in their ranges, in order (R282, R283). -/
def budgetOk (v : W32) : Bool :=
  let rt := field v 0 3
  let gt := field v 4 5
  1 ≤ rt && rt ≤ 4 && 1 ≤ gt && gt ≤ 16 && rt ≤ gt

/-- POWER_BUDGET_WRITE (R282, R313). -/
def execPowerBudgetWrite (v : W32) (s : State) : Out :=
  s.hostWrite 0x080 (fun s =>
    if s.checkRunning then dropWrite s
    else if s.regs.enable && !budgetOk v then raise 0x0803 none v.toNat s
    else recomputeBounds { s with regs.powerBudget := maskWrite powerBudgetWritable s.regs.powerBudget v })

/-- IRQ_STATUS_WRITE (R343): W1C. -/
def execIrqStatusWrite (v : W32) (s : State) : Out :=
  s.hostWrite 0x054 (fun s => { s with regs.irqStatus := s.regs.irqStatus &&& ~~~v })

/-- IRQ_MASK_WRITE (R321, R343): a bit cleared while its status is 1 sends one message. -/
def execIrqMaskWrite (v : W32) (s : State) : Out :=
  s.hostWrite 0x058 (fun s =>
    let old := s.regs.irqMask
    forEach (List.range 11) (fun n s =>
      if bit old n && !bit v n && bit s.regs.irqStatus n then sendVector n s else s)
      { s with regs.irqMask := v })

/-- ERR_FIRST_CLEAR (R352): CODE, the info register and LATER. -/
def execErrFirstClear (s : State) : Out :=
  s.hostWrite 0x08C (fun s =>
    { s with regs.errFirst := 0, regs.errInfo := 0, regs.errCount := s.regs.errCount &&& 0xFFFF0000 })

/-- VIOL_CLEAR (R353). -/
def execViolClear (s : State) : Out :=
  s.hostWrite 0x0A0 (fun s => { s with regs.violInfo := 0, regs.violAddr := 0 })

/-- MBOX_TO_SB_WRITE (R359, R360). -/
def execMboxToSbWrite (v : W32) (s : State) : Out :=
  s.hostWrite 0x0C4 (fun s => { s with regs.mboxTo := v, regs.mboxToPending := true })

/-- MBOX_FROM_SB_READ (R359). -/
def execMboxFromSbRead (s : State) : Out :=
  s.hostRead 0x0C8 (fun s => emit (.barData s.regs.mboxFrom) { s with regs.mboxFromFull := false })

/-- PAIR_LOW_READ (R351): the read returns the low half and holds the high half. -/
def execPairLowRead (p : RegPair) (s : State) : Out :=
  s.hostRead (match p with | .time => 0x0BC | .present => 0x070 | .fenced => 0x078) (fun s =>
    match p with
    | .time => emit (.barData (lo32 s.regs.time)) { s with regs.timeHold := hi32 s.regs.time }
    | .present => emit (.barData (lo32 s.presentBits)) { s with regs.presentHold := hi32 s.presentBits }
    | .fenced => emit (.barData (lo32 s.fencedBits)) { s with regs.fencedHold := hi32 s.fencedBits })

/-- A 64-bit base with its low or high half written. -/
def setLo (old : W64) (v : W32) : W64 := BitVec.ofNat 64 (v.toNat + (hi32 old).toNat * 2 ^ 32)
def setHi (old : W64) (v : W32) : W64 := BitVec.ofNat 64 ((lo32 old).toNat + v.toNat * 2 ^ 32)

/-- A ring base is written unless the device is enabled (R161) or a device check reads it (R313). -/
def writeBase (f : State → State) (s : State) : State :=
  if s.deviceCheckRuns then dropWrite s else if s.regs.enable then s else f s

/-- REGISTER_WRITE (R331): the RW fields of the registers that no other row writes: the ring bases,
SCHED_POLICY, GSTATUS.MBOX_LOST (W1C), and BIST_CTRL and FW_CTRL written without START and GO. Every other
offset is read-only, reserved or has a row of its own: no effect. -/
def execRegisterWrite (off : BitVec 12) (v : W32) (s : State) : Out :=
  s.hostWrite off.toNat (fun s =>
    match off.toNat with
    | 0x010 => if bit v 10 then { s with regs.mboxLost := false } else s
    | 0x018 => writeBase (fun s => { s with regs.tbBase := setLo s.regs.tbBase v }) s
    | 0x01C => writeBase (fun s => { s with regs.tbBase := setHi s.regs.tbBase v }) s
    | 0x02C => writeBase (fun s => { s with regs.cqBase := setLo s.regs.cqBase v }) s
    | 0x030 => writeBase (fun s => { s with regs.cqBase := setHi s.regs.cqBase v }) s
    | 0x040 => writeBase (fun s => { s with regs.eqBase := setLo s.regs.eqBase v }) s
    | 0x044 => writeBase (fun s => { s with regs.eqBase := setHi s.regs.eqBase v }) s
    | 0x088 =>
      if s.deviceCheckRuns then dropWrite s
      else { s with regs.schedPolicy := maskWrite schedPolicyWritable s.regs.schedPolicy v }
    | 0x0A4 =>
      if s.hostLocked then refuseHostWrite 0x0A4 s
      else if s.bist.run.isSome || bit v 0 then s
      else { s with bist.type := bit v 1, bist.scope := BitVec.ofNat 4 (field v 4 4) }
    | 0x0B4 =>
      if s.hostLocked then refuseHostWrite 0x0B4 s
      else if bit v 31 then s
      else { s with fw.op := BitVec.ofNat 4 (field v 0 4) }
    | _ => s)

/-- REG_PARITY (R333): one copy is restored with a warning; both failing is fatal. -/
def execRegParity (_off : BitVec 12) (both : Bool) (s : State) : Out :=
  s.gate s.mainUp (fun s =>
    if both then openFatal 0x0F03 0 0 s else latchError 0x0A05 .device none false s)

end Sys2Proof.Machine
end

