-- ==== Sys2Proof/Machine/Firmware.lean ====
section
/-! DEFINITION. The update operations of the firmware banks (17_boot_and_firmware R483 to R492), from
`FW_CTRL` and from Sideshow alike. -/

namespace Sys2Proof.Machine

open Sys2Proof

/-- The standby bank is B (R357, R485). -/
def State.standbyB (s : State) : Bool := !s.fw.activeB

/-- An operation ends: GO clears, RESULT and LAST_OP are written, bit 6 is set (R357, R488). -/
def endFw (op : Nat) (result : Nat) (s : State) : State :=
  fireIrq 6 { s with fw.go := false, fw.result := BitVec.ofNat 4 result, fw.lastOp := BitVec.ofNat 4 op }

/-- The write that sets GO (R357). -/
def takeFw (op : Nat) (s : State) : State :=
  { s with fw.op := BitVec.ofNat 4 op, fw.go := true }

/-- The standby bank of the option area. -/
def setStandby (f : FwBank → FwBank) (s : State) : State := { s with nv := s.nv.setBank s.standbyB f }

/-- PREPARE (R488, R491): the EIP marker first, then the erase from sector 0; one issued during a background
re-erase joins it. -/
def prepareFw (s : State) : State :=
  if s.sec.changing.isSome || !(s.nv.confirmed || s.power.loader) then endFw 1 4 s
  else
    let s := setStandby (fun b => { b with eip := true, image := none }) s
    askBarrier .firmware
      { s with fw.sector := if s.fw.reErase then s.fw.sector else 0, fw.standby := .erasing, fw.busy := true,
               fw.loaded := [], fw.lastWrite := none }

/-- Bytes 0 to 255 of an image, erased flash reading 0xFF, and its body (R483). -/
def imageByte (l : List Byte) (off len : Nat) : List Byte :=
  let b := slice l off len
  b ++ List.replicate (len - b.length) 0xFF

/-- The header's constant fields, BODY_LEN and zero bytes are right (R483). -/
def headerOk (h : List Byte) : Bool :=
  let body := leAt h 8 4
  leAt h 0 4 == 0x4B474657 && byteAt h 16 == 0xB0 && 256 ≤ body && body ≤ 4194048 && body % 256 == 0 &&
    allZero (slice h 17 15) && allZero (slice h 80 80)

/-- What the bytes loaded into the standby bank say (R483). -/
def readImage (l : List Byte) : FwImage :=
  let h := imageByte l 0 256
  let body := imageByte l 256 (leAt h 8 4)
  { formOk := headerOk h, major := byteAt h 4, minor := byteAt h 5, svn := BitVec.ofNat 16 (leAt h 6 2),
    verified := headerOk h && Config.sha384 body == slice h 32 48 &&
      Config.firmwareVerify (Config.sha384 (slice h 0 160)) (slice h 160 96) }

/-- COMMIT (R488): the image is checked; on a pass VALID is written. -/
def commitFw (s : State) : State :=
  if s.fw.standby != .loading || s.sec.changing.isSome then endFw 2 4 s
  else
    let b : FwBank := { valid := true, eip := false, image := some (readImage s.fw.loaded) }
    if imagePasses s.nv.svnFloor b then
      endFw 2 0 (setStandby (fun _ => b) { s with fw.standby := .valid })
    else endFw 2 1 { s with fw.standby := .loaded }

/-- SWITCH (R486, R488): NEXT, TRIAL 3 and CONFIRMED clear in one record, then the main-side reset. -/
def switchFw (s : State) : State :=
  if s.fw.standby != .valid || s.regs.enable || s.sec.changing.isSome then endFw 3 4 s
  else resetBy .fwSwitch { s with nv.nextB := s.standbyB, nv.trial := 3, nv.confirmed := false }

/-- ABORT (R488): the machine stops at its boundary and the standby bank is EMPTY. -/
def abortFw (s : State) : State :=
  let s := setStandby (fun b => { b with valid := false, image := none }) s
  askBarrier .firmware (endFw 4 5
    { s with fw.standby := .empty, fw.busy := false, fw.reErase := false, fw.loaded := [],
             fw.lastWrite := none })

/-- An operation by its OP (R357, R488). -/
def runFw (op : Nat) (s : State) : State :=
  match op with
  | 1 => prepareFw s
  | 2 => commitFw s
  | 3 => switchFw s
  | 4 => abortFw s
  | _ => s

/-- A host write that sets GO (R358, R415): ignored as a whole for a wrong KEY or while GO reads 1. -/
def hostFw (op : Nat) (key : Byte) (s : State) : State :=
  if s.hostLocked then refuseHostWrite 0x0B4 s
  else if key != 0xA5 || s.fw.go then s
  else runFw op (takeFw op s)

/-- FW_PREPARE (R488). -/
def execFwPrepare (key : Byte) (s : State) : Out :=
  s.gate (s.mainUp && !s.power.loader) (hostFw 1 key)

/-- FW_COMMIT (R488). -/
def execFwCommit (key : Byte) (s : State) : Out :=
  s.gate (s.mainUp && !s.power.loader) (hostFw 2 key)

/-- FW_SWITCH (R486, R488). -/
def execFwSwitch (key : Byte) (s : State) : Out :=
  s.gate (s.mainUp && !s.power.loader) (hostFw 3 key)

/-- FW_ABORT (R488). -/
def execFwAbort (key : Byte) (s : State) : Out :=
  s.gate (s.mainUp && !s.power.loader) (hostFw 4 key)

/-- The erase machine works on the standby bank. -/
def State.erasing (s : State) : Bool := s.mainUp && s.fw.busy && s.fw.standby == .erasing

/-- PREPARE ends, if one waits for the erase. -/
def endErase (result : Nat) (s : State) : State :=
  let s := { s with fw.busy := false, fw.reErase := false }
  if s.fw.go then endFw 1 result s else s

/-- SECTOR_ERASE_DONE (R488, R491): after the 64th verify one record clears EIP and VALID. -/
def execSectorEraseDone (s : State) : Out :=
  s.gate s.erasing (fun s =>
    if s.fw.sector + 1 < 64 then { s with fw.sector := s.fw.sector + 1 }
    else endErase 0 (setStandby (fun _ => { valid := false, eip := false, image := none })
      { s with fw.sector := 64, fw.standby := .erased, fw.loaded := [], fw.lastWrite := none }))

/-- SECTOR_ERASE_ABORT (R488, R492): EIP stays set and the bank reads EMPTY. -/
def execSectorEraseAbort (s : State) : Out :=
  s.gate s.erasing (fun s => endErase 2 { s with fw.standby := .empty })

/-- FW_CONFIRMED (R486, R487): the SVN floor rises to the image's SVN and never falls. -/
def execFwConfirmed (s : State) : Out :=
  s.gate (s.booted && !s.nv.confirmed && !s.power.loader) (fun s =>
    let svn : Nat := (((s.nv.fwBank s.fw.activeB).image).map (fun i => i.svn.toNat)).getD 0
    let floor := max s.nv.svnFloor.toNat svn
    raise 0x1103 none (svn + s.fw.minor.toNat * 2 ^ 16 + s.fw.major.toNat * 2 ^ 24)
      { s with nv.confirmed := true, nv.trial := 0, nv.svnFloor := BitVec.ofNat 16 floor })

/-- Image bytes written in strict order (R489): none when the write is refused. -/
def writeImage (off : Nat) (data : List Byte) (s : State) : Option State :=
  if s.fw.go || !(s.fw.standby == .erased || s.fw.standby == .loading) || off + data.length > 4194304 then none
  else if s.fw.lastWrite == some (off, data.length) then some s
  else if off == s.fw.loaded.length then
    some { s with fw.loaded := s.fw.loaded ++ data, fw.standby := .loading,
                  fw.lastWrite := some (off, data.length) }
  else none

end Sys2Proof.Machine
end

