-- ==== Sys2Proof/Machine/ToolOps.lean ====
section
/-! DEFINITION. TOOL tickets: CANCEL (05 R180), the station bus (12 R396), units (14 R448), margins (15
R464), BIST_REPORT (16 R474) and FW_WRITE (17 R489). -/

namespace Sys2Proof.Machine

open Sys2Proof

/-! ## CANCEL -/

/-- A placed job is cancelled: its slot is released, and deactivated when the job activated it (R180). -/
def cancelPlaced (k : Job) (s : State) : State :=
  let s := endJob k.ticket.jobId .cancelled 0x020A s
  match k.slot with
  | some n =>
    if !k.activated then s
    else if (s.slot n).phase.live then startNormal n .jobEnd false s
    else leaveQueue n s
  | none => s

/-- CANCEL (R180, R226): ARG names the target. -/
def cancelTarget (j : Job) (s : State) : State :=
  let id := j.ticket.jobId
  match (s.findJob j.ticket.arg).filter (fun k => k.ticket.jobId != id) with
  | none => failJob id 0x0210 s
  | some k =>
    match k.phase with
    | .queued => doneWith id [] (endJob k.ticket.jobId .cancelled 0x020A s)
    | .placed => doneWith id [] (cancelPlaced k s)
    | .started =>
      if k.ticket.nonIdempotent || k.slot.isNone then failJob id 0x020F s
      else doneWith id [] (cancelNow k.ticket.jobId (askCancel k.ticket.jobId 0x020A s))
    | .resolving => failJob id 0x020F s

def execCancel (job : JobId) (s : State) : Out := runTicket job 6 0x01 cancelTarget s

/-! ## Station bus -/

/-- One 16-byte port block is inside its ranges (R396). -/
def portBlockOk (b : List Byte) : Bool :=
  (byteAt b 0).toNat ≤ 2 && (byteAt b 1).toNat ≤ 1 && 9600 ≤ leAt b 2 4 && leAt b 2 4 ≤ 2000000 &&
    10 ≤ (byteAt b 8).toNat && 1 ≤ (byteAt b 9).toNat && 1 ≤ (byteAt b 10).toNat && 1 ≤ (byteAt b 11).toNat &&
    allZero (slice b 14 2)

def modeOf (b : List Byte) : SbMode :=
  match (byteAt b 0).toNat with
  | 1 => .frame
  | 2 => .rtsCts
  | _ => .off

/-- The port's mode in a configuration. -/
def cfgMode (p : List Byte) (port : Nat) : SbMode := modeOf (slice p (16 * port) 16)

/-- A slot map entry is inside its ranges (R396). -/
def mapEntryOk (p : List Byte) (n : Nat) : Bool :=
  let a := byteAt p (32 + 2 * n)
  let b := byteAt p (33 + 2 * n)
  b.toNat < 16 &&
    (!bit a 7 ||
      (match cfgMode p (field a 6 1) with
       | .off => false
       | .frame => field a 0 6 ≤ 15
       | .rtsCts => true))

/-- A slot map entry (R396). -/
def mapEntry (p : List Byte) (n : Nat) : Option SbMap :=
  let a := byteAt p (32 + 2 * n)
  if bit a 7 then
    (finOf 16 (byteAt p (33 + 2 * n)).toNat).map (fun mu =>
      { port := if bit a 6 then 1 else 0, station := field a 0 6, mu := mu })
  else none

/-- A port after a configuration; leaving OFF it first waits for an idle line (R393, R396). -/
def configurePort (b : List Byte) (p : SbPort) : SbPort :=
  let m := modeOf b
  { p with mode := m, echo := bit (byteAt b 1) 0, rate := leAt b 2 4, lead := (byteAt b 6).toNat,
           tail := (byteAt b 7).toNat, respTimeout := (byteAt b 8).toNat, pollPeriod := (byteAt b 9).toNat,
           ackTimeout := (byteAt b 10).toNat, ctsTimeout := (byteAt b 11).toNat,
           muMask := BitVec.ofNat 16 (leAt b 12 2), wakeLatch := m != .off,
           guarding := p.guarding || (p.mode == .off && m != .off), listening := false }

/-- The map that a configuration asks for. -/
def newMap (p : List Byte) : Vector (Option SbMap) 64 := (Vector.finRange 64).map (fun n => mapEntry p n.val)

/-- SBUS_CONFIG (R396): BAD_FIELD, SBUS_BUSY, else both ports and the map. -/
def sbusConfig (param : List Byte) (j : Job) (s : State) : State :=
  let id := j.ticket.jobId
  let p := j.data param
  if j.paramLen != 160 || !portBlockOk (slice p 0 16) || !portBlockOk (slice p 16 16) ||
      !(List.range 64).all (mapEntryOk p) then failJob id 0x0202 s
  else if (List.finRange 64).any (fun n => (s.slot n).job.isSome && s.sbMap[n.val] != mapEntry p n.val) then
    failJob id 0x0D01 s
  else
    let p0 := configurePort (slice p 0 16) s.ports[0]
    let p1 := configurePort (slice p 16 16) s.ports[1]
    doneWith id [] { s with ports := #v[p0, p1], sbMap := newMap p }

def execSbusConfig (job : JobId) (param : List Byte) (s : State) : Out :=
  runTicket job 6 0x10 (sbusConfig param) s

/-- A port's state in SBUS_STATUS (R396). -/
def SbPort.stateCode (p : SbPort) : Nat :=
  if p.stuck then 3 else if p.mode == .off then 0 else if p.listening then 2 else 1

/-- A port's 144 bytes of SBUS_STATUS (R396). -/
def portStatus (p : SbPort) : List Byte :=
  padTo 16 ([BitVec.ofNat 8 p.stateCode] ++ leBytes 2 p.discarded ++ leBytes 2 p.collisions ++
    leBytes 2 p.checksums ++ leBytes 2 p.missing ++ leBytes 2 p.announces)

/-- SBUS_STATUS (R396): 288 bytes. -/
def sbusStatus (j : Job) (s : State) : State :=
  let one := fun (p : SbPort) => portStatus p ++ p.last.toList.flatMap (padTo 8)
  doneWith j.ticket.jobId (one s.ports[0] ++ one s.ports[1]) s

def execSbusStatus (job : JobId) (s : State) : Out := runTicket job 6 0x11 sbusStatus s

/-! ## Units -/

/-- The unit is fenced: a slot in FENCED, a fenced ring, or any unit listed so. -/
def State.unitFenced (s : State) (u : UnitRef) : Bool :=
  match u with
  | .slot n => (s.slot n).phase == .fenced
  | .ring r => (s.ring r).fenced
  | u => s.unitPhase u == .fenced

/-- A fenced slot returns to OFF (R448). -/
def restoreSlot (n : SlotId) (s : State) : State :=
  s.updSlot n (fun x =>
    if x.phase == .fenced then
      { x with phase := .off, fenceSrc := .none, fenceCode := 0, failCount := 0, presHeld := false }
    else x)

/-- The error code of a unit's last recovery or fence (R448). -/
def State.unitCause (s : State) (u : UnitRef) : W16 :=
  match s.faults.units.find? (fun e => e.1 == u) with
  | some e => e.2.2
  | none => match u with | .slot n => (s.slot n).fenceCode | _ => 0

/-- A unit returns to service: UNIT_RESTORED, its recovery count 0 and its rights back through a barrier (R417,
R437, R448). -/
def restoreUnit (u : UnitRef) (s : State) : State :=
  let s := setUnit u .service (s.unitCause u) { s with standby.recov := s.standby.recov.filter (fun e => e.1 != u) }
  let s := match u with
    | .slot n => restoreSlot n s
    | .ring r =>
      let s := s.updRing r (fun x => { x with fenced := false, stopWhenOff := false })
      startConverter r (forEach (ringSlots r) (fun n s =>
        if (s.slot n).fenceSrc == .ring then restoreSlot n s else s) s)
    | .pair _ => handOver s
    | _ => s
  askBarrier .unitRights (raise 0x0F03 none (u.kind + u.index * 2 ^ 4) s)

/-- The slot's fence is a tamper fence (R448). -/
def State.tamperFence (s : State) (u : UnitRef) : Bool :=
  match u with
  | .slot n => (s.slot n).fenceSrc == .tamper
  | _ => false

/-- UNIT_CLEAR (R448, R477): `failed` is the error its recovery action or unit test found. -/
def unitClear (failed : Option W16) (j : Job) (s : State) : State :=
  let id := j.ticket.jobId
  match unitOf (field j.ticket.arg 0 4) (field j.ticket.arg 4 8) with
  | none => failJob id 0x0202 s
  | some u =>
    if s.tamperFence u then failJob id 0x0B09 s
    else if !s.unitFenced u then doneWith id [] s
    else
      match failed with
      | some e => failJob id e s
      | none => finishAfterBarrier id .done 0 (restoreUnit u s)

def execUnitClear (job : JobId) (failed : Option W16) (s : State) : Out :=
  runTicket job 6 0x20 (unitClear failed) s

/-- The units FAULT_STATUS reports, by KIND and INDEX (R352, R447). -/
def reportedUnits : List UnitRef :=
  (List.finRange 64).map .slot ++ (List.finRange 8).map .ring ++ (List.finRange 8).map .chan ++
    (List.finRange 8).map .juggler ++ (List.finRange 4).map .pair ++ (List.finRange 2).map .pk ++
    (List.finRange 8).map .roust

/-- A unit's state code: 0 in service, 1 recovering, 2 fenced (R448). -/
def State.unitCode (s : State) (u : UnitRef) : Nat :=
  if s.unitFenced u then 2 else if s.unitPhase u == .recovering then 1 else 0

/-- Recoveries counted for a unit in the standby domain (R439). -/
def State.recovCount (s : State) (u : UnitRef) : Nat :=
  match s.standby.recov.find? (fun e => e.1 == u) with
  | some e => e.2.1
  | none => 0

/-- FAULT_STATUS's 8 bytes of a unit (R448). -/
def unitEntry (s : State) (u : UnitRef) : List Byte :=
  [BitVec.ofNat 8 u.kind, BitVec.ofNat 8 u.index, BitVec.ofNat 8 (s.unitCode u),
   BitVec.ofNat 8 (min 255 (s.recovCount u))] ++ leBytes 2 (s.unitCause u).toNat ++ [0, 0]

/-- FAULT_STATUS (R448). -/
def execFaultStatus (job : JobId) (s : State) : Out :=
  runTicket job 6 0x21 (fun j s => doneWith j.ticket.jobId (reportedUnits.flatMap (unitEntry s)) s) s

/-! ## Margins -/

/-- A signed number in n bytes. -/
def leInt (n : Nat) (v : Int) : List Byte := leBytes n ((v + 2 ^ (8 * n)).toNat % 2 ^ (8 * n))

/-- Drift D of a domain (R455): the median of the samples kept, 0 with none. -/
def median (l : List Int) : Int := (sortBy (fun a b => a ≤ b) l).getD (l.length / 2) 0

/-- The longest dropout of a ring's slots (R458, R464). -/
def State.ringDropout (s : State) (r : RingId) : Nat :=
  ((ringSlots r).map (fun n => (s.tight.slots[n.val]).dropout)).foldl max 0

def marginHead (s : State) : List Byte :=
  let t := s.tight
  [t.planSeq, BitVec.ofNat 8 (bitAt t.factory 0 + bitAt s.refreshListed 1 + bitAt t.flashLow 2),
   BitVec.ofNat 8 t.guardBand, 0] ++ t.drift.toList.flatMap (fun l => leInt 2 (median l)) ++
    leBytes 2 t.flashMargin ++ leBytes 2 (s.bank.blocks.filter (·.refresh)).length ++
    leBytes 8 t.issuedAt.toNat ++ List.replicate 40 0

def marginRing (s : State) (r : RingId) : List Byte :=
  [BitVec.ofNat 8 s.tight.headroom[r.val], BitVec.ofNat 8 s.tight.efficiency[r.val]] ++
    leBytes 2 (s.ringDropout r) ++ [0, 0, 0, 0]

def marginSlot (s : State) (n : SlotId) : List Byte :=
  let p := s.tight.slots[n.val]
  [BitVec.ofNat 8 p.ceiling,
   BitVec.ofNat 8 (bitAt p.warn 0 + bitAt (p.ceiling < 0xE) 1 + bitAt (!p.swept) 2)] ++
    p.phases.toList.map (BitVec.ofNat 8 ·) ++ leBytes 2 (contactResult p.vccHist) ++
    leBytes 2 (contactResult p.gndHist) ++ leBytes 2 p.dropout ++
    [BitVec.ofNat 8 p.eye, BitVec.ofNat 8 p.eyeCode] ++ leBytes 2 (min 65535 (s.slot n).noiseTotal)

def marginTarget (s : State) (i : Nat) : List Byte :=
  match s.bank.targets.find? (fun t => t.id.val == i) with
  | some t => t.offsets.toList.flatMap (leInt 1) ++
      leBytes 2 (s.bank.blocks.filter (fun b => b.refresh && b.target == t.id)).length ++ leBytes 2 t.mostCorrected
  | none => List.replicate 8 0

/-- MARGIN_READ's 1408 bytes (R464). -/
def marginBytes (s : State) : List Byte :=
  marginHead s ++ (List.finRange 8).flatMap (marginRing s) ++ (List.finRange 64).flatMap (marginSlot s) ++
    (List.range 32).flatMap (marginTarget s)

def execMarginRead (job : JobId) (s : State) : Out :=
  runTicket job 6 0x30 (fun j s => doneWith j.ticket.jobId (marginBytes s) s) s

/-! ## BIST_REPORT and FW_WRITE -/

/-- An entry of BIST_REPORT (R474). -/
def bistEntry (e : FailAddr × Bool) : List Byte :=
  leBytes 2 e.1.array.toNat ++ leBytes 2 e.1.row.toNat ++ [e.1.col, if e.2 then 1 else 0, 0, 0]

/-- BIST_REPORT (R474): a count and at most 64 entries. -/
def bistReport (j : Job) (s : State) : State :=
  let l := (s.standby.bistFails.take 64).map bistEntry
  doneWithEntries j (leBytes 4 l.length) 8 l s

def execBistReport (job : JobId) (s : State) : Out := runTicket job 6 0x40 bistReport s

/-- FW_WRITE (R489): ARG is the image offset. -/
def fwWrite (param : List Byte) (j : Job) (s : State) : State :=
  let id := j.ticket.jobId
  if j.paramLen < 1 || j.paramLen > 65536 then failJob id 0x0202 s
  else
    match writeImage j.ticket.arg.toNat (j.data param) s with
    | some s => doneWith id [] s
    | none => failJob id 0x0F0B s

def execFwWrite (job : JobId) (param : List Byte) (s : State) : Out := runTicket job 6 0x50 (fwWrite param) s

end Sys2Proof.Machine
end

