-- ==== Sys2Proof/Machine/Faults.lean ====
section
/-! DEFINITION. The Hall of Mirrors: errors of units, recoveries, core pairs, the fatal window and refused
accesses (14_faults_and_degradation R434 to R452, 13_security R415, R416). -/

namespace Sys2Proof.Machine

open Sys2Proof

/-! ## Errors of units (R434, R436, R438, R439) -/

/-- The errors a kind of unit reports by itself (R434). -/
def unitCodes : UnitRef → List W16
  | .device => [0x0403]
  | .slot _ => [0x0102, 0x0103, 0x0104]
  | .chan _ => [0x0E01, 0x0E02, 0x0E03]
  | .juggler _ => [0x0401]
  | .pair _ => [0x0302, 0x0303]
  | .pk _ => [0x0402]
  | .roust _ => [0x0501]
  | .ring _ | .target _ => []

/-- The job an error of the unit concerns (R352). -/
def State.unitJob (s : State) (u : UnitRef) : Option JobId :=
  match u with
  | .slot n => (s.slot n).job
  | _ => none

/-- Recoveries of the unit counted with the one that starts now, and the second of the first: three within
86 400 s fence it (R439). -/
def State.nextRecovery (s : State) (u : UnitRef) : Nat × Nat :=
  match s.standby.recov.find? (fun e => e.1 == u) with
  | some (_, n, first) => if s.aonSeconds < first + 86400 then (n + 1, first) else (1, s.aonSeconds)
  | none => (1, s.aonSeconds)

def noteRecovery (u : UnitRef) (s : State) : State :=
  { s with standby.recov := (u, s.nextRecovery u) :: s.standby.recov.filter (fun e => e.1 != u) }

/-- A slot's recovery: deactivated normally with cause HOST, its buffer zeroised (R447). -/
def recoverSlot (n : SlotId) (s : State) : State :=
  let s := s.updSlot n (fun x => { x with record := none })
  if (s.slot n).phase.live then loseNormal n .host s
  else if (s.slot n).phase == .powerWait then lostJob n .host (leaveQueue n s)
  else s

/-- Steps 1 to 4 of R444: the pair's rights go, its jobs are handled, leadership is handed over. -/
def recoverPair (p : PairId) (s : State) : State :=
  let s := losePairJobs p (askBarrier .unitRights s)
  if s.faults.leader == some p then handOver s else s

/-- The recovery action of a unit begins (R438, R447). -/
def startRecovery (u : UnitRef) (code : W16) (s : State) : State :=
  let s := setUnit u .recovering code (noteRecovery u s)
  match u with
  | .slot n => recoverSlot n s
  | .pair p => recoverPair p s
  | .juggler g => loseJuggler g s
  | _ => s

/-- The error fences its unit: it is the second during a recovery, or starts the third within 86 400 s
(R438, R439). -/
def State.escalates (s : State) (u : UnitRef) : Bool :=
  s.unitPhase u == .recovering || s.unitPhase u == .probation || 3 ≤ (s.nextRecovery u).1

/-- An error that fences its unit; the TRNG's is fatal (R434 TRNG_FENCE, R439, R447). -/
def escalate (u : UnitRef) (code : W16) (s : State) : State :=
  let s := latchError code u (s.unitJob u) true s
  match u with
  | .device => openFatal 0x0F07 0 0 (setUnit u .fenced code s)
  | _ => fenceFully u code s

/-- A device error of a unit (R436, R438, R439, R442): a warning is latched only; in the fatal window it is
counted only; a unit already fenced has nothing left to recover. -/
def unitFails (u : UnitRef) (code : W16) (s : State) : State :=
  if severityOf code != 1 || s.faults.fatalWindow.isSome || s.unitFenced u then
    latchError code u (s.unitJob u) false s
  else if s.escalates u then escalate u code s
  else startRecovery u code (latchError code u (s.unitJob u) false s)

/-- UNIT_ERROR (R434, R438). -/
def execUnitError (u : UnitRef) (code : W16) (s : State) : Out :=
  s.gate (s.mainUp && (unitCodes u).contains code) (unitFails u code)

/-- LOCKSTEP (R443, R444). -/
def execLockstep (p : PairId) (s : State) : Out :=
  s.gate (s.mainUp && s.unitPhase (.pair p) != .fenced) (unitFails (.pair p) 0x0301)

/-- PAIR_WATCHDOG (R444, R446). -/
def execPairWatchdog (p : PairId) (s : State) : Out :=
  s.gate (s.mainUp && s.unitPhase (.pair p) != .fenced) (unitFails (.pair p) 0x0304)

/-! ## Ends of recoveries (R438, R444, R447) -/

/-- The recovery action can have ended: a slot's deactivation is over. -/
def State.recovered (s : State) (u : UnitRef) : Bool :=
  match u with
  | .slot n => !(s.slot n).phase.powered
  | _ => true

/-- The unit is back in service on probation: its rights return and UNIT_RESTORED is raised (R417, R438, R444). -/
def backInService (u : UnitRef) (s : State) : State :=
  let s := setUnit u .probation (s.unitCause u) s
  let s := match u with
    | .pair _ => handOver s
    | _ => s
  askBarrier .unitRights (raise 0x0F03 none (u.kind + u.index * 2 ^ 4) s)

/-- The recovery action failed: a further error during the recovery (R434 CHAN_REINIT, R439). -/
def recoveryFails (u : UnitRef) (s : State) : State :=
  match u with
  | .chan _ => escalate u 0x0E03 s
  | _ => escalate u (s.unitCause u) s

/-- RECOVERY_DONE (R438, R444, R447). -/
def execRecoveryDone (u : UnitRef) (ok : Bool) (s : State) : Out :=
  s.gate (s.mainUp && s.faults.fatalWindow.isNone && s.unitPhase u == .recovering && s.recovered u)
    (if ok then backInService u else recoveryFails u)

/-- PROBATION_END (R438). -/
def execProbationEnd (u : UnitRef) (s : State) : Out :=
  s.gate (s.mainUp && s.unitPhase u == .probation) (fun s => setUnit u .service (s.unitCause u) s)

/-! ## Fatal errors (R441, R442, R446) -/

/-- The fatal errors that open the window by themselves (R434, R441). -/
def fatalCodes : List W16 := [0x0F03, 0x0F04, 0x0F05, 0x0F06, 0x0F07, 0x0F08]

/-- FATAL_ERROR (R441): with the window open it is a nested one (R442). -/
def execFatalError (code : W16) (s : State) : Out :=
  s.gate (s.mainUp && fatalCodes.contains code) (openFatal code 0 0)

/-- FATAL_NESTED (R442). -/
def execFatalNested (code : W16) (s : State) : Out :=
  s.gate (s.mainUp && fatalCodes.contains code && s.faults.fatalWindow.isSome) (openFatal code 0 0)

/-- FATAL_WINDOW_TIMEOUT (R441): what has not finished is skipped. -/
def execFatalWindowTimeout (s : State) : Out :=
  s.gate (s.mainUp && s.faults.fatalWindow.isSome) (resetBy .fatalWindow)

/-- DEVICE_WATCHDOG (R446): a fatal error. -/
def execDeviceWatchdog (s : State) : Out := s.gate s.mainUp (openFatal 0x0F08 0 0)

/-! ## Refused accesses (R415, R416) -/

/-- The masters whose refusals latch an error, with their units: Ferris wheel and Tightrope are the device's
(R352, R353, R415). -/
def masterUnitOk (v : Violation) : Bool :=
  match v.master.toNat, v.unit with
  | 0, .pair p => p.val == 0
  | 1, .pair p => p.val == 1
  | 2, .pair p => p.val == 2
  | 3, .pair p => p.val == 3
  | 4, .roust _ | 5, .juggler _ | 6, .pk _ | 7, .slot _ | 8, .device | 9, .device => true
  | 0xA, .device | 0xB, .device | 0xC, .device | 0xD, .device => true
  | _, _ => false

/-- The error that a refusal latches (R415): a core pair to Tightrope; the host, the Sideshow bridge, DEBUG and
the self-test controller latch none. -/
def refusalError (v : Violation) (s : State) : State :=
  if 9 < v.master.toNat then s
  else
    match v.unit with
    | .device => latchError 0x0B10 .device none false s
    | u => unitFails u 0x0B10 s

/-- The job that a refused Roustabout request served ends FAILED (R416). -/
def refusalJob (v : Violation) (s : State) : State :=
  match v.job with
  | some id => if v.master == 4 && v.region == 0x0C then failJob id 0x0A02 s else s
  | none => s

/-- ACCESS_VIOLATION (R353, R415, R416). -/
def execAccessViolation (v : Violation) (s : State) : Out :=
  s.gate (s.mainUp && masterUnitOk v && v.access.toNat < 3) (fun s =>
    refusalJob v (refusalError v
      (recordViolation v.master.toNat v.access.toNat v.region.toNat v.addr (UnitRef.slotOf v.unit) s)))

end Sys2Proof.Machine
end

