-- ==== Sys2Proof/Machine/Profile.lean ====
section
/-! DEFINITION. The profile engine's commands: precompute, release, SC_OPEN and the record prefetch
(06_profiles_and_secure_messaging, 04 R113 to R142, 07 R236 to R242). -/

namespace Sys2Proof.Machine

open Sys2Proof

/-! ## The mode switch (R113, R114, R117) -/

/-- The card may be switched for this job (R113). -/
def Slot.galEligible (x : Slot) (p : Profile) : Bool :=
  match x.galCap with
  | none => false
  | some c =>
    p.galOk && x.proto == .t1 && x.galEn && !x.galFailed &&
      (match x.cls with
       | some .b => c.classB
       | some .c => c.classC
       | _ => false)

/-- The switch comes at the start of the job, before anything of it is built (R113). -/
def State.switchDue (s : State) (n : SlotId) (j : Job) : Bool :=
  match j.run with
  | some r => (s.slot n).galEligible r.profile && j.phase == .placed && r.stepsRun == 0 && r.staged.isEmpty
  | none => false

/-- The SID a draw gives: nonzero and not the slot's previous one (R114). -/
def pickSid (d prev : W16) : W16 :=
  let ok (v : W16) : Bool := v != 0 && v != prev
  if ok d then d else if ok (d + 1) then d + 1 else d + 2

/-- The clock code and depth proposed (R117). -/
def Slot.galOffer (x : Slot) (ceiling : Nat) : Nat × Nat :=
  match x.galCap with
  | some c => (min c.maxCode (min x.galClkMax ceiling), min c.depth x.galWindow)
  | none => (0, 1)

/-- The mode-switch command goes out (R114). -/
def startSwitch (n : SlotId) (s : State) : State :=
  let x := s.slot n
  let (code, w) := x.galOffer (s.planOf n).ceiling
  let sid := pickSid (BitVec.ofNat 16 (ofLe (s.random 2))) x.prevSid
  let s := (s.drew 2).updSlot n (fun x => { x with proposal := some (code, w, sid), prevSid := sid })
  let apdu := [0x80, 0x3A, 0x00, 0x00, 0x04, BitVec.ofNat 8 code, BitVec.ofNat 8 w] ++ beBytes 2 sid.toNat ++ [0x02]
  startExch n .modeSwitch 0 0 0 apdu 2 s

/-! ## PRECOMPUTE (R175, R206, R209, R221, R222, R242, R252) -/

/-- A taken-up job that may work on its slot's card, with the slot. -/
def State.working (s : State) (id : JobId) : Option (Job × SlotId × Run) :=
  match (s.findJob id).filter (fun j =>
      (j.phase == .placed || j.phase == .started) && j.ticket.runsProfile && j.cancelWith.isNone) with
  | none => none
  | some j =>
    match j.slot, j.run with
    | some n, some r =>
      let x := s.slot n
      if s.booted && s.faults.fatalWindow.isNone && r.taken && (x.phase == .ready || x.phase == .galloper || x.phase == .busy) &&
          x.unsettled.isEmpty && !x.ltsDue && !x.warmDue && !x.fencePending && !s.ringUnderTest (ringOf n) &&
          (match x.gal with | some g => g.giveUp.isNone | none => true) then
        some (j, n, r)
      else none
    | _, _ => none

/-- The job's record stands in the slot buffer, or it names none (R242). -/
def State.recordHere (s : State) (n : SlotId) (j : Job) : Bool :=
  j.ticket.recordId == 0 || (match (s.slot n).record with | some (id, _, _) => id == j.ticket.recordId | none => false)

/-- No exchange of the engine's own runs on the slot (R90, R96). -/
def Slot.cardFree (x : Slot) : Bool :=
  match x.exch with
  | some e => e.kind == .step || e.kind == .getResponse || e.kind == .initUpdate || e.kind == .extAuth
  | none => true

/-- A run that has not begun: on a card whose digest the slot holds it begins at step 1, once the card's open
entries are resolved (R175, R221, R252). -/
def beginRun (id : JobId) (n : SlotId) (r : Run) (s : State) : State :=
  if r.stepsRun == 0 && r.next == some 0 && (s.slot n).digest.isSome then
    let tgt : Option Nat := r.profile.steps[0]?.bind (fun st =>
      if 0xFD ≤ st.nextTarget 0 then none else some (st.nextTarget 0))
    admitCard id n (fun s => settleIdle id (updRun id (fun r => { r with next := tgt, baseNext := tgt }) s)) s
  else s

/-- Bound of R205 on the internal steps run at once. -/
def stepBound : Nat := 1100

/-- PRECOMPUTE (R209, R222). -/
def execPrecompute (job : JobId) (s : State) : Out :=
  match s.working job with
  | none => .next s
  | some (j, n, r) =>
    s.gate (s.recordHere n j && (s.slot n).cardFree && !s.switchDue n j) (fun s =>
      precompute stepBound job n (beginRun job n r s))

/-! ## PRECOMPUTE_RELEASE (R31, R37, R129, R139, R176, R222) -/

/-- The entry of a staged command is durable (R31). -/
def State.intentDurable (s : State) (t : Staged) : Bool :=
  match t.jseq with
  | some q => s.bank.journal.any (fun e => e.jseq == q && e.durable)
  | none => true

/-- Slots with a Galloper command in flight (R37). -/
def State.galBusy (s : State) : Nat :=
  (s.slots.toList.filter (fun x => match x.gal with | some g => !g.window.isEmpty | none => false)).length

/-- Another slot may enter a Galloper data phase (R37, R451). -/
def State.mayTransfer (s : State) (n : SlotId) : Bool :=
  (match (s.slot n).gal with | some g => !g.window.isEmpty | none => false) ||
    s.galBusy < 6000 * s.jugglersUp / 630

/-- The Galloper link may take a new command (R120, R139, R147). -/
def Gal.takesCmd (g : Gal) : Bool :=
  g.free && !g.ltsNeeded && g.giveUp.isNone && g.window.length < g.depth && g.sweep.isNone && g.staged.isNone &&
    !g.window.any (fun w => !w.accepted || w.refused || w.ready)

/-- The job's first byte: late jobs end here, others start (R176, R180). -/
def firstByte (j : Job) (k : Nat) (go : State → State) (s : State) : State :=
  if k == 0 || j.phase == .started then go s
  else if s.deadlinePassed j then endJob j.ticket.jobId .cancelled 0x0209 s
  else go (startJob j.ticket.jobId s)

/-- A staged command is marked as sent. -/
def markSent (id : JobId) (t : Staged) (s : State) : State :=
  updRun id (fun r => { r with staged := r.staged.map (fun u => if u == t then { u with sent := true } else u) }) s

/-- Response area of a command (R200, R208). -/
def respArea (r : Run) (t : Staged) : Nat :=
  match t.kind, r.profile.steps[t.step]? with
  | .step, some st => st.respMax
  | .getResponse, some st => st.respMax
  | _, _ => 2048

/-- A command enters the Galloper window; one larger than the card takes ends BLOCK_SIZE unsent (R129, R139). -/
def sendGal (id : JobId) (n : SlotId) (gen : W16) (r : Run) (t : Staged) (s : State) : State :=
  let cap := ((s.slot n).galCap.map (·.blockKiB)).getD 0
  let w : WCmd :=
    { csn := t.csn, job := id, gen := gen, step := t.step, kind := t.kind, apdu := t.apdu, exp := t.exp,
      respMax := respArea r t, tx := 0, fetches := 0, accepted := false, refused := false, ready := false, jseq := t.jseq }
  let s := markSent id t s
  if cap * 1024 < t.apdu.length then pushEnded n [endedCmd w .blockSize 0 2] s
  else
    let s := updGal n (fun g => { g with window := g.window ++ [w] }) (s.updJob id (fun j => { j with galloper := true }))
    pump n (s.updSlot n (fun x => { x with phase := .busy }))

/-- The job leaves its step boundary: the command goes out in the mode in use. -/
def sendStaged (j : Job) (n : SlotId) (r : Run) (t : Staged) (s : State) : State :=
  let id := j.ticket.jobId
  if (s.slot n).gal.isSome then sendGal id n j.gen r t s
  else startExch n t.kind id j.gen t.step t.apdu (respArea r t) (markSent id t s)

/-- The standard-mode link may take the command: the one before it has matched (R222). -/
def Slot.takesApdu (x : Slot) : Bool := x.phase == .ready && x.clk == .run && x.exch.isNone && x.ended.isEmpty

/-- The card awaits the mode switch. -/
def releaseSwitch (n : SlotId) (s : State) : State := if (s.slot n).takesApdu then startSwitch n s else s

/-- The oldest staged command that has not gone out. -/
def Run.nextToSend (r : Run) : Option Staged := r.staged.find? (fun t => !t.sent)

/-- PRECOMPUTE_RELEASE (R31, R113, R222). -/
def execPrecomputeRelease (job : JobId) (s : State) : Out :=
  match s.working job with
  | none => .next s
  | some (j, n, r) =>
    s.gate true (fun s =>
      if s.switchDue n j then releaseSwitch n s
      else
        match r.nextToSend with
        | none => s
        | some t =>
          let x := s.slot n
          let ready := match x.gal with
            | some g => g.takesCmd && s.mayTransfer n && x.ended.isEmpty
            | none => x.takesApdu && (r.staged.head? == some t)
          if s.intentDurable t && ready then firstByte j t.step (sendStaged j n r t) s else s)

/-! ## SC_OPEN (R215) -/

/-- The response of INITIALIZE UPDATE names SCP and i as the profile and the step do (R215 step 3); under SCP02
it carries no i. -/
def scParamOk (scp i : Byte) (resp : List Byte) : Bool :=
  byteAt resp 11 == scp && (scp == 2 || byteAt resp 12 == i)

/-- Static keys ENC, MAC and DEK (R215 step 4). -/
def staticKeys (method : Nat) (ktype : Nat) (key resp : List Byte) : List (List Byte) :=
  let d := resp.take 10
  match method with
  | 0 =>
    let l := key.length / 3
    [slice key 0 l, slice key l l, slice key (2 * l) l]
  | 1 => ([1, 2, 3] : List Byte).map (fun i => kdf key (i :: d) (keyLen ktype))
  | _ => ([1, 2, 3] : List Byte).map (fun i =>
      let h := slice d 4 6
      padTo 16 (Config.tdesEcb key (h ++ [0xF0, i] ++ h ++ [0x0F, i])))

/-- The session that opens (R215 steps 5 and 6). -/
def openSession (g : Config.GpIn) : Session :=
  { scp := g.scp, i := g.i, sl := g.sl, enc := Config.gpDerive 0 g, mac := Config.gpDerive 1 g,
    rmac := Config.gpDerive 2 g, dek := Config.gpDerive 3 g, mcv := Config.gpDerive 4 g,
    rmcv := List.replicate 8 0, encCtr := 1, seq := 1 }

/-- EXTERNAL AUTHENTICATE is staged in the place of INITIALIZE UPDATE (R215 step 6, R244). -/
def stageExtAuth (id : JobId) (t : Staged) (st : Step) (g : Config.GpIn) (s : State) : State :=
  let se := openSession g
  let head := [0x84, 0x82, st.scSl, 0x00, 0x10] ++ padTo 8 (Config.gpHostCryptogram { g with keys := [se.enc, se.mac] })
  let w : Config.GpIn := { g with keys := [se.enc, se.mac], ctr := 0, data := [se.mcv, head] }
  let apdu := padTo 21 (Config.gpWrap w)
  let se := { se with mcv := Config.gpWrapMcv w }
  updRun id (fun r =>
    let r := { r with session := some se, challenge := [] }
    let u : Staged := { t with kind := .extAuth, apdu := apdu, exp := 0,
                               csn := if t.csn == 0 then 0 else nextCsn t.csn, sent := false,
                               cp := r.checkpoint t.step t.cp.resultLen }
    { r with staged := r.staged.map (fun v => if v == t then u else v) }) s

/-- INITIALIZE UPDATE refused: ON_FAIL, without step 6 (R215, R244). -/
def scRefused (id : JobId) (n : SlotId) (t : Staged) (st : Step) (s : State) : State :=
  let s := dropStaged id n [t] s
  let s := updRun id (fun r => { r.restore t.cp with session := none, challenge := [], base := t.cp }) s
  goTarget id st (if st.onFail == 0xFF then 0xFE else st.onFail.toNat) s

/-- The response to INITIALIZE UPDATE is taken (R215 steps 3 to 6). -/
def takeInitUpdate (id : JobId) (n : SlotId) (r : Run) (t : Staged) (st : Step) (resp : List Byte) (sw : W16)
    (s : State) : State :=
  if sw != 0x9000 then scRefused id n t st s
  else if !scParamOk r.profile.scp st.scI resp then failJob id 0x0605 s
  else
    let key := s.keyValue r (st.nib 0)
    let kt := match s.keyOf r (st.nib 0) with | some (k, _, _) => k | none => 1
    let g : Config.GpIn :=
      { scp := r.profile.scp, i := st.scI, sl := st.scSl, keys := staticKeys st.method kt key resp, ctr := 0,
        data := [r.challenge, resp] }
    if !Config.gpCardOk g then failJob id 0x0604 s
    else stageExtAuth id t st g s

/-- The INITIALIZE UPDATE of a job that waits for its response: reported by an ended exchange, or by the card just
now in the standard-mode exchange in progress. -/
def State.initUpdateOf (s : State) (n : SlotId) (id : JobId) (resp : List Byte) (sw : W16) : Bool :=
  match (s.slot n).ended with
  | e :: _ => e.kind == .initUpdate && e.status == .ok && e.job == id && e.resp == resp && e.sw == sw
  | [] => false

/-- SC_OPEN (R215, R244): the job's INITIALIZE UPDATE has ended OK with this response. -/
def execScOpen (job : JobId) (resp : List Byte) (sw : W16) (s : State) : Out :=
  match (s.findJob job).bind (fun j => j.slot.bind (fun n => j.run.map (fun r => (j, n, r)))) with
  | none => .next s
  | some (j, n, r) =>
    s.gate (s.booted && s.initUpdateOf n job resp sw) (fun s =>
      let s := s.updSlot n (fun x => { x with ended := x.ended.drop 1 })
      let s :=
        match r.staged.find? (fun t => t.kind == .initUpdate && t.sent) with
        | none => s
        | some t =>
          match r.profile.steps[t.step]? with
          | some st =>
            if j.phase == .resolving then s
            else cancelNow job (takeInitUpdate job n r t st resp sw (s.updJob job (fun j => { j with exch := .ok })))
          | none => s
      afterReport n s)

/-! ## PREFETCH_DONE (R192, R236 to R242, R460) -/

/-- The block a read touched, with its record changed. -/
def updBlock (t : TargetId) (i : Nat) (f : Block → Block) (s : State) : State :=
  let fresh : Block := { target := t, index := i, bad := false, erases := 0, reads := 0, refresh := false, padDue := false }
  let b := (s.bank.blocks.find? (fun b => b.target == t && b.index == i)).getD fresh
  { s with bank.blocks := f b :: s.bank.blocks.filter (fun b => !(b.target == t && b.index == i)) }

def updTarget (t : TargetId) (f : Target → Target) (s : State) : State :=
  { s with bank.targets := s.bank.targets.map (fun k => if k.id == t then f k else k) }

/-- A block becomes grown-bad: its data moves to a spare (R237). -/
def growBad (t : TargetId) (i : Nat) (s : State) : State :=
  let was := match s.bank.blocks.find? (fun b => b.target == t && b.index == i) with | some b => b.bad | none => false
  if was then s
  else
    let s := updBlock t i (fun b => { b with bad := true, refresh := false, padDue := false }) s
    let s := updTarget t (fun k => { k with spares := k.spares - 1 }) s
    let s := raise 0x0706 none (t.val + i * 2 ^ 8) s
    match s.bank.targets.find? (fun k => k.id == t) with
    | some k => onlyIf (k.spares * 4 ≤ k.spares0 && k.spares0 < (k.spares + 1) * 4) (raise 0x0707 none (t.val + k.spares * 2 ^ 8)) s
    | none => s

/-- A read-reference offset moves one step toward the level that decoded (R460). -/
def stepToward (o : Int) (level : Nat) : Int :=
  let l : Int := level
  if o < l then min 7 (o + 1) else if l < o then max (-7) (o - 1) else o

/-- What the bank learns from a read (R238, R241, R460). -/
def noteRead (rd : PrefetchRead) (s : State) : State :=
  let s := updBlock rd.target rd.block (fun b =>
    { b with reads := b.reads + 1, refresh := b.refresh || (rd.stage == 1 && 60 < rd.corrected) || 90 < rd.corrected }) s
  updTarget rd.target (fun k =>
    { k with mostCorrected := max k.mostCorrected rd.corrected,
             offsets := if rd.stage == 2 then k.offsets.set rd.band.val (stepToward k.offsets[rd.band.val] rd.level) rd.band.isLt
                        else k.offsets }) s

/-- The record of a job is in its slot buffer, or cannot be (R206, R241, R242). -/
def takeRecord (j : Job) (n : SlotId) (rd : PrefetchRead) (s : State) : State :=
  let id := j.ticket.jobId
  let minLen := match j.run with | some r => r.profile.minRecord | none => 0
  match s.record j.ticket.recordId with
  | none => failJob id 0x0206 s
  | some (v, d) =>
    let s := noteRead rd s
    if rd.stage == 5 then
      failJob id 0x0705 (growBad rd.target rd.block (raise 0x0708 none (rd.target.val + rd.block * 2 ^ 8) s))
    else if d.length < minLen then failJob id 0x0602 s
    else s.updSlot n (fun x => { x with record := some (j.ticket.recordId, v, d) })

/-- PREFETCH_DONE (R192, R242): a stale read is discarded and the buffer then holds no record. -/
def execPrefetchDone (job : JobId) (gen : W16) (rd : PrefetchRead) (s : State) : Out :=
  s.gate (s.booted && s.bank.formatted) (fun s =>
    match s.findJob job with
    | none => noteStale job s
    | some j =>
      match j.slot with
      | none => noteStale job s
      | some n =>
        if j.gen != gen then noteStale job (s.updSlot n (fun x => { x with record := none }))
        else if j.ticket.recordId == 0 || s.recordHere n j || j.phase != .placed then s
        else takeRecord j n rd s)

end Sys2Proof.Machine
end

