-- ==== Sys2Proof/Machine/Galloper.lean ====
section
/-! DEFINITION. Galloper mode on the wire: the mode switch, tokens, blocks, the last-transaction-status record,
busy limits, the clock and eye training (04_galloper_mode). -/

namespace Sys2Proof.Machine

open Sys2Proof

/-! ## The mode switch (R114 to R122) -/

/-- GCK′ and W′ of an answer that stays inside what was proposed (R114). -/
def switchAnswer (offer : Nat × Nat × W16) (data : List Byte) : Option (Nat × Nat) :=
  let k := (byteAt data 0).toNat
  let w := (byteAt data 1).toNat
  if data.length == 2 && k ≤ offer.1 && 1 ≤ w && w ≤ offer.2.1 then some (k, w) else none

/-- A Galloper session as it opens (R41, R116, R141, R154, R155). -/
def openGal (code depth : Nat) (sid : W16) (phases : Vector Nat 4) : Gal :=
  { code := code, staged := none, codeMax := code, depth := depth, sid := sid, csnNext := 1, window := [],
    switching := true, quiet := false, expect := .none, ltsNeeded := false, ltsTries := 0, linkErrors := 0,
    downshifted := false, giveUp := none, stopped := false, phases := phases, sweep := none }

/-- The table of R115. -/
def takeSwitch (n : SlotId) (e : Ended) (s : State) : State :=
  let failed (warm : Bool) : State :=
    afterReport n (markGalFailed n (s.updSlot n (fun x => { x with warmDue := x.warmDue || warm, proposal := none })))
  if e.status != .ok then failed true
  else if e.sw != 0x9000 then failed false
  else
    match (s.slot n).proposal.bind (fun p => (switchAnswer p e.resp).map (fun a => (a, p.2.2))) with
    | none => failed true
    | some ((k, w), sid) =>
      afterReport n (s.updSlot n (fun x =>
        { x with phase := .galloper, proto := .galloper, galLimits := true, proposal := none, d0Busy := false,
                 gal := some (openGal k w sid (s.planOf n).phases) }))

/-- MODE_SWITCH_ANSWER (R114, R115): the exchange of the mode switch has ended. -/
def execModeSwitchAnswer (slot : SlotId) (ok : Bool) (data : List Byte) (sw : W16) (s : State) : Out :=
  match (s.slot slot).ended with
  | [] => .next s
  | e :: rest =>
    s.gate (s.booted && e.kind == ExchKind.modeSwitch &&
        (if ok then e.status == ExchStatus.ok && e.resp == data && e.sw == sw else e.status != ExchStatus.ok)) (fun s =>
      takeSwitch slot e (s.updSlot slot (fun x => { x with ended := rest })))

/-- The slot's Galloper session, on a main side that is up. -/
def State.galOf (s : State) (n : SlotId) : Option Gal := if s.mainUp then (s.slot n).gal else none

/-- A Galloper event that needs a state of the session. -/
def galGate (n : SlotId) (p : Gal → Bool) (f : Gal → State → State) (s : State) : Out :=
  match s.galOf n with
  | some g => s.gate (p g) (f g)
  | none => .next s

/-- GALLOPER_CLOCK_APPLY (R120 steps 2 to 4). -/
def execGalloperClockApply (slot : SlotId) (s : State) : Out :=
  galGate slot (·.switching) (fun _ s =>
    (updGal slot (fun g => { g with switching := false, quiet := true }) s).updSlot slot (fun x =>
      { x with d0PullUp := true, io := .pushPull, clk := .run })) s

/-- QUIET_END (R120 step 5): tokens may go. -/
def execQuietEnd (slot : SlotId) (s : State) : Out :=
  galGate slot (·.quiet) (fun _ s => pump slot (updGal slot (fun g => { g with quiet := false }) s)) s

/-! ## Tokens and blocks (R130 to R142) -/

def updCmd (n : SlotId) (csn : W16) (f : WCmd → WCmd) (s : State) : State :=
  updGal n (fun g => { g with window := g.window.map (fun w => if w.csn == csn then f w else w) }) s

/-- Commands the card holds unfetched keep D0 low until one is ready (R136). -/
def noteBusy (n : SlotId) (s : State) : State :=
  s.updSlot n (fun x =>
    { x with d0Busy := match x.gal with
               | some g => (match g.window.find? (·.accepted) with | some w => !w.ready | none => false)
               | none => false })

/-- What an RCV token says of its command (R131, R132): its SW field, or the lines of the link error it is. -/
def takeRcv (n : SlotId) (csn sw : W16) (s : State) : State :=
  let s' := updGal n (fun g => { g with expect := .none }) s
  if sw == 0x0000 || sw == 0x0200 then
    pump n (noteBusy n (updCmd n csn (fun w => { w with accepted := true }) s'))
  else if sw == 0x0500 then pump n (updCmd n csn (fun w => { w with refused := true }) s')
  else if sw >>> 8 == 0x01 then
    let l := (if bit sw 0 then [1] else []) ++ (if bit sw 1 then [2] else []) ++ (if bit sw 2 then [3] else [])
    afterLinkError n (if l.isEmpty then [0] else l) s
  else afterLinkError n [0] s

/-- RCV_TOKEN (R124, R125, R131 to R133, R146). -/
def execRcvToken (slot : SlotId) (tok : W64) (s : State) : Out :=
  galGate slot (fun g => match g.expect with | .rcv _ => true | _ => false) (fun g s =>
    match g.expect, tokRead tok with
    | .rcv csn, some t =>
      if t.op == 0x01 && t.csn == csn then takeRcv slot csn t.aux s else afterLinkError slot [0] s
    | _, _ => afterLinkError slot [0] s) s

/-- A status word fails a command against its EXP field (R139, R140). -/
def swFails (sw exp : W16) : Bool :=
  exp != 0 && !(if exp == 0x6100 then sw >>> 8 == 0x61 else sw == exp)

/-- The response of a command is fetched; a failed one ends what comes after it CANCELLED, as does a window that
holds nothing but refused commands (R97 OVERSIZE, R132, R142). -/
def fetched (n : SlotId) (csn sw : W16) (data : List Byte) (s : State) : State :=
  match (s.slot n).gal with
  | none => s
  | some g =>
    match g.window.find? (fun w => w.csn == csn) with
    | none => s
    | some w =>
      let st : ExchStatus := if w.respMax < data.length then .oversize else .ok
      let me : Ended := { endedCmd w st sw (howOf st) with resp := data.take w.respMax }
      let rest := g.window.filter (fun v => v.csn != csn)
      let cut := swFails sw w.exp || rest.all (·.refused)
      let s := updGal n (fun g => { g with window := if cut then [] else rest, expect := .none }) s
      pump n (noteBusy n (pushEnded n (me :: (if cut then rest.map (fun v => endedCmd v .cancelled 0 2) else [])) s))

/-- An unfetched command ends without a fetch. -/
def endUnfetched (n : SlotId) (csn : W16) (st : ExchStatus) (how : Nat) (s : State) : State :=
  match (s.slot n).gal.bind (fun g => g.window.find? (fun w => w.csn == csn)) with
  | none => s
  | some w =>
    pushEnded n [endedCmd w st 0 how] (updGal n (fun g => { g with window := g.window.filter (fun v => v.csn != csn) }) s)

/-- What an RSP token to a FETCH says (R134). -/
def takeRsp (n : SlotId) (csn : W16) (t : Tok) (s : State) : State :=
  let s' := updGal n (fun g => { g with expect := .none }) s
  if t.aux == 0x0000 then pump n (noteBusy n (endUnfetched n csn .cancelled 2 s'))
  else if t.aux == 0x0001 then afterLinkError n [0] s
  else if t.aux == 0x0002 then pump n (noteBusy n (updCmd n csn (fun w => { w with ready := false, fetches := 0 }) s'))
  else if t.len == 0 then fetched n csn t.aux [] s
  else updGal n (fun g => { g with expect := .block csn t.len.toNat t.aux }) s

/-- RSP_TOKEN (R124, R125, R134, R145, R146). -/
def execRspToken (slot : SlotId) (tok : W64) (s : State) : Out :=
  galGate slot (fun g => match g.expect with | .rsp _ => true | .ltsRsp => true | _ => false) (fun g s =>
    match g.expect, tokRead tok with
    | .rsp csn, some t =>
      if t.op == 0x02 && t.csn == csn then takeRsp slot csn t s else afterLinkError slot [0] s
    | .ltsRsp, some t =>
      if t.op == 0x03 && t.csn == 0 && t.len == 23 then updGal slot (fun g => { g with expect := .ltsBlock }) s
      else afterLinkError slot [0] s
    | _, _ => afterLinkError slot [0] s) s

/-- READ_BLOCK (R126 to R128, R146): a bad block is a link error on its lines. -/
def execReadBlock (slot : SlotId) (blk : RawBlock) (s : State) : Out :=
  galGate slot (fun g => match g.expect with | .block _ _ _ => true | _ => false) (fun g s =>
    match g.expect with
    | .block csn len sw =>
      let bad := blockErrors len blk
      if bad.isEmpty then fetched slot csn sw (blockBytes len blk) s else afterLinkError slot bad s
    | _ => s) s

/-! ## The last-transaction-status record (R143 to R148) -/

/-- The entries of a record that is of this session; another form or session holds none. -/
def recordOf (sid : W16) (b : List Byte) : Option LtsRec :=
  if ltsOk b && (readLts b).sid == sid then some (readLts b) else none

/-- What R147 does for one unfetched command. -/
def actOnRecord (n : SlotId) (r : LtsRec) (csn : W16) (s : State) : State :=
  match r.find csn with
  | none => updCmd n csn (fun w => { w with accepted := false, ready := false }) s
  | some (3, _) => updCmd n csn (fun w => { w with accepted := true, ready := true }) s
  | some (1, _) => updCmd n csn (fun w => { w with accepted := true, ready := false }) s
  | some (2, _) => updCmd n csn (fun w => { w with accepted := true, ready := false }) s
  | some _ => endUnfetched n csn .cancelled 3 s

/-- A command not present has used its three transmissions (R147, R148). -/
def wornOut (r : LtsRec) (g : Gal) : Bool := g.window.any (fun w => !w.refused && 3 ≤ w.tx && (r.find w.csn).isNone)

/-- The record has been read: it settles a give-up, or says what each unfetched command needs. -/
def takeLts (n : SlotId) (g : Gal) (b : List Byte) (s : State) : State :=
  let s := updGal n (fun g => { g with expect := .none, ltsNeeded := false, ltsTries := 0 }) s
  let rec? := recordOf g.sid b
  let r := rec?.getD { sid := g.sid, cmds := [] }
  if g.giveUp.isSome then concludeGiveUp n rec? s
  else if wornOut r g then concludeGiveUp n rec? (beginGiveUp n .linkFail s)
  else
    let s := forEach ((g.window.filter (fun w => !w.refused)).map (·.csn)) (actOnRecord n r) s
    pump n (noteBusy n s)

/-- LTS_RECORD (R128, R143, R145, R147, R148). -/
def execLtsRecord (slot : SlotId) (blk : RawBlock) (s : State) : Out :=
  galGate slot (fun g => g.expect == .ltsBlock) (fun g s =>
    let bad := blockErrors 23 blk
    if bad.isEmpty then takeLts slot g (blockBytes 23 blk) s else afterLinkError slot bad s) s

/-- NO_RESPONSE_TOKEN (R146). -/
def execNoResponseToken (slot : SlotId) (s : State) : Out :=
  galGate slot (fun g => match g.expect with | .rcv _ => true | .rsp _ => true | .ltsRsp => true | _ => false)
    (fun _ s => afterLinkError slot [0] s) s

/-! ## Busy (R136 to R138) and a stuck line (R149) -/

/-- The oldest command not yet fetched, when the card has accepted it. -/
def Gal.oldest (g : Gal) : Option WCmd := (g.window.find? (fun w => !w.refused)).filter (·.accepted)

/-- BUSY_END (R130, R136): the oldest unfetched command's response is ready. -/
def execBusyEnd (slot : SlotId) (s : State) : Out :=
  galGate slot (fun g => g.expect == .none && (match g.oldest with | some w => !w.ready | none => false)) (fun g s =>
    match g.oldest with
    | some w => pump slot (noteBusy slot (updCmd slot w.csn (fun w => { w with ready := true }) s))
    | none => s) s

/-- The slot is taken from its job, whose last exchange has this status, by cause BUSY_LIMIT (R137). -/
def busyDown (n : SlotId) (s : State) : State := lostJob n .busyLimit (startNormal n .busyLimit false s)

/-- BUSY_LIMIT (R137, R159, R246): refused commands never ran. -/
def execBusyLimit (slot : SlotId) (s : State) : Out :=
  galGate slot (fun g => match g.oldest with | some w => !w.ready | none => false) (fun g s =>
    let s := forEach (g.window.filter (·.refused)) (fun w s =>
      match w.jseq with | some q => settle q .notDone 0 2 (some slot) s | none => s) s
    let s := match (s.slot slot).job with
      | some id => s.updJob id (fun j => { j with exch := .busyLimit })
      | none => s
    busyDown slot s) s

/-- BUSY_LIMIT_IDLE (R138): no exchange takes a status from it. -/
def execBusyLimitIdle (slot : SlotId) (s : State) : Out :=
  galGate slot (fun g => g.window.isEmpty && g.free) (fun _ s => busyDown slot s) s

/-- C7_STUCK (R149, R151). -/
def execC7Stuck (slot : SlotId) (s : State) : Out :=
  galGate slot (fun g => g.expect == .none) (fun _ s => abandon slot .lineStuck true none s) s

/-! ## The Galloper clock (R152 to R155) -/

/-- GALLOPER_CLOCK_STOP (R153). -/
def execGalloperClockStop (slot : SlotId) (s : State) : Out :=
  let x := s.slot slot
  galGate slot (fun g => g.free && g.window.isEmpty && g.sweep.isNone && !x.d0Busy && s.slotQuiet slot && x.clkStopEn &&
      (match x.galCap with | some c => c.stopOk | none => false)) (fun _ s =>
    (updGal slot (fun g => { g with stopped := true }) s).updSlot slot (fun x => { x with clk := .low })) s

/-- GALLOPER_CLOCK_RESTART (R153). -/
def execGalloperClockRestart (slot : SlotId) (s : State) : Out :=
  galGate slot (·.stopped) (fun _ s =>
    pump slot ((updGal slot (fun g => { g with stopped := false }) s).updSlot slot (fun x => { x with clk := .run }))) s

/-- Half a bit time at a clock code, in phase codes: C7 carries a bit in each clock period, a data line two (R118,
R119, R126). -/
def halfBit (code : Nat) (line : Nat) : Nat :=
  let f := (galMHz code).getD 112
  if line == 0 then 7680 / f else 3840 / f

/-- A trained centre moved to a new clock code: the trained delay plus half the new bit time (R154), within the
128 codes of R155. -/
def movePhase (centre oldCode newCode line : Nat) : Nat :=
  min 127 (centre + halfBit newCode line - halfBit oldCode line)

/-- GALLOPER_CODE_APPLY (R154): at the next idle, with the sample phases recomputed from the planned ones. -/
def execGalloperCodeApply (slot : SlotId) (s : State) : Out :=
  galGate slot (fun g => g.expect == .none && !g.switching && !g.quiet && g.staged.isSome) (fun g s =>
    let c := g.staged.getD g.code
    updGal slot (fun g =>
      { g with code := c, staged := none,
               phases := Vector.ofFn (fun k : Fin 4 => movePhase g.phases[k.val] g.code c k.val) }) s) s

/-! ## The record read in standard mode (R150, R250, R251) -/

/-- Commands that a warm reset left unsettled are settled from the record with HOW 0x03 (R150, R246). -/
def settleOld (n : SlotId) (r : LtsRec) (s : State) : State :=
  let x := s.slot n
  let mine (e : Intent) : Bool := e.slot == n && e.sid == x.oldSid &&
    x.unsettled.any (fun u => u.csn == e.csn || nextCsn u.csn == e.csn)
  if r.sid == x.oldSid then settleFrom n r 3 (s.openIntents.filter mine) s else s

/-- LTS_APDU (R145, R150, R250): its exchange has ended; without a good answer nothing is settled. -/
def execLtsApdu (slot : SlotId) (ok : Bool) (data : List Byte) (sw : W16) (s : State) : Out :=
  match (s.slot slot).ended with
  | [] => .next s
  | e :: rest =>
    s.gate (s.booted && e.kind == ExchKind.ltsApdu &&
        (if ok then e.status == ExchStatus.ok && e.resp == data && e.sw == sw else e.status != ExchStatus.ok)) (fun s =>
      let s := s.updSlot slot (fun x => { x with ended := rest, warmDue := x.warmDue || e.status.warmReset })
      let good := ok && sw == 0x9000 && ltsOk data
      let s := if good then noteJournal (settleOld slot (readLts data) s) else s
      afterReport slot (s.updSlot slot (fun x =>
        { x with unsettled := [], lts := if good then some (readLts data) else none })))

/-! ## Eye training (R155 to R157, R459) -/

/-- A TRAIN token for 360 bytes (R156). -/
def sendTrain (n : SlotId) (s : State) : State := sendToken n 0x04 0 360 0 .train s

/-- EYE_SWEEP (R156, R189): in a granted window, with the command window empty. -/
def execEyeSweep (slot : SlotId) (s : State) : Out :=
  galGate slot (fun g => (s.slot slot).phase == .galloper && (s.slot slot).window && g.window.isEmpty && g.free &&
      !g.ltsNeeded && g.giveUp.isNone && g.sweep.isNone) (fun _ s =>
    sendTrain slot (updGal slot (fun g => { g with sweep := some (0, []) }) s)) s

/-- The bytes that a line's part of the training pattern has (R156): 30 in each of four segments. -/
def trainBytes (seed : BitVec 15) : List Byte :=
  let bits := prbs15 960 seed
  (List.range 120).map (fun i =>
    BitVec.ofNat 8 ((List.range 8).foldl (fun a k => 2 * a + (if bits.getD (8 * i + k) false then 1 else 0)) 0))

/-- A data line carried its pattern without error. -/
def lineTrained (seed : BitVec 15) (l : List LineSeg) : Bool :=
  l.length == 4 && l.all LineSegOk && l.flatMap (·.bytes) == trainBytes seed

/-- Which of C7, D0, D1, D2 pass a phase code (R156). -/
def trainPass (tokenOk : Bool) (b : RawBlock) : Vector Bool 4 :=
  let framed := b.startOk && b.endOk
  #v[tokenOk, framed && lineTrained 0x0001 (b.segs.map (·.1)), framed && lineTrained 0x2AAA (b.segs.map (·.2.1)),
     framed && lineTrained 0x5555 (b.segs.map (·.2.2))]

/-- The longest run of passing codes: its first code and its length (R156). -/
def longestRun (l : List Bool) : Nat × Nat :=
  let st := l.foldl (fun (a : Nat × Nat × Nat × Nat) b =>
    let (pos, cur, best, at_) := a
    let cur := if b then cur + 1 else 0
    if best < cur then (pos + 1, cur, cur, pos + 1 - cur) else (pos + 1, cur, best, at_)) (0, 0, 0, 0)
  (st.2.2.2, st.2.2.1)

/-- Eyes of the four lines of a finished sweep: start and width (R156). -/
def sweepEyes (l : List (Vector Bool 4)) : Vector (Nat × Nat) 4 :=
  Vector.ofFn (fun k : Fin 4 => longestRun (l.reverse.map (fun v => v[k.val])))

/-- What a completed sweep gives the slot's plan (R156, R157, R459). -/
def SlotPlan.sweepDone (p : SlotPlan) (code : Nat) (eyes : Vector (Nat × Nat) 4) (now : Nat) : SlotPlan :=
  let eye := (eyes.toList.map (·.2)).foldl min 128
  let ceil := p.ceilingNext.getD p.ceiling
  let p := { p with
    phasesNext := some (Vector.ofFn (fun k : Fin 4 =>
      if eyes[k.val].2 == 0 then p.phases[k.val] else eyes[k.val].1 + eyes[k.val].2 / 2)),
    eye := eye, eyeCode := code, swept := true, sweptAt := now, asks := false, sweepOwed := false,
    goodSweeps := ((code == ceil && 32 ≤ eye) :: p.goodSweeps).take 8 }
  if eye < 16 then p.setCeiling (min ceil (code - 1)) now
  else if p.goodSweeps.length == 8 && p.goodSweeps.all id && p.sessions.all (!·) && p.changedAt + 86400 ≤ now then
    p.setCeiling (min 0xE (ceil + 1)) now
  else p

/-- The sweep ends: a narrow eye lowers the running clock at once, and at code 0 is reported (R157, R459). -/
def finishSweep (n : SlotId) (g : Gal) (l : List (Vector Bool 4)) (s : State) : State :=
  let p := (s.planOf n).sweepDone g.code (sweepEyes l) s.aonSeconds
  let s := setPlan n p s
  let s := updGal n (fun g =>
    { g with sweep := none, expect := .none,
             staged := if p.eye < 16 && g.code != 0 then some (min (g.code - 1) (g.staged.getD (g.code - 1))) else g.staged }) s
  let s := onlyIf (p.eye < 16 && g.code == 0) (raise 0x1002 (some n) (6 + n.val * 2 ^ 8)) s
  pump n (s.updSlot n (fun x => { x with window := false }))

/-- TRAIN_PATTERN (R156): the answer at one phase code; `tokenOk` is the RSP token's CRC7 and form. -/
def execTrainPattern (slot : SlotId) (blk : RawBlock) (tokenOk : Bool) (s : State) : Out :=
  galGate slot (fun g => g.expect == .train && g.sweep.isSome) (fun g s =>
    match g.sweep with
    | none => s
    | some (k, l) =>
      let l := trainPass tokenOk blk :: l
      if 127 ≤ k then finishSweep slot g l s
      else sendTrain slot (updGal slot (fun g => { g with sweep := some (k + 1, l) }) s)) s

end Sys2Proof.Machine
end

