-- ==== Sys2Proof/Machine/Journal.lean ====
section
/-! DEFINITION. The Safety Net journal's group commit and the bank's background work
(07_data_bank_and_journal R235 to R239, R247, R248, R257, R263). -/

namespace Sys2Proof.Machine

open Sys2Proof

/-! ## The journal (R247, R248) -/

/-- An entry, or its outcome entry, waits in the group for its page program (R247). -/
def Intent.waits (e : Intent) : Bool :=
  e.queued || (match e.outcome with | some o => o.queued | none => false)

/-- The entry and its outcome are on their way to both copies (R247). -/
def Intent.program (e : Intent) : Intent :=
  { e with queued := false, outcome := e.outcome.map (fun o => { o with queued := false }) }

/-- The programs passed: what was being programmed is durable (R247). -/
def Intent.commit (e : Intent) : Intent :=
  { e with durable := e.durable || !e.queued,
           outcome := e.outcome.map (fun o => { o with durable := o.durable || !o.queued }) }

/-- An entry, or its outcome entry, is being programmed (R247). -/
def Intent.programming (e : Intent) : Bool :=
  (!e.queued && !e.durable) || (match e.outcome with | some o => !o.queued && !o.durable | none => false)

/-- JOURNAL_GROUP_COMMIT (R247): the waiting entries go to both copies. -/
def execJournalGroupCommit (s : State) : Out :=
  s.gate (s.booted && s.bank.formatted && s.bank.journal.any Intent.waits) (fun s =>
    { s with bank.journal := s.bank.journal.map Intent.program })

/-- JOURNAL_DURABLE (R247, R262, R441): the entries programmed are durable; the audit entries they lead to are
written, and a fatal window that waited for them goes on. -/
def execJournalDurable (s : State) : Out :=
  s.gate (s.booted && s.bank.formatted && s.bank.journal.any Intent.programming) (fun s =>
    fatalProgress (noteJournal (issueResults { s with bank.journal := s.bank.journal.map Intent.commit })))

/-- JOURNAL_COPY (R247): the new copy on channel `chan` holds every open entry. -/
def execJournalCopy (chan : ChanId) (s : State) : Out :=
  s.gate (s.booted && s.bank.formatted && s.bank.copyDue && s.mirrorChans.contains chan) (fun s =>
    { s with bank.copyDue := false })

/-- The entry keeps its block: it is open, its outcome is not durable, its job goes on or an audit entry it
leads to is not written (R248). -/
def State.keepsBlock (s : State) (e : Intent) : Bool :=
  (match e.outcome with | some o => !o.durable | none => true) || (s.findJob e.jobId).isSome ||
    s.bank.issueEnds.any (fun i => i.jobId == e.jobId && i.counter == e.counter && i.ctrIdx == e.ctrIdx)

/-- JOURNAL_BLOCK_ERASE (R248): the block of the entries up to a JSEQ; what is still open is copied forward. -/
def execJournalBlockErase (upTo : W64) (s : State) : Out :=
  s.gate (s.booted && s.bank.formatted) (fun s =>
    { s with bank.journal := s.bank.journal.filter (fun e => upTo.toNat < e.jseq.toNat || s.keepsBlock e) })

/-! ## The RPP (R257, R263) -/

/-- The check of step 2 of R257 passes: the RPP was found valid at this start. -/
def State.rppWritable (s : State) : Bool := s.booted && s.bank.formatted && s.bank.started && s.bank.rppValid

/-- RPP_WRITE (R257). -/
def execRppWrite (s : State) : Out := s.gate s.rppWritable rppWrite

/-- ANCHOR_UPDATE (R263): audit entries are newer than the ANCHOR. -/
def execAnchorUpdate (s : State) : Out :=
  s.gate (s.rppWritable && s.bank.anchorAseq.toNat + 1 < s.bank.aseqNext.toNat) rppWrite

/-! ## Blocks (R235, R237 to R239) -/

def State.block (s : State) (t : TargetId) (i : Nat) : Option Block :=
  s.bank.blocks.find? (fun b => b.target == t && b.index == i)

/-- A condition of a listed, good block. -/
def State.blockHas (s : State) (t : TargetId) (i : Nat) (p : Block → Bool) : Bool :=
  match s.block t i with
  | some b => !b.bad && p b
  | none => false

/-- The block's data is elsewhere: it waits for its erase (R238, R239). -/
def Block.emptied (b : Block) : Block := { b with refresh := false, reads := 0, padDue := false }

/-- PAGE_PAD (R235): the paired pages of an open block are padded. -/
def execPagePad (t : TargetId) (i : Nat) (s : State) : Out :=
  s.gate (s.booted && s.bank.formatted && s.blockHas t i (·.padDue)) (updBlock t i (fun b => { b with padDue := false }))

/-- BLOCK_RELOCATE (R239): a block listed for refresh, or read 100 000 times since its erase. -/
def execBlockRelocate (t : TargetId) (i : Nat) (s : State) : Out :=
  s.gate (s.booted && s.bank.formatted && s.blockHas t i (fun b => b.refresh || 100000 ≤ b.reads))
    (updBlock t i Block.emptied)

/-- The least-erased and the most-erased good block of a target with a record of its own. -/
def State.wearBlocks (s : State) (t : TargetId) : List Block :=
  s.bank.blocks.filter (fun b => b.target == t && !b.bad)

def leastErased : List Block → Option Block
  | [] => none
  | b :: l =>
    match leastErased l with
    | some c => some (if b.erases ≤ c.erases then b else c)
    | none => some b

/-- WEAR_LEVEL (R238): a spread above 200 moves the least-erased block's data. -/
def execWearLevel (t : TargetId) (s : State) : Out :=
  let l := s.wearBlocks t
  let top := (l.map (·.erases)).foldl max 0
  match leastErased l with
  | none => .next s
  | some b =>
    s.gate (s.booted && s.bank.formatted && b.erases + 200 < top) (updBlock t b.index Block.emptied)

/-- FORMAT named paired pages, which an open block leaves to be padded (R235). -/
def State.hasPairedPages (s : State) : Bool :=
  match s.bank.fmt with
  | some f => !f.pairedPages.isEmpty
  | none => false

/-- The endurance of a target (R237). -/
def State.endurance (s : State) (t : TargetId) : Nat :=
  match s.bank.targets.find? (fun k => k.id == t) with
  | some k => k.endurance
  | none => 0

/-- An erase passed: the block is fresh but for its erase count, and grown-bad when that reaches the endurance
(R237). -/
def eraseDone (t : TargetId) (i : Nat) (s : State) : State :=
  let s := updBlock t i (fun b => { b.emptied with erases := b.erases + 1 }) s
  onlyIf (s.blockHas t i (fun b => s.endurance t ≤ b.erases)) (growBad t i) s

/-- MEDIA_PROGRAM_DONE (R235, R237). -/
def execMediaProgramDone (t : TargetId) (i : Nat) (erase passed : Bool) (s : State) : Out :=
  s.gate (s.mainUp && s.bank.formatted && s.bank.targets.any (fun k => k.id == t)) (fun s =>
    if !passed then growBad t i s
    else if erase then eraseDone t i s
    else onlyIf s.hasPairedPages (updBlock t i (fun b => { b with padDue := true })) s)

end Sys2Proof.Machine
end

