-- ==== Sys2Proof/Machine/Monitors.lean ====
section
/-! DEFINITION. The self-checks of the comparators (09_analogue_monitors R300 to R307). -/

namespace Sys2Proof.Machine

open Sys2Proof

/-- A check starts on a slot (R300, R301). -/
def startSlotCheck (n : SlotId) (c : CompId) (s : State) : State := s.updSlot n (fun x => { x with check := .running c })

def startRingCheck (r : RingId) (l : List CompId) (s : State) : State :=
  s.updRing r (fun x => { x with checks := (x.checks ++ l).eraseDups })

/-- COMPARATOR_CHECK (R300, R301): an unpowered slot's comparator, or one of a ring. The supply comparators are checked
by the main-side reset. -/
def execComparatorCheck (obj : CheckObj) (c : CompId) (s : State) : Out :=
  match obj with
  | .slot n =>
    s.gate (s.mainUp && c.isSlot && !c.isPresence && (s.slot n).check == .idle && !(s.slot n).phase.powered)
      (startSlotCheck n c)
  | .ring r => s.gate (s.mainUp && (c.isRing || c.isStandby)) (startRingCheck r [c])
  | .device => .next s

/-- An activation request that waited for the check goes on (R301). -/
def resumeRequest (n : SlotId) (s : State) : State :=
  let x := s.slot n
  if !x.actWait then s
  else
    match x.stepTo.orElse (fun _ => x.firstClass) with
    | some k => if s.canActivate n then joinQueue n k s else s.updSlot n (fun x => { x with actWait := false, stepTo := none })
    | none => s.updSlot n (fun x => { x with actWait := false })

/-- A check in place, after samples that disagreed, ends the rotation when it passes (R302). -/
def endInPlace (n : SlotId) (s : State) : State :=
  if (s.ring (ringOf n)).standbyHolds then s
  else
    s.updRing (ringOf n) (fun r =>
      match r.rotation with
      | some (k, _) => if k.val == n.val % 8 then { r with rotation := none } else r
      | none => r)

/-- A powered slot's comparator fails: fence pending, deactivation with cause HOST at the next step boundary (R305). -/
def failPowered (n : SlotId) (c : CompId) (step : Nat) (s : State) : State :=
  let s := monFailEvent 0x0901 (some n) c step 0xF (latchError 0x0901 (.slot n) none true s)
  let s := markFence n .comparator 0x0901 (logStandby 0x0901 1 n.val 0 s)
  if s.fenceNow n || ((s.slot n).phase.live && (s.slot n).job.isNone) then loseNormal n .host s else s

/-- A check of a slot's comparator ends (R305). -/
def endSlotCheck (n : SlotId) (c : CompId) (fail : Option (Fin 3)) (s : State) : State :=
  let s := s.updSlot n (fun x => { x with check := .idle })
  match fail with
  | none => resumeRequest n (endInPlace n s)
  | some k =>
    if !s.mainUp then { s with standby.presFail := s.standby.presFail ++ [(n, c, k.val + 1)] }
    else if (s.slot n).phase.powered then failPowered n c (k.val + 1) s
    else failSlotComp n c (k.val + 1) s

/-- A standby set fails: rotation stops in its ring, which is not fenced (R305, R307). -/
def failStandbySet (r : RingId) (c : CompId) (step : Nat) (s : State) : State :=
  let s := monFailEvent 0x0903 none c step r.val (latchError 0x0903 (.ring r) none false s)
  raise 0x0902 none r.val
    (s.updRing r (fun x => { x with rotationStopped := true, rotation := none, standbyHolds := false }))

/-- A check of one of a ring's comparators ends; the last of a ring check lets the converter start (R301, R305). -/
def endRingCheck (r : RingId) (c : CompId) (fail : Option (Fin 3)) (s : State) : State :=
  let s := s.updRing r (fun x => { x with checks := x.checks.filter (· != c) })
  match fail with
  | none => s.updRing r (fun x => { x with checkDue := x.checkDue && !x.checks.isEmpty })
  | some k => if c.isStandby then failStandbySet r c (k.val + 1) s else failRingComp r c (k.val + 1) s

/-- A supply comparator fails at the reset: the device check refuses ENABLE (R301, R305, R312). -/
def failSupply (c : CompId) (k : Fin 3) (s : State) : State :=
  let b : Board := { s.power.board with supplyFail := some (c, k) }
  reportSupply b { s with power.board := b }

/-- COMPARATOR_CHECK_END (R300, R301, R305 to R307). -/
def execComparatorCheckEnd (obj : CheckObj) (c : CompId) (failStep : Option (Fin 3)) (s : State) : Out :=
  match obj with
  | .slot n =>
    s.gate (s.power.vstby && (s.mainUp || c.isPresence) && (s.slot n).check == .running c) (endSlotCheck n c failStep)
  | .ring r => s.gate (s.mainUp && (s.ring r).checks.contains c) (endRingCheck r c failStep)
  | .device =>
    match failStep with
    | none => .next s
    | some k => s.gate (s.mainUp && c.isDevice && !s.regs.enable && s.power.board.supplyFail.isNone) (failSupply c k)

/-- ROTATION_CHECK (R301, R302): the standby set is checked and connected beside a powered slot's comparator. -/
def execRotationCheck (ring : RingId) (slot : Fin 8) (c : CompId) (s : State) : Out :=
  let n := slotOfRing ring slot
  s.gate (s.mainUp && c.isSlot && !c.isPresence && (s.slot n).phase.live && (s.slot n).check == .idle &&
      (s.ring ring).rotation.isNone && !(s.ring ring).rotationStopped) (fun s =>
    s.updRing ring (fun r => { r with rotation := some (slot, c), standbyHolds := false }))

/-- Eight samples together (R302): agreement hands the function over, or back; disagreement has both checked. -/
def takeHandover (ring : RingId) (k : Fin 8) (c : CompId) (agree : Bool) (s : State) : State :=
  let n := slotOfRing ring k
  if !agree then
    startRingCheck ring [.sbV1, .sbV2, .sbI, .sbSh]
      (startSlotCheck n c (s.updRing ring (fun r => { r with standbyHolds := false })))
  else if (s.ring ring).standbyHolds then s.updRing ring (fun r => { r with rotation := none, standbyHolds := false })
  else startSlotCheck n c (s.updRing ring (fun r => { r with standbyHolds := true }))

/-- HANDOVER_END (R302): not while the slot comparator is under its check. -/
def execHandoverEnd (ring : RingId) (agree : Bool) (s : State) : Out :=
  match (s.ring ring).rotation with
  | none => .next s
  | some (k, c) =>
    s.gate (s.mainUp && (s.slot (slotOfRing ring k)).check == .idle) (takeHandover ring k c agree)

/-- PRES_CHECK (R301): PRES_A and PRES_R by turns, while the slot is unpowered, in STANDBY too. -/
def execPresCheck (slot : SlotId) (s : State) : Out :=
  s.gate (s.power.vstby && !(s.slot slot).phase.powered && (s.slot slot).check == .idle) (fun s =>
    s.updSlot slot (fun x => { x with check := .running (if x.presNext then .presR else .presA), presNext := !x.presNext }))

/-- TWIN_CHECK (R301): one UV and one OV comparator while their twins guard, by turns, and OT. -/
def execTwinCheck (ring : RingId) (s : State) : Out :=
  let x := s.ring ring
  s.gate (s.mainUp && (x.phase == .settled || x.phase == .ramping)) (fun s =>
    startRingCheck ring (if x.twinB then [.uvB, .ovB, .ot] else [.uvA, .ovA, .ot])
      (s.updRing ring (fun r => { r with twinB := !r.twinB })))

end Sys2Proof.Machine
end

