-- ==== Sys2Proof/Machine/Placement.lean ====
section
/-! DEFINITION. Ringmaster placement (05 R180 to R196): effective deadlines, eligibility, the choice of a slot, the
claim, idle windows, deadlines and feed timeouts; and the rows that write one completion and one event. -/

namespace Sys2Proof.Machine

open Sys2Proof

/-! ## The order of jobs (R184) -/

/-- A job's effective deadline, in µs. -/
def State.effDeadline (s : State) (j : Job) : Nat :=
  if j.ticket.deadline == 0 then j.fetched.toNat + s.regs.ageLimit else j.ticket.deadline.toNat

/-- Whether a job comes before another: the earlier effective deadline, then the earlier fetch. -/
def State.jobBefore (s : State) (a b : Job) : Bool :=
  s.effDeadline a < s.effDeadline b || (s.effDeadline a == s.effDeadline b && a.seq < b.seq)

/-- A job in its place in an ordered list. -/
def State.insertJob (s : State) (j : Job) : List Job → List Job
  | [] => [j]
  | k :: ks => if s.jobBefore j k then j :: k :: ks else k :: s.insertJob j ks

/-- Queued jobs that need a slot, in the order placement considers them. -/
def State.queuedJobs (s : State) : List Job :=
  (s.jobs.filter (fun j => j.phase == .queued && (j.ticket.runsProfile || j.ticket.isSlotAdmin))).foldl
    (fun l j => s.insertJob j l) []

/-! ## Jobs that can have no slot, and jobs that wait -/

/-- A job that may leave journal entries (R248, R258). -/
def State.bankBound (s : State) (j : Job) : Bool :=
  j.ticket.nonIdempotent || (match s.profile j.ticket.profileId with | some p => p.changesCard | none => false)

/-- Every slot not excluded. -/
def State.openSlots (s : State) : List SlotId := (List.finRange 64).filter (fun n => !(s.slot n).phase.excluded)

/-- The error of a job that ends FAILED before it claims a slot (R172, R210, R255, R258). -/
def State.hopeless (s : State) (j : Job) : Option W16 :=
  let t := j.ticket
  if (match t.pin with | some n => (s.slot n).phase.excluded | none => false) ||
      (t.affStrict && s.openSlots.all (fun n => (s.slot n).affClass != t.affinity)) then some 0x0207
  else if !t.runsProfile then none
  else
    match s.profile t.profileId with
    | none => some 0x0205
    | some p =>
      if p.keys.any (fun h => h != 0 && !s.bank.keys.any (fun k => k.handle == h)) then some 0x0608
      else if s.bank.rpFail && s.bankBound j then some 0x070A
      else if (s.counterIndex (p.keys.getD 0 0)).isNone then some 0x070F
      else if t.isSam && t.keysetId != 0 && s.openSlots.all (fun n => !(s.slot n).inventory.contains t.keysetId) then
        some 0x0208
      else none

/-- Jugglers with a free context (R211). -/
def State.freeJugglers (s : State) : List JugId :=
  (List.finRange 8).filter (fun g => s.inService (.juggler g) && s.jugs[g.val].ctxs.length < 8)

/-- A job that placement passes over for now (R181, R211, R248, R452). -/
def State.mustWait (s : State) (j : Job) : Bool :=
  s.barred j ||
    (j.ticket.runsProfile && s.bankBound j && (s.bank.journalFull || s.channelsUp ≤ 1)) ||
    (j.ticket.runsProfile &&
      (match s.profile j.ticket.profileId with | some p => p.needsContext | none => false) && s.freeJugglers.isEmpty)

/-! ## Eligibility (R185) -/

/-- A slot that the job may claim. One that is DEACTIVATING, or that a resolution activation holds, takes none (R69,
R253). -/
def State.eligible (s : State) (j : Job) (n : SlotId) : Bool :=
  let x := s.slot n
  let t := j.ticket
  !x.phase.excluded && x.phase != .bist && x.phase != .deactivating && x.resolution.isNone && x.enable &&
    x.job.isNone && !x.fencePending && !s.ringUnderTest (ringOf n) &&
    (t.pinSlot == 0xFF || t.pin == some n) && (!t.affStrict || t.affinity == x.affClass) &&
    (if t.isSlotAdmin then t.op != 1 || s.canActivate n
     else
      (match s.profile t.profileId with | some p => x.classMask &&& p.classes.toNat != 0 | none => false) &&
      (if t.isSam then x.present && (t.keysetId == 0 || x.inventory.contains t.keysetId)
       else if t.feed then !x.present && x.phase == .off && x.feed.isNone && !x.feedBlocked
       else x.present && !x.issued))

/-! ## The choice (R186) -/

/-- Millivolts of a class. -/
def classMv : CardClass → Nat
  | .a => 5000
  | .b => 3000
  | .c => 1800

/-- The class a job would run at on a slot: the one in use, or the lowest of the mask (R42). -/
def Slot.wouldUse (x : Slot) : CardClass := (x.cls.orElse (fun _ => x.firstClass)).getD .c

/-- The buffer holds the record at its stored version (R186, R242). -/
def State.recordCurrent (s : State) (n : SlotId) (id : W64) : Bool :=
  id == 0 || (match (s.slot n).record, s.record id with
    | some (i, v, _), some (w, _) => i == id && v == w
    | _, _ => false)

/-- Estimated time to the first byte in µs: queue wait, activation and ATR, prefetch, feed (R186). -/
def State.estimate (s : State) (j : Job) (n : SlotId) : Nat :=
  let x := s.slot n
  let wait := match s.requests.find? (fun q => q.slot == n) with
    | some q => q.wmax
    | none => if x.phase == .off then s.waitBound n x.wouldUse s.requests else 0
  let act := if x.phase == .off || x.phase == .powerWait then Config.estActivation (classBit x.wouldUse) else 0
  let fetch := if s.recordCurrent n j.ticket.recordId then 0 else Config.estPrefetch
  wait + act + fetch + (if j.ticket.feed then Config.estFeed s.place.feeds else 0)

def Slot.readiness (x : Slot) : Nat :=
  match x.phase with
  | .ready | .galloper => 0
  | .off => 1
  | .powerWait => 2
  | _ => 3

/-- Every criterion of R186 in order, smaller preferred. -/
def State.rankOf (s : State) (j : Job) (n : SlotId) : List Nat :=
  let x := s.slot n
  let rise := classMv x.wouldUse - classMv (s.ringClass (ringOf n))
  [if s.regs.time.toNat + s.estimate j n ≤ s.effDeadline j then 0 else 1,
   x.readiness,
   if s.regs.grouping then rise else 0,
   if j.ticket.affinity == x.affClass then 0 else 1,
   if s.recordCurrent n j.ticket.recordId then 0 else 1 + Config.channelLoad j.ticket.recordId n.val,
   (match s.profile j.ticket.profileId with
    | some p => if j.ticket.runsProfile && p.galOk then 14 - (s.planOf n).ceiling else 0
    | none => 0),
   x.activations, n.val]

/-- Lexicographic order. -/
def lexLess : List Nat → List Nat → Bool
  | a :: as, b :: bs => a < b || (a == b && lexLess as bs)
  | _, _ => false

/-- The best eligible slot. -/
def State.chooseSlot (s : State) (j : Job) : Option SlotId :=
  ((List.finRange 64).filter (s.eligible j)).foldl (fun best n =>
    match best with
    | none => some n
    | some m => if lexLess (s.rankOf j n) (s.rankOf j m) then some n else best) none

/-! ## The claim (R180, R188, R190, R192, R197, R206, R211, R242, R445) -/

/-- A run at its start. -/
def newRun (p : Profile) : Run :=
  { profile := p, taken := false, param := [], next := some 0, stepsRun := 0, keep := [], staged := [],
    base := { step := 0, stepsRun := 0, session := none, kslots := List.replicate 8 none,
              kslotTypes := List.replicate 8 none, keepLen := 0, resultLen := 0 },
    baseNext := some 0, baseRe := [], session := none, kslots := List.replicate 8 none, kslotTypes := List.replicate 8 none, challenge := [],
    held := none, reentry := [] }

/-- The pair in service that owns the fewest jobs (R445). -/
def State.choosePair (s : State) : Option PairId :=
  let load (p : PairId) : Nat := (s.jobs.filter (fun j => j.pair == some p)).length
  ((List.finRange 4).filter s.pairUp).foldl (fun best p =>
    match best with
    | none => some p
    | some q => if load p < load q then some p else best) none

/-- The Juggler of a job: one that caches KEY_H0, then fewest contexts, then lowest index (R211). -/
def State.chooseJuggler (s : State) (h0 : W32) : Option JugId :=
  let key (g : JugId) : List Nat :=
    [if h0 != 0 && s.jugs[g.val].cache.contains h0 then 0 else 1, s.jugs[g.val].ctxs.length]
  s.freeJugglers.foldl (fun best g =>
    match best with
    | none => some g
    | some b => if lexLess (key g) (key b) then some g else best) none

/-- Handles that a Juggler's contexts refer to. -/
def State.cacheRefs (s : State) (u : Juggler) : List W32 :=
  u.ctxs.flatMap (fun id => match (s.findJob id).bind (·.run) with | some r => r.profile.keys | none => [])

/-- The cache after a job's keys were used: 32 places, the least recently used handle that no context refers to
evicted (R211). -/
def cacheKeys (refs keys cache : List W32) : List W32 :=
  let l := keys ++ cache.filter (fun h => !keys.contains h)
  let idle := l.filter (fun h => !refs.contains h && !keys.contains h)
  let stay := idle.take (idle.length - (l.length - 32))
  l.filter (fun h => refs.contains h || keys.contains h || stay.contains h)

/-- A context of a Juggler is taken (R211). -/
def takeContext (id : JobId) (g : JugId) (p : Profile) (s : State) : State :=
  let u := s.jugs[g.val]
  let u' : Juggler := { ctxs := u.ctxs ++ [id], cache := cacheKeys (s.cacheRefs u) ((p.keys.filter (· != 0)).dedup) u.cache }
  { s with jugs := s.jugs.set g.val u' g.isLt }.updJob id (fun j => { j with jug := some g })

/-- The slot is claimed: the job is PLACED under its next generation, any idle window ends, a buffer with an older
version of the record holds none, and the slot is fed or activated. -/
def placeJob (id : JobId) (n : SlotId) (s : State) : State :=
  match s.findJob id with
  | none => s
  | some j =>
    let prof := if j.ticket.runsProfile then s.profile j.ticket.profileId else none
    let gen := if j.gen == j.lastGen then j.gen + 1 else j.gen
    let keep := s.recordCurrent n j.ticket.recordId || j.ticket.recordId == 0
    let s := s.updJob id (fun j =>
      { j with phase := .placed, slot := some n, lastSlot := BitVec.ofNat 8 n.val, gen := gen, lastGen := gen,
               pair := s.choosePair, run := prof.map newRun })
    let s := s.updSlot n (fun x =>
      { x with job := some id, window := false, record := if keep then x.record else none })
    let s := match prof with
      | some p => if p.needsContext then (match s.chooseJuggler (p.keys.getD 0 0) with
          | some g => takeContext id g p s
          | none => s) else s
      | none => s
    if j.ticket.feed then
      stationCommand n false 0 id (s.updSlot n (fun x => { x with feed := some (id, s.regs.time) }))
    else wantActivation n s

/-- One queued job is considered. -/
def considerJob (id : JobId) (s : State) : State :=
  match s.findJob id with
  | none => s
  | some j =>
    if s.deadlinePassed j then endJob id .cancelled 0x0209 s
    else
      match s.hopeless j with
      | some e => failJob id e s
      | none =>
        if s.mustWait j then s
        else
          match s.chooseSlot j with
          | some n => placeJob id n s
          | none => s

/-- The slots that are the first choice of a queued job (R186, R189). -/
def State.firstChoices (s : State) : List SlotId :=
  s.queuedJobs.filterMap s.chooseSlot

/-- Idle windows for the slots that Tightrope asks for, but for those a queued job would choose (R189, R454). -/
def grantWindows (s : State) : State :=
  let wanted := s.firstChoices
  forEach (List.finRange 64) (fun n s =>
    let x := s.slot n
    if (s.planOf n).asks && (x.phase == .ready || x.phase == .galloper) && x.job.isNone && x.enable && !x.fencePending &&
        !wanted.contains n
    then s.updSlot n (fun x => { x with window := true }) else s) s

/-- Placement works (R34, R316, R338, R403, R441, R446). -/
def State.placing (s : State) : Bool :=
  s.booted && s.regs.ready && s.regs.enable && !s.regs.pause && !s.regs.windDown && s.faults.fatalWindow.isNone &&
    s.sec.changing.isNone && (match s.faults.leader with | some p => s.pairUp p | none => false)

/-- PLACEMENT_PASS (R184 to R190). -/
def execPlacementPass (s : State) : Out :=
  s.gate s.placing (fun s =>
    grantWindows (forEach (s.queuedJobs.map (·.ticket.jobId)) considerJob s))

/-- SWEEP_YIELD (R32): the partial result is discarded and the sweep is asked for again. -/
def execSweepYield (slot : SlotId) (s : State) : Out :=
  s.gate (s.mainUp && (s.slot slot).job.isSome && (match (s.slot slot).gal with | some g => g.sweep.isSome | none => false))
    (fun s => pump slot (updGal slot (fun g => { g with sweep := none, expect := .none }) s))

/-- JOB_DEADLINE (R180). -/
def execJobDeadline (job : JobId) (s : State) : Out :=
  match (s.findJob job).filter (fun j => j.phase == .queued || j.phase == .placed) with
  | none => .next s
  | some j => s.gate (s.booted && s.deadlinePassed j) (endJob job .cancelled 0x0209)

/-- FEED_TIMEOUT (R190): the station is not fed again until it next decides PRESENT. -/
def execFeedTimeout (slot : SlotId) (s : State) : Out :=
  match (s.slot slot).feed with
  | none => .next s
  | some (id, _) =>
    s.gate (s.booted && !(s.slot slot).present) (fun s =>
      let s := s.updSlot slot (fun x => { x with feed := none, feedBlocked := true })
      lostJob slot .none (raise 0x0206 (some slot) id.toNat s))

/-- COMPLETION_WRITE (R16, R165, R245, R363). -/
def execCompletionWrite (s : State) : Out := s.gate s.mainUp writeCompletion

/-- EVENT_WRITE (R166, R177, R178, R517). -/
def execEventWrite (s : State) : Out := s.gate s.mainUp writeEvent

end Sys2Proof.Machine
end

