-- ==== Sys2Proof/Machine/Presence.lean ====
section
/-! DEFINITION. The presence filters' decisions (02 R62 to R68) and the activation that resolves open entries after a
start (07 R253). -/

namespace Sys2Proof.Machine

open Sys2Proof

/-- The feed that brought the card is learned (R186, R190). -/
def learnFeed (n : SlotId) (s : State) : State :=
  match (s.slot n).feed with
  | none => s
  | some (_, t) =>
    { s.updSlot n (fun x => { x with feed := none }) with
      place.feeds := ((s.regs.time.toNat - t.toNat) :: s.place.feeds).take 16 }

/-- PRESENCE_PRESENT (R62, R68, R190): not while a failed presence comparator holds the filter (R305). -/
def execPresencePresent (slot : SlotId) (s : State) : Out :=
  s.gate (s.power.vstby && !(s.slot slot).present && !(s.slot slot).presHeld) (fun s =>
    let s := (learnFeed slot s).updSlot slot (fun x => { x with present := true, presBand := false, feedBlocked := false })
    wantActivation slot (onlyIf s.mainUp (raise 0x0101 (some slot) 1) s))

/-- PRESENCE_ABSENT (R62, R68, R72): of an unpowered slot. -/
def execPresenceAbsent (slot : SlotId) (s : State) : Out :=
  s.gate (s.power.vstby && (s.slot slot).present && !(s.slot slot).phase.powered) (fun s =>
    lostJob slot .removal (leaveQueue slot (decideAbsent slot s)))

/-- PRES_BAND (R65): 16 consecutive in-band samples. -/
def execPresBand (slot : SlotId) (s : State) : Out :=
  s.gate (s.power.vstby && !(s.slot slot).presBand) (fun s =>
    onlyIf s.mainUp (raise 0x0102 (some slot) 0) (s.updSlot slot (fun x => { x with presBand := true })))

/-- UNSTABLE (R66, R72): a powered slot enters it at the end of its deactivation. -/
def execUnstable (slot : SlotId) (transitions broken : Nat) (s : State) : Out :=
  s.gate (s.mainUp && (8 < transitions || 32 < broken)) (fun s =>
    let s := s.updSlot slot (fun x => { x with transitions := transitions, brokenRuns := broken })
    match (s.slot slot).phase with
    | .off | .quarantined => lostJob slot .none (enterUnstable slot s)
    | .powerWait => lostJob slot .none (enterUnstable slot (leaveQueue slot s))
    | .unstable | .fenced | .bist => s
    | _ => s.updSlot slot (fun x => { x with unstablePending := true }))

/-- Profiles named by a slot's open entries, in the order of their lowest JSEQ (R253). -/
def State.resolutionPlan (s : State) (n : SlotId) : List W16 :=
  ((s.openIntents.filter (fun e => e.slot == n)).map (·.profileId)).eraseDups

/-- RESOLUTION_ACTIVATION (R47, R253): once for a slot after a start, without a job; refused while R47 does not hold. -/
def execResolutionActivation (slot : SlotId) (s : State) : Out :=
  let x := s.slot slot
  s.gate (s.booted && s.bank.started && x.present && !x.resolved && x.job.isNone && s.canActivate slot &&
      x.firstClass.isSome && !(s.resolutionPlan slot).isEmpty && !s.regs.windDown && s.faults.fatalWindow.isNone) (fun s =>
    requestActivation slot (s.updSlot slot (fun x =>
      { x with resolved := true, resolution := some (s.resolutionPlan slot) })))

end Sys2Proof.Machine
end

