-- ==== Sys2Proof/Machine/Rings.lean ====
section
/-! DEFINITION. Ring converters: parking, retargets, the down hold and ring faults (08 R273 to R285). -/

namespace Sys2Proof.Machine

open Sys2Proof

/-- RING_PARKED (R273, R277): the rail stands at class C and the ring joins admission. -/
def execRingParked (ring : RingId) (s : State) : Out :=
  s.gate (s.mainUp && (s.ring ring).phase == .starting) (fun s =>
    s.updRing ring (fun x =>
      { x with phase := .settled, joined := true, railCls := .c, checkDue := false,
               headroom := x.headroomNext.getD x.headroom, headroomNext := none }))

/-- The class the rail must go to, none when no retarget is needed (R274, R275): up for the request at the head of
the ring's queue, down for a postponed retarget whose moment has come, else the same class at a new headroom. -/
def State.retargetTo (s : State) (r : RingId) : Option CardClass :=
  let x := s.ring r
  let up := match s.ringQueue r with
    | q :: _ => if classRank x.railCls < classRank q.cls then some q.cls else none
    | [] => none
  match up with
  | some k => some k
  | none =>
    if x.postponed && (s.ringQueue r).isEmpty && classRank (s.ringClass r) < classRank x.railCls then some (s.ringClass r)
    else if x.headroomNext.isSome then some x.railCls
    else none

/-- The ramp starts, with the headroom planned (R274, R276). -/
def Ring.ramp (x : Ring) (k : CardClass) : Ring :=
  { x with phase := .ramping, railCls := k, headroom := x.headroomNext.getD x.headroom, headroomNext := none,
           postponed := x.postponed && classRank x.railCls ≤ classRank k, downHold := x.downHold }

/-- RAIL_RETARGET (R274 to R277): only with no token held in the ring. -/
def execRailRetarget (ring : RingId) (s : State) : Out :=
  s.gate (s.mainUp && (s.ring ring).phase == .settled && !(s.ring ring).fenced && s.ringTokensUsed ring == 0) (fun s =>
    match s.retargetTo ring with
    | some k => s.updRing ring (fun x => x.ramp k)
    | none => s)

/-- RAIL_SETTLED (R274, R277). -/
def execRailSettled (ring : RingId) (s : State) : Out :=
  s.gate (s.mainUp && (s.ring ring).phase == .ramping) (fun s => s.updRing ring (fun x => { x with phase := .settled }))

/-- DOWN_HOLD_END (R275): one ramp to the class then required, or a postponement. -/
def execDownHoldEnd (ring : RingId) (s : State) : Out :=
  s.gate (s.mainUp && (s.ring ring).downHold) (fun s =>
    let k := s.ringClass ring
    let blocked := !(s.ringQueue ring).isEmpty || s.ringTokensUsed ring != 0 || (s.ring ring).phase != .settled
    s.updRing ring (fun x =>
      let x := { x with downHold := false }
      if classRank x.railCls ≤ classRank k then x
      else if blocked then { x with postponed := true }
      else x.ramp k))

/-- A ring fault (R285, R286): the event, the latch, and the fence with the emergency order. -/
def ringFault (r : RingId) (code : W16) (s : State) : State :=
  let s := raise 0x0802 none (r.val + code.toNat * 2 ^ 16) (latchError code (.ring r) none true s)
  fenceUnit (.ring r) code s

/-- The rail is up: the converter has parked and was not stopped. -/
def State.railUp (s : State) (r : RingId) : Bool :=
  s.mainUp && ((s.ring r).phase == .settled || (s.ring r).phase == .ramping)

/-- The converter switches. -/
def State.railOn (s : State) (r : RingId) : Bool := s.railUp r || (s.mainUp && (s.ring r).phase == .starting)

/-- RING_UV (R285). -/
def execRingUv (ring : RingId) (s : State) : Out := s.gate (s.railUp ring) (ringFault ring 0x0801)
/-- RING_OV (R285). -/
def execRingOv (ring : RingId) (s : State) : Out := s.gate (s.railUp ring) (ringFault ring 0x0802)
/-- RING_OC (R285). -/
def execRingOc (ring : RingId) (s : State) : Out := s.gate (s.railOn ring) (ringFault ring 0x0803)
/-- RING_OT (R285). -/
def execRingOt (ring : RingId) (s : State) : Out := s.gate (s.railOn ring) (ringFault ring 0x0804)
/-- RING_START (R277, R285). -/
def execRingStart (ring : RingId) (s : State) : Out :=
  s.gate (s.mainUp && (s.ring ring).phase == .starting) (ringFault ring 0x0805)
/-- RING_SETTLE (R277, R285). -/
def execRingSettle (ring : RingId) (s : State) : Out :=
  s.gate (s.mainUp && (s.ring ring).phase == .ramping) (ringFault ring 0x0806)

end Sys2Proof.Machine
end

