-- ==== Sys2Proof/Machine/Tightrope.lean ====
section
/-! DEFINITION. Tightrope: its measurements, the evaluation of the margin plan and the guard switch
(15_ageing_and_margins R454 to R465). -/

namespace Sys2Proof.Machine

open Sys2Proof

/-- A limit is reached, or no longer: AGEING_LIMIT is raised when it is reached (R455, R458). -/
def noteLimit (key : Nat) (reached : Bool) (event : State → State) (s : State) : State :=
  if !reached then { s with tight.limits := s.tight.limits.filter (· != key) }
  else if s.tight.limits.contains key then s
  else event { s with tight.limits := key :: s.tight.limits }

/-! ## Measurements -/

/-- The guard band that a drift asks for before the clamp: ceil((D - 2.0 %) / 2.5 %) (R455). -/
def guardWanted (d : Int) : Int := -((200 - d) / 250)

/-- GUARD of the next plan (R455). -/
def State.guardPlanned (s : State) : Nat := min 7 (max s.tight.guardBand (guardWanted (median s.tight.drift[0])).toNat)

/-- SILICON_MONITOR (R455): a drift sample of CORE, SLOT, BANK and LINK, in 0.01 %. -/
def execSiliconMonitor (core slot bank link : Int) (s : State) : Out :=
  s.gate s.booted (fun s =>
    let d := s.tight.drift
    let d := #v[(core :: d[0]).take 15, (slot :: d[1]).take 15, (bank :: d[2]).take 15, (link :: d[3]).take 15]
    let s := { s with tight.drift := d }
    let s := noteLimit 1 (decide (7 < guardWanted (median d[0]))) (raise 0x1002 none 1) s
    let s := noteLimit 2 (decide (600 ≤ median d[1])) (raise 0x1002 none 2) s
    let s := noteLimit 3 (decide (600 ≤ median d[2])) (raise 0x1002 none 3) s
    noteLimit 4 (decide (600 ≤ median d[3])) (raise 0x1002 none 4) s)

/-- EFFICIENCY_SAMPLE (R458): of a running converter. -/
def execEfficiencySample (ring : RingId) (percent railMilliwatt : Nat) (s : State) : Out :=
  s.gate (s.booted && (s.ring ring).phase != .off && !(s.ring ring).fenced && !s.ringUnderTest ring) (fun s =>
    let s := { s with tight.efficiency := s.tight.efficiency.set ring.val (min 255 percent) ring.isLt }
    onlyIf (percent < 80 && 2000 < railMilliwatt) (raise 0x1003 none (ring.val + min 255 percent * 2 ^ 8)) s)

/-- RETENTION_CHECK (R461): margins in mV of bank A, bank B and the option area; a bank skipped has none. -/
def execRetentionCheck (bankA bankB option : Option Nat) (s : State) : Out :=
  s.gate s.booted (fun s =>
    let l := ([(bankA, 0), (bankB, 1), (option, 2)] : List (Option Nat × Nat)).filterMap (fun e =>
      e.1.map (fun m => (m, e.2)))
    match l with
    | [] => s
    | e :: rest =>
      let low := l.filter (fun e => e.1 < 150)
      let worst := (rest.map (·.1)).foldl min e.1
      let s := { s with tight.flashMargin := worst, tight.flashLow := !low.isEmpty }
      forEach low (fun e => raise 0x1004 none (e.1 + e.2 * 2 ^ 16)) s)

/-- The slot is measured (R462). -/
def State.measured (s : State) (n : SlotId) : Bool :=
  (s.slot n).enable && !(s.slot n).phase.excluded && (s.slot n).phase != .bist

/-- A sweep of the slot is due (R459): t_EYE has passed since the last, or a session has downshifted since. -/
def State.sweepDue (s : State) (n : SlotId) : Bool :=
  let p := s.planOf n
  ((s.slot n).phase == .galloper && (!p.swept || p.sweptAt + 600 ≤ s.aonSeconds)) || p.sweepOwed

/-- EYE_SWEEP_REQUEST (R459). -/
def execEyeSweepRequest (slot : SlotId) (s : State) : Out :=
  s.gate (s.booted && s.measured slot && s.sweepDue slot) (fun s => setPlan slot { s.planOf slot with asks := true } s)

/-! ## The evaluation (R458, R459, R460, R462) -/

/-- The steps of 25 mV above 150 mV that a ring's worst dropout asks for, before the clamp (R458). -/
def headroomWanted (dmax : Nat) : Nat := (dmax + 80 + 24) / 25 - 6

/-- The headroom of the next plan: a rise at once, a fall by one step, none without a reading (R458). -/
def headroomPlanned (now dmax : Nat) : Nat :=
  let w := min 10 (headroomWanted dmax)
  if dmax == 0 || w == now then now else if now < w then w else now - 1

def State.ringMeasured (s : State) (r : RingId) : Bool := !(s.ring r).fenced && !s.ringUnderTest r

def State.headroomNew (s : State) : Vector Nat 8 :=
  Vector.ofFn (fun r : Fin 8 =>
    if s.ringMeasured r then headroomPlanned s.tight.headroom[r.val] (s.ringDropout r) else s.tight.headroom[r.val])

/-- A slot's plan with its next ceiling and phases in force (R459). -/
def State.slotPlanNew (s : State) (n : SlotId) : SlotPlan :=
  let p := s.planOf n
  if s.measured n then
    { p with ceiling := p.ceilingNext.getD p.ceiling, ceilingNext := none,
             phases := p.phasesNext.getD p.phases, phasesNext := none }
  else p

/-- The read-reference offsets other than 0 and the blocks listed for refresh (R460). -/
def State.nandPlan (s : State) : List (Nat × Nat × Int) :=
  s.bank.targets.flatMap (fun t =>
    (List.finRange 4).filterMap (fun (b : Fin 4) => let o := t.offsets.toList.getD b.val 0; if o == 0 then none else some (t.id.val, b.val, o))) ++
  (s.bank.blocks.filter (·.refresh)).map (fun b => (b.target.val, b.index, 0))

/-- The slots with a standing warning, and 64 for FLASH_LOW (R457, R461). -/
def State.warnPlan (s : State) : List Nat :=
  ((List.finRange 64).filter (fun n => (s.planOf n).warn)).map (·.val) ++ (if s.tight.flashLow then [64] else [])

/-- Which kinds of planned value differ from the plan in force: bits 8 to 13 of REPLAN (R465). -/
def State.planChanges (s : State) : Nat :=
  let any (p : SlotId → Bool) : Bool := (List.finRange 64).any p
  bitAt (s.guardPlanned != s.tight.guardBand) 8 +
  bitAt (any (fun n => (s.slotPlanNew n).ceiling != (s.planOf n).ceiling)) 9 +
  bitAt (any (fun n => (s.slotPlanNew n).phases != (s.planOf n).phases)) 10 +
  bitAt (s.headroomNew != s.tight.headroom) 11 + bitAt (s.nandPlan != s.tight.issuedNand) 12 +
  bitAt (s.warnPlan != s.tight.issuedWarn) 13

/-- A lower ceiling reaches a running session at its next idle (R154, R459). -/
def lowerSession (n : SlotId) (ceiling : Nat) (s : State) : State :=
  s.updSlot n (fun x =>
    { x with gal := x.gal.map (fun g =>
        if ceiling < g.code then { g with staged := some (min ceiling (g.staged.getD ceiling)) } else g) })

/-- Step 3 of R462: each changed value goes to its consumer (R30). -/
def passPlan (old : Tight) (s : State) : State :=
  let s := forEach (List.finRange 64) (fun n s => lowerSession n (s.planOf n).ceiling s) s
  forEach (List.finRange 8) (fun r s =>
    onlyIf (old.headroom[r.val] != s.tight.headroom[r.val])
      (fun s => s.updRing r (fun x => { x with headroomNext := some s.tight.headroom[r.val] })) s) s

/-- A new plan is issued (R462). -/
def issuePlan (changes : Nat) (s : State) : State :=
  let t := s.tight
  let g := s.guardPlanned
  let t' : Tight := { t with
    factory := false, planSeq := t.planSeq + 1, guardBand := g,
    guardNext := if g == t.guardBand then t.guardNext else some g, headroom := s.headroomNew,
    slots := (Vector.finRange 64).map s.slotPlanNew, issuedAt := s.regs.time,
    issuedNand := s.nandPlan, issuedWarn := s.warnPlan }
  let s := { s with tight := t' }
  let s := fireIrq 8 { s with regs.marginStatus := t'.summary s.refreshListed }
  let s := raise 0x1001 none (t'.planSeq.toNat + changes) s
  let s := passPlan t s
  { s with slots := s.slots.map (fun x => { x with noiseTotal := 0 }),
           bank.targets := s.bank.targets.map (fun k => { k with mostCorrected := 0 }),
           bank.planStored := s.bank.planStored || s.bank.formatted }

/-- AGEING_LIMIT of the headrooms held at 400 mV by the clamp (R458). -/
def noteHeadrooms (s : State) : State :=
  forEach (List.finRange 8) (fun r s =>
    noteLimit (16 + r.val) (s.ringMeasured r && 10 < headroomWanted (s.ringDropout r))
      (raise 0x1002 none (5 + r.val * 2 ^ 8)) s) s

/-- PLAN_EVALUATION (R462): a plan is issued only when a planned value differs. -/
def execPlanEvaluation (s : State) : Out :=
  s.gate s.booted (fun s =>
    let c := s.planChanges
    noteHeadrooms (if c == 0 then s else issuePlan c s))

/-! ## The guard switch (R456) -/

/-- The CORE PLL takes the planned guard band. -/
def applyGuard (s : State) : State :=
  { s with tight.guardApplied := s.tight.guardNext.getD s.tight.guardApplied, tight.guardNext := none }

/-- GUARD_SWITCH (R456): at an idle moment. -/
def execGuardSwitch (s : State) : Out := s.gate (s.booted && s.tight.guardNext.isSome) applyGuard

/-- GUARD_FORCE (R456): 8 ms after the plan was issued, with every pair halted for the switch. -/
def execGuardForce (s : State) : Out :=
  s.gate (s.booted && s.tight.guardNext.isSome && s.tight.issuedAt.toNat + 8000 ≤ s.regs.time.toNat) applyGuard

end Sys2Proof.Machine
end

