-- ==== Sys2Proof/Machine/Security.lean ====
section
/-! DEFINITION. Life-cycle changes, the debug port's tokens, ceremonies' ends, rule barriers and the tamper
response (13_security R398 to R431, 11 R361 to R363). -/

namespace Sys2Proof.Machine

open Sys2Proof

/-! ## Rule barriers (R362, R363) -/

/-- RULE_BARRIER (R362): the barrier of the first rule change begins. -/
def execRuleBarrier (cause : RuleCause) (s : State) : Out :=
  s.gate (s.mainUp && !s.regs.barrierOn && s.regs.barrier.head? == some cause) (fun s =>
    { s with regs.barrierOn := true })

/-- The epoch after another; 0x0000 is never shown (R361). -/
def nextEpoch (e : W16) : W16 := if e == 0xFFFF then 1 else e + 1

/-- RULE_BARRIER_DRAINED (R361 to R363): EPOCH advances, and what waited for this change waits no more. -/
def execRuleBarrierDrained (s : State) : Out :=
  s.gate (s.mainUp && s.regs.barrierOn) (fun s =>
    { s with regs.epoch := nextEpoch s.regs.epoch, regs.barrierOn := false, regs.barrier := s.regs.barrier.drop 1,
             closing := s.closing.map (fun c => { c with barriers := c.barriers - 1 }),
             side.answerBarriers := s.side.answerBarriers - 1 })

/-! ## The debug session (R420, R421) -/

/-- A token session ends (R421, R430): 1 expiry, 2 close, 3 life-cycle change, 4 tamper. -/
def endDebug (why : Nat) (s : State) : State :=
  if s.sec.debugToken.isSome then askBarrier .debugPort (raise 0x0B04 none why { s with sec.debugToken := none }) else s

/-- DEBUG_CLOSE (R421). -/
def execDebugClose (s : State) : Out := s.gate s.mainUp (endDebug 2)

/-- DEBUG_EXPIRY (R421). -/
def execDebugExpiry (s : State) : Out := s.gate s.mainUp (endDebug 1)

/-- Signers a state accepts for a token (R420). -/
def tokenSigner (lc : LcState) (signer : Byte) : Bool :=
  match lc with
  | .operational | .terminated => signer == 1 || signer == 2
  | .fencedSecure => signer == 1
  | _ => false

/-- The debug path draws a new nonce after a check (R401). -/
def renewDebugNonce (s : State) : State := { s.drew 16 with sec.debugNonce := s.random 16 }

/-- A token that passes (R400, R401, R420). -/
def State.tokenOk (s : State) (r : SignedReq) : Bool :=
  r.argB == 0 && 1 ≤ r.argC.toNat && r.argC.toNat ≤ 86400 && tokenSigner s.nv.lc r.signer &&
    s.requestOk r s.sec.debugNonce 2 []

/-- The port opens (R420, R421, R430, R431). -/
def openDebug (r : SignedReq) (s : State) : State :=
  let who := r.signer.toNat + r.argA.toNat * 2 ^ 8
  let s := { s with sec.debugToken := some (r.signer, r.argA, r.argC), sec.tokenFails := 0 }
  let s := audit 0x09 0 0 0 (BitVec.ofNat 64 (who + r.argC.toNat * 2 ^ 16)) 0 s
  askBarrier .debugPort (raise 0x0B03 none who s)

/-- DEBUG_TOKEN (R400, R401, R420, R421): after 3 failures in a row the mailbox refuses tokens. -/
def execDebugToken (req : SignedReq) (s : State) : Out :=
  s.gate (s.mainUp && s.sec.tokenFails < 3) (fun s =>
    let ok := s.tokenOk req
    let s := renewDebugNonce s
    if ok then openDebug req s else { s with sec.tokenFails := s.sec.tokenFails + 1 })

/-! ## Life-cycle changes (R402 to R405, R266) -/

/-- PROVISIONING and OPERATIONAL, either way (R403). -/
def isSwap (old new : LcState) : Bool :=
  (old == .provisioning && new == .operational) || (old == .operational && new == .provisioning)

/-- Why R266 step 1 refuses a change. -/
def State.lcRefusal (s : State) (target : LcState) : Option W16 :=
  if !isSwap s.nv.lc target then none
  else if !s.openIntents.isEmpty then some 0x070E
  else if s.bank.audit.any (fun e => s.bank.trim.toNat < e.aseq.toNat) then some 0x070C
  else none

/-- The factory plan comes into force without a reset (R35, R266): its values go to their consumers, and
MARGIN_STATUS shows it. -/
def toFactoryPlan (old : Tight) (s : State) : State :=
  let s := { s with tight := { s.tight with guardApplied := old.guardApplied,
                                            guardNext := if old.guardApplied == 0 then none else some 0 } }
  let s := passPlan old s
  let m := s.tight.summary s.refreshListed
  if m == s.regs.marginStatus then s else fireIrq 8 { s with regs.marginStatus := m }

/-- Buffers, key slots and Juggler state are zeroised (R405). -/
def zeroiseBuffers (s : State) : State :=
  { s with slots := s.slots.map (fun x => { x with record := none }),
           jugs := Vector.replicate 8 { ctxs := [], cache := [] } }

/-- What entering a state does to the keys of the option area (R402, R405). -/
def keysInto (target : LcState) (s : State) : State :=
  match target with
  | .terminated => { s with nv.keystoreKey := none, nv.attestKey := false }
  | .provisioning =>
    if s.nv.lc == .manufacturing then
      { s.drew 64 with nv.keystoreKey := some (s.random 32), nv.attestKey := true }
    else s
  | _ => s

/-- R266 with the commit of R404 at its step 4, and the keys of R405. -/
def commitChange (target : LcState) (s : State) : State :=
  let old := s.nv.lc
  let was := s.tight
  let s := auditLcChange old target s
  let s := keysInto target (cryptoErase (isSwap old target) (target != .terminated) s)
  let s := zeroiseBuffers (toFactoryPlan was { s with nv.lc := target })
  askBarrier .lifeCycle (raise 0x0B01 none (old.code + target.code * 2 ^ 8) s)

/-- Step 4 of R403: queued jobs end, the ceremony and any debug session close. -/
def endQueued (s : State) : State :=
  let s := forEach ((s.jobs.filter (fun j => j.phase == .queued)).map (·.ticket.jobId))
    (fun id s => endJob id .cancelled 0x0B0C s) s
  endDebug 3 (closeCeremony s)

/-- READY falls until R34 holds again (R403 step 6). -/
def dropReady (s : State) : State := if s.regs.ready then fireIrq 4 { s with regs.ready := false } else s

/-- The ticket that asked for the change ends (R363, R403). -/
def endChange (c : LcChange) (st : CStatus) (err : W16) (s : State) : State :=
  let s := { s with sec.changing := none }
  match c.job with
  | some id => finishAfterBarrier id st err s
  | none => s

/-- Steps 3 to 6 of R403. -/
def finishChange (c : LcChange) (s : State) : State :=
  match s.lcRefusal c.target with
  | some e => endChange c .failed e s
  | none =>
    let swap := isSwap s.nv.lc c.target
    let s := endChange c .done 0 (endQueued (commitChange c.target s))
    if swap then dropReady s
    else if s.regs.enable && !s.regs.windDown then beginWindDown s else s

/-- A job holds a slot. -/
def State.slotHeld (s : State) : Bool := s.slots.any (fun x => x.job.isSome)

/-- Outcome entries of ended jobs are all durable (R403 step 2). -/
def State.endedDurable (s : State) : Bool :=
  s.bank.journal.all (fun e => (s.findJob e.jobId).isSome || (match e.outcome with | some o => o.durable | none => true))

/-- LC_DRAINED (R403 steps 2 to 6). -/
def execLcDrained (s : State) : Out :=
  match s.sec.changing with
  | none => .next s
  | some c => s.gate (s.mainUp && !s.slotHeld && s.endedDurable) (finishChange c)

/-- A job's slot is taken down for a change to TERMINATED (R403 step 2). -/
def dropHolder (n : SlotId) (s : State) : State :=
  if (s.slot n).job.isNone then s
  else if (s.slot n).phase.live then loseNormal n .host s
  else lostJob n .host (leaveQueue n s)

/-- LC_WAIT_TIMEOUT (R403 step 2): 30 s have passed and a job still holds a slot. A change to TERMINATED then
goes on as soon as the slots are free. -/
def execLcWaitTimeout (s : State) : Out :=
  match s.sec.changing with
  | none => .next s
  | some c =>
    s.gate (s.mainUp && s.slotHeld) (fun s =>
      if c.target == .terminated then forEach (List.finRange 64) dropHolder s
      else endChange c .failed 0x070E s)

/-- What a genuine request of the debug path does, none where no row of R402 matches it. -/
def State.debugRow (s : State) (r : SignedReq) : Option LcState :=
  match s.nv.lc, lcOfCode r.argA.toNat with
  | .manufacturing, some .provisioning => if r.signer == 1 then some .provisioning else none
  | .fencedSecure, some .terminated => some .terminated
  | _, _ => s.lcRow r

/-- DEBUG_LC_CHANGE (R400 to R403): a request that fails or matches no row changes no state. MANUFACTURING and
FENCED_SECURE are left at once; no job can hold a slot there. -/
def execDebugLcChange (req : SignedReq) (s : State) : Out :=
  s.gate s.mainUp (fun s =>
    let ok := req.argB.toNat == s.nv.lc.code && req.argC == 0 && s.sec.changing.isNone &&
      s.requestOk req s.sec.debugNonce 1 []
    let row := s.debugRow req
    let s := renewDebugNonce s
    match ok, row with
    | true, some t =>
      let c : LcChange := { target := t, job := none }
      if s.nv.lc == .manufacturing || s.nv.lc == .fencedSecure then finishChange c s
      else { s with sec.changing := some c }
    | _, _ => s)

/-- CEREMONY_TIMEOUT (R408). -/
def execCeremonyTimeout (s : State) : Out := s.gate s.mainUp closeCeremony

/-! ## Tamper (R423 to R427) -/

def sensorLevel (x : Sensor) : Nat := match x with | .mesh | .light => 2 | _ => 1

/-- The sensor watches: VSTBY is present, and VCORE for a sensor on it (R423). -/
def State.watches (s : State) (x : Sensor) : Bool :=
  s.power.vstby && (match x with | .vcoreGlitch | .clockGlitch => s.power.main != .off | _ => true)

/-- A detection while the main side is unpowered or in reset is latched for its next start (R28, R426). -/
def latchTamper (level : Nat) (x : Sensor) (s : State) : State :=
  match s.standby.tamper with
  | some (2, _) => s
  | _ => { s with standby.tamper := some (level, x) }

/-- Step 1 to 3 of R425: slots down, keys zeroised, rights withdrawn. -/
def tamperClose (s : State) : State :=
  let s := closeCeremony (emergencyAll .fenceTamper s)
  let s := { s with jugs := Vector.replicate 8 { ctxs := [], cache := [] }, sec.changing := none }
  askBarrier .tamper { endDebug 4 s with sec.rightsWithdrawn := true }

/-- A level 2 detection (R425): in TERMINATED it ends at step 3. -/
def tamperLevel2 (x : Sensor) (s : State) : State :=
  if !s.mainUp then latchTamper 2 x s
  else
    let s := tamperClose (raise 0x0B06 none (2 + sensorCode x * 2 ^ 8) s)
    if s.nv.lc == .terminated then logStandby 0x0B21 0 0 0 s
    else resetBy .tamperL2 (tamperWipe (logStandby 0x0B21 0 0 0 s))

/-- A level 1 detection (R424): counted in the AON domain; the third within 86 400 s, or one that finds an
earlier one not yet handled, is treated as level 2. -/
def tamperLevel1 (x : Sensor) (s : State) : State :=
  let now := s.aonSeconds
  let l := now :: s.standby.tamperL1.filter (fun t => now < t + 86400)
  let s := { s with standby.tamperL1 := l }
  if 3 ≤ l.length || s.standby.tamper.isSome then tamperLevel2 x s
  else if !s.mainUp then latchTamper 1 x s
  else resetBy .tamperL1 (logStandby 0x0B20 0 0 0 (raise 0x0B06 none (1 + sensorCode x * 2 ^ 8) s))

/-- TAMPER_L1 (R424). -/
def execTamperL1 (sensor : Sensor) (s : State) : Out :=
  s.gate (s.watches sensor && sensorLevel sensor == 1) (tamperLevel1 sensor)

/-- TAMPER_L2 (R425). -/
def execTamperL2 (sensor : Sensor) (s : State) : Out :=
  s.gate (s.watches sensor && sensorLevel sensor == 2) (tamperLevel2 sensor)

/-- TAMPER_SELF_TEST (R423): the sensors are stimulated; a failure is a level 1 detection. -/
def execTamperSelfTest (failed : Bool) (s : State) : Out :=
  s.gate (s.watches .selfTest) (fun s =>
    let s := emit .sensorStimulus s
    if failed then tamperLevel1 .selfTest s else s)

end Sys2Proof.Machine
end

