-- ==== Sys2Proof/Machine/Sideshow.lean ====
section
/-! DEFINITION. Sideshow, the management port (12_sideshow_and_station_bus R365 to R382): its reads, its write
commands, the privileged ones with their tags, and the answers of the main side. -/

namespace Sys2Proof.Machine

open Sys2Proof

/-! ## Reads (R366, R368, R370) -/

/-- A Block Read returns a byte count and its data (R366). -/
def blockRead (d : List Byte) (s : State) : State := emit (.smbus (BitVec.ofNat 8 d.length :: d)) s

/-- Sideshow answers while VSTBY is present (R27). -/
def State.sideRead (s : State) (d : List Byte) (f : State → State) : Out :=
  s.gate s.power.vstby (fun s => f (blockRead d s))

/-- MAIN of STATUS and HEALTH (R371). -/
def State.mainCode (s : State) : Byte :=
  match s.power.main with
  | .off => 0
  | .reset _ => 1
  | .up => 2

/-- IDENT (R370). -/
def execIdent (s : State) : Out := s.sideRead (leBytes 4 0x4B470040 ++ leBytes 4 0x000000B0) id

/-- FLAGS of STATUS (R371). -/
def State.sideFlags (s : State) : Nat :=
  bitAt (s.side.result == .pending) 0 + bitAt s.side.locked 1 + bitAt s.regs.mboxToPending 2 +
    bitAt s.regs.mboxFromFull 3 + bitAt (s.power.main != .up) 4

/-- STATUS (R371). -/
def execStatus (s : State) : Out :=
  s.sideRead [s.mainCode, s.side.cmd, BitVec.ofNat 8 s.side.result.code, BitVec.ofNat 8 s.sideFlags] id

/-- The latched tamper level (R373). -/
def State.tamperLevel (s : State) : Nat :=
  match s.standby.tamper with
  | some (level, _) => level
  | none => 0

/-- HEALTH (R373). -/
def execHealth (s : State) : Out :=
  s.sideRead ([0x01, s.mainCode] ++ padTo 40 s.side.snapshot ++ leBytes 2 s.tamperLevel ++ [0, 0, 0, 0]) id

/-- PRESENCE (R370). -/
def execPresence (s : State) : Out := s.sideRead (leBytes 8 s.presentBits.toNat) id

/-- A log entry's 12 bytes (R374). -/
def logBytes (e : LogEntry) : List Byte :=
  leBytes 2 e.seq.toNat ++ leBytes 2 e.code.toNat ++ leBytes 2 e.kindIndex.toNat ++ [e.severity, e.reason] ++
    leBytes 4 e.seconds.toNat

/-- The entry at a place of the log, oldest first; zeros where none is written (R374). -/
def State.logAt (s : State) (i : Nat) : List Byte :=
  match s.standby.log[i % 16]? with
  | some e => logBytes e
  | none => List.replicate 12 0

/-- LOG_READ (R374): four entries from the offset, which then advances by 4. -/
def execLogRead (s : State) : Out :=
  s.sideRead ((List.range 4).flatMap (fun i => s.logAt (s.side.logOffset + i)))
    (fun s => { s with side.logOffset := (s.side.logOffset + 4) % 16 })

/-- The bridge serves Sideshow: the main side is up and its rights stand (R371, R372, R425). -/
def State.bridgeUp (s : State) : Bool := s.mainUp && !s.sec.rightsWithdrawn

/-- MBOX_READ (R370). -/
def execMboxRead (s : State) : Out :=
  if s.bridgeUp then
    s.sideRead (leBytes 4 s.regs.mboxTo.toNat) (fun s => { s with regs.mboxToPending := false })
  else s.sideRead [0, 0, 0, 0] id

/-- NONCE (R370, R375). -/
def execNonce (s : State) : Out := s.sideRead (if s.bridgeUp then padTo 16 s.side.nonce else []) id

/-- BIST_RESULT (R370). -/
def execBistResult (s : State) : Out := s.sideRead (padTo 12 s.side.bistCopy) id

/-- FW_STATUS (R370). -/
def execFwStatus (s : State) : Out := s.sideRead (leBytes 4 (if s.bridgeUp then s.fwStatus.toNat else 0)) id

/-! ## Write commands (R366, R368, R371, R372) -/

/-- A command ends with a result (R371). -/
def sideResult (code : Byte) (r : SbResult) (s : State) : State := { s with side.cmd := code, side.result := r }

/-- A refused write: NACK, with its result (R366). -/
def sideNack (code : Byte) (r : SbResult) (s : State) : State := emit .smbusNack (sideResult code r s)

/-- A write command (R366): NACK while one is PENDING, for a byte count outside lo to hi, and for a wrong PEC. -/
def State.sideWrite (s : State) (code : Byte) (lo hi : Nat) (w : SbWrite) (f : State → State) : Out :=
  s.gate s.power.vstby (fun s =>
    if s.side.result == .pending then emit .smbusNack s
    else if w.data.length < lo || hi < w.data.length then sideNack code .badLength s
    else if !w.pecOk then sideNack code .pecFail s
    else f s)

/-- The codes of the read commands (R370). -/
def readCodes : List Byte := [0x01, 0x02, 0x03, 0x04, 0x06, 0x07, 0x10, 0x23, 0x32]

/-- The codes of the write commands (R370). -/
def writeCodes : List Byte := [0x05, 0x08, 0x20, 0x21, 0x22, 0x30, 0x31]

/-- A transaction whose code fits no command of its kind is refused with BAD_COMMAND; while a command is
PENDING its result stays (R366). Mark: DEDUCED (log 102). -/
def badCommand (code : Byte) (s : State) : State :=
  if s.side.result == .pending then emit .smbusNack s else sideNack code .badCommand s

/-- BUS_START_STOP (R366, R367): Sideshow waits for its address again. What the transaction that ended here had
shown: nothing refused, an undefined code, a Block Write of a read command, or a Block Read of a write
command, which returns a byte count of 0. -/
def execBusStartStop (cut : SbCut) (s : State) : Out :=
  match cut with
  | .nothing => .next s
  | .undefinedCode code =>
    s.gate (s.power.vstby && !readCodes.contains code && !writeCodes.contains code) (badCommand code)
  | .writeOfRead code => s.gate (s.power.vstby && readCodes.contains code) (badCommand code)
  | .readOfWrite code =>
    s.gate (s.power.vstby && writeCodes.contains code) (fun s =>
      if s.side.result == .pending then emit .smbusNack s else emit (.smbus [0]) s)

/-- LOG_SEL (R370, R374). -/
def execLogSel (w : SbWrite) (s : State) : Out :=
  s.sideWrite 0x05 1 1 w (fun s =>
    sideResult 0x05 .ok { s with side.logOffset := (byteAt w.data 0).toNat % 16 })

/-- The main side answers; a rule that the command changes holds the answer back until its barrier has drained
(R363, R372). -/
def answerSide (r : SbResult) (s : State) : State :=
  { s with side.answer := some r, side.answerBarriers := s.regs.barrier.length }

/-- A main-side command (R372): MAIN_UNAVAILABLE at once, or PENDING until its answer is seen. -/
def mainCommand (code : Byte) (f : State → State) (s : State) : State :=
  if s.bridgeUp then f { sideResult code .pending s with side.answer := none, side.answerBarriers := 0 }
  else sideResult code .mainUnavailable s

/-- MBOX_WRITE (R360, R370). -/
def execMboxWrite (w : SbWrite) (s : State) : Out :=
  s.sideWrite 0x08 4 4 w (mainCommand 0x08 (fun s =>
    answerSide .ok (fireIrq 5
      { s with regs.mboxFrom := BitVec.ofNat 32 (leAt w.data 0 4), regs.mboxFromFull := true,
               regs.mboxLost := s.regs.mboxLost || s.regs.mboxFromFull })))

/-! ## Privileged commands (R375, R376) -/

/-- A tag cannot be checked: no management key, no Juggler in service, or a crypto self-test that has not yet
unwrapped the key again (R375, R452, R470). -/
def State.noTagKey (s : State) : Bool :=
  s.nv.mgmtKey.isNone || s.jugglersUp == 0 ||
    (match s.bist.run with | some b => b.scope == 0x9 | none => false)

/-- The tag of a command (R375). -/
def State.tagOf (s : State) (code : Byte) (data : List Byte) : List Byte :=
  let address : Byte := BitVec.ofNat 8 ((0x58 + s.side.straps.toNat) * 2)
  padTo 8 (Config.aesCmac (s.nv.mgmtKey.getD [])
    (padTo 16 s.side.nonce ++ [address, code, BitVec.ofNat 8 data.length] ++ data.take (data.length - 8)))

/-- A tag failed (R376): 4 in a row start the lockout. -/
def tagFailed (code : Byte) (s : State) : State :=
  let n := s.side.tagFails + 1
  let s := raise 0x0C01 none code.toNat { s with side.tagFails := n }
  answerSide .authFail (if 4 ≤ n then raise 0x0C02 none 10000 { s with side.locked := true } else s)

/-- The life cycle refuses the command after a passing tag (R375). -/
def State.sideRefuses (s : State) (code : Byte) : Bool :=
  (s.nv.lc == .fencedSecure || s.nv.lc == .terminated) && (code == 0x22 || code == 0x30 || code == 0x31)

/-- A privileged command (R375, R376): LOCKED_OUT, NO_KEY, the check with its new nonce, then the command on its
data without the tag. -/
def privileged (code : Byte) (data : List Byte) (f : List Byte → State → State) (s : State) : State :=
  mainCommand code (fun s =>
    if s.side.locked then answerSide .lockedOut s
    else if s.noTagKey then answerSide .noKey s
    else
      let ok := 8 ≤ data.length && data.drop (data.length - 8) == s.tagOf code data
      let s := { s.drew 16 with side.nonce := s.random 16 }
      if !ok then tagFailed code s
      else
        let s := { s with side.tagFails := 0 }
        if s.sideRefuses code then answerSide .refused s else f (data.take (data.length - 8)) s) s

/-- The slots of a mask (R377). -/
def maskSlots (d : List Byte) : List SlotId :=
  (List.finRange 64).filter (fun n => bit (byteAt d (n.val / 8)) (n.val % 8))

/-- SLOT_OFF's effect (R377): each named slot is disabled through the slot path; the answer waits until every one
is below 0.4 V, and a slot under its check until that ends. -/
def slotsOff (d : List Byte) (s : State) : State :=
  let l := maskSlots d
  let s := forEach l disableSlot (raise 0x0C03 none l.length s)
  let left := l.filter (fun n => (s.slot n).vcc != .off || s.regs.checkSlot == some n)
  let s := { s with side.slotOffWait := left }
  if left.isEmpty then answerSide .ok s else s

/-- SLOT_OFF (R370, R377). -/
def execSlotOff (w : SbWrite) (s : State) : Out := s.sideWrite 0x20 16 16 w (privileged 0x20 w.data slotsOff)

/-- MAIN_RESET (R370, R378, R479): a log entry with the reason, and the main-side reset. -/
def execMainReset (w : SbWrite) (s : State) : Out :=
  s.sideWrite 0x21 9 9 w (privileged 0x21 w.data (fun d s =>
    let src : ResetSource := .sideshow (byteAt d 0)
    resetBy src (logSource src s)))

/-- A self-test asked for by Sideshow (R379): REFUSED while one runs or when it ends NOT_RUN. -/
def sideBist (d : List Byte) (s : State) : State :=
  let b := byteAt d 0
  if s.bist.run.isSome || field b 5 3 != 0 then answerSide .refused s
  else
    let s := startBist (bit b 4) true (BitVec.ofNat 4 (field b 0 4)) s
    if s.bist.run.isSome then answerSide .ok s else answerSide .refused s

/-- BIST_START (R370, R379). -/
def execBistStart (w : SbWrite) (s : State) : Out := s.sideWrite 0x22 9 9 w (privileged 0x22 w.data sideBist)

/-- A firmware operation asked for by Sideshow (R380): as a FW_CTRL write with GO. A SWITCH resets the main side
while the command is PENDING (R372). -/
def sideFw (d : List Byte) (s : State) : State :=
  let op := (byteAt d 0).toNat
  if s.fw.go || op < 1 || 4 < op then answerSide .refused s
  else
    let s := runFw op (takeFw op s)
    if s.side.result == .pending then answerSide .ok s else s

/-- FW_OP (R370, R380). -/
def execFwOp (w : SbWrite) (s : State) : Out := s.sideWrite 0x30 9 9 w (privileged 0x30 w.data sideFw)

/-- Image bytes from Sideshow (R380, R489). -/
def sideFwData (d : List Byte) (s : State) : State :=
  match writeImage (leAt d 0 4) (d.drop 4) s with
  | some s => answerSide .ok s
  | none => answerSide .refused s

/-- FW_DATA (R370, R380, R489). -/
def execFwData (w : SbWrite) (s : State) : Out := s.sideWrite 0x31 13 244 w (privileged 0x31 w.data sideFwData)

/-! ## The bridge (R372, R373, R376) -/

/-- SIDESHOW_ANSWER (R363, R372). -/
def execSideshowAnswer (s : State) : Out :=
  match s.side.answer with
  | none => .next s
  | some r =>
    s.gate (s.power.vstby && s.side.result == .pending && s.side.answerBarriers == 0) (fun s =>
      { s with side.result := r, side.answer := none })

/-- LOCKOUT_END (R376). -/
def execLockoutEnd (s : State) : Out :=
  s.gate (s.mainUp && s.side.locked) (fun s => { s with side.locked := false })

/-- Bytes 2 to 41 of HEALTH (R373); the die temperature is the operand. -/
def healthBytes (seq : W16) (temp : W16) (s : State) : List Byte :=
  let r (off : Nat) : List Byte := leBytes 4 (s.readReg off).toNat
  leBytes 2 seq.toNat ++ r 0x008 ++ r 0x010 ++ r 0x08C ++ r 0x090 ++ r 0x094 ++ leBytes 8 s.fencedBits.toNat ++
    r 0x0B0 ++ r 0x084 ++ leBytes 2 temp.toNat

/-- HEALTH_SNAPSHOT (R373). -/
def execHealthSnapshot (tempEighths : W16) (s : State) : Out :=
  s.gate s.mainUp (fun s =>
    let q := s.side.snapSeq + 1
    { s with side.snapSeq := q, side.snapshot := healthBytes q tempEighths s })

end Sys2Proof.Machine
end

