-- ==== Sys2Proof/Machine/StationBus.lean ====
section
/-! DEFINITION. The station bus (12_sideshow_and_station_bus R383 to R397): frames, polls, retries, the wake and
the stuck line, and the RTS_CTS mode. -/

namespace Sys2Proof.Machine

open Sys2Proof

/-! ## Frames (R387 to R389) -/

/-- The protected identifier of a frame kind and its MU (R387, R388). -/
def pidOf (id : Nat) : Byte := sbPid (BitVec.ofNat 6 id)

/-- A command's 8 bytes of data (R389). -/
def commandData (c : SbCmd) : List Byte :=
  [if c.eject then 2 else 1, BitVec.ofNat 8 c.station, if c.eject then c.bin else 0, BitVec.ofNat 8 c.cseq] ++
    leBytes 4 c.job.toNat

/-- A received frame has its sync byte, the PID of its ID, 8 bytes of data and their checksum (R387, R388). -/
def frameOk (id : Nat) (f : SbFrame) : Bool :=
  f.sync == 0x55 && f.pid == pidOf id && f.data.length == 8 && f.checksum == sbChecksum f.pid f.data

/-- A message of RTS_CTS mode (R395). -/
def rtsMessage (c : SbCmd) : List Byte :=
  let cmd : Byte := if c.eject then 0x45 else 0x46
  let st : Byte := BitVec.ofNat 8 c.station
  let bin : Byte := if !c.eject then 0 else if c.bin == 1 then 0x41 else if c.bin == 2 then 0x52 else 0x48
  [0x02, cmd, st, bin, cmd ^^^ st ^^^ bin, 0x03]

/-! ## Ports -/

def State.port (s : State) (p : PortId) : SbPort := s.ports[p.val]

def updPort (p : PortId) (f : SbPort → SbPort) (s : State) : State :=
  { s with ports := s.ports.set p.val (f s.ports[p.val]) p.isLt }

/-- The port works in a mode (R383, R394). -/
def State.portIn (s : State) (p : PortId) (m : SbMode) : Bool :=
  s.booted && (s.port p).mode == m && !(s.port p).stuck

/-- A count of SBUS_STATUS, 16 bits (R396). -/
def up16 (n : Nat) : Nat := min 65535 (n + 1)

/-- The frame is discarded and counted (R387, R388). -/
def discard (f : SbFrame) (p : SbPort) : SbPort :=
  { p with discarded := up16 p.discarded,
           checksums := if f.checksum == sbChecksum f.pid f.data then p.checksums else up16 p.checksums }

/-! ## Commands that fail (R190, R390) -/

/-- The feed of a slot fails as at its FEED_TIMEOUT (R190, R390). -/
def feedFails (n : SlotId) (job : JobId) (s : State) : State :=
  match (s.slot n).feed with
  | none => s
  | some (id, _) =>
    if id != job then s
    else
      lostJob n .none (raise 0x0206 (some n) id.toNat
        (s.updSlot n (fun x => { x with feed := none, feedBlocked := true })))

/-- A command fails (R390, R397). -/
def failCommand (p : PortId) (why : Nat) (c : SbCmd) (s : State) : State :=
  let s := raise 0x0D03 (some c.slot) (p.val + c.mu.val * 2 ^ 4 + why * 2 ^ 8) s
  if c.eject then s else feedFails c.slot c.job s

/-- A transmission got no good answer: it is sent again, and the third fails the command (R390, R395). -/
def retryCommand (p : PortId) (why : Nat) (c : SbCmd) (s : State) : State :=
  let s := updPort p (fun x => { x with out := x.out.filter (· != c) }) s
  if c.tx < 3 then updPort p (fun x => { x with queue := c :: x.queue }) s else failCommand p why c s

/-- The outstanding command of an MU. -/
def SbPort.outOf (p : SbPort) (mu : MuId) : Option SbCmd := p.out.find? (fun c => c.mu == mu)

/-- No answer to what was sent to an MU (R390). -/
def unanswered (p : PortId) (mu : MuId) (s : State) : State :=
  let s := updPort p (fun x => { x with polling := none, sending := none }) s
  match (s.port p).outOf mu with
  | some c => retryCommand p 2 c s
  | none => s

/-! ## FRAME mode (R385, R390 to R392) -/

/-- The next command to send: the first whose MU has none outstanding (R390). -/
def SbPort.nextCmd (p : SbPort) : Option SbCmd := p.queue.find? (fun c => (p.outOf c.mu).isNone)

def emitPoll (p : PortId) (mu : MuId) (s : State) : State := emit (.sbFrame p (pidOf (0x20 + mu.val)) [] none) s

/-- A COMMAND frame, and the poll of its MU in the next frame (R390). -/
def emitCommand (p : PortId) (c : SbCmd) (s : State) : State :=
  let pid := pidOf (0x10 + c.mu.val)
  let d := commandData c
  emitPoll p c.mu (emit (.sbFrame p pid d (some (sbChecksum pid d))) s)

/-- SB_COMMAND_FRAME (R390). -/
def execSbCommandFrame (port : PortId) (s : State) : Out :=
  match (s.port port).nextCmd with
  | none => .next s
  | some c =>
    s.gate (s.portIn port .frame && (s.port port).polling.isNone) (fun s =>
      let c' := { c with tx := c.tx + 1 }
      emitCommand port c' (updPort port (fun x =>
        { x with queue := x.queue.erase c, out := x.out ++ [c'], sending := some (.command c', 1),
                 polling := some c.mu, listening := false, guarding := false }) s))

/-- The status byte of an MU changed (R390, R397). -/
def noteStatus (p : PortId) (mu : MuId) (d : List Byte) (s : State) : State :=
  let old := byteAt (s.port p).last[mu.val] 0
  let new := byteAt d 0
  let s := updPort p (fun x => { x with last := x.last.set mu.val d mu.isLt }) s
  onlyIf (old != new) (raise 0x0D04 none (p.val + mu.val * 2 ^ 4 + new.toNat * 2 ^ 8)) s

/-- What a poll response says of the outstanding command (R389, R390). -/
def judgeAck (p : PortId) (mu : MuId) (d : List Byte) (s : State) : State :=
  match (s.port p).outOf mu with
  | none => s
  | some c =>
    if (byteAt d 1).toNat != c.cseq then retryCommand p 2 c s
    else
      let done := updPort p (fun x => { x with out := x.out.filter (· != c) }) s
      match (byteAt d 2).toNat with
      | 0 => done
      | 1 => failCommand p 1 c done
      | 2 => failCommand p 6 c done
      | _ => retryCommand p 2 c s

/-- POLL_RESPONSE (R387 to R390). -/
def execPollResponse (port : PortId) (mu : MuId) (f : SbFrame) (s : State) : Out :=
  s.gate (s.portIn port .frame && (s.port port).polling == some mu) (fun s =>
    if frameOk (0x20 + mu.val) f then
      judgeAck port mu f.data (noteStatus port mu f.data
        (updPort port (fun x => { x with polling := none, sending := none }) s))
    else updPort port (discard f) s)

/-- POLL_PERIOD (R390): commands and their polls go first. -/
def execPollPeriod (port : PortId) (mu : MuId) (s : State) : Out :=
  s.gate (s.portIn port .frame && bit (s.port port).muMask mu.val && (s.port port).polling.isNone &&
      (s.port port).nextCmd.isNone) (fun s =>
    emitPoll port mu (updPort port (fun x =>
      { x with polling := some mu, sending := some (.poll mu, 1), listening := false, guarding := false }) s))

/-- RESP_TIMEOUT (R390): a missing response. -/
def execRespTimeout (port : PortId) (mu : MuId) (s : State) : Out :=
  s.gate (s.portIn port .frame && (s.port port).polling == some mu) (fun s =>
    unanswered port mu (updPort port (fun x => { x with missing := up16 x.missing }) s))

/-- ANNOUNCE (R388, R391): its status is news at once; an MU that is not configured is counted. -/
def execAnnounce (port : PortId) (mu : MuId) (f : SbFrame) (s : State) : Out :=
  s.gate (s.portIn port .frame && !(s.port port).listening) (fun s =>
    let s := updPort port (fun x => { x with guarding := false }) s
    if !frameOk mu.val f then updPort port (discard f) s
    else if !bit (s.port port).muMask mu.val then updPort port (fun x => { x with announces := up16 x.announces }) s
    else noteStatus port mu f.data s)

/-- COLLISION (R385): the frame is sent again, up to 3 attempts; then it is unanswered. -/
def execCollision (port : PortId) (s : State) : Out :=
  match (s.port port).sending with
  | none => .next s
  | some (tx, k) =>
    s.gate (s.portIn port .frame && (s.port port).echo) (fun s =>
      let s := updPort port (fun x => { x with collisions := up16 x.collisions }) s
      let mu := match tx with | .command c => c.mu | .poll mu => mu
      if 3 ≤ k then unanswered port mu s
      else
        let s := updPort port (fun x => { x with sending := some (tx, k + 1) }) s
        match tx with
        | .command c => emitCommand port c s
        | .poll mu => emitPoll port mu s)

/-- LISTEN (R392): nothing is to be sent for more than 2 ms. -/
def execListen (port : PortId) (s : State) : Out :=
  s.gate (s.portIn port .frame && (s.port port).polling.isNone && (s.port port).nextCmd.isNone)
    (updPort port (fun x => { x with listening := true, guarding := false }))

/-- WAKE (R392). -/
def execWake (port : PortId) (s : State) : Out :=
  s.gate (s.portIn port .frame && (s.port port).listening && (s.port port).wakeLatch)
    (updPort port (fun x => { x with listening := false }))

/-! ## The stuck line (R393, R394) -/

/-- SB_STUCK_LOW (R394): every queued or outstanding command fails. -/
def execSbStuckLow (port : PortId) (s : State) : Out :=
  s.gate (s.booted && (s.port port).mode != .off && !(s.port port).stuck) (fun s =>
    let l := (s.port port).out ++ (s.port port).queue
    let s := updPort port (fun x =>
      { x with stuck := true, wakeLatch := false, listening := false, guarding := false, sending := none,
               polling := none, out := [], queue := [] }) s
    forEach l (failCommand port 5) (raise 0x0D01 none port.val s))

/-- SB_RECOVERED (R393, R394). -/
def execSbRecovered (port : PortId) (s : State) : Out :=
  s.gate (s.booted && (s.port port).stuck) (fun s =>
    raise 0x0D02 none port.val
      (updPort port (fun x => { x with stuck := false, wakeLatch := true, guarding := true }) s))

/-! ## RTS_CTS mode (R395) -/

/-- The command whose answer RTS_CTS mode awaits. -/
def State.rtsWaits (s : State) (p : PortId) : Option SbCmd := (s.port p).out.head?

/-- RTS_CTS_MESSAGE (R395): one message at a time. -/
def execRtsCtsMessage (port : PortId) (s : State) : Out :=
  match (s.port port).queue with
  | [] => .next s
  | c :: rest =>
    s.gate (s.portIn port .rtsCts && (s.rtsWaits port).isNone) (fun s =>
      let c' := { c with tx := c.tx + 1 }
      emit (.sbMessage port (rtsMessage c))
        (updPort port (fun x => { x with queue := rest, out := [c'], guarding := false }) s))

/-- CTS_TIMEOUT (R395): the command fails unsent. -/
def execCtsTimeout (port : PortId) (s : State) : Out :=
  match (s.port port).queue with
  | [] => .next s
  | c :: rest =>
    s.gate (s.portIn port .rtsCts && (s.rtsWaits port).isNone) (fun s =>
      failCommand port 3 c (updPort port (fun x => { x with queue := rest }) s))

/-- RTS_CTS_ANSWER (R395): 0x06 accepts, 0x15 refuses; other characters answer nothing. -/
def execRtsCtsAnswer (port : PortId) (b : Byte) (s : State) : Out :=
  match s.rtsWaits port with
  | none => .next s
  | some c =>
    s.gate (s.portIn port .rtsCts) (fun s =>
      if b == 0x06 then updPort port (fun x => { x with out := [] }) s
      else if b == 0x15 then retryCommand port 4 c s
      else s)

/-- ACK_TIMEOUT (R395). -/
def execAckTimeout (port : PortId) (s : State) : Out :=
  match s.rtsWaits port with
  | none => .next s
  | some c =>
    s.gate (s.portIn port .rtsCts) (fun s =>
      retryCommand port 2 c (updPort port (fun x => { x with missing := up16 x.missing }) s))

end Sys2Proof.Machine
end

