-- ==== Sys2Proof/Machine/Dispatch.lean ====
section
/-! DEFINITION. One arm per command: the meaning it calls. -/

namespace Sys2Proof.Machine

open Sys2Proof

def exec (i : Instr) (s : State) : Host.Outcome State Fault Refusal :=
  match i with
  | .vstbyRise straps => Sys2Proof.Machine.execVstbyRise straps s
  | .mainSideReset src board => Sys2Proof.Machine.execMainSideReset src board s
  | .booted => Sys2Proof.Machine.execBooted s
  | .bankStart copies => Sys2Proof.Machine.execBankStart copies s
  | .readyRise => Sys2Proof.Machine.execReadyRise s
  | .pcieReset kind => Sys2Proof.Machine.execPcieReset kind s
  | .flr => Sys2Proof.Machine.execFlr s
  | .dmaHold d3hot => Sys2Proof.Machine.execDmaHold d3hot s
  | .dmaResumed => Sys2Proof.Machine.execDmaResumed s
  | .msixUnmask vec => Sys2Proof.Machine.execMsixUnmask vec s
  | .barAccessRefused r => Sys2Proof.Machine.execBarAccessRefused r s
  | .deviceCheck => Sys2Proof.Machine.execDeviceCheck s
  | .deviceCheckEnd => Sys2Proof.Machine.execDeviceCheckEnd s
  | .windDown => Sys2Proof.Machine.execWindDown s
  | .windDownEnd => Sys2Proof.Machine.execWindDownEnd s
  | .gctrlPause pause => Sys2Proof.Machine.execGctrlPause pause s
  | .slotEnable => Sys2Proof.Machine.execSlotEnable s
  | .slotCheckEnd failed => Sys2Proof.Machine.execSlotCheckEnd failed s
  | .slotDisable => Sys2Proof.Machine.execSlotDisable s
  | .slotDeactivate => Sys2Proof.Machine.execSlotDeactivate s
  | .slotClear => Sys2Proof.Machine.execSlotClear s
  | .slotCfgWrite regB v => Sys2Proof.Machine.execSlotCfgWrite regB v s
  | .slotSelWrite v => Sys2Proof.Machine.execSlotSelWrite v s
  | .tbTailWrite v => Sys2Proof.Machine.execTbTailWrite v s
  | .cqHeadWrite v => Sys2Proof.Machine.execCqHeadWrite v s
  | .eqHeadWrite v => Sys2Proof.Machine.execEqHeadWrite v s
  | .ringSizeWrite ring v => Sys2Proof.Machine.execRingSizeWrite ring v s
  | .powerBudgetWrite v => Sys2Proof.Machine.execPowerBudgetWrite v s
  | .irqStatusWrite v => Sys2Proof.Machine.execIrqStatusWrite v s
  | .irqMaskWrite v => Sys2Proof.Machine.execIrqMaskWrite v s
  | .errFirstClear => Sys2Proof.Machine.execErrFirstClear s
  | .violClear => Sys2Proof.Machine.execViolClear s
  | .mboxToSbWrite v => Sys2Proof.Machine.execMboxToSbWrite v s
  | .mboxFromSbRead => Sys2Proof.Machine.execMboxFromSbRead s
  | .pairLowRead p => Sys2Proof.Machine.execPairLowRead p s
  | .registerWrite off v => Sys2Proof.Machine.execRegisterWrite off v s
  | .regParity off both => Sys2Proof.Machine.execRegParity off both s
  | .logicBist scope => Sys2Proof.Machine.execLogicBist scope s
  | .memoryBist scope => Sys2Proof.Machine.execMemoryBist scope s
  | .bistRingDrained => Sys2Proof.Machine.execBistRingDrained s
  | .bistDrainTimeout => Sys2Proof.Machine.execBistDrainTimeout s
  | .bistPassEnd fails => Sys2Proof.Machine.execBistPassEnd fails s
  | .bistRunEnd sig ringFail slotFails => Sys2Proof.Machine.execBistRunEnd sig ringFail slotFails s
  | .bistDomainEnd sig => Sys2Proof.Machine.execBistDomainEnd sig s
  | .fwPrepare key => Sys2Proof.Machine.execFwPrepare key s
  | .fwCommit key => Sys2Proof.Machine.execFwCommit key s
  | .fwSwitch key => Sys2Proof.Machine.execFwSwitch key s
  | .fwAbort key => Sys2Proof.Machine.execFwAbort key s
  | .sectorEraseDone => Sys2Proof.Machine.execSectorEraseDone s
  | .sectorEraseAbort => Sys2Proof.Machine.execSectorEraseAbort s
  | .fwConfirmed => Sys2Proof.Machine.execFwConfirmed s
  | .ticketFetch tickets => Sys2Proof.Machine.execTicketFetch tickets s
  | .fetchRetry => Sys2Proof.Machine.execFetchRetry s
  | .paramReadFail job got => Sys2Proof.Machine.execParamReadFail job got s
  | .issue job param => Sys2Proof.Machine.execIssue job param s
  | .samOp job param => Sys2Proof.Machine.execSamOp job param s
  | .activate job => Sys2Proof.Machine.execActivate job s
  | .deactivate job => Sys2Proof.Machine.execDeactivate job s
  | .warmReset job => Sys2Proof.Machine.execWarmReset job s
  | .inventory job param => Sys2Proof.Machine.execInventory job param s
  | .format job param => Sys2Proof.Machine.execFormat job param s
  | .recordWrite job param => Sys2Proof.Machine.execRecordWrite job param s
  | .recordDelete job param => Sys2Proof.Machine.execRecordDelete job param s
  | .profileWrite job param => Sys2Proof.Machine.execProfileWrite job param s
  | .profileDelete job => Sys2Proof.Machine.execProfileDelete job s
  | .journalList job param => Sys2Proof.Machine.execJournalList job param s
  | .journalClose job param => Sys2Proof.Machine.execJournalClose job param s
  | .auditRead job param => Sys2Proof.Machine.execAuditRead job param s
  | .auditAttest job param => Sys2Proof.Machine.execAuditAttest job param s
  | .auditTrim job param => Sys2Proof.Machine.execAuditTrim job param s
  | .bankStatus job => Sys2Proof.Machine.execBankStatus job s
  | .counterRelease job => Sys2Proof.Machine.execCounterRelease job s
  | .ownerSet job param => Sys2Proof.Machine.execOwnerSet job param s
  | .mgmtSet job param => Sys2Proof.Machine.execMgmtSet job param s
  | .ceremonyOpen job => Sys2Proof.Machine.execCeremonyOpen job s
  | .keyImport job param => Sys2Proof.Machine.execKeyImport job param s
  | .keyDelete job => Sys2Proof.Machine.execKeyDelete job s
  | .keyList job => Sys2Proof.Machine.execKeyList job s
  | .ceremonyClose job => Sys2Proof.Machine.execCeremonyClose job s
  | .lcChange job param => Sys2Proof.Machine.execLcChange job param s
  | .attestId job => Sys2Proof.Machine.execAttestId job s
  | .cancel job => Sys2Proof.Machine.execCancel job s
  | .sbusConfig job param => Sys2Proof.Machine.execSbusConfig job param s
  | .sbusStatus job => Sys2Proof.Machine.execSbusStatus job s
  | .unitClear job failed => Sys2Proof.Machine.execUnitClear job failed s
  | .faultStatus job => Sys2Proof.Machine.execFaultStatus job s
  | .marginRead job => Sys2Proof.Machine.execMarginRead job s
  | .bistReport job => Sys2Proof.Machine.execBistReport job s
  | .fwWrite job param => Sys2Proof.Machine.execFwWrite job param s
  | .placementPass => Sys2Proof.Machine.execPlacementPass s
  | .sweepYield slot => Sys2Proof.Machine.execSweepYield slot s
  | .jobDeadline job => Sys2Proof.Machine.execJobDeadline job s
  | .feedTimeout slot => Sys2Proof.Machine.execFeedTimeout slot s
  | .jobSettled job => Sys2Proof.Machine.execJobSettled job s
  | .staleResult job gen => Sys2Proof.Machine.execStaleResult job gen s
  | .completionWrite => Sys2Proof.Machine.execCompletionWrite s
  | .eventWrite => Sys2Proof.Machine.execEventWrite s
  | .precompute job => Sys2Proof.Machine.execPrecompute job s
  | .precomputeRelease job => Sys2Proof.Machine.execPrecomputeRelease job s
  | .scOpen job resp sw => Sys2Proof.Machine.execScOpen job resp sw s
  | .prefetchDone job gen rd => Sys2Proof.Machine.execPrefetchDone job gen rd s
  | .tokenGrant => Sys2Proof.Machine.execTokenGrant s
  | .admitWait slot => Sys2Proof.Machine.execAdmitWait slot s
  | .vccQualified slot => Sys2Proof.Machine.execVccQualified slot s
  | .clkStart slot => Sys2Proof.Machine.execClkStart slot s
  | .rstRise slot => Sys2Proof.Machine.execRstRise slot s
  | .vccFail slot => Sys2Proof.Machine.execVccFail slot s
  | .ocBlankingEnd slot => Sys2Proof.Machine.execOcBlankingEnd slot s
  | .atrReceived slot raw faults => Sys2Proof.Machine.execAtrReceived slot raw faults s
  | .noAtr slot => Sys2Proof.Machine.execNoAtr slot s
  | .atrGapTimeout slot => Sys2Proof.Machine.execAtrGapTimeout slot s
  | .ppsResponse slot raw faults => Sys2Proof.Machine.execPpsResponse slot raw faults s
  | .ppsTimeout slot => Sys2Proof.Machine.execPpsTimeout slot s
  | .rateApply slot => Sys2Proof.Machine.execRateApply slot s
  | .iBlock slot blk => Sys2Proof.Machine.execIBlock slot blk s
  | .rBlock slot blk => Sys2Proof.Machine.execRBlock slot blk s
  | .sIfsRequest slot ifsc => Sys2Proof.Machine.execSIfsRequest slot ifsc s
  | .sIfsResponse slot ifsd => Sys2Proof.Machine.execSIfsResponse slot ifsd s
  | .sWtxRequest slot m => Sys2Proof.Machine.execSWtxRequest slot m s
  | .sAbortRequest slot => Sys2Proof.Machine.execSAbortRequest slot s
  | .sAbortResponse slot => Sys2Proof.Machine.execSAbortResponse slot s
  | .sResynchResponse slot => Sys2Proof.Machine.execSResynchResponse slot s
  | .bwtTimeout slot => Sys2Proof.Machine.execBwtTimeout slot s
  | .cwtOverrun slot => Sys2Proof.Machine.execCwtOverrun slot s
  | .wtTimeout slot => Sys2Proof.Machine.execWtTimeout slot s
  | .exchLimit slot => Sys2Proof.Machine.execExchLimit slot s
  | .lineStuck slot => Sys2Proof.Machine.execLineStuck slot s
  | .t0Character slot b bad overrun => Sys2Proof.Machine.execT0Character slot b bad overrun s
  | .errorSignalSeen slot idx => Sys2Proof.Machine.execErrorSignalSeen slot idx s
  | .procedureByte slot b b2 => Sys2Proof.Machine.execProcedureByte slot b b2 s
  | .exchangeEnd slot noise chars => Sys2Proof.Machine.execExchangeEnd slot noise chars s
  | .clockStop slot => Sys2Proof.Machine.execClockStop slot s
  | .clockRestart slot => Sys2Proof.Machine.execClockRestart slot s
  | .modeSwitchAnswer slot ok data sw => Sys2Proof.Machine.execModeSwitchAnswer slot ok data sw s
  | .galloperClockApply slot => Sys2Proof.Machine.execGalloperClockApply slot s
  | .quietEnd slot => Sys2Proof.Machine.execQuietEnd slot s
  | .rcvToken slot tok => Sys2Proof.Machine.execRcvToken slot tok s
  | .rspToken slot tok => Sys2Proof.Machine.execRspToken slot tok s
  | .readBlock slot blk => Sys2Proof.Machine.execReadBlock slot blk s
  | .ltsRecord slot blk => Sys2Proof.Machine.execLtsRecord slot blk s
  | .noResponseToken slot => Sys2Proof.Machine.execNoResponseToken slot s
  | .busyEnd slot => Sys2Proof.Machine.execBusyEnd slot s
  | .busyLimit slot => Sys2Proof.Machine.execBusyLimit slot s
  | .busyLimitIdle slot => Sys2Proof.Machine.execBusyLimitIdle slot s
  | .c7Stuck slot => Sys2Proof.Machine.execC7Stuck slot s
  | .galloperClockStop slot => Sys2Proof.Machine.execGalloperClockStop slot s
  | .galloperClockRestart slot => Sys2Proof.Machine.execGalloperClockRestart slot s
  | .galloperCodeApply slot => Sys2Proof.Machine.execGalloperCodeApply slot s
  | .ltsApdu slot ok data sw => Sys2Proof.Machine.execLtsApdu slot ok data sw s
  | .eyeSweep slot => Sys2Proof.Machine.execEyeSweep slot s
  | .trainPattern slot blk tokenOk => Sys2Proof.Machine.execTrainPattern slot blk tokenOk s
  | .deactClkStop slot => Sys2Proof.Machine.execDeactClkStop slot s
  | .measurementWindowEnd slot r => Sys2Proof.Machine.execMeasurementWindowEnd slot r s
  | .deactLdoOff slot => Sys2Proof.Machine.execDeactLdoOff slot s
  | .emergencyStep slot => Sys2Proof.Machine.execEmergencyStep slot s
  | .deactivationEnd slot => Sys2Proof.Machine.execDeactivationEnd slot s
  | .tOffEnd slot => Sys2Proof.Machine.execTOffEnd slot s
  | .voffAbove slot => Sys2Proof.Machine.execVoffAbove slot s
  | .overcurrent slot => Sys2Proof.Machine.execOvercurrent slot s
  | .short slot at_ => Sys2Proof.Machine.execShort slot at_ s
  | .vccWindow slot => Sys2Proof.Machine.execVccWindow slot s
  | .removal slot => Sys2Proof.Machine.execRemoval slot s
  | .supplyTrigger vcore => Sys2Proof.Machine.execSupplyTrigger vcore s
  | .refClockLost => Sys2Proof.Machine.execRefClockLost s
  | .refClockRestored => Sys2Proof.Machine.execRefClockRestored s
  | .presencePresent slot => Sys2Proof.Machine.execPresencePresent slot s
  | .presenceAbsent slot => Sys2Proof.Machine.execPresenceAbsent slot s
  | .presBand slot => Sys2Proof.Machine.execPresBand slot s
  | .unstable slot transitions broken => Sys2Proof.Machine.execUnstable slot transitions broken s
  | .resolutionActivation slot => Sys2Proof.Machine.execResolutionActivation slot s
  | .comparatorCheck obj c => Sys2Proof.Machine.execComparatorCheck obj c s
  | .comparatorCheckEnd obj c failStep => Sys2Proof.Machine.execComparatorCheckEnd obj c failStep s
  | .rotationCheck ring slot c => Sys2Proof.Machine.execRotationCheck ring slot c s
  | .handoverEnd ring agree => Sys2Proof.Machine.execHandoverEnd ring agree s
  | .presCheck slot => Sys2Proof.Machine.execPresCheck slot s
  | .twinCheck ring => Sys2Proof.Machine.execTwinCheck ring s
  | .ringParked ring => Sys2Proof.Machine.execRingParked ring s
  | .railRetarget ring => Sys2Proof.Machine.execRailRetarget ring s
  | .railSettled ring => Sys2Proof.Machine.execRailSettled ring s
  | .downHoldEnd ring => Sys2Proof.Machine.execDownHoldEnd ring s
  | .ringUv ring => Sys2Proof.Machine.execRingUv ring s
  | .ringOv ring => Sys2Proof.Machine.execRingOv ring s
  | .ringOc ring => Sys2Proof.Machine.execRingOc ring s
  | .ringOt ring => Sys2Proof.Machine.execRingOt ring s
  | .ringStart ring => Sys2Proof.Machine.execRingStart ring s
  | .ringSettle ring => Sys2Proof.Machine.execRingSettle ring s
  | .journalGroupCommit => Sys2Proof.Machine.execJournalGroupCommit s
  | .journalDurable => Sys2Proof.Machine.execJournalDurable s
  | .journalCopy chan => Sys2Proof.Machine.execJournalCopy chan s
  | .journalBlockErase upTo => Sys2Proof.Machine.execJournalBlockErase upTo s
  | .rppWrite => Sys2Proof.Machine.execRppWrite s
  | .anchorUpdate => Sys2Proof.Machine.execAnchorUpdate s
  | .pagePad target block => Sys2Proof.Machine.execPagePad target block s
  | .blockRelocate target block => Sys2Proof.Machine.execBlockRelocate target block s
  | .wearLevel target => Sys2Proof.Machine.execWearLevel target s
  | .mediaProgramDone target block erase passed => Sys2Proof.Machine.execMediaProgramDone target block erase passed s
  | .lcDrained => Sys2Proof.Machine.execLcDrained s
  | .lcWaitTimeout => Sys2Proof.Machine.execLcWaitTimeout s
  | .debugLcChange req => Sys2Proof.Machine.execDebugLcChange req s
  | .debugToken req => Sys2Proof.Machine.execDebugToken req s
  | .debugClose => Sys2Proof.Machine.execDebugClose s
  | .debugExpiry => Sys2Proof.Machine.execDebugExpiry s
  | .ceremonyTimeout => Sys2Proof.Machine.execCeremonyTimeout s
  | .accessViolation v => Sys2Proof.Machine.execAccessViolation v s
  | .ruleBarrier cause => Sys2Proof.Machine.execRuleBarrier cause s
  | .ruleBarrierDrained => Sys2Proof.Machine.execRuleBarrierDrained s
  | .tamperL1 sensor => Sys2Proof.Machine.execTamperL1 sensor s
  | .tamperL2 sensor => Sys2Proof.Machine.execTamperL2 sensor s
  | .tamperSelfTest failed => Sys2Proof.Machine.execTamperSelfTest failed s
  | .unitError u code => Sys2Proof.Machine.execUnitError u code s
  | .lockstep p => Sys2Proof.Machine.execLockstep p s
  | .pairWatchdog p => Sys2Proof.Machine.execPairWatchdog p s
  | .deviceWatchdog => Sys2Proof.Machine.execDeviceWatchdog s
  | .recoveryDone u ok => Sys2Proof.Machine.execRecoveryDone u ok s
  | .probationEnd u => Sys2Proof.Machine.execProbationEnd u s
  | .fatalError code => Sys2Proof.Machine.execFatalError code s
  | .fatalWindowTimeout => Sys2Proof.Machine.execFatalWindowTimeout s
  | .fatalNested code => Sys2Proof.Machine.execFatalNested code s
  | .siliconMonitor core slot bank link => Sys2Proof.Machine.execSiliconMonitor core slot bank link s
  | .efficiencySample ring percent railMilliwatt => Sys2Proof.Machine.execEfficiencySample ring percent railMilliwatt s
  | .retentionCheck bankA bankB option => Sys2Proof.Machine.execRetentionCheck bankA bankB option s
  | .eyeSweepRequest slot => Sys2Proof.Machine.execEyeSweepRequest slot s
  | .planEvaluation => Sys2Proof.Machine.execPlanEvaluation s
  | .guardSwitch => Sys2Proof.Machine.execGuardSwitch s
  | .guardForce => Sys2Proof.Machine.execGuardForce s
  | .sbCommandFrame port => Sys2Proof.Machine.execSbCommandFrame port s
  | .pollResponse port mu f => Sys2Proof.Machine.execPollResponse port mu f s
  | .pollPeriod port mu => Sys2Proof.Machine.execPollPeriod port mu s
  | .respTimeout port mu => Sys2Proof.Machine.execRespTimeout port mu s
  | .announce port mu f => Sys2Proof.Machine.execAnnounce port mu f s
  | .collision port => Sys2Proof.Machine.execCollision port s
  | .listen port => Sys2Proof.Machine.execListen port s
  | .wake port => Sys2Proof.Machine.execWake port s
  | .sbStuckLow port => Sys2Proof.Machine.execSbStuckLow port s
  | .sbRecovered port => Sys2Proof.Machine.execSbRecovered port s
  | .rtsCtsMessage port => Sys2Proof.Machine.execRtsCtsMessage port s
  | .ctsTimeout port => Sys2Proof.Machine.execCtsTimeout port s
  | .rtsCtsAnswer port b => Sys2Proof.Machine.execRtsCtsAnswer port b s
  | .ackTimeout port => Sys2Proof.Machine.execAckTimeout port s
  | .busStartStop cut => Sys2Proof.Machine.execBusStartStop cut s
  | .ident => Sys2Proof.Machine.execIdent s
  | .status => Sys2Proof.Machine.execStatus s
  | .health => Sys2Proof.Machine.execHealth s
  | .presence => Sys2Proof.Machine.execPresence s
  | .logSel w => Sys2Proof.Machine.execLogSel w s
  | .logRead => Sys2Proof.Machine.execLogRead s
  | .mboxRead => Sys2Proof.Machine.execMboxRead s
  | .mboxWrite w => Sys2Proof.Machine.execMboxWrite w s
  | .nonce => Sys2Proof.Machine.execNonce s
  | .slotOff w => Sys2Proof.Machine.execSlotOff w s
  | .mainReset w => Sys2Proof.Machine.execMainReset w s
  | .bistStart w => Sys2Proof.Machine.execBistStart w s
  | .bistResult => Sys2Proof.Machine.execBistResult s
  | .fwOp w => Sys2Proof.Machine.execFwOp w s
  | .fwData w => Sys2Proof.Machine.execFwData w s
  | .fwStatus => Sys2Proof.Machine.execFwStatus s
  | .lockoutEnd => Sys2Proof.Machine.execLockoutEnd s
  | .sideshowAnswer => Sys2Proof.Machine.execSideshowAnswer s
  | .healthSnapshot tempEighths => Sys2Proof.Machine.execHealthSnapshot tempEighths s
  | .vstbyFall => Sys2Proof.Machine.execVstbyFall s
  | .vinRingRestored => Sys2Proof.Machine.execVinRingRestored s
  | .tapInstructionLoad ti => Sys2Proof.Machine.execTapInstructionLoad ti s
  | .debugHalt p => Sys2Proof.Machine.execDebugHalt p s
  | .debugResume p => Sys2Proof.Machine.execDebugResume p s

end Sys2Proof.Machine
end

