-- ==== Sys2Proof/Machine/Tick.lean ====
section
/-! DEFINITION. The passing of a microsecond: what a step does when no command waits
(notes/assumptions/3.md). -/

namespace Sys2Proof.Machine

open Sys2Proof

/-- One microsecond: the AON timebase counts while VSTBY is present (R374), TIME while the main side
runs on its reference (R24). -/
def tick (s : State) : State :=
  let s := if s.power.vstby then { s with power.aonUs := s.power.aonUs + 1 } else s
  if s.mainUp && s.power.refClock then { s with regs.time := s.regs.time + 1 } else s

/-- The front of the queue leaves it. -/
def withPending (s : State) (rest : List Instr) : State := { s with pending := rest }

/-- The command a table word spells is put at the front of the queue. -/
def placeWord (c : Option Instr) (s : State) : State :=
  match c with
  | some c => withPending s (c :: s.pending)
  | none => s

end Sys2Proof.Machine
end

