-- ==== Sys2Proof/Machine/Step.lean ====
section
/-! DEFINITION. One step: the command at the front of the queue, or a microsecond when none waits. -/

namespace Sys2Proof.Machine

open Sys2Proof

/-- Take the command at the front of the queue and run it with the queue's rest; on an empty queue a
microsecond passes (notes/assumptions/3.md). -/
def step (s : State) : Host.Outcome State Fault Refusal :=
  match s.pending with
  | c :: rest => exec c (withPending s rest)
  | [] => .next (tick s)

/-- The command a word spells put at the front of the queue; s unchanged where it spells none. -/
def State.withFetchWord (s : State) (nbits w : Nat) : State := placeWord (decodeTableWord nbits w) s

end Sys2Proof.Machine
end

