-- ==== Sys2Proof/Safety.lean ====
section
/-! DEFINITION. What the one-way parts of the device may do over a step, and what every state shows: the terms of
the whole-machine claims. -/

namespace Sys2Proof.Machine

open Sys2Proof

/-- The life-cycle moves that R399 and R402 leave: FENCED_SECURE only goes on to TERMINATED, TERMINATED stays, and
nothing returns to MANUFACTURING. -/
def lcOnward (a b : LcState) : Bool :=
  match a, b with
  | .terminated, .terminated => true
  | .terminated, _ => false
  | .fencedSecure, .fencedSecure | .fencedSecure, .terminated => true
  | .fencedSecure, _ => false
  | .manufacturing, _ => true
  | _, .manufacturing => false
  | _, _ => true

/-- The option area's one-way cells between two states (R257, R399, R487). -/
def OptionArea.onward (a b : OptionArea) : Prop :=
  lcOnward a.lc b.lc = true ∧ a.wcnt.toNat ≤ b.wcnt.toNat ∧ a.svnFloor.toNat ≤ b.svnFloor.toNat

/-- The host reaches the registers of BAR0: the main side is up and no tamper response has withdrawn its rights
(R334, R425). -/
def State.hostReach (s : State) : Prop := s.mainUp = true ∧ s.sec.rightsWithdrawn = false

/-- A life-cycle change in progress leads where the life cycle may go on to (R399, R402, R403). -/
def State.lcTargetOk (s : State) : Prop := ∀ c, s.sec.changing = some c → lcOnward s.nv.lc c.target = true

/-- SLOT_SEL reads as a slot number (R344). -/
def State.slotSelShown (s : State) (n : SlotId) : Prop := s.readReg 0x05C = BitVec.ofNat 32 n.val

/-- RULE_EPOCH never shows 0x0000 (R361). -/
def State.epochShown (s : State) : Prop := s.regs.epoch ≠ 0

/-- The order of the gate bits: READY rises only in an enabled device whose firmware runs (R34), and a wind-down
runs only from ENABLE until ENABLE reads 0 (R316, R338). -/
def State.gateBits (s : State) : Prop :=
  (s.regs.ready = true → s.regs.enable = true ∧ s.regs.booted = true) ∧
  (s.regs.windDown = true → s.regs.enable = true)

/-- A queued ticket of a TYPE and OP that needs no slot may run now; such a ticket is never placed, so it holds no
slot, run, context or counter value (R168, R180). -/
def State.runnable (s : State) (id : JobId) (type op : Nat) (j : Job) : Prop :=
  s.ticketOf id type op = some j ∧ s.mayRun j = true ∧ j.slot = none ∧ j.run = none ∧ j.jug = none ∧
    j.counter = none

/-- Between two states exactly one slot changed, to the value given; nothing else of the device did. -/
def State.changesSlot (s t : State) (n : SlotId) (x : Slot) : Prop :=
  t = { s with slots := t.slots } ∧ t.slot n = x ∧ ∀ m, m ≠ n → t.slot m = s.slot m

/-- Between two states exactly one ring changed, to the value given; nothing else of the device did. -/
def State.changesRing (s t : State) (r : RingId) (x : Ring) : Prop :=
  t = { s with rings := t.rings } ∧ t.ring r = x ∧ ∀ q, q ≠ r → t.ring q = s.ring q

/-- Between two states exactly one station-bus port changed, to the value given; nothing else of the device did. -/
def State.changesPort (s t : State) (p : PortId) (x : SbPort) : Prop :=
  t = { s with ports := t.ports } ∧ t.port p = x ∧ ∀ q, q ≠ p → t.port q = s.port q

/-- Between two states no slot but one changed. -/
def State.othersKeep (s t : State) (n : SlotId) : Prop := ∀ m, m ≠ n → t.slot m = s.slot m

/-- Between two states the exchange of a slot ended with a status and waits to be reported; only that slot changed,
and what was sent (R97). -/
def State.exchEnds (s t : State) (n : SlotId) (st : ExchStatus) : Prop :=
  t = { s with slots := t.slots, out := t.out } ∧ s.othersKeep t n ∧ (t.slot n).exch = none ∧
  (t.slot n).job = (s.slot n).job ∧
  ∃ e r, (s.slot n).exch = some e ∧ (t.slot n).ended = (s.slot n).ended ++ [r] ∧ r.kind = e.kind ∧ r.job = e.job ∧
    r.gen = e.gen ∧ r.step = e.step ∧ r.status = st

/-- Between two states something went out on a slot's C7, and nothing but that slot's link state changed. -/
def State.slotSends (s t : State) (n : SlotId) : Prop :=
  t = { s with slots := t.slots, out := t.out } ∧ s.othersKeep t n ∧ (t.slot n).phase = (s.slot n).phase ∧
  (t.slot n).job = (s.slot n).job ∧ (t.slot n).ended = (s.slot n).ended ∧ ∃ bs, t.out = s.out ++ [.chars n bs]

/-- Between two states a job ended: the device holds no job of its JOB_ID any more, and its completion alone joined
those that wait, with this status, error code and result, cut to RESULT_MAX (R165, R173, R174). -/
def State.jobEnds (s t : State) (j : Job) (st : CStatus) (err : W16) (result : List Byte) : Prop :=
  t.findJob j.ticket.jobId = none ∧
  ∃ c : Closing, t.closing = s.closing ++ [c] ∧ c.jobId = j.ticket.jobId ∧ c.status = st ∧ c.error = err ∧
    c.result = result.take j.ticket.resultMax.toNat

end Sys2Proof.Machine
end

