-- ==== Sys2Proof/Certificates/Slice0/Obligations.lean ====
section
/-! DEFINITION. The statements for the provers: what the KG64 does, rule by rule. Each names the rules of spec/ it
rests on; where a clause rests on the model's own choice, it names the log entry. -/

open Sys2Proof Sys2Proof.Machine

/-! ## The machine as a whole -/

/-- A step takes the command at the front of the queue and runs it with the queue's rest. -/
def Obligations.StepRunsTheFrontCommand : Prop :=
  ∀ (c : Instr) (rest : List Instr) (s : State),
    s.pending = c :: rest → step s = exec c (withPending s rest)

/-- On an empty queue a microsecond passes (DESIGN CHOICE, log entry 3): the standby second counter counts while VSTBY
is present, TIME while the main side runs on its reference, and nothing else moves. -/
def Obligations.EmptyQueueCountsOneMicrosecond : Prop :=
  ∀ (s : State), s.pending = [] →
    ∃ t, step s = .next t ∧
      t = { s with power.aonUs := t.power.aonUs, regs.time := t.regs.time } ∧
      t.power.aonUs = (if s.power.vstby then s.power.aonUs + 1 else s.power.aonUs) ∧
      t.regs.time = (if s.mainUp ∧ s.power.refClock then s.regs.time + 1 else s.regs.time)

/-- Every command answers a next state in every state (the model's reading, log entry 1: one that cannot arise changes
nothing), and no command's effect touches the queue of waiting commands. -/
def Obligations.NoCommandTouchesTheQueue : Prop :=
  ∀ (c : Instr) (s : State), ∃ t, exec c s = .next t ∧ t.pending = s.pending

/-- RULE_EPOCH never comes to show 0x0000: every step keeps it so (R361). -/
def Obligations.RuleEpochIsNeverZero : Prop :=
  ∀ (s t : State), s.epochShown → step s = .next t → t.epochShown

/-- No step takes a one-way cell of the option area back: the life cycle (R399), WCNT (R257) and the firmware SVN floor
(R487); and a life-cycle change in progress keeps leading where the life cycle may go on to. -/
def Obligations.OneWayCellsNeverGoBack : Prop :=
  ∀ (s t : State), s.lcTargetOk → step s = .next t → s.nv.onward t.nv ∧ t.lcTargetOk

/-- READY stands only while the device is enabled and its firmware runs, and a wind-down runs only while it is enabled:
every step keeps it so (R34, R316, R338). -/
def Obligations.ReadyOnlyWhileEnabled : Prop :=
  ∀ (s t : State), s.gateBits → step s = .next t → t.gateBits

/-- The reset values of the registers that are not zero, through the register window (R196, R283, R343, R345, R346,
R361). At reset the four invariants of every step hold: RULE_EPOCH is not 0x0000, READY, BOOTED, ENABLE and
WIND_DOWN stand in their order, and no life-cycle change runs. -/
def Obligations.ResetStandsInTheInvariants : Prop :=
  State.reset.readReg 0x058 = 0xFFFFFFFF ∧ State.reset.readReg 0x080 = 0x14640082 ∧
  State.reset.readReg 0x088 = 0x00141407 ∧ State.reset.readReg 0x0CC = 0x00000001 ∧
  State.reset.readReg 0x060 = 0x0E0C0F07 ∧ State.reset.readReg 0x064 = 0x0000046A ∧
  State.reset.epochShown ∧ State.reset.gateBits ∧ State.reset.lcTargetOk


/-! ## Reset, boot and the link (01, 10, 17) -/

/-- A main-side reset, whatever its source, leaves an enabled, queued or powered nothing: TIME restarts, ENABLE, READY
and BOOTED read 0, the interrupt mask is full, no job, completion or admission request is left, and every slot
stands without VCC and disabled (R24, R334, R479, R480). The waiting commands and the one-way cells are kept as the
whole-machine statements say. PERST#, Hot Reset, a link-down event and FLR are each a main-side reset with the wipe
on the board as it stands (R326). Where the spec leaves the reading open this rests on the model's choices, log
entry 13. -/
def Obligations.MainSideResetStartsOver : Prop :=
  (∀ (src : ResetSource) (board : Board) (s : State),
    s.power.vstby = true → (src = .vcoreRise ∨ s.power.main ≠ .off) →
    ∃ t, exec (.mainSideReset src board) s = .next t ∧
      t.regs.time = 0 ∧ t.regs.enable = false ∧ t.regs.ready = false ∧ t.regs.booted = false ∧
      t.regs.irqMask = 0xFFFFFFFF ∧ t.regs.epoch = 1 ∧ t.power.main = .up ∧ t.power.board = board ∧
      t.jobs = [] ∧ t.closing = [] ∧ t.requests = [] ∧ t.bank.started = false ∧
      (∀ n, (t.slot n).vcc = .off ∧ (t.slot n).enable = false ∧ (t.slot n).job = none) ∧
      (∀ r, (t.ring r).phase = .off)) ∧
  ((∀ (k : LinkReset) (s : State), s.power.vstby = true → s.power.main ≠ .off →
    ∃ t, exec (.pcieReset k) s = .next t ∧
      exec (.mainSideReset (match k with
        | .perst => .perst | .hotReset => .hotReset | .linkDown => .linkDown) s.power.board) s = .next t) ∧
  (∀ (s : State), s.mainUp = true →
    ∃ t, exec .flr s = .next t ∧ exec (.mainSideReset .flr s.power.board) s = .next t))

/-- The start, step by step: VSTBY samples the straps and empties the standby domain but for Big Top's latch; BOOTED
rises once the firmware starts; the bank's start scans the journal, raises BOOT by 1 and reports the open entries;
READY rises with its interrupt once placement may accept slot tickets, and not before (R28, R34, R249, R334, R365,
R374, R480). Where the spec leaves the reading open this rests on the model's choices, log entry 13. -/
def Obligations.TheStartRunsInOrder : Prop :=
  (∀ (straps : BitVec 3) (s : State), s.power.vstby = false →
    ∃ t, exec (.vstbyRise straps) s = .next t ∧
      t = { s with power := t.power, standby := t.standby, side := t.side, slots := t.slots } ∧
      t.power.vstby = true ∧ t.power.main = .off ∧ t.power.aonUs = 0 ∧ t.side.straps = straps ∧
      t.standby.log = [] ∧ t.standby.recov = [] ∧ t.standby.tamper = s.standby.tamper ∧
      ∀ n, (t.slot n).present = false) ∧
  (∀ (s : State), s.mainUp = true → s.regs.booted = false → s.power.loader = false →
    exec .booted s =
      .next { s with regs.booted := true, regs.marginStatus := s.tight.summary s.refreshListed }) ∧
  (∀ (copies : List RppCopy) (s : State), s.booted = true → s.bank.started = false →
    ∃ t, exec (.bankStart copies) s = .next t ∧ t.bank.started = true ∧ t.slots = s.slots ∧ t.jobs = s.jobs ∧
      (s.bank.formatted = true →
        t.bank.boot = s.bank.boot + 1 ∧
        ∃ e ∈ t.barker.queue, e.code = 0x0701 ∧ e.slot = none ∧
          e.arg = BitVec.ofNat 32 t.openIntents.length)) ∧
  (∀ (s : State), s.booted = true → s.regs.enable = true → s.regs.windDown = false → s.regs.ready = false →
    s.bank.started = true → s.admissionArmed = true →
    ∃ t, exec .readyRise s = .next t ∧
      t = { s with regs.ready := true, regs.irqStatus := s.regs.irqStatus ||| 0x10,
                   regs.msixPending := t.regs.msixPending, out := t.out }) ∧
  (∀ (s t : State), s.regs.ready = false → exec .readyRise s = .next t → t.regs.ready = true →
    s.bank.started = true ∧ s.admissionArmed = true)

/-- The link's own events: DMA held latches 0x0A04 and keeps every job and slot running; DMA resumed lifts both
conditions; unmasking a vector clears its mask bit alone; a refused BAR request changes no register (R318, R319,
R321, R324). A register whose copies disagree is restored with the warning 0x0A05; two failing copies are fatal: the
fatal window opens with 0x0F03, or is already past its reset (R333, R441). Where the spec leaves the reading open
this rests on the model's choices, log entry 14. -/
def Obligations.LinkHoldsAndParityAct : Prop :=
  ((∀ (d3 : Bool) (s : State), s.mainUp = true → s.regs.enable = true → s.regs.dmaHeld = false →
    ∃ t, exec (.dmaHold d3) s = .next t ∧ t.regs.dmaHeld = true ∧ t.canSend = false ∧
      t.slots = s.slots ∧ t.jobs = s.jobs ∧ t.closing = s.closing ∧
      (bit s.regs.errFirst 31 = false → s.faults.fatalWindow = none →
        t.regs.errFirst = 0x80000A04)) ∧
  (∀ (s : State), s.mainUp = true →
    ∃ t, exec .dmaResumed s = .next t ∧ t.regs.busMaster = true ∧ t.regs.d3hot = false ∧
      t.regs.dmaHeld = false ∧ t.slots = s.slots ∧ t.jobs = s.jobs ∧ t.bank = s.bank) ∧
  (∀ (v : Fin 32) (s : State), s.mainUp = true →
    ∃ t, exec (.msixUnmask v) s = .next t ∧
      t = { s with regs.msixMask := s.regs.msixMask &&& ~~~(BitVec.ofNat 32 (2 ^ v.val)),
                   regs.msixPending := t.regs.msixPending, out := t.out }) ∧
  (∀ (r : BarRefusal) (s : State), s.mainUp = true →
    exec (.barAccessRefused r) s =
      .next { s with out := match r with
        | .tooLong | .memDisabled => s.out ++ [.unsupported]
        | .partialWrite | .poisonedWrite => s.out })) ∧
  (∀ (off : BitVec 12) (s : State), s.mainUp = true → s.faults.fatalWindow = none →
    (∃ t, exec (.regParity off false) s = .next t ∧ t.slots = s.slots ∧ t.jobs = s.jobs ∧ t.nv = s.nv ∧
      t.faults = s.faults ∧
      (bit s.regs.errFirst 31 = false → t.regs.errFirst = 0x80000A05)) ∧
    (∃ t, exec (.regParity off true) s = .next t ∧
      (t.faults.fatalWindow = some 0x0F03 ∨ t.regs.time = 0)))


/-! ## The host registers (11) -/

/-- A write of a ring's size register, accepted while ENABLE reads 0 and no device check runs, stores the size and sets
both indices of that ring to 0; while ENABLE reads 1 it is ignored, and during a device check it is dropped with
WR_DROPPED (R161, R313, R342). -/
def Obligations.RingSizeWriteRestartsTheRing : Prop :=
  ∀ (ring : RingName) (v : W32) (s : State), s.hostReach →
    (s.deviceCheckRuns = false → s.regs.enable = false →
      exec (.ringSizeWrite ring v) s = .next (match ring with
        | .tb => { s with regs.tbSize := v &&& 0x1FFFF, regs.tbTail := 0, regs.tbHead := 0 }
        | .cq => { s with regs.cqSize := v &&& 0x1FFFF, regs.cqHead := 0, regs.cqTail := 0 }
        | .eq => { s with regs.eqSize := v &&& 0x1FFFF, regs.eqHead := 0, regs.eqTail := 0 })) ∧
    (s.deviceCheckRuns = false → s.regs.enable = true → exec (.ringSizeWrite ring v) s = .next s) ∧
    (s.deviceCheckRuns = true →
      exec (.ringSizeWrite ring v) s = .next { s with regs.cfgCheck := s.regs.cfgCheck ||| 8 })

/-- SLOT_SEL reads its slot in bits [5:0] and 0 above them, 0 at reset, and takes any slot number; a write with a
reserved bit set is ignored as a whole (R344). -/
def Obligations.SlotSelIgnoresReservedBits : Prop :=
  State.reset.slotSelShown 0 ∧
  ∀ (v : W32) (s : State), s.hostReach →
    s.slotSelShown s.regs.slotSel ∧
    (∀ h : v.toNat < 64, exec (.slotSelWrite v) s = .next { s with regs.slotSel := ⟨v.toNat, h⟩ }) ∧
    (64 ≤ v.toNat → exec (.slotSelWrite v) s = .next s)

/-- An index write inside its range is stored; one outside keeps the register and raises TB_BAD_TAIL, CQ_BAD_HEAD or
EQ_BAD_HEAD. A stored TB_TAIL ends a fetch stall; a stored EQ_HEAD lets a waiting EQ_OVERFLOW go out (R164, R166,
R323, R341). The plain register writes and reads of the host: each writes exactly its register (R196, R282, R283,
R313, R331, R338, R343, R351 to R353, R359). Where the spec leaves the reading open this rests on the model's
choices, log entry 26. -/
def Obligations.RegisterAccessesAreJudged : Prop :=
  (∀ (v : W32) (s : State), s.hostReach →
    (v.toNat < s.regs.tbSize.toNat →
      exec (.tbTailWrite v) s =
        .next { s with regs.tbTail := v, regs.fetchStalled := false, regs.fetchFails := 0 }) ∧
    (s.regs.tbSize.toNat ≤ v.toNat →
      exec (.tbTailWrite v) s = .next (raise 0x0201 none v.toNat s)) ∧
    (headOk v s.regs.cqHead s.regs.cqTail s.regs.cqSize = true →
      exec (.cqHeadWrite v) s = .next { s with regs.cqHead := v }) ∧
    (headOk v s.regs.cqHead s.regs.cqTail s.regs.cqSize = false →
      exec (.cqHeadWrite v) s = .next (raise 0x0202 none v.toNat s)) ∧
    (headOk v s.regs.eqHead s.regs.eqTail s.regs.eqSize = true →
      ∃ t, exec (.eqHeadWrite v) s = .next t ∧ t.regs.eqHead = v ∧
        t = { s with regs.eqHead := v, regs.eqTail := t.regs.eqTail, regs.irqStatus := t.regs.irqStatus,
                     regs.msixPending := t.regs.msixPending, barker := t.barker, out := t.out }) ∧
    (headOk v s.regs.eqHead s.regs.eqTail s.regs.eqSize = false →
      exec (.eqHeadWrite v) s = .next (raise 0x0203 none v.toNat s))) ∧
  (∀ (s : State), s.hostReach →
    (∀ p, exec (.gctrlPause p) s = .next { s with regs.pause := p }) ∧
    (∀ v, exec (.irqStatusWrite v) s = .next { s with regs.irqStatus := s.regs.irqStatus &&& ~~~v }) ∧
    (∀ v, ∃ t, exec (.irqMaskWrite v) s = .next t ∧
      t = { s with regs.irqMask := v, regs.msixPending := t.regs.msixPending, out := t.out }) ∧
    exec .errFirstClear s =
      .next { s with regs.errFirst := 0, regs.errInfo := 0,
                     regs.errCount := s.regs.errCount &&& 0xFFFF0000 } ∧
    exec .violClear s = .next { s with regs.violInfo := 0, regs.violAddr := 0 } ∧
    (∀ v, exec (.mboxToSbWrite v) s = .next { s with regs.mboxTo := v, regs.mboxToPending := true }) ∧
    exec .mboxFromSbRead s =
      .next { s with regs.mboxFromFull := false, out := s.out ++ [.barData s.regs.mboxFrom] } ∧
    exec (.pairLowRead .time) s =
      .next { s with regs.timeHold := hi32 s.regs.time, out := s.out ++ [.barData (lo32 s.regs.time)] } ∧
    exec (.pairLowRead .present) s =
      .next { s with regs.presentHold := hi32 s.presentBits, out := s.out ++ [.barData (lo32 s.presentBits)] } ∧
    exec (.pairLowRead .fenced) s =
      .next { s with regs.fencedHold := hi32 s.fencedBits, out := s.out ++ [.barData (lo32 s.fencedBits)] } ∧
    (∀ v, s.deviceCheckRuns = false → ∃ t, exec (.registerWrite 0x088 v) s = .next t ∧
      t = { s with regs.schedPolicy := t.regs.schedPolicy } ∧
      t.regs.schedPolicy &&& 0x00FFFF0F = v &&& 0x00FFFF0F ∧
      t.regs.schedPolicy &&& 0xFF0000F0 = s.regs.schedPolicy &&& 0xFF0000F0) ∧
    (∀ v, s.checkRunning = false → (s.regs.enable = false ∨ budgetOk v = true) →
      ∃ t, exec (.powerBudgetWrite v) s = .next t ∧
        t = { s with regs.powerBudget := t.regs.powerBudget, requests := t.requests } ∧
        t.regs.powerBudget &&& 0xFFFF01F7 = v &&& 0xFFFF01F7 ∧
        t.regs.powerBudget &&& 0x0000FE08 = s.regs.powerBudget &&& 0x0000FE08 ∧
        t.requests.map (fun q => (q.slot, q.cls)) = s.requests.map (fun q => (q.slot, q.cls))))


/-! ## Checks, the slot window and the wind-down (10, 11) -/

/-- The device check runs from a write of 1 to ENABLE to its report: the write starts it and changes nothing else; the
report is the first failed condition of R312's order with ENABLE left 0, or PASS with ENABLE 1; either way the CFG
interrupt fires. A second write while a check runs is dropped with WR_DROPPED (R308, R310, R313, R320). The slot
check runs for the slot in SLOT_SEL: its write starts it, its end reports the first failed condition with ENABLE as
it was, or PASS with ENABLE 1. A comparator that fails under code 0x1A also fences the unpowered slot (R305, R308,
R311, R313). A report's STATUS field: 0b10 PASS, 0b11 FAIL with its code, kind and index in their fields (R308,
R309). -/
def Obligations.ChecksEnableOrReport : Prop :=
  ((∀ s : State, s.hostReach →
    (s.checkRunning = false → s.regs.enable = false →
      exec .deviceCheck s = .next { s with regs.cfgCheck := 1, regs.checkSlot := none }) ∧
    (s.checkRunning = true →
      exec .deviceCheck s = .next { s with regs.cfgCheck := s.regs.cfgCheck ||| 8 })) ∧
  (∀ s : State, s.mainUp = true → s.checkRunning = true → s.regs.checkSlot = none →
    (∀ code kind idx rest, s.deviceFails = (code, kind, idx) :: rest →
      ∃ t, exec .deviceCheckEnd s = .next t ∧ t.regs.enable = s.regs.enable ∧ t.slots = s.slots ∧
        t.rings = s.rings ∧ bit t.regs.irqStatus 3 = true ∧
        t.regs.cfgCheck = checkReport s.regs.cfgCheck (some (code, kind, idx))) ∧
    (s.deviceFails = [] →
      ∃ t, exec .deviceCheckEnd s = .next t ∧ t.regs.enable = true ∧ t.slots = s.slots ∧
        bit t.regs.irqStatus 3 = true ∧ t.regs.cfgCheck = checkReport s.regs.cfgCheck none ∧
        t.barker.held = []))) ∧
  ((∀ s : State, s.hostReach → s.checkRunning = false → (s.slot s.regs.slotSel).enable = false →
    exec .slotEnable s =
      .next { s with regs.cfgCheck := 5, regs.checkSlot := some s.regs.slotSel }) ∧
  (∀ (n : SlotId) (s : State), s.mainUp = true → s.checkRunning = true → s.regs.checkSlot = some n →
    s.side.slotOffWait.contains n = false →
    (∀ (f : Option (CompId × Nat)) (e : CheckFail), s.slotFail n = some e →
      ∃ t, exec (.slotCheckEnd f) s = .next t ∧ t.slots = s.slots ∧ t.regs.checkSlot = none ∧
        bit t.regs.irqStatus 3 = true ∧ t.regs.cfgCheck = checkReport s.regs.cfgCheck (some e)) ∧
    (s.slotFail n = none →
      ∃ t, exec (.slotCheckEnd none) s = .next t ∧ t.slot n = { s.slot n with enable := true } ∧
        (∀ m, m ≠ n → t.slot m = s.slot m) ∧ t.regs.checkSlot = none ∧
        t.regs.cfgCheck = checkReport s.regs.cfgCheck none) ∧
    (∀ (c : CompId) (k : Nat), s.slotFail n = none → (s.slot n).phase = .off → (s.slot n).job = none →
      ∃ t, exec (.slotCheckEnd (some (c, k))) s = .next t ∧ (t.slot n).phase = .fenced ∧
        (t.slot n).fenceSrc = .comparator ∧ (t.slot n).enable = (s.slot n).enable ∧
        t.regs.cfgCheck = checkReport s.regs.cfgCheck (some (0x1A, 6, n.val * 64 + c.code))))) ∧
  (∀ (old : W32) (code kind idx : Nat), code < 256 → kind < 16 → idx < 4096 →
    field (checkReport old none) 0 2 = 2 ∧
    field (checkReport old (some (code, kind, idx))) 0 2 = 3 ∧
    field (checkReport old (some (code, kind, idx))) 8 8 = code ∧
    field (checkReport old (some (code, kind, idx))) 16 4 = kind ∧
    field (checkReport old (some (code, kind, idx))) 20 12 = idx ∧
    (∀ f, bit (checkReport old f) 3 = bit old 3))

/-- Clearing ENABLE takes the slot out of placement at once; a powered slot that no job holds deactivates normally with
cause DISABLE, a waiting one leaves the admission queue (R47, R55, R347). SLOT_CTRL.DEACTIVATE, for a slot that no
job holds: a powered slot deactivates normally with cause HOST, RST falling first; a waiting one leaves the queue; a
state without VCC is left as it is (R53, R72, R74, R347). SLOT_CTRL.CLEAR lifts QUARANTINED, UNSTABLE and a contact
fence, and nothing else (R52, R72, R74). -/
def Obligations.SlotControlActsByState : Prop :=
  (∀ (s : State), s.hostReach → (s.slot s.regs.slotSel).enable = true → (s.slot s.regs.slotSel).job = none →
    ∃ t, exec .slotDisable s = .next t ∧ (t.slot s.regs.slotSel).enable = false ∧
      (∀ m, m ≠ s.regs.slotSel → t.slot m = s.slot m) ∧
      ((s.slot s.regs.slotSel).phase.live = true →
        (t.slot s.regs.slotSel).phase = .deactivating ∧ (t.slot s.regs.slotSel).cause = .disable ∧
        (t.slot s.regs.slotSel).rst = false) ∧
      ((s.slot s.regs.slotSel).phase = .powerWait →
        (t.slot s.regs.slotSel).phase = .off ∧ ∀ q ∈ t.requests, q.slot ≠ s.regs.slotSel)) ∧
  (∀ (s : State), s.hostReach → (s.slot s.regs.slotSel).job = none →
    ((s.slot s.regs.slotSel).phase.live = true →
      ∃ t, exec .slotDeactivate s = .next t ∧
        t = { s with slots := t.slots, rings := t.rings, tight := t.tight } ∧
        (t.slot s.regs.slotSel).phase = .deactivating ∧ (t.slot s.regs.slotSel).cause = .host ∧
        (t.slot s.regs.slotSel).rst = false ∧ (t.slot s.regs.slotSel).deactReq = true ∧
        ∀ m, m ≠ s.regs.slotSel → t.slot m = s.slot m) ∧
    ((s.slot s.regs.slotSel).phase = .powerWait →
      ∃ t, exec .slotDeactivate s = .next t ∧ t = { s with slots := t.slots, requests := t.requests } ∧
        (t.slot s.regs.slotSel).phase = .off ∧ t.requests = s.requests.filter (fun q => q.slot != s.regs.slotSel) ∧
        ∀ m, m ≠ s.regs.slotSel → t.slot m = s.slot m) ∧
    ((s.slot s.regs.slotSel).phase.powered = false → (s.slot s.regs.slotSel).phase ≠ .powerWait →
      exec .slotDeactivate s = .next s)) ∧
  (∀ (s : State), s.hostReach →
    ((s.slot s.regs.slotSel).phase = .quarantined ∨ (s.slot s.regs.slotSel).phase = .unstable ∨
      ((s.slot s.regs.slotSel).phase = .fenced ∧ (s.slot s.regs.slotSel).fenceSrc = .contact) →
      ∃ t, exec .slotClear s = .next t ∧
        t = { s with slots := t.slots, barker := t.barker, tight := t.tight } ∧
        (t.slot s.regs.slotSel).phase = .off ∧ (t.slot s.regs.slotSel).failCount = 0 ∧
        (t.slot s.regs.slotSel).enable = (s.slot s.regs.slotSel).enable ∧
        ∀ m, m ≠ s.regs.slotSel → t.slot m = s.slot m) ∧
    ((s.slot s.regs.slotSel).phase = .fenced → (s.slot s.regs.slotSel).fenceSrc ≠ .contact →
      exec .slotClear s = .next s))

/-- A write of SLOT_CFG_A or SLOT_CFG_B of a disabled slot stores its writable bits and keeps the reserved ones; of an
enabled slot, one that would fail a code of 0x11 to 0x17 is ignored as a whole and raises CFG_WRITE_REJECTED (R313,
R314, R331, R345, R346). -/
def Obligations.SlotCfgWriteStoresOrRejects : Prop :=
  ∀ (v : W32) (s : State), s.hostReach → s.checkRunning = false →
    ((s.slot s.regs.slotSel).enable = false →
      (∃ t, exec (.slotCfgWrite false v) s = .next t ∧ t = { s with slots := t.slots } ∧
        (t.slot s.regs.slotSel).cfgA = (v &&& 0x0FFFFFF7) ||| ((s.slot s.regs.slotSel).cfgA &&& 0xF0000008) ∧
        (t.slot s.regs.slotSel).cfgB = (s.slot s.regs.slotSel).cfgB ∧
        (t.slot s.regs.slotSel).phase = (s.slot s.regs.slotSel).phase ∧
        ∀ m, m ≠ s.regs.slotSel → t.slot m = s.slot m) ∧
      (∃ t, exec (.slotCfgWrite true v) s = .next t ∧ t = { s with slots := t.slots } ∧
        (t.slot s.regs.slotSel).cfgB = (v &&& 0x00FF077F) ||| ((s.slot s.regs.slotSel).cfgB &&& 0xFF00F880) ∧
        (t.slot s.regs.slotSel).cfgA = (s.slot s.regs.slotSel).cfgA ∧
        ∀ m, m ≠ s.regs.slotSel → t.slot m = s.slot m)) ∧
    (∀ c, (s.slot s.regs.slotSel).enable = true →
      cfgFault (maskWrite cfgAWritable (s.slot s.regs.slotSel).cfgA v) (s.slot s.regs.slotSel).cfgB = some c →
      exec (.slotCfgWrite false v) s = .next (raise 0x0A03 (some s.regs.slotSel) c s))

/-- The wind-down: from its write no QUEUED or PLACED job is left, no powered slot that no job holds stays powered up,
and ENABLE keeps reading 1; at its end ENABLE, READY and WIND_DOWN read 0, every converter is off and IRQ_STATUS bit
10 is set (R316). -/
def Obligations.WindDownEmptiesTheDevice : Prop :=
  (∀ s : State, s.hostReach → s.regs.enable = true → s.regs.windDown = false →
    ∃ t, exec .windDown s = .next t ∧ t.regs.windDown = true ∧ t.regs.enable = true ∧
      (∀ j ∈ t.jobs, j.phase = .started ∨ j.phase = .resolving) ∧
      (∀ n, (t.slot n).job = none → (t.slot n).phase.live = false)) ∧
  (∀ s : State, s.mainUp = true → s.regs.windDown = true → s.windDownDone = true →
    ∃ t, exec .windDownEnd s = .next t ∧
      t = { s with regs.enable := false, regs.windDown := false, regs.ready := false,
                   regs.irqStatus := t.regs.irqStatus, regs.msixPending := t.regs.msixPending,
                   rings := t.rings, out := t.out } ∧
      bit t.regs.irqStatus 10 = true ∧ ∀ r, (t.ring r).phase = .off)


/-! ## Self-test and firmware (16, 17) -/

/-- A BIST start by the host, when no run exists and the life cycle lets it through: allowed, the run exists with its
TYPE, SCOPE and SOURCE and START reads 1; not allowed, it ends at once NOT_RUN with the BIST interrupt. A start
while a run exists is ignored as a whole; one in FENCED_SECURE or TERMINATED is refused and never reaches the
controller (R354, R355, R415, R467). The ring run goes on: once the ring is drained its OFF slots enter BIST and its
converter stops, the excluded slots and the other rings' keeping their state; a drain that takes too long ends
NOT_RUN (R468, R469). -/
def Obligations.BistRunsStartAndAdvance : Prop :=
  (∀ (memory : Bool) (scope : BitVec 4) (s : State), s.mainUp = true →
    (s.hostLocked = false → s.bist.run = none →
      ∃ t, exec (if memory then .memoryBist scope else .logicBist scope) s = .next t ∧
        t.bist.type = memory ∧ t.bist.scope = scope ∧ t.bist.source = false ∧
        (s.bistAllowed memory false scope = true →
          t.bist.run = some { scope := scope, memory := memory, testing := decide (8 ≤ scope.toNat),
                              pass := if memory then 1 else 3, unrepaired := false } ∧
          bit t.bistCtrl 0 = true) ∧
        (s.bistAllowed memory false scope = false →
          t.bist.run = none ∧ t.bist.result = 3 ∧ bit t.regs.irqStatus 7 = true)) ∧
    (s.hostLocked = false → s.bist.run ≠ none →
      exec (if memory then .memoryBist scope else .logicBist scope) s = .next s) ∧
    (s.hostLocked = true →
      ∃ t, exec (if memory then .memoryBist scope else .logicBist scope) s = .next t ∧ t.bist = s.bist ∧
        ∃ e ∈ t.barker.queue, e.code = 0x0B05)) ∧
  ((∀ (r : RingId) (s : State), s.mainUp = true → s.draining = some r → s.ringDrained r = true →
    ∃ t, exec .bistRingDrained s = .next t ∧ (t.ring r).phase = .off ∧ t.draining = none ∧
      (∀ n, ringOf n = r → (s.slot n).phase = .off → (t.slot n).phase = .bist) ∧
      (∀ n, ringOf n = r → (s.slot n).phase ≠ .off → t.slot n = s.slot n) ∧
      (∀ n, ringOf n ≠ r → t.slot n = s.slot n) ∧ (∀ q, q ≠ r → t.ring q = s.ring q)) ∧
  (∀ (s : State), s.mainUp = true → s.draining ≠ none →
    ∃ t, exec .bistDrainTimeout s = .next t ∧ t.bist.run = none ∧ t.bist.result = 3 ∧
      bit t.regs.irqStatus 7 = true ∧ t.slots = s.slots ∧ t.rings = s.rings))

/-- The passes of a memory run: the first counts its failing addresses and maps the spares; a failure no spare covers is
left unrepaired; the second pass adds nothing to the repair table (R473, R474). The end of a run: a signature equal
to the option area's with nothing unrepaired is PASS, a run with a failure left unrepaired is FAIL; SIG holds the
signature, the run is gone, START reads 0 and the BIST interrupt is set. A ring run that passed returns its slots
from BIST; a domain run of the BANK, AON and LINK scopes writes the same result (R354, R355, R468, R471, R472).
Where the spec leaves the reading open this rests on the model's choices, log entry 30. -/
def Obligations.BistRunsRepairAndEnd : Prop :=
  (∀ (fails : List FailAddr) (b : BistRun) (s : State), s.mainUp = true → s.bist.run = some b →
    b.memory = true → b.testing = true →
    (b.pass = 1 →
      ∃ t, exec (.bistPassEnd fails) s = .next t ∧ t.bist.failAddrs = min 255 fails.length ∧
        t.bist.repaired = fails.any (·.spare) ∧ t.standby.bistFails = fails.map (fun f => (f, f.spare)) ∧
        (∀ f ∈ fails, f.spare = true → (f.array, f.row) ∈ t.nv.repairs) ∧
        (∀ k ∈ s.nv.repairs, k ∈ t.nv.repairs) ∧
        t.bist.run = some { b with pass := if fails = [] ∨ (∃ f ∈ fails, f.spare = false) then 3 else 2,
                                   unrepaired := decide (∃ f ∈ fails, f.spare = false) } ∧
        t.slots = s.slots ∧ t.regs = s.regs) ∧
    (b.pass = 2 →
      ∃ t, exec (.bistPassEnd fails) s = .next t ∧ t.nv = s.nv ∧
        t.bist.run = some { b with pass := 3, unrepaired := decide (fails ≠ []) })) ∧
  ((∀ (b : BistRun) (r : RingId) (s : State), s.mainUp = true → s.bist.run = some b → b.testing = true →
    b.pass = 3 → scopeRing b.scope = some r → b.unrepaired = false →
    ∃ t, exec (.bistRunEnd (Config.bistSignature b.memory b.scope) none []) s = .next t ∧
      t.bist.run = none ∧ t.bist.result = 1 ∧ t.bist.sig = Config.bistSignature b.memory b.scope ∧
      bit t.regs.irqStatus 7 = true ∧ (t.ring r).fenced = (s.ring r).fenced ∧
      (∀ n, ringOf n = r → (t.slot n).phase ≠ .bist) ∧ (∀ n, ringOf n ≠ r → t.slot n = s.slot n)) ∧
  (∀ (b : BistRun) (sig : W64) (s : State), s.mainUp = true → s.bist.run = some b → b.testing = true →
    b.pass = 3 → scopeRing b.scope = none → b.scope ≠ 0xA →
    (b.unrepaired = false → sig = Config.bistSignature b.memory b.scope →
      ∃ t, exec (.bistDomainEnd sig) s = .next t ∧ t.bist.run = none ∧ t.bist.result = 1 ∧ t.bist.sig = sig ∧
        bit t.regs.irqStatus 7 = true ∧ t.slots = s.slots ∧ t.faults = s.faults) ∧
    (b.unrepaired = true → b.memory = false →
      ∃ t, exec (.bistDomainEnd sig) s = .next t ∧ t.bist.run = none ∧ t.bist.result = 2 ∧ t.bist.sig = sig ∧
        t.faults = s.faults ∧ (bit s.regs.errFirst 31 = false → s.faults.fatalWindow = none →
          t.regs.errFirst = 0x80000F0A))))

/-- The update operations behind a write that sets GO with KEY 0xA5. One that fails its condition ends REFUSED and
changes nothing of the banks; a wrong KEY, or GO already set, is ignored as a whole (R358, R415, R486, R488). The
erase machine and the confirmation: 64 verified sectors leave the bank ERASED with EIP and VALID clear; an aborted
one leaves EIP set and the bank EMPTY, ending a waiting PREPARE with ERASE_FAIL; a confirmation ends the trial,
raises the SVN floor to the image's SVN, and the floor never falls (R486 to R488, R491, R492). FW_WRITE programs a
chunk at the next offset and accepts a repeat of the last one without effect; any other is refused with 0x0F0B and
changes nothing of the bank (R489). Where the spec leaves the reading open this rests on the model's choices, log
entry 31. -/
def Obligations.FirmwareUpdateActs : Prop :=
  (∀ (s : State), s.mainUp = true → s.power.loader = false → s.hostLocked = false → s.fw.go = false →
    (s.sec.changing = none → s.nv.confirmed = true →
      ∃ t, exec (.fwPrepare 0xA5) s = .next t ∧ t.fw.standby = .erasing ∧ t.fw.busy = true ∧ t.fw.go = true ∧
        t.nv = s.nv.setBank s.standbyB (fun b => { b with eip := true, image := none }) ∧
        t.slots = s.slots ∧ t.regs.barrier = s.regs.barrier ++ [.firmware]) ∧
    (s.nv.confirmed = false →
      ∃ t, exec (.fwPrepare 0xA5) s = .next t ∧ t.nv = s.nv ∧ t.fw.standby = s.fw.standby ∧ t.fw.go = false ∧
        t.fw.result = 4 ∧ t.fw.lastOp = 1 ∧ bit t.regs.irqStatus 6 = true) ∧
    (s.fw.standby = .loading → s.sec.changing = none →
      ∃ t, exec (.fwCommit 0xA5) s = .next t ∧ t.fw.go = false ∧ t.fw.lastOp = 2 ∧ bit t.regs.irqStatus 6 = true ∧
        (imagePasses s.nv.svnFloor { valid := true, eip := false, image := some (readImage s.fw.loaded) } = true →
          t.fw.result = 0 ∧ t.fw.standby = .valid ∧ (t.nv.fwBank s.standbyB).valid = true) ∧
        (imagePasses s.nv.svnFloor { valid := true, eip := false, image := some (readImage s.fw.loaded) } = false →
          t.fw.result = 1 ∧ t.fw.standby = .loaded ∧ t.nv = s.nv)) ∧
    (s.fw.standby ≠ .loading →
      ∃ t, exec (.fwCommit 0xA5) s = .next t ∧ t.nv = s.nv ∧ t.fw.result = 4 ∧ t.fw.lastOp = 2) ∧
    (s.fw.standby = .valid → s.regs.enable = false → s.sec.changing = none →
      ∃ t, exec (.fwSwitch 0xA5) s = .next t ∧
        exec (.mainSideReset .fwSwitch s.power.board)
          { s with nv.nextB := s.standbyB, nv.trial := 3, nv.confirmed := false } = .next t) ∧
    (s.regs.enable = true →
      ∃ t, exec (.fwSwitch 0xA5) s = .next t ∧ t.nv = s.nv ∧ t.fw.result = 4 ∧ t.fw.lastOp = 3) ∧
    (∃ t, exec (.fwAbort 0xA5) s = .next t ∧ t.fw.standby = .empty ∧ t.fw.busy = false ∧ t.fw.go = false ∧
      t.fw.result = 5 ∧ t.fw.lastOp = 4 ∧ (t.nv.fwBank s.standbyB).valid = false ∧ bit t.regs.irqStatus 6 = true) ∧
    (∀ key, key ≠ 0xA5 → exec (.fwPrepare key) s = .next s ∧ exec (.fwCommit key) s = .next s ∧
      exec (.fwSwitch key) s = .next s ∧ exec (.fwAbort key) s = .next s)) ∧
  ((∀ (s : State), s.erasing = true →
    (s.fw.sector < 63 → exec .sectorEraseDone s = .next { s with fw.sector := s.fw.sector + 1 }) ∧
    (63 ≤ s.fw.sector →
      ∃ t, exec .sectorEraseDone s = .next t ∧ t.fw.standby = .erased ∧ t.fw.busy = false ∧
        t.nv.fwBank s.standbyB = { valid := false, eip := false, image := none } ∧
        (s.fw.go = true → t.fw.go = false ∧ t.fw.result = 0 ∧ t.fw.lastOp = 1 ∧ bit t.regs.irqStatus 6 = true)) ∧
    (∃ t, exec .sectorEraseAbort s = .next t ∧ t.fw.standby = .empty ∧ t.fw.busy = false ∧ t.nv = s.nv ∧
      (s.fw.go = true → t.fw.go = false ∧ t.fw.result = 2 ∧ bit t.regs.irqStatus 6 = true))) ∧
  (∀ (i : FwImage) (s : State), s.booted = true → s.nv.confirmed = false → s.power.loader = false →
    (s.nv.fwBank s.fw.activeB).image = some i →
    ∃ t, exec .fwConfirmed s = .next t ∧ t = { s with nv := t.nv, barker := t.barker } ∧
      t.nv.confirmed = true ∧ t.nv.trial = 0 ∧
      t.nv.svnFloor.toNat = max s.nv.svnFloor.toNat i.svn.toNat ∧
      t.nv.bankA = s.nv.bankA ∧ t.nv.bankB = s.nv.bankB ∧
      ∃ e ∈ t.barker.queue, e.code = 0x1103)) ∧
  (∀ (id : JobId) (param : List Byte) (j : Job) (s : State), s.runnable id 6 0x50 j → 1 ≤ j.paramLen →
    j.paramLen ≤ 65536 →
    (s.fw.go = false → (s.fw.standby = .erased ∨ s.fw.standby = .loading) →
      j.ticket.arg.toNat = s.fw.loaded.length → j.ticket.arg.toNat + (j.data param).length ≤ 4194304 →
      s.fw.lastWrite ≠ some (j.ticket.arg.toNat, (j.data param).length) →
      ∃ t, exec (.fwWrite id param) s = .next t ∧ s.jobEnds t j .done 0 [] ∧
        t.fw.loaded = s.fw.loaded ++ j.data param ∧ t.fw.standby = .loading ∧ t.nv = s.nv) ∧
    (s.fw.go = false → (s.fw.standby = .erased ∨ s.fw.standby = .loading) →
      j.ticket.arg.toNat + (j.data param).length ≤ 4194304 →
      s.fw.lastWrite = some (j.ticket.arg.toNat, (j.data param).length) →
      ∃ t, exec (.fwWrite id param) s = .next t ∧ s.jobEnds t j .done 0 [] ∧ t.fw = s.fw) ∧
    (s.fw.go = true ∨ (s.fw.standby ≠ .erased ∧ s.fw.standby ≠ .loading) →
      ∃ t, exec (.fwWrite id param) s = .next t ∧ s.jobEnds t j .failed 0x0F0B j.result ∧ t.fw = s.fw))


/-! ## Tickets (05, 06, 07, 13) -/

/-- A fetch takes tickets in order: one that passes R172's checks joins the queue as a QUEUED job of generation 0, one
that fails ends at once with the first check's status and error, and TB_HEAD moves past each. A failed fetch read
takes none and leaves TB_HEAD; the third failure in a row stops fetching (R14, R163, R171, R323). -/
def Obligations.TicketFetchQueuesOrRejects : Prop :=
  (∀ (tk : Ticket) (s : State), s.canFetch = true →
    (s.ticketFault tk = none →
      ∃ t, exec (.ticketFetch [tk]) s = .next t ∧ t.regs.tbHead = nextIndex s.regs.tbHead s.regs.tbSize ∧
        t.closing = s.closing ∧ t.slots = s.slots ∧
        ∃ j, t.jobs = s.jobs ++ [j] ∧ j.ticket = tk ∧ j.phase = .queued ∧ j.slot = none ∧ j.gen = 0 ∧
          j.lastSlot = 0xFF ∧ j.fetched = s.regs.time) ∧
    (∀ st err, s.ticketFault tk = some (st, err) → st ≠ .done →
      ∃ t, exec (.ticketFetch [tk]) s = .next t ∧ t.regs.tbHead = nextIndex s.regs.tbHead s.regs.tbSize ∧
        t.jobs = s.jobs ∧ t.slots = s.slots ∧
        ∃ c, t.closing = s.closing ++ [c] ∧ c.jobId = tk.jobId ∧ c.status = st ∧ c.error = err ∧
          c.slot = 0xFF)) ∧
  (∀ (s : State), s.canFetch = true →
    ∃ t, exec .fetchRetry s = .next t ∧ t.regs.tbHead = s.regs.tbHead ∧ t.jobs = s.jobs ∧
      (s.regs.fetchFails < 2 → t.regs.fetchFails = s.regs.fetchFails + 1 ∧ t.regs.fetchStalled = false) ∧
      (2 ≤ s.regs.fetchFails → t.regs.fetchStalled = true ∧ ∃ e ∈ t.barker.queue, e.code = 0x0A01))

/-- A placed ISSUE or SAM_OP job is taken up by the profile engine with at most 4096 bytes of its parameter data; the
job keeps its slot, its generation and its ticket, and nothing but that job changes (R168, R206). SLOT_ADMIN
tickets, placed on their slot in time: ACTIVATE asks for power and starts, or fails SLOT_STATE when R47 refuses;
DEACTIVATE takes a powered slot down normally with cause HOST; INVENTORY stores the key-set list and ends DONE (R47,
R55, R168, R172, R187). Where the spec leaves the reading open this rests on the model's choices, log entries 6 and
33. -/
def Obligations.SlotTicketsAreTakenUp : Prop :=
  (∀ (id : JobId) (param : List Byte) (j : Job) (s : State), s.booted = true → s.untaken id = some j →
    (j.ticket.isIssue = true →
      ∃ t, exec (.issue id param) s = .next t ∧ t = { s with jobs := t.jobs } ∧
        ∃ j', t.findJob id = some j' ∧ j'.run.map (·.taken) = some true ∧
          j'.run.map (·.param) = some ((j.data param).take 4096) ∧ j'.slot = j.slot ∧ j'.gen = j.gen ∧
          j'.phase = .placed ∧ j'.ticket = j.ticket) ∧
    (j.ticket.isSam = true →
      ∃ t, exec (.samOp id param) s = .next t ∧ t = { s with jobs := t.jobs } ∧
        ∃ j', t.findJob id = some j' ∧ j'.run.map (·.taken) = some true ∧
          j'.run.map (·.param) = some ((j.data param).take 4096) ∧ j'.slot = j.slot ∧ j'.phase = .placed)) ∧
  (∀ (id : JobId) (j : Job) (n : SlotId) (s : State), s.booted = true → s.faults.fatalWindow = none →
    s.findJob id = some j → j.ticket.isSlotAdmin = true → j.phase = .placed → j.slot = some n →
    s.deadlinePassed j = false → (s.slot n).job = some id →
    (j.ticket.op = 1 → s.canActivate n = true → (s.slot n).check = .idle →
      ∀ k, (s.slot n).firstClass = some k →
      ∃ t, exec (.activate id) s = .next t ∧ (t.slot n).phase = .powerWait ∧ (t.slot n).cls = some k ∧
        (∃ q ∈ t.requests, q.slot = n ∧ q.cls = k ∧ q.since = s.regs.time) ∧
        (t.findJob id).map (·.phase) = some .started ∧ ∀ m, m ≠ n → t.slot m = s.slot m) ∧
    (j.ticket.op = 1 → s.canActivate n = false →
      ∃ t, exec (.activate id) s = .next t ∧ s.jobEnds t j .failed 0x020E j.result) ∧
    (j.ticket.op = 2 → (s.slot n).phase.live = true →
      ∃ t, exec (.deactivate id) s = .next t ∧ (t.slot n).phase = .deactivating ∧ (t.slot n).cause = .host ∧
        (t.findJob id).map (·.phase) = some .started ∧ t.closing = s.closing ∧
        ∀ m, m ≠ n → t.slot m = s.slot m) ∧
    (∀ param, j.ticket.op = 4 → j.paramLen % 4 = 0 → 4 ≤ j.paramLen → j.paramLen ≤ 256 →
      ∃ t, exec (.inventory id param) s = .next t ∧ s.jobEnds t j .done 0 [] ∧
        (t.slot n).inventory = keysetIds (j.data param)))

/-- FORMAT lays out an empty bank, once: no record, profile, key or journal entry, every counter unbound at 1, a new
media key and a first RPP write; on a formatted bank it fails with 0x0702 and the bank stays (R234, R243, R255,
R257). BANK_STATUS reports and changes nothing of the bank; COUNTER_RELEASE unbinds an index that nothing uses,
keeping its next value and its RESERVED_TOP, with an RPP write and one COUNTER_RELEASE audit entry, and fails with
COUNTER_BUSY while its handle is held (R243, R255, R257, R260). The layout of the BANK_STATUS result is a free value
of the model (the manual gives none). Where the spec leaves the reading open this rests on the model's choices, log
entries 36 and 104. -/
def Obligations.BankTicketsLayOutAndReport : Prop :=
  (∀ (id : JobId) (p : FormatParams) (j : Job) (s : State), s.runnable id 4 1 j →
    (s.bank.formatted = false → 64 ≤ p.auditBlocksPerTarget → p.retryLevels ≤ 7 →
      ∃ t, exec (.format id p) s = .next t ∧ s.jobEnds t j .done 0 [] ∧ t.bank.formatted = true ∧
        t.bank.fmt = some p ∧ t.bank.records = [] ∧ t.bank.profiles = [] ∧ t.bank.keys = [] ∧
        t.bank.journal = [] ∧ t.bank.audit = [] ∧ t.bank.mediaKey = true ∧ t.nv.wcnt = bumpWcnt s.nv.wcnt ∧
        (∀ i : Fin 256, t.bank.counters[i.val].next = 1 ∧ t.bank.counters[i.val].bound = false)) ∧
    (s.bank.formatted = true →
      ∃ t, exec (.format id p) s = .next t ∧ s.jobEnds t j .failed 0x0702 j.result ∧
        t = { s with jobs := t.jobs, closing := t.closing, barker := t.barker })) ∧
  ((∀ (id : JobId) (j : Job) (s : State), s.runnable id 4 0xB j → s.bank.formatted = true → j.paramLen = 0 →
    ∃ t, exec (.bankStatus id) s = .next t ∧
      s.jobEnds t j .done 0 (Config.bankStatusLayout (bankFigures s)) ∧
      t = { s with jobs := t.jobs, closing := t.closing, barker := t.barker }) ∧
  (∀ (id : JobId) (j : Job) (i : Fin 256) (s : State), s.runnable id 4 0xC j → s.bank.formatted = true →
    j.paramLen = 0 → j.ticket.arg.toNat = i.val → i.val ≠ 0 → s.bank.counters[i.val].bound = true →
    (s.bank.keys.any (fun k => k.handle == s.bank.counters[i.val].handle) = false →
      s.counterInUse i.val s.bank.counters[i.val].handle = false →
      ∃ t, exec (.counterRelease id) s = .next t ∧ s.jobEnds t j .done 0 [] ∧
        t.bank.counters[i.val] = { s.bank.counters[i.val] with handle := 0, bound := false } ∧
        (∀ k : Fin 256, k ≠ i → t.bank.counters[k.val] = s.bank.counters[k.val]) ∧
        t.nv.wcnt = bumpWcnt s.nv.wcnt ∧
        ∃ a, t.bank.audit = s.bank.audit ++ [a] ∧ a.atype = 0x0A ∧ a.ctrIdx = BitVec.ofNat 16 i.val ∧
          a.counter = s.bank.counters[i.val].next - 1) ∧
    (s.bank.keys.any (fun k => k.handle == s.bank.counters[i.val].handle) = true →
      ∃ t, exec (.counterRelease id) s = .next t ∧ s.jobEnds t j .failed 0x0710 j.result ∧ t.bank = s.bank)))

/-- Records and profiles: a written record is read back under its RECORD_ID with its version one higher and no other
record changed; a deleted one is gone; a good profile image is stored under its PROFILE_ID and a bad one stores
nothing; a profile no job names is deleted, one in use is not (R197, R236, R243, R268). Where the spec leaves the
reading open this rests on the model's choices, log entry 34. -/
def Obligations.RecordsAndProfilesAreStored : Prop :=
  (∀ (id : JobId) (param d : List Byte) (rid : W64) (j : Job) (s : State), s.runnable id 4 2 j →
    s.bank.formatted = true → j.ticket.arg = 1 → j.paramLen ≤ 16777216 →
    readBatch 1 (j.data param) = ([(rid, d)], true, true) → d ≠ [] → s.hasRoom (unitsOf d.length) = true →
    ∃ t, exec (.recordWrite id param) s = .next t ∧ s.jobEnds t j .done 0 [1, 0, 0, 0] ∧
      (∃ v, t.record rid = some (v, d) ∧ ∀ w e, s.record rid = some (w, e) → v = w + 1) ∧
      (∀ r, r ≠ rid → t.record r = s.record r) ∧
      t.bank.profiles = s.bank.profiles ∧ t.bank.keys = s.bank.keys) ∧
  (∀ (id : JobId) (param : List Byte) (j : Job) (s : State), s.runnable id 4 3 j → s.bank.formatted = true →
    j.paramLen = 8 →
    ∃ t, exec (.recordDelete id param) s = .next t ∧
      s.jobEnds t j .done 0
        (if (s.record (BitVec.ofNat 64 (leAt (j.data param) 0 8))).isSome then [1, 0, 0, 0] else [0, 0, 0, 0]) ∧
      t.record (BitVec.ofNat 64 (leAt (j.data param) 0 8)) = none ∧
      (∀ r, r ≠ BitVec.ofNat 64 (leAt (j.data param) 0 8) → t.record r = s.record r)) ∧
  (∀ (id : JobId) (param : List Byte) (j : Job) (s : State), s.runnable id 4 4 j → s.bank.formatted = true →
    (∀ p, parseProfile (j.data param) = some p → s.hasRoom (unitsOf (j.data param).length) = true →
      ∃ t, exec (.profileWrite id param) s = .next t ∧ s.jobEnds t j .done 0 [] ∧
        t.image p.id = some (j.data param) ∧ (∀ q, q ≠ p.id → t.image q = s.image q) ∧
        t.bank.records = s.bank.records) ∧
    (parseProfile (j.data param) = none →
      ∃ t, exec (.profileWrite id param) s = .next t ∧ s.jobEnds t j .failed 0x060A j.result ∧
        t.bank = s.bank)) ∧
  (∀ (id : JobId) (j : Job) (s : State), s.runnable id 4 5 j → s.bank.formatted = true → j.paramLen = 0 →
    j.ticket.arg.toNat < 65536 →
    (s.profileInUse (BitVec.ofNat 16 j.ticket.arg.toNat) = true →
      ∃ t, exec (.profileDelete id) s = .next t ∧ s.jobEnds t j .failed 0x0706 j.result ∧ t.bank = s.bank) ∧
    (s.profileInUse (BitVec.ofNat 16 j.ticket.arg.toNat) = false →
      (s.image (BitVec.ofNat 16 j.ticket.arg.toNat)).isSome = true →
      ∃ t, exec (.profileDelete id) s = .next t ∧ s.jobEnds t j .done 0 [] ∧
        t.image (BitVec.ofNat 16 j.ticket.arg.toNat) = none))

/-- The journal's tickets: JOURNAL_LIST reports the open entries from a JSEQ on, in order and cut between entries, and
changes nothing of the bank; JOURNAL_CLOSE closes the open entry of a job the device no longer holds and writes one
HOST_CLOSE audit entry; it fails with NO_ENTRY or ENTRY_BUSY otherwise (R243, R246, R254, R260). Where the spec
leaves the reading open this rests on the model's choices, log entry 35. -/
def Obligations.JournalTicketsListAndClose : Prop :=
  (∀ (id : JobId) (param : List Byte) (j : Job) (s : State), s.runnable id 4 6 j → s.bank.formatted = true →
    j.paramLen = 0 →
    ∃ t, exec (.journalList id param) s = .next t ∧ t.bank = s.bank ∧
      s.jobEnds t j .done 0 (entriesThatFit j 0 64 ((sortBy
        (fun a b => a.jseq.toNat ≤ b.jseq.toNat) s.openIntents).map intentBytes)).flatten) ∧
  (∀ (id : JobId) (param : List Byte) (j : Job) (s : State), s.runnable id 4 7 j → s.bank.formatted = true →
    j.paramLen = 16 → (byteAt (j.data param) 8 = 3 ∨ byteAt (j.data param) 8 = 4) →
    allZero (slice (j.data param) 9 7) = true →
    (∀ e, s.openIntents.find? (fun e => e.jseq == BitVec.ofNat 64 (leAt (j.data param) 0 8)) = some e →
      s.findJob e.jobId = none →
      ∃ t, exec (.journalClose id param) s = .next t ∧ s.jobEnds t j .done 0 [] ∧
        (∀ i ∈ t.openIntents, i.jseq ≠ BitVec.ofNat 64 (leAt (j.data param) 0 8)) ∧
        (∀ i ∈ s.openIntents, i.jseq ≠ BitVec.ofNat 64 (leAt (j.data param) 0 8) → i ∈ t.openIntents) ∧
        ∃ a, t.bank.audit = s.bank.audit ++ [a] ∧ a.atype = 3 ∧ a.jobId = e.jobId ∧ a.counter = e.counter) ∧
    (s.openIntents.find? (fun e => e.jseq == BitVec.ofNat 64 (leAt (j.data param) 0 8)) = none →
      ∃ t, exec (.journalClose id param) s = .next t ∧ s.jobEnds t j .failed 0x0708 j.result ∧
        t.bank = s.bank) ∧
    (∀ e k, s.openIntents.find? (fun e => e.jseq == BitVec.ofNat 64 (leAt (j.data param) 0 8)) = some e →
      s.findJob e.jobId = some k →
      ∃ t, exec (.journalClose id param) s = .next t ∧ s.jobEnds t j .failed 0x0709 j.result ∧
        t.bank = s.bank))

/-- The audit log's tickets: AUDIT_READ returns entries and changes nothing of the bank; AUDIT_ATTEST first makes an RPP
write, so that its ANCHOR covers every entry, and remembers what it attested; AUDIT_TRIM frees the entries up to an
attested ASEQ and no other, and fails with BAD_TRIM beyond it (R243, R257, R261, R263 to R265). Where the spec
leaves the reading open this rests on the model's choices, log entry 35. -/
def Obligations.AuditTicketsReadAttestAndTrim : Prop :=
  (∀ (id : JobId) (param : List Byte) (j : Job) (s : State), s.runnable id 4 8 j → s.bank.formatted = true →
    j.paramLen = 12 →
    ∃ t, exec (.auditRead id param) s = .next t ∧ t.bank = s.bank ∧ ∃ a k, s.jobEnds t j .done 0
      (leBytes 8 a ++ leBytes 4 k ++ [0, 0, 0, 0] ++
        ((((s.bank.audit.filter (fun e => leAt (j.data param) 0 8 ≤ e.aseq.toNat)).take
          (leAt (j.data param) 8 4)).take k).map auditBytes).flatten)) ∧
  (∀ (id : JobId) (param : List Byte) (j : Job) (s : State), s.runnable id 4 9 j → s.bank.formatted = true →
    j.paramLen = 16 →
    ∃ t, exec (.auditAttest id param) s = .next t ∧ t.nv.wcnt = bumpWcnt s.nv.wcnt ∧
      t.bank.anchorAseq = s.bank.aseqNext - 1 ∧ t.bank.anchorChain = s.bank.chain ∧
      t.bank.attested = t.bank.anchorAseq ∧ t.bank.audit = s.bank.audit ∧
      ∃ sig, s.jobEnds t j .done 0 (attestData t (j.data param) ++ padTo 64 sig)) ∧
  (∀ (id : JobId) (param : List Byte) (j : Job) (s : State), s.runnable id 4 0xA j → s.bank.formatted = true →
    j.paramLen = 8 →
    (leAt (j.data param) 0 8 ≤ s.bank.attested.toNat →
      ∃ t, exec (.auditTrim id param) s = .next t ∧ s.jobEnds t j .done 0 [] ∧
        t.bank.audit = s.bank.audit.filter (fun e => leAt (j.data param) 0 8 < e.aseq.toNat) ∧
        leAt (j.data param) 0 8 ≤ t.bank.trim.toNat ∧ s.bank.trim.toNat ≤ t.bank.trim.toNat ∧
        t.bank.aseqNext = s.bank.aseqNext ∧ t.bank.chain = s.bank.chain) ∧
    (s.bank.attested.toNat < leAt (j.data param) 0 8 →
      ∃ t, exec (.auditTrim id param) s = .next t ∧ s.jobEnds t j .failed 0x070D j.result ∧ t.bank = s.bank))

/-- Ceremonies: CEREMONY_OPEN takes the next CID and a fresh nonce and key pair, closing one already open;
CEREMONY_CLOSE closes the one ARG names and fails with 0x0B03 for any other (R407, R408). Owner and management keys:
the first OWNER_SET stores the key as given; a replacement that is not a genuine signed request fails with 0x0B02
and keeps the owner key; MGMT_SET stores the key of a packet that passes R410's checks and fails with the first
check's code otherwise (R401, R407, R410, R412). -/
def Obligations.CeremoniesSetTheKeys : Prop :=
  ((∀ (id : JobId) (j : Job) (s : State), s.runnable id 5 3 j →
    (s.nv.lc = .provisioning ∨ s.nv.lc = .operational) → j.paramLen = 0 →
    ∃ t, exec (.ceremonyOpen id) s = .next t ∧ t.sec.cidNext = s.sec.cidNext + 1 ∧ t.nv = s.nv ∧
      t.bank = s.bank ∧
      (∃ priv pub, t.sec.ceremony = some (s.sec.cidNext, s.random 16, priv, pub) ∧
        ∃ sig, s.jobEnds t j .done 0 (ceremonyHead s.sec.cidNext (s.random 16) pub ++ padTo 64 sig)) ∧
      (s.sec.ceremony.isSome = true → ∃ e ∈ t.barker.queue, e.code = 0x0B02)) ∧
  (∀ (id : JobId) (j : Job) (cid : W32) (n priv pub : List Byte) (s : State), s.runnable id 5 7 j →
    (s.nv.lc = .provisioning ∨ s.nv.lc = .operational) → j.paramLen = 0 →
    s.sec.ceremony = some (cid, n, priv, pub) →
    (j.ticket.arg = cid →
      ∃ t, exec (.ceremonyClose id) s = .next t ∧ s.jobEnds t j .done 0 [] ∧ t.sec.ceremony = none ∧
        ∃ e ∈ t.barker.queue, e.code = 0x0B02) ∧
    (j.ticket.arg ≠ cid →
      ∃ t, exec (.ceremonyClose id) s = .next t ∧ s.jobEnds t j .failed 0x0B03 j.result ∧ t.sec = s.sec))) ∧
  ((∀ (id : JobId) (param : List Byte) (j : Job) (s : State), s.runnable id 5 1 j → s.nv.lc = .provisioning →
    s.nv.ownerKey = none → j.paramLen = 65 → byteAt (j.data param) 0 = 4 →
    ∃ t, exec (.ownerSet id param) s = .next t ∧ s.jobEnds t j .done 0 [] ∧
      t.nv = { s.nv with ownerKey := some (slice (j.data param) 0 65) } ∧ t.bank.keys = s.bank.keys) ∧
  (∀ (id : JobId) (param old : List Byte) (j : Job) (s : State), s.runnable id 5 1 j → s.nv.lc = .provisioning →
    s.nv.ownerKey = some old → s.sec.ceremony = none → j.paramLen = 161 → byteAt (j.data param) 0 = 4 →
    ∃ t, exec (.ownerSet id param) s = .next t ∧ s.jobEnds t j .failed 0x0B02 j.result ∧ t.nv = s.nv) ∧
  (∀ (id : JobId) (param : List Byte) (j : Job) (s : State), s.runnable id 5 2 j → s.nv.lc = .provisioning →
    packetOk true (j.data param) = true →
    ∃ t, exec (.mgmtSet id param) s = .next t ∧
      (match s.importFault (j.data param) with
       | some e => s.jobEnds t j .failed e j.result ∧ t.nv = s.nv
       | none => s.jobEnds t j .done 0 (checkValue 1 (s.importValue (j.data param)) ++ [0]) ∧
           t.nv = { s.nv with mgmtKey := some (s.importValue (j.data param)) } ∧ t.side.tagFails = 0)))

/-- The key store: KEY_IMPORT stores the key of a packet that passes R410's checks under its handle, and a failed one
stores nothing; KEY_DELETE removes a handle no held job uses, from the store and from every Juggler's cache;
KEY_LIST reports and changes nothing (R407, R409 to R411). Where the spec leaves the reading open this rests on the
model's choices, log entry 37. -/
def Obligations.KeyStoreImportsDeletesAndLists : Prop :=
  (∀ (id : JobId) (param : List Byte) (j : Job) (s : State), s.runnable id 5 4 j → s.nv.lc = .provisioning →
    s.bank.formatted = true → packetOk false (j.data param) = true →
    s.bank.keys.any (fun e => e.handle == (readPacket (j.data param)).handle) = false →
    s.bank.keys.length < 4096 → s.hasRoom 1 = true →
    ∃ t, exec (.keyImport id param) s = .next t ∧
      (match s.importFault (j.data param) with
       | some e => s.jobEnds t j .failed e j.result ∧ t.bank = s.bank
       | none =>
           s.jobEnds t j .done 0
             (checkValue (readPacket (j.data param)).ktype (s.importValue (j.data param)) ++ [0]) ∧
           t.bank.keys = s.bank.keys ++
             [{ handle := (readPacket (j.data param)).handle, ktype := (readPacket (j.data param)).ktype,
                usage := (readPacket (j.data param)).usage, value := s.importValue (j.data param) }])) ∧
  (∀ (id : JobId) (j : Job) (s : State), s.runnable id 5 5 j → s.nv.lc = .operational →
    s.bank.formatted = true → j.paramLen = 0 → s.bank.keys.any (fun e => e.handle == j.ticket.arg) = true →
    (s.keyInUse j.ticket.arg = false →
      ∃ t, exec (.keyDelete id) s = .next t ∧ s.jobEnds t j .done 0 [] ∧
        t.bank.keys = s.bank.keys.filter (fun e => e.handle != j.ticket.arg) ∧
        (∀ g : Fin 8, j.ticket.arg ∉ t.jugs[g.val].cache) ∧ t.bank.records = s.bank.records) ∧
    (s.keyInUse j.ticket.arg = true →
      ∃ t, exec (.keyDelete id) s = .next t ∧ s.jobEnds t j .failed 0x0B0A j.result ∧ t.bank = s.bank)) ∧
  (∀ (id : JobId) (j : Job) (s : State), s.runnable id 5 6 j → s.nv.lc = .operational →
    s.bank.formatted = true → j.paramLen = 0 →
    ∃ t, exec (.keyList id) s = .next t ∧ t.bank = s.bank ∧
      s.jobEnds t j .done 0 (entriesThatFit j 0 12
        ((sortBy (fun a b => a.handle.toNat ≤ b.handle.toNat)
          (s.bank.keys.filter (fun k => j.ticket.arg.toNat ≤ k.handle.toNat))).map keyEntry)).flatten)

/-- CANCEL ends a QUEUED target CANCELLED with 0x020A, its own completion following; it fails with NO_TARGET for a job
the device does not hold, and with TOO_LATE for a NON_IDEMPOTENT one past its first byte, which runs on (R172,
R180). UNIT_CLEAR returns a fenced unit whose test passed to service, with UNIT_RESTORED, its recovery count gone
and its rights back through a barrier before its completion; a failed test leaves it fenced; a tamper fence is not
lifted (R363, R417, R448). A failed read of a ticket's parameter data ends a job that has not started FAILED with
0x0A02, and the slots, the records and the other jobs stay as they were (R323). Where the spec leaves the reading
open this rests on the model's choices, log entries 40 and 42. -/
def Obligations.ToolTicketsActOnJobsAndUnits : Prop :=
  (∀ (id : JobId) (j : Job) (s : State), s.runnable id 6 1 j → j.ticket.arg ≠ id →
    (∀ k, s.findJob j.ticket.arg = some k → k.phase = .queued → k.slot = none → k.run = none →
      ∃ t c d, exec (.cancel id) s = .next t ∧ t.closing = s.closing ++ [c, d] ∧ c.jobId = j.ticket.arg ∧
        c.status = .cancelled ∧ c.error = 0x020A ∧ d.jobId = id ∧ d.status = .done ∧
        t.findJob id = none ∧ t.findJob j.ticket.arg = none ∧ t.slots = s.slots) ∧
    (s.findJob j.ticket.arg = none →
      ∃ t, exec (.cancel id) s = .next t ∧ s.jobEnds t j .failed 0x0210 j.result) ∧
    (∀ k, s.findJob j.ticket.arg = some k → k.phase = .started → k.ticket.nonIdempotent = true →
      ∃ t, exec (.cancel id) s = .next t ∧ s.jobEnds t j .failed 0x020F j.result ∧
        t.findJob j.ticket.arg = some k ∧ t.slots = s.slots)) ∧
  (∀ (id : JobId) (j : Job) (u : UnitRef) (s : State), s.runnable id 6 0x20 j →
    unitOf (field j.ticket.arg 0 4) (field j.ticket.arg 4 8) = some u →
    (s.tamperFence u = false → s.unitFenced u = true →
      (∃ t, exec (.unitClear id none) s = .next t ∧ s.jobEnds t j .done 0 j.result ∧
        t.unitPhase u = .service ∧ t.recovCount u = 0 ∧ t.regs.barrier = s.regs.barrier ++ [.unitRights] ∧
        (∃ e ∈ t.barker.queue, e.code = 0x0F03) ∧
        (t.closing.getLast?).map (·.barriers) = some (s.regs.barrier.length + 1)) ∧
      (∀ code, ∃ t, exec (.unitClear id (some code)) s = .next t ∧ s.jobEnds t j .failed code j.result ∧
        t.unitFenced u = true ∧ t.regs.barrier = s.regs.barrier)) ∧
    (s.tamperFence u = true → ∀ f,
      ∃ t, exec (.unitClear id f) s = .next t ∧ s.jobEnds t j .failed 0x0B09 j.result ∧ t.slots = s.slots)) ∧
  (∀ (id : JobId) (got : List Byte) (j : Job) (s : State), s.booted = true → s.findJob id = some j →
    j.ticket.paramLen ≠ 0 → j.phase = .queued → j.slot = none → j.run = none → j.jug = none → j.counter = none →
    ¬ (j.ticket.type = 4 ∧ j.ticket.op = 2) →
    ∃ t, exec (.paramReadFail id got) s = .next t ∧ s.jobEnds t j .failed 0x0A02 j.result ∧
      t = { s with jobs := t.jobs, closing := t.closing, barker := t.barker } ∧
      t.jobs = s.jobs.filter (fun k => k.ticket.jobId != id))

/-- The station bus tickets: a good SBUS_CONFIG replaces both ports' settings and the whole slot map; a block outside
its ranges fails with 0x0202 and one that would move a slot a job holds with 0x0D01, changing nothing; SBUS_STATUS
reports 288 bytes and changes nothing (R396). The reporting TOOL tickets end DONE with the device's own figures and
change nothing but their own job (R448, R464, R474). The sizes the manual gives its records and results hold for
every state (R244, R260, R407, R409, R448, R464, R474). Where the spec leaves the reading open this rests on the
model's choices, log entries 41 and 43. -/
def Obligations.ToolTicketsReport : Prop :=
  ((∀ (id : JobId) (param : List Byte) (j : Job) (s : State), s.runnable id 6 0x10 j → j.paramLen = 160 →
    (portBlockOk (slice (j.data param) 0 16) = true → portBlockOk (slice (j.data param) 16 16) = true →
      (List.range 64).all (mapEntryOk (j.data param)) = true →
      ((∀ n, (s.slot n).job = none) →
        ∃ t, exec (.sbusConfig id param) s = .next t ∧ s.jobEnds t j .done 0 [] ∧
          (∀ n : SlotId, t.sbMap[n.val] = mapEntry (j.data param) n.val) ∧
          t.ports[0].mode = modeOf (slice (j.data param) 0 16) ∧
          t.ports[1].mode = modeOf (slice (j.data param) 16 16) ∧
          t.ports[0].rate = leAt (j.data param) 2 4 ∧ t.ports[1].rate = leAt (j.data param) 18 4 ∧
          t.slots = s.slots) ∧
      (∀ n : SlotId, (s.slot n).job.isSome = true → s.sbMap[n.val] ≠ mapEntry (j.data param) n.val →
        ∃ t, exec (.sbusConfig id param) s = .next t ∧ s.jobEnds t j .failed 0x0D01 j.result ∧
          t.ports = s.ports ∧ t.sbMap = s.sbMap)) ∧
    (portBlockOk (slice (j.data param) 0 16) = false →
      ∃ t, exec (.sbusConfig id param) s = .next t ∧ s.jobEnds t j .failed 0x0202 j.result ∧
        t.ports = s.ports ∧ t.sbMap = s.sbMap)) ∧
  (∀ (id : JobId) (j : Job) (s : State), s.runnable id 6 0x11 j →
    ∃ t r, exec (.sbusStatus id) s = .next t ∧ s.jobEnds t j .done 0 r ∧ r.length = 288 ∧
      t = { s with jobs := t.jobs, closing := t.closing, barker := t.barker })) ∧
  ((∀ (id : JobId) (j : Job) (s : State), s.runnable id 6 0x21 j →
    ∃ t, exec (.faultStatus id) s = .next t ∧ s.jobEnds t j .done 0 (reportedUnits.flatMap (unitEntry s)) ∧
      t = { s with jobs := t.jobs, closing := t.closing, barker := t.barker }) ∧
  (∀ (id : JobId) (j : Job) (s : State), s.runnable id 6 0x30 j →
    ∃ t, exec (.marginRead id) s = .next t ∧ s.jobEnds t j .done 0 (marginBytes s) ∧
      t = { s with jobs := t.jobs, closing := t.closing, barker := t.barker }) ∧
  (∀ (id : JobId) (j : Job) (s : State), s.runnable id 6 0x40 j →
    ∃ t k, exec (.bistReport id) s = .next t ∧
      s.jobEnds t j .done 0 (leBytes 4 (min 64 s.standby.bistFails.length) ++
        ((s.standby.bistFails.take k).map bistEntry).flatten) ∧
      t = { s with jobs := t.jobs, closing := t.closing, barker := t.barker })) ∧
  ((∀ e : Intent, (intentBytes e).length = 64) ∧ (∀ e : AuditEntry, (auditBytes e).length = 64) ∧
  (∀ k : StoredKey, (keyEntry k).length = 12) ∧ (∀ (s : State) (u : UnitRef), (unitEntry s u).length = 8) ∧
  (∀ s : State, (marginBytes s).length = 1408) ∧ (∀ e : FailAddr × Bool, (bistEntry e).length = 8))


/-! ## Placement, jobs and the rings of the host (05) -/

/-- The slot placement chooses is eligible, and no eligible slot comes before it in R186's order (R185, R186). -/
def Obligations.PlacementChoosesTheBestSlot : Prop :=
  ∀ (s : State) (j : Job),
    (∀ n, s.chooseSlot j = some n →
      s.eligible j n = true ∧ ∀ m, s.eligible j m = true → lexLess (s.rankOf j m) (s.rankOf j n) = false) ∧
    (s.chooseSlot j = none → ∀ n, s.eligible j n = false)

/-- A pass over the one queued job that needs a slot: past its deadline it ends CANCELLED, without hope FAILED, and
while it must wait, or no slot is eligible, it stays queued; otherwise it is PLACED on the chosen slot under its
next generation and the slot is held by it. Idle windows are granted to the slots that ask and stand free (R180,
R184 to R190, R192). Where the spec leaves the reading open this rests on the model's choices, log entry 63. -/
def Obligations.PlacementPassesClaimWaitOrEnd : Prop :=
  ∀ (s : State), s.placing = true →
    (s.queuedJobs = [] →
      ∃ t, exec .placementPass s = .next t ∧ t = { s with slots := t.slots } ∧
        ∀ n, t.slot n = { s.slot n with window := (s.slot n).window || ((s.planOf n).asks &&
          ((s.slot n).phase == .ready || (s.slot n).phase == .galloper) && (s.slot n).job.isNone &&
          (s.slot n).enable && !(s.slot n).fencePending) }) ∧
    (∀ j, s.queuedJobs = [j] → s.findJob j.ticket.jobId = some j →
      (s.deadlinePassed j = true →
        ∃ t, exec .placementPass s = .next t ∧ s.jobEnds t j .cancelled 0x0209 j.result) ∧
      (∀ e, s.deadlinePassed j = false → s.hopeless j = some e →
        ∃ t, exec .placementPass s = .next t ∧ s.jobEnds t j .failed e j.result) ∧
      (s.deadlinePassed j = false → s.hopeless j = none → s.mustWait j = true ∨ s.chooseSlot j = none →
        ∃ t, exec .placementPass s = .next t ∧ t = { s with slots := t.slots }) ∧
      (∀ n, s.deadlinePassed j = false → s.hopeless j = none → s.mustWait j = false → s.chooseSlot j = some n →
        ∃ t k, exec .placementPass s = .next t ∧ t.findJob j.ticket.jobId = some k ∧ k.phase = .placed ∧
          k.slot = some n ∧ k.lastSlot = BitVec.ofNat 8 n.val ∧ k.ticket = j.ticket ∧ k.lastGen = k.gen ∧
          k.gen = (if j.gen = j.lastGen then j.gen + 1 else j.gen) ∧ t.closing = s.closing ∧
          (t.slot n).job = some j.ticket.jobId ∧ (t.slot n).window = false ∧
          ∀ m, m ≠ n → t.slot m = { s.slot m with window := (t.slot m).window }))

/-- The other ends and returns of a job. A job past its deadline ends CANCELLED with 0x0209 and gives its slot up; a
feed that brings no card is dropped with FEED_TIMEOUT, its job QUEUED again under the next generation; a result of
an old generation is counted and its event raised, and nothing else changes; a job due on a slot's card ends an eye
sweep without a result (R32, R180, R190, R192). A RESOLVING job whose slot has settled and whose commands are all
known: with an entry of its generation still open it ends INDETERMINATE; when its last command read from the record
was done it ends DONE with RESULT_LOST; when nothing was read and its exchange was cut it is QUEUED again under the
next generation (R194). Where the spec leaves the reading open this rests on the model's choices, log entries 9 and
75. -/
def Obligations.JobsSettleOrGoBack : Prop :=
  ((∀ (id : JobId) (j : Job) (s : State), s.booted = true → s.findJob id = some j →
    j.phase = .queued ∨ j.phase = .placed → s.deadlinePassed j = true →
    ∃ t, exec (.jobDeadline id) s = .next t ∧ s.jobEnds t j .cancelled 0x0209 j.result ∧
      (∀ n, j.slot = some n → (t.slot n).job = none) ∧ (∀ m, j.slot ≠ some m → t.slot m = s.slot m)) ∧
  (∀ (n : SlotId) (id : JobId) (at_ : W64) (s : State), s.booted = true → (s.slot n).present = false →
    (s.slot n).feed = some (id, at_) →
    ((s.slot n).job = none →
      ∃ t, exec (.feedTimeout n) s = .next t ∧ t = { s with slots := t.slots, barker := t.barker } ∧
        t.slot n = { s.slot n with feed := none, feedBlocked := true } ∧ (∀ m, m ≠ n → t.slot m = s.slot m) ∧
        ∃ e ∈ t.barker.queue, e.code = 0x0206 ∧ e.slot = some n) ∧
    (∀ j, s.findJob id = some j → (s.slot n).job = some id → j.phase = .placed → j.slot = some n →
      s.regs.windDown = false → j.replaced < s.regs.maxReplace → s.deadlinePassed j = false →
      ∃ t k, exec (.feedTimeout n) s = .next t ∧ t.findJob id = some k ∧ k.phase = .queued ∧ k.slot = none ∧
        k.gen = j.gen + 1 ∧ k.replaced = j.replaced + 1 ∧ k.ticket = j.ticket ∧ (t.slot n).job = none ∧
        (t.slot n).feed = none ∧ (∀ m, m ≠ n → t.slot m = s.slot m) ∧ t.closing = s.closing)) ∧
  (∀ (id : JobId) (gen : W16) (s : State), s.booted = true → (∀ j, s.findJob id = some j → j.gen ≠ gen) →
    exec (.staleResult id gen) s =
      .next (raise 0x0205 none id.toNat { s with place.stale := s.place.stale + 1 })) ∧
  (∀ (n : SlotId) (g : Gal) (s : State), s.mainUp = true → (s.slot n).job.isSome = true → (s.slot n).gal = some g →
    g.sweep.isSome = true → g.giveUp = none →
    ∃ t, exec (.sweepYield n) s = .next t ∧ t = { s with slots := t.slots, out := t.out } ∧
      (t.slot n).gal.map (·.sweep) = some none ∧ (t.slot n).job = (s.slot n).job ∧
      ∀ m, m ≠ n → t.slot m = s.slot m)) ∧
  (∀ (id : JobId) (j : Job) (n : SlotId) (s : State), s.booted = true → s.findJob id = some j →
    j.phase = .resolving → j.slot = some n → s.slotSettled n = true → (∀ r, j.run = some r → r.staged = []) →
    ((∃ e ∈ s.bank.journal, e.jobId = id ∧ e.gen = j.gen ∧ e.outcome = none) →
      ∃ t, exec (.jobSettled id) s = .next t ∧ s.jobEnds t j .indeterminate 0x020D j.result) ∧
    ((∀ e ∈ s.bank.journal, e.jobId = id → e.gen = j.gen → e.outcome.isSome = true) →
      (∀ o, ((((s.bank.journal.filter (fun e => e.jobId == id && e.gen == j.gen)).filterMap (·.outcome)).filter
          (fun o => o.how == 3)).filter (fun o => o.result == .done)).getLast? = some o → o.sw = 0x9000 →
        ∃ t, exec (.jobSettled id) s = .next t ∧ s.jobEnds t j .done 0 j.result ∧
          (t.closing.getLast?).map (fun c => bit c.cflags 4) = some true) ∧
      ((∀ e ∈ s.bank.journal, e.jobId = id → e.gen = j.gen → ∀ o, e.outcome = some o → o.how ≠ 3) →
        j.exch.mayHaveExecuted = true → s.regs.windDown = false → j.replaced < s.regs.maxReplace →
        s.deadlinePassed j = false →
        ∃ t k, exec (.jobSettled id) s = .next t ∧ t.findJob id = some k ∧ k.phase = .queued ∧ k.slot = none ∧
          k.gen = j.gen + 1 ∧ (t.slot n).job = none ∧ t.closing = s.closing)))

/-- Completions and events are written one at a time, oldest first: a completion that may be written leaves the queue
with its result bytes, its entry and the new tail going out in that order and source 0 fired, and one that may not
stays; an event is held while the device is disabled, counted when the hold or the ring is full, dropped by the rate
limit with its slot's DROPPED one higher, kept while DMA is held, and otherwise written with its tail (R16, R165,
R166, R177, R178, R245, R363, R517). Where the spec leaves the reading open this rests on the model's choices, log
entry 7. -/
def Obligations.RingEntriesAreWrittenInOrder : Prop :=
  (∀ (c : Closing) (rest : List Closing) (s : State), s.mainUp = true → s.closing = c :: rest →
    (s.completionReady c = true →
      ∃ t l, exec .completionWrite s = .next t ∧
        t = { s with closing := rest, regs.cqTail := nextIndex s.regs.cqTail s.regs.cqSize,
                     regs.irqStatus := t.regs.irqStatus, regs.msixPending := t.regs.msixPending, out := t.out } ∧
        t.out = s.out ++ (if c.result = [] then [] else [.result c.resultAddr c.result]) ++
          [.completion s.regs.cqTail.toNat c, .cqTail (nextIndex s.regs.cqTail s.regs.cqSize).toNat] ++ l ∧
        bit t.regs.irqStatus 0 = true) ∧
    (s.completionReady c = false → exec .completionWrite s = .next s)) ∧
  (∀ (e : Event) (rest : List Event) (s : State), s.mainUp = true → s.barker.queue = e :: rest →
    (s.barker.limited e = true →
      ∃ t, exec .eventWrite s = .next t ∧ t = { s with barker := t.barker } ∧ t.barker.queue = rest ∧
        t.barker.held = s.barker.held ∧
        ∀ n, e.slot = some n → t.barker.dropped[n.val] = min 255 (s.barker.dropped[n.val] + 1)) ∧
    (s.barker.limited e = false → s.regs.enable = false →
      ∃ t, exec .eventWrite s = .next t ∧ t = { s with barker := t.barker } ∧ t.barker.queue = rest ∧
        (s.barker.held.length < 64 →
          t.barker.held = s.barker.held ++ [(e, s.barker.droppedOf e)] ∧ t.barker.overflow = s.barker.overflow) ∧
        (64 ≤ s.barker.held.length →
          t.barker.held = s.barker.held ∧ t.barker.overflow = s.barker.overflow + 1)) ∧
    (s.barker.limited e = false → s.regs.enable = true → s.ringsOpen = false → exec .eventWrite s = .next s) ∧
    (s.barker.limited e = false → s.ringsOpen = true → s.eqFull = true →
      exec .eventWrite s =
        .next { s with barker.queue := rest, barker.overflow := s.barker.overflow + 1 }) ∧
    (s.barker.limited e = false → s.ringsOpen = true → s.eqFull = false → s.barker.overflow = 0 →
      ∃ t l, exec .eventWrite s = .next t ∧
        t = { s with regs.eqTail := nextIndex s.regs.eqTail s.regs.eqSize, regs.irqStatus := t.regs.irqStatus,
                     regs.msixPending := t.regs.msixPending, barker := t.barker, out := t.out } ∧
        t.barker.queue = rest ∧ bit t.regs.irqStatus 1 = true ∧
        t.out = s.out ++ [.event s.regs.eqTail.toNat e (s.barker.droppedOf e),
          .eqTail (nextIndex s.regs.eqTail s.regs.eqSize).toNat] ++ l))


/-! ## The profile engine (06) -/

/-- PRECOMPUTE of a run that has begun, at its next step. A step it must wait for leaves everything as it is. A command
step without substitutions or wrapping joins staging unsent, taking, where it is journalled, the next JSEQ with one
open intent of that step, and the job's counter value where it is the job's first; nothing else of the slot, the
rings or the other jobs changes (R206, R209, R222, R244, R255). Where the spec leaves the reading open this rests on
the model's choices, log entry 27. -/
def Obligations.PrecomputeStagesTheNextCommand : Prop :=
  ∀ (id : JobId) (j : Job) (n : SlotId) (r : Run) (k : Nat) (st : Step) (s : State),
    s.working id = some (j, n, r) → s.recordHere n j = true → (s.slot n).cardFree = true →
    s.switchDue n j = false → r.stepsRun ≠ 0 → r.next = some k → r.profile.steps[k]? = some st →
    (r.stops st = true → exec (.precompute id) s = .next s) ∧
    (r.stops st = false → r.stepsRun < 1024 → st.isApdu = true → st.wrap = false → st.subs = [] →
      st.is61 = false → st.tmpl.length ≤ 8192 → (s.slot n).gal = none →
      (journalled j k st = false →
        ∃ t r', exec (.precompute id) s = .next t ∧ t = { s with jobs := t.jobs } ∧
          (t.findJob id).bind (·.run) = some r' ∧ r'.stepsRun = r.stepsRun + 1 ∧
          ∃ c, r'.staged = r.staged ++ [c] ∧ c.step = k ∧ c.kind = .step ∧ c.apdu = st.tmpl ∧ c.sent = false ∧
            c.jseq = none) ∧
      (∀ v, journalled j k st = true → j.counter = some v →
        ∃ t r' e, exec (.precompute id) s = .next t ∧
          t = { s with jobs := t.jobs, bank.journal := s.bank.journal ++ [e],
                       bank.jseqNext := s.bank.jseqNext + 1 } ∧
          e.jobId = id ∧ e.step = k ∧ e.jseq = s.bank.jseqNext ∧ e.outcome = none ∧ e.durable = false ∧
          e.slot = n ∧ e.first = false ∧ e.write = st.cardChanging ∧ e.counter = v.2 ∧ e.gen = j.gen ∧
          (t.findJob id).bind (·.run) = some r' ∧
          ∃ c, r'.staged = r.staged ++ [c] ∧ c.step = k ∧ c.jseq = some s.bank.jseqNext ∧ c.sent = false) ∧
      (∀ i : Fin 256, journalled j k st = true → j.counter = none → s.auditFull = false →
        s.counterIndex (r.profile.keys.getD 0 0) = some i → s.bank.counters[i.val].bound = true →
        s.bank.counters[i.val].next.toNat ≤ s.bank.counters[i.val].top.toNat →
        ∃ t e, exec (.precompute id) s = .next t ∧
          t = { s with jobs := t.jobs, bank.journal := s.bank.journal ++ [e],
                       bank.jseqNext := s.bank.jseqNext + 1, bank.counters := t.bank.counters } ∧
          e.first = true ∧ e.counter = s.bank.counters[i.val].next ∧ e.ctrIdx = i.val ∧
          t.bank.counters[i.val] = { s.bank.counters[i.val] with next := s.bank.counters[i.val].next + 1 } ∧
          (∀ m : Fin 256, m ≠ i → t.bank.counters[m.val] = s.bank.counters[m.val]) ∧
          (t.findJob id).map (·.counter) = some (some (i.val, s.bank.counters[i.val].next))))

/-- PRECOMPUTE_RELEASE in standard mode: a command whose intent is not durable stays; one that is goes out on its slot,
which becomes BUSY with an exchange of the job's generation and step, its characters on C7; the job has passed its
first byte unless the command is the identity step (R31, R72, R88, R91, R176, R180, R222). -/
def Obligations.ReleaseSendsOnlyDurableCommands : Prop :=
  ∀ (id : JobId) (j : Job) (n : SlotId) (r : Run) (c : Staged) (s : State),
    s.working id = some (j, n, r) → s.switchDue n j = false → r.nextToSend = some c →
    (s.intentDurable c = false → exec (.precomputeRelease id) s = .next s) ∧
    (s.intentDurable c = true → (s.slot n).gal = none → (s.slot n).takesApdu = true →
      r.staged.head? = some c → c.step = 0 ∨ j.phase = .started ∨ s.deadlinePassed j = false →
      (s.slot n).proto = .t1 ∨ extendedApdu c.apdu = false →
      ∃ t e bs, exec (.precomputeRelease id) s = .next t ∧
        t = { s with slots := t.slots, jobs := t.jobs, out := s.out ++ [.chars n bs] } ∧
        (t.slot n).phase = .busy ∧ (t.slot n).exch = some e ∧ e.job = id ∧ e.gen = j.gen ∧ e.step = c.step ∧
        e.kind = c.kind ∧ e.cmd = c.apdu ∧ (t.slot n).job = (s.slot n).job ∧
        (∀ m, m ≠ n → t.slot m = s.slot m) ∧
        (c.step ≠ 0 → (t.findJob id).map (·.phase) = some .started) ∧
        ((t.findJob id).bind (·.run)).map (·.staged) =
          some (r.staged.map (fun u => if u = c then { u with sent := true } else u))) ∧
    (s.intentDurable c = true → (s.slot n).gal = none → (s.slot n).takesApdu = true →
      r.staged.head? = some c → c.step ≠ 0 → j.phase = .placed → s.deadlinePassed j = true →
      ∃ t, exec (.precomputeRelease id) s = .next t ∧ s.jobEnds t j .cancelled 0x0209 j.result)

/-- SC_OPEN takes the response of the job's INITIALIZE UPDATE: a status word other than 9000 leaves the step's ON_FAIL
way; one that names another protocol fails the job with 0x0605 and one whose card cryptogram does not verify with
0x0604; otherwise EXTERNAL AUTHENTICATE takes its place in staging with the session open (R215, R244). PREFETCH_DONE
of the job's own generation puts the stored record with its version into the slot buffer; one of an old generation
leaves the buffer without a record and counts as stale; one the bank could not read ends the job FAILED with 0x0705
(R192, R241, R242). Where the spec leaves the reading open this rests on the model's choices, log entries 53, 62 and
81. -/
def Obligations.CardsAreAuthenticatedAndFed : Prop :=
  (∀ (id : JobId) (resp : List Byte) (sw : W16) (j : Job) (n : SlotId) (r : Run) (c : Staged) (st : Step) (s : State),
    s.findJob id = some j → j.slot = some n → j.run = some r → s.booted = true →
    s.initUpdateOf n id resp sw = true → r.staged = [c] → c.kind = .initUpdate → c.sent = true →
    r.profile.steps[c.step]? = some st → j.phase = .started → j.cancelWith = none →
    (sw ≠ 0x9000 → st.onFail = 0xFF → c.jseq = none →
      ∃ t, exec (.scOpen id resp sw) s = .next t ∧ s.jobEnds t j .failed st.failCode j.result) ∧
    (sw = 0x9000 → scParamOk r.profile.scp st.scI resp = false →
      ∃ t, exec (.scOpen id resp sw) s = .next t ∧ s.jobEnds t j .failed 0x0605 j.result) ∧
    (sw = 0x9000 → scParamOk r.profile.scp st.scI resp = true → (s.slot n).gal = none →
      (s.slot n).fencePending = false → (s.slot n).warmDue = false → (s.slot n).resolution = none →
      ∃ t, exec (.scOpen id resp sw) s = .next t ∧
        (if Config.gpCardOk
            { scp := r.profile.scp, i := st.scI, sl := st.scSl,
              keys := staticKeys st.method (match s.keyOf r (st.nib 0) with | some (k, _, _) => k | none => 1)
                (s.keyValue r (st.nib 0)) resp,
              ctr := 0, data := [r.challenge, resp] } = true then
          (∃ r' u, (t.findJob id).bind (·.run) = some r' ∧ r'.session.isSome = true ∧ r'.staged = [u] ∧
            u.kind = .extAuth ∧ u.sent = false ∧ u.step = c.step ∧ u.apdu.length = 21 ∧ u.jseq = c.jseq) ∧
          t.closing = s.closing ∧ (t.slot n).ended = (s.slot n).ended.drop 1
         else s.jobEnds t j .failed 0x0604 j.result))) ∧
  (∀ (id : JobId) (gen : W16) (rd : PrefetchRead) (j : Job) (n : SlotId) (s : State), s.booted = true →
    s.bank.formatted = true → s.findJob id = some j → j.slot = some n →
    (j.gen ≠ gen →
      ∃ t, exec (.prefetchDone id gen rd) s = .next t ∧
        t = { s with slots := t.slots, place.stale := s.place.stale + 1, barker := t.barker } ∧
        t.slot n = { s.slot n with record := none } ∧ ∀ m, m ≠ n → t.slot m = s.slot m) ∧
    (∀ v d, j.gen = gen → j.ticket.recordId ≠ 0 → s.recordHere n j = false → j.phase = .placed →
      s.record j.ticket.recordId = some (v, d) →
      (rd.stage ≠ 5 → (match j.run with | some r => r.profile.minRecord | none => 0) ≤ d.length →
        ∃ t, exec (.prefetchDone id gen rd) s = .next t ∧
          t = { s with slots := t.slots, bank.blocks := t.bank.blocks, bank.targets := t.bank.targets } ∧
          t.slot n = { s.slot n with record := some (j.ticket.recordId, v, d) } ∧
          ∀ m, m ≠ n → t.slot m = s.slot m) ∧
      (rd.stage = 5 →
        ∃ t, exec (.prefetchDone id gen rd) s = .next t ∧ s.jobEnds t j .failed 0x0705 j.result)) ∧
    (j.gen = gen → s.recordHere n j = true → exec (.prefetchDone id gen rd) s = .next s))


/-! ## Slots and their contacts (02, 08, 09) -/

/-- An activation, step by step: a grant takes the oldest request that may go, powers its slot from both tokens and
starts the blanking; a qualified VCC returns the token and releases C7; the clock starts, then RST rises and the ATR
is awaited; the end of the blanking ends it; a VCC that fails to qualify counts a failed attempt and deactivates the
slot without a measurement window. A request that waits beyond the threshold is reported once (R47, R48, R50, R52,
R278, R279, R281). Where the spec leaves the reading open this rests on the model's choices, log entry 65. -/
def Obligations.ActivationRunsInOrder : Prop :=
  (∀ (s : State), s.mainUp = true → s.power.vinOk = true → s.power.vcoreOk = true →
    s.tokensUsed < s.regs.globalTokens →
    (∀ q, s.nextGrant = some q →
      ∃ t, exec .tokenGrant s = .next t ∧ t = { s with slots := t.slots, requests := t.requests } ∧
        t.requests = s.requests.filter (fun p => p.slot != q.slot) ∧
        (t.slot q.slot).phase = .powering ∧ (t.slot q.slot).cls = some q.cls ∧ (t.slot q.slot).token = true ∧
        (t.slot q.slot).ldo = true ∧ (t.slot q.slot).vcc = .ramp ∧ (t.slot q.slot).blanked = true ∧
        (t.slot q.slot).rst = false ∧ (t.slot q.slot).clk = .low ∧ (t.slot q.slot).job = (s.slot q.slot).job ∧
        s.othersKeep t q.slot) ∧
    (s.nextGrant = none → exec .tokenGrant s = .next s)) ∧
  (∀ (n : SlotId) (q : Request) (s : State), s.mainUp = true →
    s.requests.find? (fun q => q.slot == n) = some q → q.warned = false → s.regs.waitWarn ≠ 0 →
    s.regs.waitWarn < s.regs.time.toNat - q.since.toNat →
    ∃ t, exec (.admitWait n) s = .next t ∧ t = { s with requests := t.requests, barker := t.barker } ∧
      (∀ p ∈ t.requests, p.slot = n → p.warned = true) ∧
      t.requests.map (fun q => (q.slot, q.cls, q.since)) = s.requests.map (fun q => (q.slot, q.cls, q.since)) ∧
      ∃ e ∈ t.barker.queue, e.code = 0x0801 ∧ e.slot = some n) ∧
  (∀ (n : SlotId) (s : State), s.mainUp = true →
    ((s.slot n).phase = .powering → (s.slot n).qualified = false →
      ∃ t, exec (.vccQualified n) s = .next t ∧
        s.changesSlot t n { s.slot n with qualified := true, vcc := .on, token := false, io := .pullUp }) ∧
    ((s.slot n).phase = .powering → (s.slot n).qualified = true → (s.slot n).clk ≠ .run →
      ∃ t, exec (.clkStart n) s = .next t ∧ s.changesSlot t n { s.slot n with clk := .run }) ∧
    ((s.slot n).rst = false → (s.slot n).clk = .run → ((s.slot n).phase = .powering ∧ (s.slot n).qualified = true) ∨
        ((s.slot n).phase = .atrWait ∧ (s.slot n).warm = true) →
      ∃ t, exec (.rstRise n) s = .next t ∧ s.changesSlot t n { s.slot n with rst := true, phase := .atrWait }) ∧
    ((s.slot n).blanked = true →
      ∃ t, exec (.ocBlankingEnd n) s = .next t ∧ s.changesSlot t n { s.slot n with blanked := false }) ∧
    ((s.slot n).phase = .powering → (s.slot n).qualified = false → (s.slot n).job = none →
      ∃ t d, exec (.vccFail n) s = .next t ∧ (t.slot n).phase = .deactivating ∧ (t.slot n).cause = .vccFail ∧
        (t.slot n).failCount = min 3 ((s.slot n).failCount + 1) ∧ (t.slot n).rst = false ∧
        (t.slot n).deact = some d ∧ d.emergency = false ∧ d.window = false ∧ (t.slot n).token = false ∧
        s.othersKeep t n ∧ t.jobs = s.jobs))

/-- A normal deactivation, step by step: CLK falls, then the measurement window where there is one, then C7 and D0 fall,
then the LDO goes off. A window's reading joins the slot's history; a result of 500 mΩ or more is reported and one
of 1500 mΩ or more makes a contact fence pending. An emergency order takes the same steps without the window (R53,
R56, R57, R457). The end of a deactivation, when VCC is below 0.4 V: every line is low, t_OFF runs, and the slot
stands FENCED when a fence is pending, else UNSTABLE when its filter has reached the limit, else QUARANTINED after
three failed attempts, each with its event, else OFF. The end of t_OFF lets a class step ask for its token; a VOFF
decision above 0.4 V starts t_OFF again (R47, R52, R72, R296, R516). Where the spec leaves the reading open this
rests on the model's choices, log entries 11 and 68. -/
def Obligations.DeactivationRunsInOrder : Prop :=
  ((∀ (n : SlotId) (d : Deact) (s : State), s.mainUp = true → (s.slot n).phase = .deactivating →
    (s.slot n).deact = some d → d.emergency = false →
    (d.step = .rstLow →
      ∃ t, exec (.deactClkStop n) s = .next t ∧ s.changesSlot t n
        (if d.window then { s.slot n with clk := .low, deact := some { d with step := .window } }
         else { s.slot n with clk := .low, io := .low, d0PullUp := false,
                              deact := some { d with step := .linesLow } })) ∧
    (∀ r, d.step = .window →
      ∃ t, exec (.measurementWindowEnd n r) s = .next t ∧ s.othersKeep t n ∧ t.jobs = s.jobs ∧
        t.bank = s.bank ∧ t.rings = s.rings ∧
        (t.slot n).phase = .deactivating ∧ (t.slot n).io = .low ∧ (t.slot n).d0PullUp = false ∧
        (t.slot n).deact = some { d with step := .linesLow, reading := some r } ∧
        (t.planOf n).vccHist = (min 4000 r.vcc :: (s.planOf n).vccHist).take 3 ∧
        (t.planOf n).gndHist = (min 4000 r.gnd :: (s.planOf n).gndHist).take 3 ∧
        (500 ≤ ((s.planOf n).take r).worst → ∃ e ∈ t.barker.queue, e.code = 0x0106 ∧ e.slot = some n) ∧
        (1500 ≤ ((s.planOf n).take r).worst → (t.slot n).fencePending = true) ∧
        (((s.planOf n).take r).worst < 500 → t.barker = s.barker ∧ t.regs = s.regs ∧
          (t.slot n).fencePending = (s.slot n).fencePending)) ∧
    (d.step = .linesLow →
      ∃ t, exec (.deactLdoOff n) s = .next t ∧ s.changesSlot t n
        { s.slot n with ldo := false, vcc := .discharge, blanked := false,
                        deact := some { d with step := .ldoOff } })) ∧
  (∀ (n : SlotId) (d : Deact) (s : State), s.power.vstby = true → (s.slot n).phase = .deactivating →
    (s.slot n).deact = some d → d.emergency = true →
    ∃ t, exec (.emergencyStep n) s = .next t ∧ s.changesSlot t n
      (match d.step with
       | .rstLow | .window => { s.slot n with clk := .low, deact := some { d with step := .clkLow } }
       | .clkLow => { s.slot n with io := .low, d0PullUp := false, deact := some { d with step := .linesLow } }
       | .linesLow => { s.slot n with ldo := false, vcc := .discharge, blanked := false,
                                      deact := some { d with step := .ldoOff } }
       | .ldoOff => s.slot n))) ∧
  ((∀ (n : SlotId) (d : Deact) (s : State), s.power.vstby = true → (s.slot n).phase = .deactivating →
    (s.slot n).deact = some d → d.step = .ldoOff → d.counted = false → (s.slot n).job = none →
    (s.slot n).eject = none → s.side.slotOffWait = [] → s.regs.windDown = false → s.faults.fatalWindow = none →
    ∃ t, exec (.deactivationEnd n) s = .next t ∧
      t = { s with slots := t.slots, rings := t.rings, barker := t.barker } ∧ s.othersKeep t n ∧
      (t.slot n).vcc = .off ∧ (t.slot n).ldo = false ∧ (t.slot n).rst = false ∧ (t.slot n).clk = .low ∧
      (t.slot n).io = .low ∧ (t.slot n).tOff = true ∧ (t.slot n).deact = none ∧ (t.slot n).cls = none ∧
      (t.slot n).phase =
        (if (s.slot n).fencePending then .fenced else if (s.slot n).unstablePending then .unstable
         else if 3 ≤ (s.slot n).failCount then .quarantined else .off) ∧
      ((s.slot n).fencePending = true → ∃ e ∈ t.barker.queue, e.code = 0x0105 ∧ e.slot = some n) ∧
      ((s.slot n).fencePending = false → (s.slot n).unstablePending = true →
        ∃ e ∈ t.barker.queue, e.code = 0x0104 ∧ e.slot = some n) ∧
      ((s.slot n).fencePending = false → (s.slot n).unstablePending = false → 3 ≤ (s.slot n).failCount →
        ∃ e ∈ t.barker.queue, e.code = 0x0103 ∧ e.slot = some n)) ∧
  (∀ (n : SlotId) (s : State), s.mainUp = true → (s.slot n).tOff = true → (s.slot n).vcc = .off →
    (s.slot n).phase = .off →
    ((s.slot n).stepTo = none → (s.slot n).job = none →
      ∃ t, exec (.tOffEnd n) s = .next t ∧ s.changesSlot t n { s.slot n with tOff := false }) ∧
    (∀ k, (s.slot n).stepTo = some k → (s.slot n).present = true → (s.slot n).enable = true →
      s.scanLoaded = false → (s.ring (ringOf n)).fenced = false → s.regs.windDown = false →
      (s.slot n).check = .idle →
      ∃ t, exec (.tOffEnd n) s = .next t ∧ (t.slot n).phase = .powerWait ∧ (t.slot n).cls = some k ∧
        (t.slot n).stepTo = none ∧ (t.slot n).tOff = false ∧ s.othersKeep t n ∧
        (∃ q ∈ t.requests, q.slot = n ∧ q.cls = k ∧ q.since = s.regs.time) ∧ t.jobs = s.jobs)) ∧
  (∀ (n : SlotId) (s : State), s.mainUp = true → (s.slot n).ldo = false → (s.slot n).vcc = .off →
    ∃ t, exec (.voffAbove n) s = .next t ∧ s.changesSlot t n { s.slot n with tOff := true }))

/-- Each emergency trigger, on a powered slot that no job holds, starts the emergency order with its own cause, RST
falling at once; a removal also loses the card, with its CARD event. One that comes while a normal order runs turns
that order into an emergency one (R57, R58, R60, R62). The supplies and the reference clock. A supply trigger with
VCORE lost takes the main side off, and one without resets it; a lost reference clock holds it in reset, and its
return resets it; either way no slot stays powered up and the standby log keeps the cause. A fall of VSTBY loses
everything but Big Top's latch; VIN_RING's return sets VIN_OK (R25, R26, R29, R284, R374, R479). Where the spec
leaves the reading open this rests on the model's choices, log entries 11 and 69. -/
def Obligations.EmergenciesAndSuppliesAct : Prop :=
  (∀ (n : SlotId) (s : State), s.mainUp = true → (s.slot n).job = none →
    ((s.slot n).phase.live = true →
      let cut := fun (t : State) (c : Cause) =>
        (t.slot n).phase = .deactivating ∧ (t.slot n).cause = c ∧ (t.slot n).rst = false ∧
        (t.slot n).token = false ∧ (t.slot n).exch = none ∧ (t.slot n).gal = none ∧
        (t.slot n).deact.map (fun d => (d.emergency, d.step)) = some (true, .rstLow) ∧
        s.othersKeep t n ∧ t.jobs = s.jobs ∧ t.regs = s.regs
      ((s.slot n).ldo = true → (s.slot n).blanked = false →
        ∃ t, exec (.overcurrent n) s = .next t ∧ cut t .overcurrent) ∧
      ((s.slot n).ldo = true → (s.slot n).qualified = true →
        ∃ t, exec (.vccWindow n) s = .next t ∧ cut t .vccWindow) ∧
      (∀ at_, (s.slot n).shortDecides at_ = true →
        ∃ t, exec (.short n at_) s = .next t ∧ cut t .short) ∧
      ((s.slot n).present = true →
        ∃ t, exec (.removal n) s = .next t ∧ cut t .removal ∧ (t.slot n).present = false ∧
          (t.slot n).failCount = 0 ∧ (t.slot n).digest = none ∧
          ∃ e ∈ t.barker.queue, e.code = 0x0101 ∧ e.slot = some n ∧ e.arg = 0)) ∧
    (∀ d, (s.slot n).phase = .deactivating → (s.slot n).deact = some d → d.emergency = false →
      (s.slot n).ldo = true → (s.slot n).blanked = false →
      ∃ t, exec (.overcurrent n) s = .next t ∧ (t.slot n).phase = .deactivating ∧
        (t.slot n).cause = .overcurrent ∧ (t.slot n).stepTo = none ∧
        (t.slot n).deact.map (·.emergency) = some true ∧ s.othersKeep t n ∧ t.jobs = s.jobs)) ∧
  ((∀ (s : State), s.mainUp = true →
    (∃ t, exec (.supplyTrigger true) s = .next t ∧ t.power.main = .off ∧ t.power.vcoreOk = false ∧
      (∀ n, (t.slot n).phase.live = false) ∧ ∃ e ∈ t.standby.log, e.code = 0x0F02) ∧
    (∃ t, exec (.supplyTrigger false) s = .next t ∧ t.power.main = .up ∧ t.power.vinOk = false ∧
      t.regs.time = 0 ∧ t.regs.enable = false ∧ t.jobs = [] ∧ (∀ n, (t.slot n).vcc = .off)) ∧
    (s.power.refClock = true →
      ∃ t, exec .refClockLost s = .next t ∧ t.power.main = .reset .refClock ∧ t.power.refClock = false ∧
        (∀ n, (t.slot n).phase.live = false) ∧ ∃ e ∈ t.standby.log, e.code = 0x0F01)) ∧
  (∀ (s : State), s.power.vstby = true → s.power.main = .reset .refClock →
    ∃ t, exec .refClockRestored s = .next t ∧ t.power.main = .up ∧ t.power.refClock = true ∧
      t.regs.time = 0 ∧ t.regs.enable = false ∧ t.regs.booted = false) ∧
  (∀ (s : State), s.power.vstby = true →
    (∃ t, exec .vstbyFall s = .next t ∧
      t = { s with power := t.power, standby := t.standby, side := t.side, slots := t.slots } ∧
      t.power.vstby = false ∧ t.power.main = .off ∧ t.standby.log = [] ∧ t.standby.recov = [] ∧
      t.standby.tamper = s.standby.tamper ∧ ∀ n, (t.slot n).vcc = .off ∧ (t.slot n).present = false) ∧
    exec .vinRingRestored s =
      .next { s with power.vinOk := true, power.board.vinOk := true }))

/-- The presence filters of a slot that no job holds: PRESENT and ABSENT change the bit with their CARD event, PRESENT
ending a feed and ABSENT forgetting the card; in-band samples set PRES_BAND; too many transitions make an unpowered
slot UNSTABLE at once and a powered one at the end of its deactivation. A slot with open journal entries is
activated once after a start to resolve them (R47, R62, R65, R66, R68, R72, R186, R190, R253). Where the spec leaves
the reading open this rests on the model's choices, log entries 66 and 67. -/
def Obligations.PresenceFiltersDecide : Prop :=
  (∀ (n : SlotId) (s : State), s.mainUp = true → (s.slot n).job = none →
    ((s.slot n).present = false → (s.slot n).presHeld = false →
      ∃ t, exec (.presencePresent n) s = .next t ∧
        t = { s with slots := t.slots, place.feeds := t.place.feeds, barker := t.barker } ∧
        t.slot n = { s.slot n with present := true, presBand := false, feedBlocked := false, feed := none } ∧
        s.othersKeep t n ∧ ∃ e ∈ t.barker.queue, e.code = 0x0101 ∧ e.slot = some n ∧ e.arg = 1) ∧
    ((s.slot n).present = true → (s.slot n).phase.powered = false →
      ∃ t, exec (.presenceAbsent n) s = .next t ∧
        t = { s with slots := t.slots, requests := s.requests.filter (fun q => q.slot != n), barker := t.barker } ∧
        (t.slot n).present = false ∧ (t.slot n).digest = none ∧ (t.slot n).inventory = [] ∧
        (t.slot n).failCount = 0 ∧ (t.slot n).galFailed = false ∧
        (t.slot n).phase = (if (s.slot n).phase = .powerWait then .off else (s.slot n).phase) ∧
        s.othersKeep t n ∧ ∃ e ∈ t.barker.queue, e.code = 0x0101 ∧ e.slot = some n ∧ e.arg = 0) ∧
    ((s.slot n).presBand = false →
      ∃ t, exec (.presBand n) s = .next t ∧ t = { s with slots := t.slots, barker := t.barker } ∧
        t.slot n = { s.slot n with presBand := true } ∧ s.othersKeep t n ∧
        ∃ e ∈ t.barker.queue, e.code = 0x0102 ∧ e.slot = some n) ∧
    (∀ tr br, 8 < tr ∨ 32 < br →
      ((s.slot n).phase = .off ∨ (s.slot n).phase = .quarantined ∨ (s.slot n).phase = .powerWait →
        ∃ t, exec (.unstable n tr br) s = .next t ∧ (t.slot n).phase = .unstable ∧ s.othersKeep t n ∧
          (∀ q ∈ t.requests, (s.slot n).phase = .powerWait → q.slot ≠ n) ∧
          ∃ e ∈ t.barker.queue, e.code = 0x0104 ∧ e.slot = some n) ∧
      ((s.slot n).phase.powered = true →
        ∃ t, exec (.unstable n tr br) s = .next t ∧ s.changesSlot t n
          { s.slot n with transitions := tr, brokenRuns := br, unstablePending := true }))) ∧
  (∀ (n : SlotId) (k : CardClass) (s : State), s.booted = true → s.bank.started = true →
    (s.slot n).resolved = false → (s.slot n).job = none → s.canActivate n = true → (s.slot n).firstClass = some k →
    s.resolutionPlan n ≠ [] → s.regs.windDown = false → s.faults.fatalWindow = none → (s.slot n).check = .idle →
    ∃ t, exec (.resolutionActivation n) s = .next t ∧ (t.slot n).phase = .powerWait ∧ (t.slot n).cls = some k ∧
      (t.slot n).resolved = true ∧ (t.slot n).resolution = some (s.resolutionPlan n) ∧ s.othersKeep t n ∧
      ∃ q ∈ t.requests, q.slot = n ∧ q.cls = k)

/-- Comparator checks. A slot's starts only while it is unpowered and idle; one that passes lets a waiting activation go
on; one that fails fences an unpowered slot at once, and leaves a powered one, which no job holds, deactivating with
its fence pending. A ring check that passes lets the converter start; a failed standby set stops the ring's rotation
and fences nothing; any other of a ring's comparators fences the ring. A failed supply comparator is kept for the
device check (R300, R301, R305 to R307, R312). The rotation of the standby set: it is connected beside a powered
slot's comparator, takes over when the samples agree, gives back after the check, and samples that disagree have
both checked. PRES_A and PRES_R of an unpowered slot are checked by turns, as are a ring's twins (R301, R302). Where
the spec leaves the reading open this rests on the model's choices, log entry 86. -/
def Obligations.ComparatorChecksPassOrFence : Prop :=
  ((∀ (n : SlotId) (c : CompId) (s : State), s.mainUp = true →
    (c.isSlot = true → c.isPresence = false → (s.slot n).check = .idle → (s.slot n).phase.powered = false →
      ∃ t, exec (.comparatorCheck (.slot n) c) s = .next t ∧
        s.changesSlot t n { s.slot n with check := .running c }) ∧
    ((s.slot n).check = .running c →
      ((s.slot n).actWait = false → (s.ring (ringOf n)).rotation = none →
        ∃ t, exec (.comparatorCheckEnd (.slot n) c none) s = .next t ∧
          s.changesSlot t n { s.slot n with check := .idle }) ∧
      (∀ k, (s.slot n).actWait = true → (s.slot n).stepTo = none → (s.slot n).firstClass = some k →
        s.canActivate n = true →
        ∃ t, exec (.comparatorCheckEnd (.slot n) c none) s = .next t ∧ (t.slot n).phase = .powerWait ∧
          (t.slot n).check = .idle ∧ (t.slot n).cls = some k ∧ s.othersKeep t n) ∧
      (∀ k, (s.slot n).job = none → (s.slot n).phase = .off →
        ∃ t, exec (.comparatorCheckEnd (.slot n) c (some k)) s = .next t ∧ (t.slot n).phase = .fenced ∧
          (t.slot n).fenceSrc = .comparator ∧
          (t.slot n).fenceCode = (if c.isPresence then 0x0902 else 0x0901) ∧
          (c.isPresence = true → (t.slot n).present = false ∧ (t.slot n).presHeld = true) ∧ s.othersKeep t n ∧
          ∃ e ∈ t.barker.queue, e.code = 0x0901 ∧ e.slot = some n) ∧
      (∀ k, (s.slot n).job = none → (s.slot n).phase.live = true → (s.slot n).fencePending = false →
        ∃ t, exec (.comparatorCheckEnd (.slot n) c (some k)) s = .next t ∧ (t.slot n).phase = .deactivating ∧
          (t.slot n).cause = .host ∧ (t.slot n).fencePending = true ∧ (t.slot n).fenceSrc = .comparator ∧
          s.othersKeep t n))) ∧
  (∀ (r : RingId) (c : CompId) (s : State), s.mainUp = true →
    (c.isRing = true ∨ c.isStandby = true →
      ∃ t, exec (.comparatorCheck (.ring r) c) s = .next t ∧ c ∈ (t.ring r).checks ∧
        s.changesRing t r { s.ring r with checks := (t.ring r).checks }) ∧
    ((s.ring r).checks = [c] →
      (∃ t, exec (.comparatorCheckEnd (.ring r) c none) s = .next t ∧
        s.changesRing t r { s.ring r with checks := [], checkDue := false }) ∧
      (∀ k, c.isStandby = true →
        ∃ t, exec (.comparatorCheckEnd (.ring r) c (some k)) s = .next t ∧ (t.ring r).rotationStopped = true ∧
          (t.ring r).rotation = none ∧ (t.ring r).fenced = (s.ring r).fenced ∧ t.slots = s.slots ∧
          ∃ e ∈ t.barker.queue, e.code = 0x0902) ∧
      (∀ k, c.isStandby = false →
        ∃ t, exec (.comparatorCheckEnd (.ring r) c (some k)) s = .next t ∧ (t.ring r).fenced = true ∧
          ∃ e ∈ t.barker.queue, e.code = 0x0901 ∧ e.slot = none))) ∧
  (∀ (c : CompId) (k : Fin 3) (s : State), s.mainUp = true → c.isDevice = true → s.regs.enable = false →
    s.power.board.supplyFail = none →
    ∃ t, exec (.comparatorCheckEnd .device c (some k)) s = .next t ∧
      t.power.board.supplyFail = some (c, k) ∧ t.slots = s.slots ∧ t.rings = s.rings ∧
      ∃ e ∈ t.barker.queue, e.code = 0x0901)) ∧
  ((∀ (r : RingId) (k : Fin 8) (c : CompId) (s : State), s.mainUp = true →
    (c.isSlot = true → c.isPresence = false → (s.slot (slotOfRing r k)).phase.live = true →
      (s.slot (slotOfRing r k)).check = .idle → (s.ring r).rotation = none → (s.ring r).rotationStopped = false →
      ∃ t, exec (.rotationCheck r k c) s = .next t ∧
        s.changesRing t r { s.ring r with rotation := some (k, c), standbyHolds := false }) ∧
    ((s.ring r).rotation = some (k, c) → (s.slot (slotOfRing r k)).check = .idle →
      ((s.ring r).standbyHolds = true →
        ∃ t, exec (.handoverEnd r true) s = .next t ∧
          s.changesRing t r { s.ring r with rotation := none, standbyHolds := false }) ∧
      ((s.ring r).standbyHolds = false →
        ∃ t, exec (.handoverEnd r true) s = .next t ∧ t = { s with slots := t.slots, rings := t.rings } ∧
          t.ring r = { s.ring r with standbyHolds := true } ∧ (∀ q, q ≠ r → t.ring q = s.ring q) ∧
          t.slot (slotOfRing r k) = { s.slot (slotOfRing r k) with check := .running c } ∧
          s.othersKeep t (slotOfRing r k)) ∧
      (∃ t, exec (.handoverEnd r false) s = .next t ∧ t = { s with slots := t.slots, rings := t.rings } ∧
        (t.ring r).standbyHolds = false ∧ (∀ d ∈ [CompId.sbV1, .sbV2, .sbI, .sbSh], d ∈ (t.ring r).checks) ∧
        (t.slot (slotOfRing r k)).check = .running c ∧ s.othersKeep t (slotOfRing r k)))) ∧
  (∀ (n : SlotId) (s : State), s.power.vstby = true → (s.slot n).phase.powered = false → (s.slot n).check = .idle →
    ∃ t, exec (.presCheck n) s = .next t ∧ s.changesSlot t n
      { s.slot n with check := .running (if (s.slot n).presNext then .presR else .presA),
                      presNext := !(s.slot n).presNext }) ∧
  (∀ (r : RingId) (s : State), s.mainUp = true → (s.ring r).phase = .settled ∨ (s.ring r).phase = .ramping →
    ∃ t, exec (.twinCheck r) s = .next t ∧
      s.changesRing t r { s.ring r with twinB := !(s.ring r).twinB, checks := (t.ring r).checks } ∧
      ∀ d ∈ (if (s.ring r).twinB then [CompId.uvB, .ovB, .ot] else [CompId.uvA, .ovA, .ot]), d ∈ (t.ring r).checks))

/-- A ring's converter parks at class C and joins admission; with no token held it ramps up for the request at the head
of its queue, with the planned headroom; the end of the down hold ramps it down, or postpones that while something
stands in the way (R273 to R277). Each ring fault latches its own code, raises RING_FAULT and fences the ring: its
converter is off, every slot of the ring is fenced or will be once it is down, and no slot of another ring changes
(R285, R286, R305, R447). Where the spec leaves the reading open this rests on the model's choices, log entries 87
and 88. -/
def Obligations.RingConvertersRampAndFault : Prop :=
  (∀ (r : RingId) (s : State), s.mainUp = true →
    ((s.ring r).phase = .starting →
      ∃ t, exec (.ringParked r) s = .next t ∧ s.changesRing t r
        { s.ring r with phase := .settled, joined := true, railCls := .c, checkDue := false,
                        headroom := (s.ring r).headroomNext.getD (s.ring r).headroom, headroomNext := none }) ∧
    ((s.ring r).phase = .settled → (s.ring r).fenced = false → s.ringTokensUsed r = 0 →
      (∀ q rest, s.ringQueue r = q :: rest → classRank (s.ring r).railCls < classRank q.cls →
        ∃ t, exec (.railRetarget r) s = .next t ∧ s.changesRing t r
          { s.ring r with phase := .ramping, railCls := q.cls, headroomNext := none,
                          headroom := (s.ring r).headroomNext.getD (s.ring r).headroom }) ∧
      (s.ringQueue r = [] → (s.ring r).postponed = false → (s.ring r).headroomNext = none →
        exec (.railRetarget r) s = .next s)) ∧
    ((s.ring r).phase = .ramping →
      ∃ t, exec (.railSettled r) s = .next t ∧ s.changesRing t r { s.ring r with phase := .settled }) ∧
    ((s.ring r).downHold = true →
      ∃ t, exec (.downHoldEnd r) s = .next t ∧ t = { s with rings := t.rings } ∧ (t.ring r).downHold = false ∧
        (∀ q, q ≠ r → t.ring q = s.ring q) ∧
        (classRank (s.ring r).railCls ≤ classRank (s.ringClass r) →
          t.ring r = { s.ring r with downHold := false }) ∧
        (classRank (s.ringClass r) < classRank (s.ring r).railCls →
          (s.ringQueue r = [] → s.ringTokensUsed r = 0 → (s.ring r).phase = .settled →
            (t.ring r).phase = .ramping ∧ (t.ring r).railCls = s.ringClass r) ∧
          (s.ringQueue r ≠ [] ∨ s.ringTokensUsed r ≠ 0 ∨ (s.ring r).phase ≠ .settled →
            (t.ring r).postponed = true ∧ (t.ring r).phase = (s.ring r).phase ∧
            (t.ring r).railCls = (s.ring r).railCls)))) ∧
  (∀ (r : RingId) (s : State), s.mainUp = true → (∀ n, ringOf n = r → (s.slot n).job = none) →
    let out := fun (t : State) (code : W16) =>
      (t.ring r).fenced = true ∧ (t.ring r).phase = .off ∧ (∀ q, q ≠ r → t.ring q = s.ring q) ∧
      (∀ n, ringOf n = r → (t.slot n).phase.live = false ∧
        ((t.slot n).phase = .fenced ∨ (t.slot n).fencePending = true)) ∧
      (∀ n, ringOf n ≠ r → t.slot n = s.slot n) ∧ t.jobs = s.jobs ∧
      (∃ e ∈ t.barker.queue, e.code = 0x0802 ∧ e.slot = none) ∧ t.unitPhase (.ring r) = .fenced ∧
      (bit s.regs.errFirst 31 = false → s.faults.fatalWindow = none →
        t.regs.errFirst = BitVec.ofNat 32 (code.toNat + 2 ^ 31))
    ((s.ring r).phase = .settled ∨ (s.ring r).phase = .ramping →
      (∃ t, exec (.ringUv r) s = .next t ∧ out t 0x0801) ∧ (∃ t, exec (.ringOv r) s = .next t ∧ out t 0x0802)) ∧
    ((s.ring r).phase = .settled ∨ (s.ring r).phase = .ramping ∨ (s.ring r).phase = .starting →
      (∃ t, exec (.ringOc r) s = .next t ∧ out t 0x0803) ∧ (∃ t, exec (.ringOt r) s = .next t ∧ out t 0x0804)) ∧
    ((s.ring r).phase = .starting → ∃ t, exec (.ringStart r) s = .next t ∧ out t 0x0805) ∧
    ((s.ring r).phase = .ramping → ∃ t, exec (.ringSettle r) s = .next t ∧ out t 0x0806))

/-- The journal's group commit: what waits is programmed and, when the programs pass, durable, an ended job's
ISSUE_RESULT entry being written once its entries are; a new copy ends COPY_DUE; an erase keeps every entry that is
open, not durable or of a job that goes on. An RPP write programs WC as WCNT stood, brings the ANCHOR up to date and
raises WCNT by one (R247, R248, R256, R257, R260, R262, R263). The bank's blocks: open pages are padded; a block
listed for refresh or read 100 000 times, and the least-erased one of a target whose erase counts spread by more
than 200, is relocated; an erase that passes counts, and one that reaches the endurance, like any that fails, makes
the block grown-bad with its event and one spare less (R235, R237 to R239). Where the spec leaves the reading open
this rests on the model's choices, log entry 90. -/
def Obligations.TheBankStaysDurable : Prop :=
  (∀ (s : State), s.booted = true → s.bank.formatted = true →
    (s.bank.journal.any Intent.waits = true →
      ∃ t, exec .journalGroupCommit s = .next t ∧ t = { s with bank.journal := t.bank.journal } ∧
        (∀ e ∈ t.bank.journal, e.waits = false) ∧
        t.bank.journal.map (fun e => (e.jseq, e.durable, e.outcome.isSome)) =
          s.bank.journal.map (fun e => (e.jseq, e.durable, e.outcome.isSome))) ∧
    (s.bank.journal.any Intent.programming = true → s.faults.fatalWindow = none →
      (s.bank.issueEnds = [] →
        ∃ t, exec .journalDurable s = .next t ∧
          t.bank.journal = s.bank.journal.map Intent.commit ∧ (∀ e ∈ t.bank.journal, e.queued = false → e.durable = true) ∧
          t.bank.audit = s.bank.audit ∧ t.slots = s.slots ∧ t.jobs = s.jobs) ∧
      (∀ i, s.bank.issueEnds = [i] → (s.bank.journal.all (fun e => e.outcome.isSome && !e.waits)) = true →
        ∃ t a, exec .journalDurable s = .next t ∧ t.bank.issueEnds = [] ∧ t.bank.audit = s.bank.audit ++ [a] ∧
          a.atype = 1 ∧ a.jobId = i.jobId ∧ a.counter = i.counter ∧ a.aseq = s.bank.aseqNext ∧
          (i.done = true → a.outcome.toNat % 128 = 1))) ∧
    (∀ c, s.bank.copyDue = true → s.mirrorChans.contains c = true →
      exec (.journalCopy c) s = .next { s with bank.copyDue := false }) ∧
    (∀ upTo, ∃ t, exec (.journalBlockErase upTo) s = .next t ∧ t = { s with bank.journal := t.bank.journal } ∧
      (∀ e ∈ s.bank.journal, e.outcome = none ∨ (s.findJob e.jobId).isSome = true ∨ upTo.toNat < e.jseq.toNat →
        e ∈ t.bank.journal) ∧
      (∀ e ∈ t.bank.journal, e ∈ s.bank.journal) ∧
      (∀ e ∈ t.bank.journal, e.jseq.toNat ≤ upTo.toNat → s.keepsBlock e = true)) ∧
    (s.bank.started = true → s.bank.rppValid = true →
      let written : State :=
        { s with bank.rppWc := s.nv.wcnt, bank.anchorAseq := s.bank.aseqNext - 1,
                 bank.anchorChain := s.bank.chain, nv.wcnt := bumpWcnt s.nv.wcnt }
      exec .rppWrite s = .next written ∧
      (s.bank.anchorAseq.toNat + 1 < s.bank.aseqNext.toNat → exec .anchorUpdate s = .next written) ∧
      (s.bank.aseqNext.toNat ≤ s.bank.anchorAseq.toNat + 1 → exec .anchorUpdate s = .next s)) ∧
    (s.bank.rppValid = false → exec .rppWrite s = .next s)) ∧
  (∀ (tg : TargetId) (s : State), s.booted = true → s.bank.formatted = true →
    (∀ i b, s.block tg i = some b → b.bad = false →
      (b.padDue = true →
        ∃ t, exec (.pagePad tg i) s = .next t ∧ t = { s with bank.blocks := t.bank.blocks } ∧
          t.block tg i = some { b with padDue := false } ∧
          ∀ u k, (u, k) ≠ (tg, i) → t.block u k = s.block u k) ∧
      (b.refresh = true ∨ 100000 ≤ b.reads →
        ∃ t, exec (.blockRelocate tg i) s = .next t ∧ t = { s with bank.blocks := t.bank.blocks } ∧
          t.block tg i = some { b with refresh := false, reads := 0, padDue := false } ∧
          ∀ u k, (u, k) ≠ (tg, i) → t.block u k = s.block u k)) ∧
    (∀ b, leastErased (s.wearBlocks tg) = some b →
      (b.erases + 200 < ((s.wearBlocks tg).map (·.erases)).foldl max 0 →
        ∃ t, exec (.wearLevel tg) s = .next t ∧ t = { s with bank.blocks := t.bank.blocks } ∧
          (t.block tg b.index).map (fun c => (c.refresh, c.reads)) = some (false, 0)) ∧
      (((s.wearBlocks tg).map (·.erases)).foldl max 0 ≤ b.erases + 200 →
        exec (.wearLevel tg) s = .next s)) ∧
    (∀ i k, s.bank.targets.find? (fun k => k.id == tg) = some k →
      (∀ b, s.block tg i = some b → b.bad = false → b.erases + 1 < k.endurance →
        ∃ t, exec (.mediaProgramDone tg i true true) s = .next t ∧ t = { s with bank.blocks := t.bank.blocks } ∧
          t.block tg i = some { b with refresh := false, reads := 0, padDue := false, erases := b.erases + 1 }) ∧
      (∀ b erase, s.block tg i = some b → b.bad = false →
        ∃ t, exec (.mediaProgramDone tg i erase false) s = .next t ∧
          (t.block tg i).map (·.bad) = some true ∧
          (t.bank.targets.find? (fun k => k.id == tg)).map (·.spares) = some (k.spares - 1) ∧
          ∃ e ∈ t.barker.queue, e.code = 0x0706) ∧
      (s.hasPairedPages = true → ∃ t, exec (.mediaProgramDone tg i false true) s = .next t ∧
        t = { s with bank.blocks := t.bank.blocks } ∧ (t.block tg i).map (·.padDue) = some true)))


/-! ## The card link (03, 04) -/

/-- The ATR of a slot that no job holds. One not intact, late or broken fails the attempt with ATR_ERROR; none at all,
or a class it excludes, goes on to the next class of the mask, or fails the attempt when there is none left; a good
one is followed by PPS when the policy asks for it, by READY under T=0, and by S(IFS) under T=1. A PPS echo is
accepted, and a wrong or missing answer fails the attempt and marks the card (R42, R51, R52, R72, R90, R98 to R103).
Where the spec leaves the reading open this rests on the model's choices, log entries 71 and 72. -/
def Obligations.AtrLeadsToReady : Prop :=
  ∀ (n : SlotId) (s : State), s.mainUp = true → (s.slot n).phase = .atrWait → (s.slot n).job = none →
    let fails := fun (t : State) (c : Cause) =>
      (t.slot n).phase = .deactivating ∧ (t.slot n).cause = c ∧ (t.slot n).rst = false ∧
      (t.slot n).failCount = min 3 ((s.slot n).failCount + 1) ∧ s.othersKeep t n ∧ t.jobs = s.jobs
    let stepped := fun (t : State) (c : Cause) =>
      match (if (s.slot n).warm then none else (s.slot n).stepClass) with
      | some k => (t.slot n).phase = .deactivating ∧ (t.slot n).cause = .classStep ∧
          (t.slot n).stepTo = some k ∧ (t.slot n).failCount = (s.slot n).failCount ∧ s.othersKeep t n
      | none => fails t c
    let accepted := fun (t : State) (fi di : Nat) (p : Proto) =>
      (t.slot n).proto = p ∧ (t.slot n).failCount = 0 ∧ (t.slot n).fiCode = fi ∧
      (t.slot n).shadow = some (runRate (s.slot n).clkDivMin fi di) ∧ s.othersKeep t n ∧ t.jobs = s.jobs ∧
      (p = .t0 → (t.slot n).phase = .ready ∧ t.out = s.out) ∧
      (p = .t1 → (t.slot n).phase = .busy ∧ (t.slot n).exch.map (·.kind) = some .sIfs ∧
        (t.slot n).t1.ifsOut = true ∧ ∃ bs, t.out = s.out ++ [.chars n bs])
    ((s.slot n).rst = true → (s.slot n).pps = none →
      (∀ raw f, atrIntact raw f = false → ∃ t, exec (.atrReceived n raw f) s = .next t ∧ fails t .atrError) ∧
      (∀ raw f, atrIntact raw f = true → (readAtr raw).excludes (s.slot n).cls = true →
        ∃ t, exec (.atrReceived n raw f) s = .next t ∧ stepped t .atrError) ∧
      (∀ raw f, atrIntact raw f = true → (readAtr raw).excludes (s.slot n).cls = false →
        (readAtr raw).broken = true → ∃ t, exec (.atrReceived n raw f) s = .next t ∧ fails t .atrError) ∧
      (∀ raw f, atrIntact raw f = true → (readAtr raw).excludes (s.slot n).cls = false →
        (readAtr raw).broken = false →
        (∀ p ta, (readAtr raw).proposal (s.slot n).ppsPolicy (s.slot n).ppsFailed = some (p, ta) →
          ∃ t, exec (.atrReceived n raw f) s = .next t ∧ (t.slot n).phase = .atrWait ∧
            (t.slot n).pps = some (ppsRequest p (ta.map (·.1))) ∧ s.othersKeep t n ∧
            ∃ bs, t.out = s.out ++ [.chars n bs]) ∧
        ((readAtr raw).proposal (s.slot n).ppsPolicy (s.slot n).ppsFailed = none →
          (s.slot n).warmDue = false → (s.slot n).resolution = none →
          ∃ t, exec (.atrReceived n raw f) s = .next t ∧
            accepted t (readAtr raw).plain.2.1 (readAtr raw).plain.2.2 (protoOf (readAtr raw).plain.1))) ∧
      (∃ t, exec (.noAtr n) s = .next t ∧ stepped t .noAtr) ∧
      (∃ t, exec (.atrGapTimeout n) s = .next t ∧ fails t .atrError)) ∧
    (∀ req plan, (s.slot n).pps = some req → (s.slot n).ppsPlan = some plan →
      (∀ raw f, ppsOutcome req raw f plan = none →
        ∃ t, exec (.ppsResponse n raw f) s = .next t ∧ fails t .atrError ∧ (t.slot n).ppsFailed = true) ∧
      (∀ raw f fi di p, ppsOutcome req raw f plan = some (fi, di, p) → (s.slot n).warmDue = false →
        (s.slot n).resolution = none →
        ∃ t, exec (.ppsResponse n raw f) s = .next t ∧ accepted t fi di p ∧ (t.slot n).pps = none) ∧
      (∃ t, exec (.ppsTimeout n) s = .next t ∧ fails t .atrError ∧ (t.slot n).ppsFailed = true))

/-- T=1 received blocks. An I-block in sequence ends the exchange OK with its status word, or, with its M bit, is
acknowledged; an R-block sends the next part of the command, or the last block again; S-blocks are served: S(IFS)
sets IFSC, S(WTX) the multiplier, S(ABORT) ends the exchange ABORTED, S(RESYNCH response) RESYNCHED with both
sequence numbers 0 and S(IFS) after it (R89 to R94, R97). T=1 errors: a missing block and a broken one are answered
with an R-block while attempts remain, then S(RESYNCH) goes out, and after the third of those the exchange ends
PARITY when the last failure was an invalid block, TIMEOUT otherwise; the answer to S(RESYNCH) ends the exchange
RESYNCHED with both sequence numbers 0 and S(IFS) sent again (R92, R93, R96). Where the spec leaves the reading open
this rests on the model's choices, log entries 47 and 48. -/
def Obligations.T1BlocksAreServed : Prop :=
  (∀ (n : SlotId) (e : Exch) (s : State), s.t1Awaits n = true → (s.slot n).exch = some e →
    (s.slot n).t1.resynchOut = false →
    (∀ blk pcb inf, t1Read (s.slot n).t1.crc blk = some (pcb, inf) → bit pcb 7 = false →
      (s.slot n).t1.ifsOut = false → (s.slot n).t1.abortOut = false → (s.slot n).t1.chaining = false →
      bit pcb 6 = (s.slot n).t1.nr →
      (bit pcb 5 = false → 2 ≤ (e.resp ++ inf).length → (e.resp ++ inf).length ≤ e.respMax + 2 →
        ∃ t, exec (.iBlock n blk) s = .next t ∧ s.exchEnds t n .ok ∧
          ((t.slot n).ended.getLast?).map (fun r => (r.resp, r.sw)) =
            some ((e.resp ++ inf).take ((e.resp ++ inf).length - 2),
              BitVec.ofNat 16 (beAt (e.resp ++ inf) ((e.resp ++ inf).length - 2) 2))) ∧
      (bit pcb 5 = true → s.stopAsked n = false →
        ∃ t, exec (.iBlock n blk) s = .next t ∧ s.slotSends t n ∧
          (t.slot n).exch.map (·.resp) = some (e.resp ++ inf) ∧ (t.slot n).t1.nr = !(s.slot n).t1.nr)) ∧
    (∀ blk, t1Read (s.slot n).t1.crc blk = none → (s.slot n).t1.attempts < 3 →
      ∃ t, exec (.iBlock n blk) s = .next t ∧ s.slotSends t n ∧
        (t.slot n).t1.attempts = (s.slot n).t1.attempts + 1) ∧
    (∀ blk pcb inf, t1Read (s.slot n).t1.crc blk = some (pcb, inf) → bit pcb 7 = true → bit pcb 6 = false →
      (s.slot n).t1.ifsOut = false → (s.slot n).t1.abortOut = false →
      (bit pcb 4 = (s.slot n).t1.ns → (s.slot n).t1.chaining = true → s.stopAsked n = false →
        ∃ t, exec (.rBlock n blk) s = .next t ∧ s.slotSends t n ∧
          (t.slot n).exch.map (·.rest) = some (e.rest.drop (s.slot n).t1.ifsc) ∧
          (t.slot n).t1.ns = !(s.slot n).t1.ns) ∧
      (bit pcb 4 ≠ (s.slot n).t1.ns → (s.slot n).t1.attempts < 3 →
        ∃ t, exec (.rBlock n blk) s = .next t ∧ s.slotSends t n ∧
          t.out = s.out ++ [.chars n ((s.slot n).t1.last.map (lineByte (s.slot n).inverse))])) ∧
    (∀ v : Byte, v ≠ 0 → v ≠ 0xFF →
      ∃ t, exec (.sIfsRequest n v) s = .next t ∧ s.slotSends t n ∧ (t.slot n).t1.ifsc = v.toNat) ∧
    ((s.slot n).t1.ifsOut = true → (s.slot n).ltsDue = false → (s.slot n).warmDue = false →
      (s.slot n).resolution = none →
      ∃ t, exec (.sIfsResponse n 0xFE) s = .next t ∧ s.changesSlot t n
        { s.slot n with exch := none, phase := .ready,
                        t1 := { (s.slot n).t1 with ifsOut := false, attempts := 0 } }) ∧
    (∀ m : Byte, m ≠ 0 →
      ∃ t, exec (.sWtxRequest n m) s = .next t ∧ s.slotSends t n ∧ (t.slot n).t1.wtx = m.toNat) ∧
    (∃ t, exec (.sAbortRequest n) s = .next t ∧ s.exchEnds t n .aborted ∧ ∃ bs, t.out = s.out ++ [.chars n bs]) ∧
    ((s.slot n).t1.abortOut = true → ∃ t, exec (.sAbortResponse n) s = .next t ∧ s.exchEnds t n .aborted)) ∧
  (∀ (n : SlotId) (e : Exch) (s : State), s.t1Awaits n = true → (s.slot n).exch = some e →
    ((s.slot n).t1.resynchOut = false → (s.slot n).t1.attempts < 3 →
      (∃ t, exec (.bwtTimeout n) s = .next t ∧ s.slotSends t n ∧
        (t.slot n).t1.attempts = (s.slot n).t1.attempts + 1) ∧
      (∃ t, exec (.cwtOverrun n) s = .next t ∧ s.slotSends t n ∧
        (t.slot n).t1.attempts = (s.slot n).t1.attempts + 1)) ∧
    ((s.slot n).t1.resynchOut = false → 3 ≤ (s.slot n).t1.attempts →
      ∃ t, exec (.bwtTimeout n) s = .next t ∧ s.slotSends t n ∧ (t.slot n).t1.resynchOut = true ∧
        (t.slot n).t1.resynchs = (s.slot n).t1.resynchs + 1) ∧
    ((s.slot n).t1.resynchOut = true → 3 ≤ (s.slot n).t1.resynchs →
      (∃ t, exec (.bwtTimeout n) s = .next t ∧ s.exchEnds t n .timeout) ∧
      (∃ t, exec (.cwtOverrun n) s = .next t ∧ s.exchEnds t n .timeout) ∧
      (∀ blk, t1Read (s.slot n).t1.crc blk = none →
        ∃ t, exec (.iBlock n blk) s = .next t ∧ s.exchEnds t n .parity)) ∧
    ((s.slot n).t1.resynchOut = true → e.kind ≠ .sIfs →
      ∃ t r, exec (.sResynchResponse n) s = .next t ∧ s.othersKeep t n ∧ t.jobs = s.jobs ∧
        (t.slot n).ended = (s.slot n).ended ++ [r] ∧ r.status = .resynched ∧ r.job = e.job ∧ r.step = e.step ∧
        (t.slot n).t1.ns = false ∧ (t.slot n).t1.nr = false ∧ (t.slot n).t1.resynchOut = false ∧
        (t.slot n).exch.map (·.kind) = some .sIfs ∧ ∃ bs, t.out = s.out ++ [.chars n bs]))

/-- T=0 on the wire. A good character joins the response, a bad one is answered with the error signal and a character
the card flags is sent again, the fifth error ending the exchange PARITY; a procedure byte INS sends the rest of the
data, its complement one byte, 0x60 waits, 61xx fetches the response, a status word ends the exchange OK and any
other byte ends it PROTOCOL. The waiting time, the limit and a stuck line end it with their own status (R81, R84,
R85, R87, R96, R97). A staged rate applies between characters; a card that allows it has its clock stopped at the
level it names, and restarted; a warm reset of a powered card keeps VCC, drops RST and awaits the ATR at the default
rate, and one of a card in any other state fails with 0x020E (R45, R105, R108 to R111, R168, R172). Where the spec
leaves the reading open this rests on the model's choices, log entries 49 and 73. -/
def Obligations.T0ExchangesAndClockRun : Prop :=
  (∀ (n : SlotId) (e : Exch) (s : State), s.t0Runs n = true → (s.slot n).exch = some e →
    (∃ t, exec (.wtTimeout n) s = .next t ∧ s.exchEnds t n .timeout) ∧
    ((s.slot n).gal = none →
      (∃ t, exec (.exchLimit n) s = .next t ∧ s.exchEnds t n .exchLimit) ∧
      (∃ t, exec (.lineStuck n) s = .next t ∧ s.exchEnds t n .lineStuck)) ∧
    (∀ b, 0 < e.t0Expect →
      ∃ t, exec (.t0Character n b false false) s = .next t ∧ s.changesSlot t n
        { s.slot n with exch := some { e with resp := e.resp ++ [b], t0Expect := e.t0Expect - 1,
                                              t0Errors := 0, t0ErrAt := 0 } }) ∧
    (∀ b bad overrun, bad = true ∨ overrun = true → (e.t0ErrAt = 0 → e.t0Errors < 4) →
      ∃ t, exec (.t0Character n b bad overrun) s = .next t ∧ s.othersKeep t n ∧ t.out = s.out ++ [.errorSignal n] ∧
        (t.slot n).ended = (s.slot n).ended ∧
        (t.slot n).exch.map (fun x => (x.t0Errors, x.resp)) =
          some (if e.t0ErrAt = 0 then e.t0Errors + 1 else 1, e.resp)) ∧
    (∀ b, e.t0ErrAt = 0 → 4 ≤ e.t0Errors →
      ∃ t, exec (.t0Character n b true false) s = .next t ∧ s.exchEnds t n .parity) ∧
    (∀ i, i < e.sentChars.length → e.t0ErrAt ≠ i + 1 →
      ∃ t, exec (.errorSignalSeen n i) s = .next t ∧ s.slotSends t n ∧
        t.out = s.out ++ [.chars n [lineByte (s.slot n).inverse (byteAt e.sentChars i)]]) ∧
    (e.t0Expect = 0 →
      (∀ b2, byteAt e.apdu 1 ≠ 0x60 → byteAt e.apdu 1 ≠ 0x9F →
        ∃ t, exec (.procedureByte n 0x60 b2) s = .next t ∧ s.changesSlot t n
          { s.slot n with exch := some { e with t0Errors := 0, t0ErrAt := 0 } }) ∧
      (∀ b2, t0Data e.apdu ≠ [] →
        ∃ t, exec (.procedureByte n (byteAt e.apdu 1) b2) s = .next t ∧ s.slotSends t n ∧
          (t.slot n).exch.map (·.t0Sent) =
            some (e.t0Sent + (slice (t0Data e.apdu) e.t0Sent ((t0Data e.apdu).length - e.t0Sent)).length)) ∧
      (∀ b b2, b ≠ byteAt e.apdu 1 → b ≠ byteAt e.apdu 1 ^^^ 0xFF →
        (b = 0x61 →
          ∃ t, exec (.procedureByte n b b2) s = .next t ∧ s.slotSends t n ∧
            (t.slot n).exch.map (·.t0Follow) = some (some [0x00, 0xC0, 0x00, 0x00, b2])) ∧
        (b ≠ 0x60 → b ≠ 0x61 → b ≠ 0x6C → (field b 4 4 = 6 ∨ field b 4 4 = 9) → e.resp.length ≤ e.respMax →
          ∃ t, exec (.procedureByte n b b2) s = .next t ∧ s.exchEnds t n .ok ∧
            ((t.slot n).ended.getLast?).map (fun r => (r.resp, r.sw)) =
              some (e.resp, BitVec.ofNat 16 (b.toNat * 256 + b2.toNat))) ∧
        (field b 4 4 ≠ 6 → field b 4 4 ≠ 9 →
          ∃ t, exec (.procedureByte n b b2) s = .next t ∧ s.exchEnds t n .protocol)))) ∧
  ((∀ (n : SlotId) (s : State), s.mainUp = true →
    ((s.slot n).clk = .run →
      ∃ t, exec (.rateApply n) s = .next t ∧ s.changesSlot t n
        { s.slot n with rate := (s.slot n).shadow.getD (s.slot n).rate, shadow := none }) ∧
    ((s.slot n).phase = .ready → (s.slot n).clk = .run → (s.slot n).exch = none → (s.slot n).ended = [] →
      (s.slot n).clkStopEn = true → (s.slot n).xi ≠ 0 → (s.slot n).job = none →
      ∃ t, exec (.clockStop n) s = .next t ∧ s.changesSlot t n
        { s.slot n with clk := if (s.slot n).xi = 2 then .high else .low }) ∧
    ((s.slot n).phase = .ready → (s.slot n).clk ≠ .run →
      ∃ t, exec (.clockRestart n) s = .next t ∧ s.changesSlot t n { s.slot n with clk := .run })) ∧
  (∀ (id : JobId) (j : Job) (n : SlotId) (s : State), s.booted = true → s.faults.fatalWindow = none →
    s.findJob id = some j → j.ticket.isSlotAdmin = true → j.ticket.op = 3 → j.phase = .placed → j.slot = some n →
    s.deadlinePassed j = false →
    ((s.slot n).phase = .ready ∨ (s.slot n).phase = .galloper ∨ (s.slot n).phase = .busy →
      ∃ t, exec (.warmReset id) s = .next t ∧ (t.slot n).phase = .atrWait ∧ (t.slot n).warm = true ∧
        (t.slot n).rst = false ∧ (t.slot n).vcc = (s.slot n).vcc ∧ (t.slot n).clk = .run ∧
        (t.slot n).exch = none ∧ (t.slot n).gal = none ∧ (t.slot n).rate.f = 372 ∧ (t.slot n).rate.d = 1 ∧
        (t.slot n).rate.n = (s.slot n).clkDivAct ∧ (t.findJob id).map (·.phase) = some .started ∧
        s.othersKeep t n ∧ t.closing = s.closing) ∧
    ((s.slot n).phase ≠ .ready → (s.slot n).phase ≠ .galloper → (s.slot n).phase ≠ .busy →
      ∃ t, exec (.warmReset id) s = .next t ∧ s.jobEnds t j .failed 0x020E j.result)))

/-- The report of an ended exchange of a started job's only command, on a slot with no fence pending. The step's own
status word, with nothing left to run, ends the job DONE with its result, its entry settled; another, where neither
ALT nor ON_FAIL leads on, ends it FAILED with the step's code. An exchange that failed leaves a NON_IDEMPOTENT job
RESOLVING, and another is QUEUED again under the next generation. A result that no job waits for counts as stale
(R97, R173, R192 to R194, R203, R246). Where the spec leaves the reading open this rests on the model's choices, log
entries 58 and 60. -/
def Obligations.ExchangeReportsMoveTheJob : Prop :=
  ∀ (n : SlotId) (e : Ended) (rest : List Ended) (s : State), s.booted = true →
    (s.slot n).ended = e :: rest → e.kind = .step →
    (s.findJob e.job = none → (s.slot n).gal = none → (s.slot n).fencePending = false →
      (s.slot n).warmDue = false → e.status.warmReset = false → (s.slot n).resolution = none →
      ∃ t, exec (.exchangeEnd n 0 0) s = .next t ∧ t.place.stale = s.place.stale + 1 ∧
        (t.slot n).ended = rest ∧ s.othersKeep t n ∧ t.jobs = s.jobs ∧
        ∃ v ∈ t.barker.queue, v.code = 0x0205) ∧
    (∀ (j : Job) (r : Run) (c : Staged) (st : Step), s.findJob e.job = some j → j.ticket.jobId = e.job →
      j.gen = e.gen → j.phase = .started → j.slot = some n → j.run = some r → j.cancelWith = none →
      r.staged = [c] → c.sent = true → c.kind = .step → c.step = e.step → c.csn = e.csn → c.step ≠ 0 →
      r.profile.steps[c.step]? = some st → st.wrap = false → st.is61 = false → st.sync = false →
      (e.status = .ok → swMatches e.sw st.expSw st.expMask = true → r.next = none → r.held = none →
        ∃ t, exec (.exchangeEnd n 0 0) s = .next t ∧
          s.jobEnds t j .done 0 (if st.ret then (j.result ++ e.resp).take 4096 else j.result) ∧
          (∀ q, c.jseq = some q → ∀ i ∈ t.bank.journal, i.jseq = q → i.outcome.isSome = true)) ∧
      (e.status = .ok → swMatches e.sw st.expSw st.expMask = false → st.altTo = 0xFF → st.onFail = 0xFF →
        st.ret = false →
        ∃ t, exec (.exchangeEnd n 0 0) s = .next t ∧
          s.jobEnds t j .failed st.failCode (j.result.take c.cp.resultLen)) ∧
      (e.status = .timeout → j.ticket.nonIdempotent = true →
        ∃ t k, exec (.exchangeEnd n 0 0) s = .next t ∧ t.findJob e.job = some k ∧ k.phase = .resolving ∧
          k.exch = .timeout ∧ k.gen = j.gen ∧ t.closing = s.closing) ∧
      (e.status = .timeout → j.ticket.nonIdempotent = false → s.regs.windDown = false →
        j.replaced < s.regs.maxReplace → s.deadlinePassed j = false →
        ∃ t k, exec (.exchangeEnd n 0 0) s = .next t ∧ t.findJob e.job = some k ∧ k.phase = .queued ∧
          k.gen = j.gen + 1 ∧ (t.slot n).job = none ∧ t.closing = s.closing))


/-! ## Galloper mode (04) -/

/-- The mode switch. A good answer within what was proposed opens a session at the card's code and depth, the next CSN
1; a refusal, an answer outside it or a failed exchange marks the card Galloper-failed with its event. Once the
Galloper clock runs, C7 is driven and D0 pulled up; the quiet time ends before any token (R114 to R122, R141, R151).
The Galloper clock and the eye sweep. An idle card that allows it has its clock stopped, and restarted; a staged
code applies at the next idle, within the sample codes; a sweep starts at phase code 0 in a granted window, notes
each code's lines, and its end keeps the eye and gives the window back (R152 to R157, R189, R459). Where the spec
leaves the reading open this rests on the model's choices, log entries 77, 79 and 80. -/
def Obligations.GalloperSessionsOpenAndTune : Prop :=
  ((∀ (n : SlotId) (e : Ended) (rest : List Ended) (s : State), s.booted = true →
    (s.slot n).ended = e :: rest → e.kind = .modeSwitch →
    (∀ p k w, e.status = .ok → e.sw = 0x9000 → (s.slot n).proposal = some p → switchAnswer p e.resp = some (k, w) →
      ∃ t g, exec (.modeSwitchAnswer n true e.resp e.sw) s = .next t ∧ (t.slot n).phase = .galloper ∧
        (t.slot n).proto = .galloper ∧ (t.slot n).galLimits = true ∧ (t.slot n).gal = some g ∧ g.code = k ∧
        g.depth = w ∧ g.sid = p.2.2 ∧ g.csnNext = 1 ∧ g.window = [] ∧ g.switching = true ∧
        (t.slot n).ended = rest ∧ t = { s with slots := t.slots } ∧ s.othersKeep t n) ∧
    (e.status = .ok →
      e.sw ≠ 0x9000 ∨ (∀ p, (s.slot n).proposal = some p → switchAnswer p e.resp = none) →
      ∃ t, exec (.modeSwitchAnswer n true e.resp e.sw) s = .next t ∧ (t.slot n).galFailed = true ∧
        ∃ v ∈ t.barker.queue, v.code = 0x0108 ∧ v.slot = some n) ∧
    (e.status ≠ .ok →
      ∃ t, exec (.modeSwitchAnswer n false [] 0) s = .next t ∧ (t.slot n).galFailed = true ∧
        ∃ v ∈ t.barker.queue, v.code = 0x0108 ∧ v.slot = some n)) ∧
  (∀ (n : SlotId) (g : Gal) (s : State), s.mainUp = true → (s.slot n).gal = some g →
    (g.switching = true →
      ∃ t, exec (.galloperClockApply n) s = .next t ∧ s.changesSlot t n
        { s.slot n with gal := some { g with switching := false, quiet := true }, d0PullUp := true,
                        io := .pushPull, clk := .run }) ∧
    (g.quiet = true → g.window = [] → g.expect = .none → g.giveUp = none → g.ltsNeeded = false →
      (s.slot n).phase = .galloper → (s.slot n).ended = [] →
      ∃ t, exec (.quietEnd n) s = .next t ∧ s.changesSlot t n
        { s.slot n with gal := some { g with quiet := false } }))) ∧
  (∀ (n : SlotId) (g : Gal) (s : State), s.mainUp = true → (s.slot n).gal = some g →
    (g.free = true → g.window = [] → g.sweep = none → (s.slot n).d0Busy = false → (s.slot n).job = none →
      (s.slot n).clkStopEn = true → (s.slot n).galCap.map (·.stopOk) = some true →
      ∃ t, exec (.galloperClockStop n) s = .next t ∧ s.changesSlot t n
        { s.slot n with clk := .low, gal := some { g with stopped := true } }) ∧
    (g.stopped = true → g.window = [] → g.expect = .none → g.giveUp = none → g.ltsNeeded = false →
      (s.slot n).phase = .galloper → (s.slot n).ended = [] →
      ∃ t, exec (.galloperClockRestart n) s = .next t ∧ s.changesSlot t n
        { s.slot n with clk := .run, gal := some { g with stopped := false } }) ∧
    (∀ c, g.expect = .none → g.switching = false → g.quiet = false → g.staged = some c →
      ∃ t h, exec (.galloperCodeApply n) s = .next t ∧ s.changesSlot t n { s.slot n with gal := some h } ∧
        h = { g with code := c, staged := none, phases := h.phases } ∧
        ∀ k : Fin 4, h.phases[k.val] = movePhase g.phases[k.val] g.code c k.val ∧ h.phases[k.val] ≤ 127) ∧
    ((s.slot n).phase = .galloper → (s.slot n).window = true → g.window = [] → g.free = true → g.ltsNeeded = false →
      g.giveUp = none → g.sweep = none →
      ∃ t tok, exec (.eyeSweep n) s = .next t ∧ t = { s with slots := t.slots, out := s.out ++ [.token n tok] } ∧
        t.slot n = { s.slot n with gal := some { g with sweep := some (0, []), expect := .train } } ∧
        s.othersKeep t n) ∧
    (∀ k l blk ok, g.expect = .train → g.sweep = some (k, l) →
      (k < 127 →
        ∃ t tok, exec (.trainPattern n blk ok) s = .next t ∧
          t = { s with slots := t.slots, out := s.out ++ [.token n tok] } ∧
          t.slot n = { s.slot n with gal := some { g with sweep := some (k + 1, trainPass ok blk :: l) } } ∧
          s.othersKeep t n) ∧
      (127 ≤ k → g.window = [] → g.giveUp = none → g.ltsNeeded = false → (s.slot n).phase = .galloper →
        (s.slot n).ended = [] →
        ∃ t, exec (.trainPattern n blk ok) s = .next t ∧ (t.slot n).window = false ∧
          (t.slot n).gal.map (fun h => (h.sweep, h.expect)) = some (none, .none) ∧
          (t.planOf n).swept = true ∧ (t.planOf n).eyeCode = g.code ∧ (t.planOf n).asks = false ∧
          (t.planOf n).eye = ((sweepEyes (trainPass ok blk :: l)).toList.map (·.2)).foldl min 128 ∧
          s.othersKeep t n ∧ t.jobs = s.jobs)))

/-- Tokens and blocks. An RCV that accepts a command marks it; an RSP to FETCH with a length awaits its block, without
one ends the command with its status word; a good read block ends it OK with its bytes, and the failed one of a
window ends what comes after it CANCELLED. A response that is missing, wrong or broken is a link error: the next
action is to read the record (R124 to R134, R139, R140, R142, R146, R147). Busy and stuck lines. A response that
becomes ready is fetched; a card busy beyond its limit, with or without a command, is deactivated with cause
BUSY_LIMIT, its session and window gone; a stuck C7 marks the card, ends every command LINE_STUCK and warm-resets it
(R136 to R138, R149, R151, R159). Where the spec leaves the reading open this rests on the model's choices, log
entry 78. -/
def Obligations.GalloperCommandsComplete : Prop :=
  (∀ (n : SlotId) (g : Gal) (w : WCmd) (s : State), s.mainUp = true → (s.slot n).gal = some g →
    (s.slot n).phase = .busy → (s.slot n).warmDue = false → g.window = [w] → g.giveUp = none →
    g.switching = false → g.quiet = false → g.stopped = false → g.ltsNeeded = false → g.sweep = none → w.refused = false →
    (∀ tok v, g.expect = .rcv w.csn → tokRead tok = some v → v.op = 0x01 → v.csn = w.csn → v.aux = 0 →
      w.ready = false →
      ∃ t, exec (.rcvToken n tok) s = .next t ∧ t = { s with slots := t.slots } ∧ s.othersKeep t n ∧
        (t.slot n).phase = .busy ∧ (t.slot n).d0Busy = true ∧
        (t.slot n).gal.map (fun g => (g.window, g.expect)) = some ([{ w with accepted := true }], .none)) ∧
    (∀ tok v, g.expect = .rsp w.csn → tokRead tok = some v → v.op = 0x02 → v.csn = w.csn → v.aux ≠ 0 → v.aux ≠ 1 →
      v.aux ≠ 2 →
      (v.len ≠ 0 →
        ∃ t, exec (.rspToken n tok) s = .next t ∧ t = { s with slots := t.slots } ∧ s.othersKeep t n ∧
          (t.slot n).gal.map (·.expect) = some (.block w.csn v.len.toNat v.aux)) ∧
      (v.len = 0 →
        ∃ t r, exec (.rspToken n tok) s = .next t ∧ t = { s with slots := t.slots } ∧ s.othersKeep t n ∧
          (t.slot n).ended = (s.slot n).ended ++ [r] ∧ r.status = .ok ∧ r.sw = v.aux ∧ r.csn = w.csn ∧
          r.job = w.job ∧ r.resp = [] ∧ (t.slot n).gal.map (·.window) = some [])) ∧
    (∀ blk len sw, g.expect = .block w.csn len sw → blockErrors len blk = [] → len ≤ w.respMax →
      (blockBytes len blk).length ≤ w.respMax →
      ∃ t r, exec (.readBlock n blk) s = .next t ∧ t = { s with slots := t.slots } ∧ s.othersKeep t n ∧
        (t.slot n).ended = (s.slot n).ended ++ [r] ∧ r.status = .ok ∧ r.sw = sw ∧ r.csn = w.csn ∧ r.job = w.job ∧
        r.gen = w.gen ∧ r.step = w.step ∧ r.resp = blockBytes len blk ∧
        (t.slot n).gal.map (·.window) = some []) ∧
    (∀ len sw blk, g.expect = .block w.csn len sw → blockErrors len blk ≠ [] → g.linkErrors + 1 < 8 → g.code ≠ 0 →
      w.accepted = true → w.ready = false →
      ∃ t, exec (.readBlock n blk) s = .next t ∧ s.othersKeep t n ∧ t.jobs = s.jobs ∧
        (t.slot n).gal.map (fun h => (h.linkErrors, h.expect, h.window)) = some (g.linkErrors + 1, .ltsRsp, g.window) ∧
        ∃ tok, t.out = s.out ++ [.token n tok]) ∧
    ((g.expect = .rcv w.csn ∨ g.expect = .rsp w.csn ∨ g.expect = .ltsRsp) → g.linkErrors + 1 < 8 → g.code ≠ 0 →
      w.accepted = true → w.ready = false →
      ∃ t, exec (.noResponseToken n) s = .next t ∧ s.othersKeep t n ∧ t.jobs = s.jobs ∧
        (t.slot n).lineErrors[0] = (s.slot n).lineErrors[0] + 1 ∧
        (t.slot n).gal.map (fun h => (h.linkErrors, h.expect)) = some (g.linkErrors + 1, .ltsRsp))) ∧
  (∀ (n : SlotId) (g : Gal) (s : State), s.mainUp = true → (s.slot n).gal = some g → (s.slot n).phase.live = true →
    (∀ w, g.window = [w] → w.accepted = true → w.refused = false → w.ready = false →
      (g.expect = .none → g.switching = false → g.quiet = false → g.stopped = false → g.giveUp = none →
        (s.slot n).warmDue = false → w.fetches < 4 →
        ∃ t tok, exec (.busyEnd n) s = .next t ∧ s.othersKeep t n ∧ t.jobs = s.jobs ∧
          t.out = s.out ++ [.token n tok] ∧ (t.slot n).d0Busy = false ∧
          (t.slot n).gal.map (·.expect) = some (.rsp w.csn)) ∧
      ((s.slot n).job = none →
        ∃ t, exec (.busyLimit n) s = .next t ∧ (t.slot n).phase = .deactivating ∧ (t.slot n).cause = .busyLimit ∧
          (t.slot n).gal = none ∧ (t.slot n).rst = false ∧ s.othersKeep t n ∧ t.jobs = s.jobs)) ∧
    (g.window = [] → g.free = true → (s.slot n).job = none →
      ∃ t, exec (.busyLimitIdle n) s = .next t ∧ (t.slot n).phase = .deactivating ∧
        (t.slot n).cause = .busyLimit ∧ (t.slot n).gal = none ∧ s.othersKeep t n ∧ t.jobs = s.jobs) ∧
    (∀ w, g.expect = .none → g.window = [w] → w.refused = false →
      ∃ t r, exec (.c7Stuck n) s = .next t ∧ (t.slot n).galFailed = true ∧ (t.slot n).warmDue = true ∧
        (t.slot n).ended = (s.slot n).ended ++ [r] ∧ r.status = .lineStuck ∧ r.csn = w.csn ∧ r.job = w.job ∧
        (t.slot n).gal.map (·.window) = some [] ∧ s.othersKeep t n ∧
        ∃ v ∈ t.barker.queue, v.code = 0x0108 ∧ v.slot = some n))

/-- The last-transaction-status record. A good record of the session says what each unfetched command needs: done, it is
fetched; queued or running, it is waited for; cancelled, it ends CANCELLED; not present, it is sent again. Read in
standard mode after a warm reset it is kept, with what it settles closed, and without a good answer nothing is (R143
to R147, R150, R246, R251). Where the spec leaves the reading open this rests on the model's choices, log entry 81. -/
def Obligations.RecordSettlesCommands : Prop :=
  (∀ (n : SlotId) (g : Gal) (w : WCmd) (blk : RawBlock) (s : State), s.mainUp = true → (s.slot n).gal = some g →
    (s.slot n).phase = .busy → (s.slot n).warmDue = false → g.window = [w] → g.giveUp = none →
    g.switching = false → g.quiet = false → g.stopped = false → w.refused = false → g.expect = .ltsBlock →
    blockErrors 23 blk = [] → ltsOk (blockBytes 23 blk) = true → (readLts (blockBytes 23 blk)).sid = g.sid →
    (∀ sw, (readLts (blockBytes 23 blk)).find w.csn = some (3, sw) → w.fetches < 4 →
      ∃ t, exec (.ltsRecord n blk) s = .next t ∧ s.othersKeep t n ∧
        (t.slot n).gal.map (fun h => (h.expect, h.ltsNeeded)) = some (.rsp w.csn, false) ∧
        ∃ tok, t.out = s.out ++ [.token n tok]) ∧
    (∀ k sw, (readLts (blockBytes 23 blk)).find w.csn = some (k, sw) → k = 1 ∨ k = 2 →
      ∃ t, exec (.ltsRecord n blk) s = .next t ∧ s.othersKeep t n ∧ t.out = s.out ∧ (t.slot n).d0Busy = true ∧
        (t.slot n).gal.map (·.window) = some [{ w with accepted := true, ready := false }]) ∧
    (∀ k sw, (readLts (blockBytes 23 blk)).find w.csn = some (k, sw) → k = 4 ∨ k = 5 →
      ∃ t r, exec (.ltsRecord n blk) s = .next t ∧ s.othersKeep t n ∧ t.out = s.out ∧
        (t.slot n).ended = (s.slot n).ended ++ [r] ∧ r.status = .cancelled ∧ r.csn = w.csn ∧ r.how = 3 ∧
        (t.slot n).gal.map (·.window) = some []) ∧
    ((readLts (blockBytes 23 blk)).find w.csn = none → w.tx < 3 →
      ∃ t tok, exec (.ltsRecord n blk) s = .next t ∧ s.othersKeep t n ∧
        t.out = s.out ++ [.token n tok, .block n (blockSegs w.apdu)] ∧
        (t.slot n).gal.map (fun h => (h.expect, h.window.map (·.tx))) = some (.rcv w.csn, [w.tx + 1]))) ∧
  (∀ (n : SlotId) (e : Ended) (rest : List Ended) (s : State), s.booted = true → (s.slot n).ended = e :: rest →
    e.kind = .ltsApdu → (s.slot n).gal = none → (s.slot n).fencePending = false → (s.slot n).warmDue = false →
    e.status.warmReset = false → (s.slot n).resolution = none →
    (e.status = .ok → e.sw = 0x9000 → ltsOk e.resp = true →
      ∃ t, exec (.ltsApdu n true e.resp e.sw) s = .next t ∧ (t.slot n).lts = some (readLts e.resp) ∧
        (t.slot n).unsettled = [] ∧ (t.slot n).ended = rest ∧ s.othersKeep t n ∧ t.jobs = s.jobs ∧
        t.bank.journal.map (·.jseq) = s.bank.journal.map (·.jseq)) ∧
    (e.status = .ok → e.sw ≠ 0x9000 ∨ ltsOk e.resp = false →
      ∃ t, exec (.ltsApdu n true e.resp e.sw) s = .next t ∧ t = { s with slots := t.slots } ∧
        (t.slot n).lts = none ∧ (t.slot n).unsettled = [] ∧ s.othersKeep t n))


/-! ## Security, faults, margins, the station bus and Sideshow (11 to 15) -/

/-- A rule change's barrier begins and, once drained, advances EPOCH by one past 0x0000, and every completion and answer
that waits for it waits for one barrier less. The debug port's session opens with a genuine token and closes by
expiry or command, each behind a barrier; a token that is not genuine counts, and after three in a row none is
checked. A halted pair does no work until it is resumed; a scan instruction loads only where every slot is off or
excluded. A ceremony left open closes (R361 to R363, R401, R408, R419 to R422). Where the spec leaves the reading
open this rests on the model's choices, log entries 93, 96 and 103. -/
def Obligations.BarriersAndDebugPortAct : Prop :=
  (∀ (c : RuleCause) (s : State), s.mainUp = true →
    (s.regs.barrierOn = false → s.regs.barrier.head? = some c →
      exec (.ruleBarrier c) s = .next { s with regs.barrierOn := true }) ∧
    (s.regs.barrierOn = true →
      ∃ t, exec .ruleBarrierDrained s = .next t ∧
        t = { s with regs.epoch := t.regs.epoch, regs.barrierOn := false, regs.barrier := s.regs.barrier.drop 1,
                     closing := t.closing, side.answerBarriers := s.side.answerBarriers - 1 } ∧
        t.regs.epoch = (if s.regs.epoch = 0xFFFF then 1 else s.regs.epoch + 1) ∧
        t.closing.map (fun c => (c.jobId, c.barriers)) = s.closing.map (fun c => (c.jobId, c.barriers - 1)))) ∧
  (∀ (s : State), s.mainUp = true →
    (s.sec.debugToken.isSome = true →
      (∃ t, exec .debugClose s = .next t ∧
        t = { s with sec.debugToken := none, regs.barrier := s.regs.barrier ++ [.debugPort], barker := t.barker } ∧
        ∃ e ∈ t.barker.queue, e.code = 0x0B04 ∧ e.arg = 2) ∧
      (∃ t, exec .debugExpiry s = .next t ∧
        t = { s with sec.debugToken := none, regs.barrier := s.regs.barrier ++ [.debugPort], barker := t.barker } ∧
        ∃ e ∈ t.barker.queue, e.code = 0x0B04 ∧ e.arg = 1)) ∧
    (s.sec.debugToken = none → exec .debugClose s = .next s ∧ exec .debugExpiry s = .next s) ∧
    (∀ req, s.sec.tokenFails < 3 →
      ∃ t, exec (.debugToken req) s = .next t ∧ t.sec.debugNonce = s.random 16 ∧ t.nv = s.nv ∧
        (if s.tokenOk req then
          t.sec.debugToken = some (req.signer, req.argA, req.argC) ∧ t.sec.tokenFails = 0 ∧
          t.regs.barrier = s.regs.barrier ++ [.debugPort] ∧ ∃ e ∈ t.barker.queue, e.code = 0x0B03
         else
          t.sec.debugToken = s.sec.debugToken ∧ t.sec.tokenFails = s.sec.tokenFails + 1 ∧
          t.regs = s.regs ∧ t.barker = s.barker)) ∧
    (∀ req, 3 ≤ s.sec.tokenFails → exec (.debugToken req) s = .next s) ∧
    (∃ t, exec .ceremonyTimeout s = .next t ∧ t = { s with sec.ceremony := none, barker := t.barker } ∧
      (s.sec.ceremony.isSome = true → ∃ e ∈ t.barker.queue, e.code = 0x0B02))) ∧
  (∀ (p : PairId) (s : State), s.mainUp = true →
    (s.mayHalt = true → s.sec.halted.contains p = false → (∀ j ∈ s.jobs, j.pair ≠ some p) →
      ∃ t, exec (.debugHalt p) s = .next t ∧
        t = { s with sec.halted := p :: s.sec.halted, faults.leader := t.faults.leader, barker := t.barker } ∧
        t.pairUp p = false ∧ t.faults.leader ≠ some p) ∧
    (s.sec.halted.contains p = true →
      ∃ t, exec (.debugResume p) s = .next t ∧ t.sec.halted = s.sec.halted.filter (· != p) ∧
        t.jobs = s.jobs ∧ t.slots = s.slots ∧ (s.inService (.pair p) = true → t.pairUp p = true))) ∧
  (∀ (i : TapInstr) (s : State), s.mainUp = true → s.scanLoaded = false →
    ∃ t, exec (.tapInstructionLoad i) s = .next t ∧ t = { s with sec.tap := t.sec.tap } ∧
      (i ≠ .extest → i ≠ .intest → t.sec.tap = i) ∧
      (i = .extest ∨ i = .intest → t.sec.tap =
        (if s.debugOpen = true ∧ ∀ n, (s.slot n).phase = .off ∨ (s.slot n).phase.excluded = true then i
         else .bypass)))

/-- LC_CHANGE starts the change that R402 allows for a genuine request and leaves the option area alone until it has
run; a request that is not genuine fails with 0x0B02, one that matches no row with 0x0B01. ATTEST_ID reports the
device's identity and changes nothing (R401 to R403, R407). The end of a life-cycle change once no slot is held and
every outcome is durable: one R266 refuses ends without effect and its ticket FAILED; any other commits its target,
empties the bank, ends every queued job, closes the ceremony and the debug session, and ends its ticket DONE;
entering TERMINATED destroys the keys, and a change between PROVISIONING and OPERATIONAL keeps the counters and
drops READY. A change that waits too long is given up, or, to TERMINATED, takes the held slot down. A request on the
debug path draws a new nonce, and starts or makes the change that R402 names only when it is genuine (R266, R401 to
R405). Where the spec leaves the reading open this rests on the model's choices, log entry 95. -/
def Obligations.LifeCycleChangesCommit : Prop :=
  ((∀ (id : JobId) (param : List Byte) (j : Job) (s : State), s.runnable id 5 8 j →
    (s.nv.lc = .provisioning ∨ s.nv.lc = .operational) → j.paramLen = 96 →
    ∃ t, exec (.lcChange id param) s = .next t ∧ t.nv = s.nv ∧ t.bank = s.bank ∧
      (if s.lcRequestOk (readRequest (j.data param)) then
        match s.lcRow (readRequest (j.data param)) with
        | none => s.jobEnds t j .failed 0x0B01 j.result
        | some l => t.sec.changing = some { target := l, job := some id } ∧ t.closing = s.closing ∧
            (t.findJob id).map (·.phase) = some .started
       else s.jobEnds t j .failed 0x0B02 j.result)) ∧
  (∀ (id : JobId) (j : Job) (s : State), s.runnable id 5 9 j →
    (s.nv.lc = .provisioning ∨ s.nv.lc = .operational) → j.paramLen = 0 →
    ∃ t, exec (.attestId id) s = .next t ∧
      t = { s with jobs := t.jobs, closing := t.closing, barker := t.barker } ∧
      s.jobEnds t j .done 0 (leBytes 8 Config.deviceSerial.toNat ++ padTo 65 Config.attestPublic ++ [0, 0, 0] ++
        Config.attestCertificate.take 1024))) ∧
  ((∀ (c : LcChange) (s : State), s.mainUp = true → s.sec.changing = some c →
    (s.slotHeld = false → s.endedDurable = true →
      (∀ e, s.lcRefusal c.target = some e →
        ∃ t, exec .lcDrained s = .next t ∧ t.sec.changing = none ∧ t.nv = s.nv ∧ t.bank.records = s.bank.records ∧
          (∀ id j, c.job = some id → s.findJob id = some j → s.jobEnds t j .failed e j.result)) ∧
      (s.lcRefusal c.target = none →
        ∃ t, exec .lcDrained s = .next t ∧ t.sec.changing = none ∧ t.nv.lc = c.target ∧ t.bank.records = [] ∧
          t.bank.profiles = [] ∧ t.bank.keys = [] ∧ t.sec.ceremony = none ∧ t.sec.debugToken = none ∧
          (∀ j ∈ t.jobs, j.phase ≠ .queued) ∧ (∃ e ∈ t.barker.queue, e.code = 0x0B01) ∧
          (∀ n, (t.slot n).record = none) ∧
          (c.target = .terminated → t.nv.keystoreKey = none ∧ t.nv.attestKey = false ∧ t.bank.mediaKey = false) ∧
          (isSwap s.nv.lc c.target = true → t.regs.ready = false ∧ t.bank.counters = s.bank.counters))) ∧
    (∀ n, (s.slot n).job.isSome = true → (s.slot n).phase.live = true → (∀ m, m ≠ n → (s.slot m).job = none) →
      (c.target = .terminated →
        ∃ t, exec .lcWaitTimeout s = .next t ∧ t.sec.changing = some c ∧ t.nv = s.nv ∧
          (t.slot n).phase.live = false) ∧
      (c.target ≠ .terminated →
        ∃ t, exec .lcWaitTimeout s = .next t ∧ t.sec.changing = none ∧ t.nv = s.nv ∧
          ∀ id j, c.job = some id → s.findJob id = some j → s.jobEnds t j .failed 0x070E j.result))) ∧
  (∀ (req : SignedReq) (s : State), s.mainUp = true →
    ∃ t, exec (.debugLcChange req) s = .next t ∧ t.sec.debugNonce = s.random 16 ∧
      (if req.argB.toNat = s.nv.lc.code ∧ req.argC = 0 ∧ s.sec.changing = none ∧
          s.requestOk req s.sec.debugNonce 1 [] = true then
        match s.debugRow req with
        | some l =>
          if s.nv.lc = .manufacturing ∨ s.nv.lc = .fencedSecure then
            t.nv.lc = l ∧ t.sec.changing = none ∧ t.bank.records = [] ∧ t.bank.keys = []
          else t = { s with draws := s.draws + 16, sec.debugNonce := s.random 16,
                            sec.changing := some { target := l, job := none } }
        | none => t = { s with draws := s.draws + 16, sec.debugNonce := s.random 16 }
       else t = { s with draws := s.draws + 16, sec.debugNonce := s.random 16 })))

/-- The tamper response. Level 2 on a main side that is up takes a part that is not already FENCED_SECURE or TERMINATED
to FENCED_SECURE, destroys its keystore key and its data, resets the main side and fences every slot; TERMINATED
keeps its state and withdraws every right; unpowered, it is latched for the next start. A first level 1 resets the
main side and changes no key, and the third within a day is level 2. A self-test that passes only stimulates the
sensors (R28, R405, R423 to R427, R431). Where the spec leaves the reading open this rests on the model's choices,
log entries 94 and 97. -/
def Obligations.TamperDestroysByLevel : Prop :=
  (∀ (x : Sensor) (s : State), s.power.vstby = true → sensorLevel x = 2 →
    (s.mainUp = true → s.nv.lc = .manufacturing ∨ s.nv.lc = .provisioning ∨ s.nv.lc = .operational →
      ∃ t, exec (.tamperL2 x) s = .next t ∧ t.nv.lc = .fencedSecure ∧ t.nv.keystoreKey = none ∧
        t.bank.records = [] ∧ t.bank.keys = [] ∧ t.bank.profiles = [] ∧ t.regs.enable = false ∧ t.jobs = [] ∧
        (∀ n, (t.slot n).phase = .fenced ∧ (t.slot n).fenceSrc = .tamper ∧ (t.slot n).vcc = .off) ∧
        ∃ e ∈ t.standby.log, e.code = 0x0B21) ∧
    (s.mainUp = true → s.nv.lc = .terminated →
      ∃ t, exec (.tamperL2 x) s = .next t ∧ t.nv = s.nv ∧ t.sec.rightsWithdrawn = true ∧
        t.regs.time = s.regs.time ∧ (∀ n, (t.slot n).phase.live = false) ∧
        (∀ g : Fin 8, t.jugs[g.val].ctxs = [] ∧ t.jugs[g.val].cache = []) ∧
        ∃ e ∈ t.standby.log, e.code = 0x0B21) ∧
    (s.power.main = .off → s.standby.tamper = none →
      exec (.tamperL2 x) s = .next { s with standby.tamper := some (2, x) })) ∧
  (∀ (x : Sensor) (s : State), s.watches x = true → sensorLevel x = 1 → s.mainUp = true →
    (s.standby.tamper = none → s.standby.tamperL1 = [] →
      ∃ t, exec (.tamperL1 x) s = .next t ∧ t.regs.time = 0 ∧ t.regs.enable = false ∧ t.jobs = [] ∧
        t.nv.lc = s.nv.lc ∧ t.nv.keystoreKey = s.nv.keystoreKey ∧ t.bank.records = s.bank.records ∧
        t.standby.tamperL1 = [s.aonSeconds] ∧ ∃ e ∈ t.standby.log, e.code = 0x0B20) ∧
    (∀ a b, s.nv.lc = .operational → s.standby.tamperL1 = [a, b] → s.aonSeconds < a + 86400 →
      s.aonSeconds < b + 86400 →
      ∃ t, exec (.tamperL1 x) s = .next t ∧ t.nv.lc = .fencedSecure ∧ t.nv.keystoreKey = none ∧
        ∀ n, (t.slot n).phase = .fenced)) ∧
  (∀ (s : State), s.power.vstby = true →
    exec (.tamperSelfTest false) s = .next { s with out := s.out ++ [.sensorStimulus] } ∧
    (s.mainUp = true → s.standby.tamper = none → s.standby.tamperL1 = [] →
      ∃ t, exec (.tamperSelfTest true) s = .next t ∧ t.regs.time = 0 ∧ t.nv.lc = s.nv.lc ∧
        ∃ e ∈ t.standby.log, e.code = 0x0B20))

/-- Errors of units. The first latches its code and starts the unit's recovery; a further one while it recovers or is on
probation, a third within a day, and a recovery that fails, fence it for good, with UNIT_FENCED and a standby-log
entry; a warning only latches. A core pair that fails gives leadership up. A recovery that ends puts the unit on
probation with its rights back behind a barrier, and the probation's end into plain service (R434, R436, R438, R439,
R443, R444, R446, R447). Where the spec leaves the reading open this rests on the model's choices, log entry 98. -/
def Obligations.UnitErrorsRecoverThenFence : Prop :=
  (∀ (u : UnitRef) (code : W16) (s : State), s.mainUp = true → (unitCodes u).contains code = true →
    s.faults.fatalWindow = none → s.unitFenced u = false →
    (severityOf code ≠ 1 →
      ∃ t, exec (.unitError u code) s = .next t ∧
        t = { s with regs.errFirst := t.regs.errFirst, regs.errInfo := t.regs.errInfo,
                     regs.errCount := t.regs.errCount, regs.irqStatus := t.regs.irqStatus,
                     regs.msixPending := t.regs.msixPending, barker := t.barker, out := t.out } ∧
        ∃ e ∈ t.barker.queue, e.code = 0x0F01) ∧
    (severityOf code = 1 → s.escalates u = false →
      ∃ t, exec (.unitError u code) s = .next t ∧ t.unitPhase u = .recovering ∧
        (bit s.regs.errFirst 31 = false → t.regs.errFirst = BitVec.ofNat 32 (code.toNat + 2 ^ 31)) ∧
        (∀ n, u = .slot n → (t.slot n).phase.live = false ∧ (t.slot n).record = none)) ∧
    (severityOf code = 1 → s.escalates u = true → u ≠ .device →
      (∀ p, u = .pair p → ∃ q, q ≠ p ∧ s.inService (.pair q) = true) →
      ∃ t, exec (.unitError u code) s = .next t ∧ t.unitPhase u = .fenced ∧
        (∃ e ∈ t.barker.queue, e.code = 0x0F02) ∧ ∃ e ∈ t.standby.log, e.code = code)) ∧
  (∀ (p : PairId) (s : State), s.mainUp = true → s.faults.fatalWindow = none → s.unitFenced (.pair p) = false →
    s.unitPhase (.pair p) = .service → s.escalates (.pair p) = false → (∀ j ∈ s.jobs, j.pair ≠ some p) →
    (∃ t, exec (.lockstep p) s = .next t ∧ t.unitPhase (.pair p) = .recovering ∧ t.faults.leader ≠ some p ∧
      t.slots = s.slots ∧ t.jobs = s.jobs ∧ t.regs.barrier = s.regs.barrier ++ [.unitRights]) ∧
    (∃ t, exec (.pairWatchdog p) s = .next t ∧ t.unitPhase (.pair p) = .recovering ∧ t.faults.leader ≠ some p ∧
      t.slots = s.slots ∧ t.jobs = s.jobs ∧ t.regs.barrier = s.regs.barrier ++ [.unitRights])) ∧
  (∀ (u : UnitRef) (s : State), s.mainUp = true → s.faults.fatalWindow = none →
    (s.unitPhase u = .recovering → s.recovered u = true →
      (∃ t, exec (.recoveryDone u true) s = .next t ∧ t.unitPhase u = .probation ∧ t.slots = s.slots ∧
        t.jobs = s.jobs ∧ t.regs.barrier = s.regs.barrier ++ [.unitRights] ∧
        ∃ e ∈ t.barker.queue, e.code = 0x0F03) ∧
      (u ≠ .device → (∀ p, u = .pair p → ∃ q, q ≠ p ∧ s.inService (.pair q) = true) →
        ∃ t, exec (.recoveryDone u false) s = .next t ∧ t.unitPhase u = .fenced ∧
          ∃ e ∈ t.barker.queue, e.code = 0x0F02)) ∧
    (s.unitPhase u = .probation →
      ∃ t, exec (.probationEnd u) s = .next t ∧ t = { s with faults.units := t.faults.units } ∧
        t.unitPhase u = .service ∧ ∀ v, v ≠ u → t.unitPhase v = s.unitPhase v))

/-- Fatal errors. The first, or the device watchdog, opens the fatal window while a card is powered: its code is
latched, every slot goes down and no job is lost yet; with nothing powered and nothing to make durable the main side
resets at once. A second one, and the window's end, reset it. A refused access fills VIOL_INFO and fires source 9; a
refusal of the host, of Sideshow, of DEBUG or of the self-test latches no error, one of Ferris wheel or Tightrope
latches 0x0B10, and the job a refused Roustabout request served ends FAILED (R353, R415, R416, R434, R441, R442,
R446). Where the spec leaves the reading open this rests on the model's choices, log entry 99. -/
def Obligations.FatalErrorsAndViolationsAct : Prop :=
  (∀ (code : W16) (s : State), s.mainUp = true → fatalCodes.contains code = true →
    (∀ n, s.faults.fatalWindow = none → (s.slot n).phase.live = true →
      let open_ := fun (t : State) (c : W16) =>
        t.faults.fatalWindow = some c ∧ (∀ m, (t.slot m).phase.live = false) ∧ t.jobs = s.jobs ∧
        t.closing = s.closing ∧ t.requests = [] ∧ (∃ e ∈ t.standby.log, e.code = c) ∧
        (bit s.regs.errFirst 31 = false → t.regs.errFirst = BitVec.ofNat 32 (c.toNat + 2 ^ 31))
      (∃ t, exec (.fatalError code) s = .next t ∧ open_ t code) ∧
      (∃ t, exec .deviceWatchdog s = .next t ∧ open_ t 0x0F08)) ∧
    (s.faults.fatalWindow = none → (∀ n, (s.slot n).phase = .off) → s.bank.journal = [] →
      ∃ t, exec (.fatalError code) s = .next t ∧ t.regs.time = 0 ∧ t.regs.enable = false ∧
        t.faults.fatalWindow = none ∧ ∃ e ∈ t.standby.log, e.code = code) ∧
    (s.faults.fatalWindow.isSome = true →
      (∃ t, exec (.fatalNested code) s = .next t ∧ t.regs.time = 0 ∧ t.faults.fatalWindow = none ∧ t.jobs = [] ∧
        ∃ e ∈ t.standby.log, e.code = 0x0F09) ∧
      (∃ t, exec .fatalWindowTimeout s = .next t ∧ t.regs.time = 0 ∧ t.faults.fatalWindow = none ∧
        t.jobs = []))) ∧
  (∀ (v : Violation) (s : State), s.mainUp = true → masterUnitOk v = true → v.access.toNat < 3 →
    bit s.regs.violInfo 31 = false →
    (9 < v.master.toNat →
      ∃ t, exec (.accessViolation v) s = .next t ∧
        t = { s with regs.violAddr := v.addr, regs.violInfo := t.regs.violInfo, regs.irqStatus := t.regs.irqStatus,
                     regs.msixPending := t.regs.msixPending, barker := t.barker, out := t.out } ∧
        bit t.regs.violInfo 31 = true ∧ field t.regs.violInfo 0 4 = v.master.toNat ∧
        field t.regs.violInfo 8 8 = v.region.toNat ∧ bit t.regs.irqStatus 9 = true ∧
        ∃ e ∈ t.barker.queue, e.code = 0x0B05) ∧
    (v.unit = .device → v.master.toNat ≤ 9 → bit s.regs.errFirst 31 = false → s.faults.fatalWindow = none →
      ∃ t, exec (.accessViolation v) s = .next t ∧ t.regs.errFirst = 0x80000B10 ∧ t.slots = s.slots ∧
        t.jobs = s.jobs) ∧
    (∀ id j r, v.unit = .roust r → v.master = 4 → v.region = 0x0C → v.job = some id → s.findJob id = some j →
      ∃ t, exec (.accessViolation v) s = .next t ∧ s.jobEnds t j .failed 0x0A02 j.result))

/-- Tightrope's measurements and its plan. A drift sample joins the last 15, and a median at its limit stands as a
reported limit, raising AGEING_LIMIT when it comes new; an efficiency below 80 % above 2 W raises RING_EFFICIENCY; a
retention check keeps its weakest margin, and FLASH_LOW stands exactly while that is below 150 mV. An evaluation
that finds no value different issues no plan; one that does raises PLAN_SEQ by one, leaves the factory plan, sets
IRQ_STATUS bit 8, raises REPLAN, never lowers GUARD nor takes it past 7, and brings no ring down by more than a
step. The planned guard reaches the PLL at an idle moment, or 8 ms after the plan (R455, R456, R458, R459, R461,
R462). Where the spec leaves the reading open this rests on the model's choices, log entry 91. -/
def Obligations.TightropeMeasuresAndPlans : Prop :=
  (∀ (core slot bank link : Int) (s : State), s.booted = true →
    ∃ t, exec (.siliconMonitor core slot bank link) s = .next t ∧
      t = { s with tight.drift := t.tight.drift, tight.limits := t.tight.limits, barker := t.barker } ∧
      t.tight.drift[0] = (core :: s.tight.drift[0]).take 15 ∧ t.tight.drift[1] = (slot :: s.tight.drift[1]).take 15 ∧
      t.tight.drift[2] = (bank :: s.tight.drift[2]).take 15 ∧ t.tight.drift[3] = (link :: s.tight.drift[3]).take 15 ∧
      (1 ∈ t.tight.limits ↔ 1950 < median t.tight.drift[0]) ∧
      (1950 < median t.tight.drift[0] → 1 ∉ s.tight.limits →
        ∃ e ∈ t.barker.queue, e.code = 0x1002 ∧ e.arg = 1) ∧
      ∀ k : Fin 3, (k.val + 2 ∈ t.tight.limits ↔ 600 ≤ median t.tight.drift[k.val + 1]) ∧
        (600 ≤ median t.tight.drift[k.val + 1] → k.val + 2 ∉ s.tight.limits →
          ∃ e ∈ t.barker.queue, e.code = 0x1002 ∧ e.arg = BitVec.ofNat 32 (k.val + 2))) ∧
  (∀ (r : RingId) (percent mw : Nat) (s : State), s.booted = true → (s.ring r).phase ≠ .off →
    (s.ring r).fenced = false → s.ringUnderTest r = false →
    ∃ t, exec (.efficiencySample r percent mw) s = .next t ∧
      t = { s with tight.efficiency := t.tight.efficiency, barker := t.barker } ∧
      t.tight.efficiency[r.val] = min 255 percent ∧
      (if percent < 80 ∧ 2000 < mw then
        ∃ e ∈ t.barker.queue, e.code = 0x1003 ∧ e.arg = BitVec.ofNat 32 (r.val + percent * 256)
       else t.barker = s.barker)) ∧
  (∀ (a b o : Option Nat) (s : State), s.booted = true →
    let read := fun (m : Nat) => a = some m ∨ b = some m ∨ o = some m
    ((∀ m, ¬ read m) → exec (.retentionCheck a b o) s = .next s) ∧
    ((∃ m, read m) →
      ∃ t, exec (.retentionCheck a b o) s = .next t ∧
        t = { s with tight.flashMargin := t.tight.flashMargin, tight.flashLow := t.tight.flashLow,
                     barker := t.barker } ∧
        read t.tight.flashMargin ∧ (∀ m, read m → t.tight.flashMargin ≤ m) ∧
        (t.tight.flashLow = true ↔ t.tight.flashMargin < 150) ∧
        (t.tight.flashMargin < 150 →
          ∃ e ∈ t.barker.queue, e.code = 0x1004 ∧ e.arg.toNat % 65536 = t.tight.flashMargin))) ∧
  (∀ (n : SlotId) (s : State), s.booted = true → s.measured n = true → s.sweepDue n = true →
    ∃ t, exec (.eyeSweepRequest n) s = .next t ∧ t = { s with tight.slots := t.tight.slots } ∧
      t.planOf n = { s.planOf n with asks := true } ∧ ∀ m, m ≠ n → t.planOf m = s.planOf m) ∧
  (∀ (s : State), s.booted = true →
    (s.planChanges = 0 →
      ∃ t, exec .planEvaluation s = .next t ∧
        t = { s with tight.limits := t.tight.limits, barker := t.barker }) ∧
    (s.planChanges ≠ 0 →
      ∃ t, exec .planEvaluation s = .next t ∧ t.tight.planSeq = s.tight.planSeq + 1 ∧ t.tight.factory = false ∧
        t.regs.marginStatus = t.tight.summary t.refreshListed ∧ bit t.regs.irqStatus 8 = true ∧
        (∃ e ∈ t.barker.queue, e.code = 0x1001) ∧ t.tight.issuedAt = s.regs.time ∧
        (s.tight.guardBand ≤ 7 → s.tight.guardBand ≤ t.tight.guardBand ∧ t.tight.guardBand ≤ 7) ∧
        (∀ r : Fin 8, s.tight.headroom[r.val] ≤ t.tight.headroom[r.val] + 1) ∧
        (∀ n, s.measured n = true → (t.planOf n).ceiling = (s.planOf n).ceilingNext.getD (s.planOf n).ceiling ∧
          (t.planOf n).phases = (s.planOf n).phasesNext.getD (s.planOf n).phases) ∧
        (∀ n, s.measured n = false → t.planOf n = s.planOf n) ∧
        t.jobs = s.jobs ∧ t.nv = s.nv ∧ t.requests = s.requests ∧
        ∀ n, (t.slot n).phase = (s.slot n).phase ∧ (t.slot n).job = (s.slot n).job)) ∧
  (∀ (g : Nat) (s : State), s.booted = true → s.tight.guardNext = some g →
    exec .guardSwitch s = .next { s with tight.guardApplied := g, tight.guardNext := none } ∧
    (s.tight.issuedAt.toNat + 8000 ≤ s.regs.time.toNat →
      exec .guardForce s = .next { s with tight.guardApplied := g, tight.guardNext := none }))

/-- The frames of a station-bus port in FRAME mode. A command goes out with its eight bytes and checksum and the poll of
its MU after it; an idle port polls a configured MU, or listens and is woken by an edge. A good response settles the
command outstanding: ACK_SEQ with ACCEPTED ends it, a refusal fails it, another ACK_SEQ or no response sends it
again, up to three transmissions; a bad frame is discarded and counted. An ANNOUNCE of a configured MU is its
status, of another it is counted; a collision sends the frame again, up to three attempts (R385, R387 to R392). A
line held low makes the port STUCK: it sends nothing, its wake latch is off, every command it queued or had
outstanding fails, and the failed feeds are given up; released, it works again after its idle check. In RTS_CTS mode
one message of six bytes goes out at a time; 0x06 accepts it, 0x15 or no answer sends it again, up to three
transmissions, and a CTS that never comes fails it unsent (R393 to R395). Where the spec leaves the reading open
this rests on the model's choices, log entry 101. -/
def Obligations.StationBusServesItsUnits : Prop :=
  (∀ (p : PortId) (s : State), s.portIn p .frame = true →
    (∀ c, (s.port p).polling = none → (s.port p).nextCmd = some c →
      let pid := sbPid (BitVec.ofNat 6 (0x10 + c.mu.val))
      let d : List Byte := [if c.eject then 2 else 1, BitVec.ofNat 8 c.station, if c.eject then c.bin else 0,
        BitVec.ofNat 8 c.cseq] ++ leBytes 4 c.job.toNat
      ∃ t, exec (.sbCommandFrame p) s = .next t ∧
        s.changesPort { t with out := s.out } p
          { s.port p with queue := (s.port p).queue.erase c, out := (s.port p).out ++ [{ c with tx := c.tx + 1 }],
                          sending := some (.command { c with tx := c.tx + 1 }, 1), polling := some c.mu,
                          listening := false, guarding := false } ∧
        t.out = s.out ++ [.sbFrame p pid d (some (sbChecksum pid d)),
                          .sbFrame p (sbPid (BitVec.ofNat 6 (0x20 + c.mu.val))) [] none]) ∧
    ((s.port p).polling = none → (s.port p).nextCmd = none →
      (∀ mu : MuId, bit (s.port p).muMask mu.val = true →
        ∃ t, exec (.pollPeriod p mu) s = .next t ∧
          s.changesPort { t with out := s.out } p
            { s.port p with polling := some mu, sending := some (.poll mu, 1), listening := false,
                            guarding := false } ∧
          t.out = s.out ++ [.sbFrame p (sbPid (BitVec.ofNat 6 (0x20 + mu.val))) [] none]) ∧
      ∃ t, exec (.listen p) s = .next t ∧
        s.changesPort t p { s.port p with listening := true, guarding := false }) ∧
    ((s.port p).listening = true → (s.port p).wakeLatch = true →
      ∃ t, exec (.wake p) s = .next t ∧ s.changesPort t p { s.port p with listening := false }) ∧
    (∀ (mu : MuId) (f : SbFrame), (s.port p).polling = some mu →
      (frameOk (0x20 + mu.val) f = false →
        ∃ t, exec (.pollResponse p mu f) s = .next t ∧
          s.changesPort t p
            { s.port p with discarded := min 65535 ((s.port p).discarded + 1),
                            checksums := if f.checksum = sbChecksum f.pid f.data then (s.port p).checksums
                                         else min 65535 ((s.port p).checksums + 1) }) ∧
      (frameOk (0x20 + mu.val) f = true →
        let x : SbPort := { s.port p with polling := none, sending := none, last := (s.port p).last.set mu.val f.data }
        ((s.port p).outOf mu = none →
          ∃ t, exec (.pollResponse p mu f) s = .next t ∧ s.changesPort { t with barker := s.barker } p x ∧
            (byteAt (s.port p).last[mu.val] 0 ≠ byteAt f.data 0 → ∃ e ∈ t.barker.queue, e.code = 0x0D04)) ∧
        ∀ c, (s.port p).outOf mu = some c →
          ((byteAt f.data 1).toNat = c.cseq → byteAt f.data 2 = 0 →
            ∃ t, exec (.pollResponse p mu f) s = .next t ∧
              s.changesPort { t with barker := s.barker } p { x with out := x.out.filter (· != c) }) ∧
          ((byteAt f.data 1).toNat = c.cseq → byteAt f.data 2 = 1 →
            ∃ t, exec (.pollResponse p mu f) s = .next t ∧ (t.port p).out = x.out.filter (· != c) ∧
              (∃ e ∈ t.barker.queue, e.code = 0x0D03 ∧ e.slot = some c.slot) ∧
              (c.eject = false → ∀ at_, (s.slot c.slot).feed = some (c.job, at_) →
                (t.slot c.slot).feed = none ∧ (t.slot c.slot).feedBlocked = true)) ∧
          ((byteAt f.data 1).toNat ≠ c.cseq → c.tx < 3 →
            ∃ t, exec (.pollResponse p mu f) s = .next t ∧
              s.changesPort { t with barker := s.barker } p
                { x with out := x.out.filter (· != c), queue := c :: x.queue }))) ∧
    (∀ mu : MuId, (s.port p).polling = some mu →
      let x : SbPort := { s.port p with missing := min 65535 ((s.port p).missing + 1), polling := none, sending := none }
      ((s.port p).outOf mu = none →
        ∃ t, exec (.respTimeout p mu) s = .next t ∧ s.changesPort t p x) ∧
      ∀ c, (s.port p).outOf mu = some c →
        (c.tx < 3 →
          ∃ t, exec (.respTimeout p mu) s = .next t ∧
            s.changesPort t p { x with out := x.out.filter (· != c), queue := c :: x.queue }) ∧
        (3 ≤ c.tx →
          ∃ t, exec (.respTimeout p mu) s = .next t ∧ (t.port p).out = x.out.filter (· != c) ∧
            ∃ e ∈ t.barker.queue, e.code = 0x0D03 ∧ e.slot = some c.slot)) ∧
    (∀ (mu : MuId) (f : SbFrame), (s.port p).listening = false → frameOk mu.val f = true →
      ∃ t, exec (.announce p mu f) s = .next t ∧
        (if bit (s.port p).muMask mu.val = true then
          s.changesPort { t with barker := s.barker } p
            { s.port p with guarding := false, last := (s.port p).last.set mu.val f.data }
         else
          s.changesPort t p
            { s.port p with guarding := false, announces := min 65535 ((s.port p).announces + 1) })) ∧
    (∀ tx k, (s.port p).echo = true → (s.port p).sending = some (tx, k) →
      (k < 3 →
        ∃ t, exec (.collision p) s = .next t ∧
          s.changesPort { t with out := s.out } p
            { s.port p with collisions := min 65535 ((s.port p).collisions + 1), sending := some (tx, k + 1) } ∧
          s.out.length < t.out.length) ∧
      (3 ≤ k →
        ∃ t, exec (.collision p) s = .next t ∧ (t.port p).sending = none ∧ (t.port p).polling = none ∧
          (t.port p).collisions = min 65535 ((s.port p).collisions + 1)))) ∧
  ((∀ (p : PortId) (s : State), s.booted = true →
    ((s.port p).mode ≠ .off → (s.port p).stuck = false →
      ∃ t, exec (.sbStuckLow p) s = .next t ∧ (t.port p).stuck = true ∧ (t.port p).wakeLatch = false ∧
        (t.port p).listening = false ∧ (t.port p).sending = none ∧ (t.port p).polling = none ∧ (t.port p).out = [] ∧
        (t.port p).mode = (s.port p).mode ∧ (∃ e ∈ t.barker.queue, e.code = 0x0D01) ∧
        (∀ c, c ∈ (s.port p).out ∨ c ∈ (s.port p).queue →
          ∃ e ∈ t.barker.queue, e.code = 0x0D03 ∧ e.slot = some c.slot) ∧
        ((∀ c, c ∈ (s.port p).out ∨ c ∈ (s.port p).queue → c.eject = true) →
          s.changesPort { t with barker := s.barker } p
            { s.port p with stuck := true, wakeLatch := false, listening := false, guarding := false, sending := none,
                            polling := none, out := [], queue := [] })) ∧
    ((s.port p).stuck = true →
      ∃ t, exec (.sbRecovered p) s = .next t ∧
        s.changesPort { t with barker := s.barker } p
          { s.port p with stuck := false, wakeLatch := true, guarding := true } ∧
        ∃ e ∈ t.barker.queue, e.code = 0x0D02)) ∧
  (∀ (p : PortId) (s : State), s.portIn p .rtsCts = true →
    (∀ c rest, (s.port p).out = [] → (s.port p).queue = c :: rest →
      let st : Byte := BitVec.ofNat 8 c.station
      let cmd : Byte := if c.eject then 0x45 else 0x46
      let bin : Byte := if c.eject then (if c.bin = 1 then 0x41 else if c.bin = 2 then 0x52 else 0x48) else 0
      (∃ t, exec (.rtsCtsMessage p) s = .next t ∧
        s.changesPort { t with out := s.out } p
          { s.port p with queue := rest, out := [{ c with tx := c.tx + 1 }], guarding := false } ∧
        t.out = s.out ++ [.sbMessage p [0x02, cmd, st, bin, cmd ^^^ st ^^^ bin, 0x03]]) ∧
      (c.eject = true →
        ∃ t, exec (.ctsTimeout p) s = .next t ∧
          s.changesPort { t with barker := s.barker } p { s.port p with queue := rest } ∧
          ∃ e ∈ t.barker.queue, e.code = 0x0D03 ∧ e.slot = some c.slot)) ∧
    (∀ c, (s.port p).out = [c] →
      (∃ t, exec (.rtsCtsAnswer p 0x06) s = .next t ∧ s.changesPort t p { s.port p with out := [] }) ∧
      (∀ b, b ≠ 0x06 → b ≠ 0x15 → exec (.rtsCtsAnswer p b) s = .next s) ∧
      (c.tx < 3 →
        (∃ t, exec (.rtsCtsAnswer p 0x15) s = .next t ∧
          s.changesPort t p { s.port p with out := [], queue := c :: (s.port p).queue }) ∧
        (∃ t, exec (.ackTimeout p) s = .next t ∧
          s.changesPort t p { s.port p with out := [], queue := c :: (s.port p).queue,
                                            missing := min 65535 ((s.port p).missing + 1) })) ∧
      (3 ≤ c.tx → c.eject = true →
        (∃ t, exec (.rtsCtsAnswer p 0x15) s = .next t ∧
          s.changesPort { t with barker := s.barker } p { s.port p with out := [] } ∧
          ∃ e ∈ t.barker.queue, e.code = 0x0D03 ∧ e.slot = some c.slot) ∧
        (∃ t, exec (.ackTimeout p) s = .next t ∧ (t.port p).out = [] ∧
          ∃ e ∈ t.barker.queue, e.code = 0x0D03 ∧ e.slot = some c.slot)))))

/-- Sideshow's reads answer while VSTBY is present: IDENT the two identity words, STATUS its four bytes, HEALTH the
snapshot with the live tamper level, PRESENCE the filters, LOG_READ four entries with the offset moved on by four
modulo 16, MBOX_READ the word and its pending bit cleared, NONCE, BIST_RESULT and FW_STATUS what they hold, and zero
or no bytes where they need a main side that is not up. A START or STOP of itself changes nothing; one that ends a
transaction of an undefined code, or a Block Write of a read command, finds it refused by NACK as BAD_COMMAND, and a
Block Read of a write command returned a count of 0. The bridge refreshes the
snapshot, its answer ends a PENDING command once its barriers have drained, and the lockout ends (R365 to R373,
R376). Sideshow's write commands. While one is PENDING another is refused with nothing recorded; a length outside
its range is BAD_LENGTH and a wrong PEC is PEC_FAIL, both by NACK. LOG_SEL sets the log offset; a command that needs
the main side ends MAIN_UNAVAILABLE without it; MBOX_WRITE fills MBOX_FROM_SB and fires its interrupt. A privileged
command is LOCKED_OUT during the lockout, NO_KEY where its tag cannot be checked, and AUTH_FAIL for a wrong tag, the
fourth in a row starting the lockout; every check draws a new nonce (R360, R366, R370, R372, R374 to R376). Where
the spec leaves the reading open this rests on the model's choices, log entry 102. -/
def Obligations.SideshowReadsAndJudgesWrites : Prop :=
  ((∀ (s : State), s.power.vstby = true →
    let read := fun (c : Instr) (d : List Byte) =>
      exec c s = .next { s with out := s.out ++ [.smbus (BitVec.ofNat 8 d.length :: d)] }
    exec (.busStartStop .nothing) s = .next s ∧
    (∀ (code : Byte) (known : Bool),
      (known = true ↔ code ∈ ([0x01, 0x02, 0x03, 0x04, 0x06, 0x07, 0x10, 0x23, 0x32] : List Byte)) →
      let cut : SbCut := if known = true then .writeOfRead code else .undefinedCode code
      (known = true ∨ code ∉ ([0x05, 0x08, 0x20, 0x21, 0x22, 0x30, 0x31] : List Byte)) →
      (s.side.result = .pending → exec (.busStartStop cut) s = .next { s with out := s.out ++ [.smbusNack] }) ∧
      (s.side.result ≠ .pending → exec (.busStartStop cut) s =
        .next { s with side.cmd := code, side.result := .badCommand, out := s.out ++ [.smbusNack] })) ∧
    (∀ (code : Byte), code ∈ ([0x05, 0x08, 0x20, 0x21, 0x22, 0x30, 0x31] : List Byte) →
      s.side.result ≠ .pending → read (.busStartStop (.readOfWrite code)) []) ∧
    read .ident [0x40, 0, 0x47, 0x4B, 0xB0, 0, 0, 0] ∧
    (∃ m f : Byte, read .status [m, s.side.cmd, BitVec.ofNat 8 s.side.result.code, f] ∧
      (m = 2 ↔ s.power.main = .up) ∧ (m = 0 ↔ s.power.main = .off) ∧
      bit f 0 = decide (s.side.result = .pending) ∧ bit f 1 = s.side.locked ∧ bit f 2 = s.regs.mboxToPending ∧
      bit f 3 = s.regs.mboxFromFull ∧ bit f 4 = decide (s.power.main ≠ .up) ∧ field f 5 3 = 0) ∧
    (∃ d, read .health d ∧ d.length = 48 ∧ byteAt d 0 = 1 ∧
      (s.side.snapshot.length = 40 → (d.drop 2).take 40 = s.side.snapshot) ∧
      (s.standby.tamper = none → d.drop 42 = [0, 0, 0, 0, 0, 0]) ∧
      ∀ l x, l < 256 → s.standby.tamper = some (l, x) → d.drop 42 = [BitVec.ofNat 8 l, 0, 0, 0, 0, 0]) ∧
    (∃ d, read .presence d ∧ d.length = 8 ∧
      ∀ n : SlotId, bit (byteAt d (n.val / 8)) (n.val % 8) = (s.slot n).present) ∧
    (∃ d t, exec .logRead s = .next t ∧
      t = { s with out := s.out ++ [.smbus (48 :: d)], side.logOffset := (s.side.logOffset + 4) % 16 } ∧
      d.length = 48 ∧ ∀ i, i < 4 →
        (∀ e, s.standby.log[(s.side.logOffset + i) % 16]? = some e →
          (d.drop (12 * i)).take 12 = leBytes 2 e.seq.toNat ++ leBytes 2 e.code.toNat ++
            leBytes 2 e.kindIndex.toNat ++ [e.severity, e.reason] ++ leBytes 4 e.seconds.toNat) ∧
        (s.standby.log[(s.side.logOffset + i) % 16]? = none → (d.drop (12 * i)).take 12 = List.replicate 12 0)) ∧
    (s.side.bistCopy.length = 12 → read .bistResult s.side.bistCopy) ∧
    (s.bridgeUp = true →
      exec .mboxRead s = .next { s with out := s.out ++ [.smbus (4 :: leBytes 4 s.regs.mboxTo.toNat)],
                                        regs.mboxToPending := false } ∧
      (s.side.nonce.length = 16 → read .nonce s.side.nonce) ∧ read .fwStatus (leBytes 4 s.fwStatus.toNat)) ∧
    (s.bridgeUp = false →
      read .mboxRead [0, 0, 0, 0] ∧ read .nonce [] ∧ read .fwStatus [0, 0, 0, 0]) ∧
    (∀ r, s.side.result = .pending → s.side.answer = some r →
      (s.side.answerBarriers = 0 → exec .sideshowAnswer s = .next { s with side.result := r, side.answer := none }) ∧
      (s.side.answerBarriers ≠ 0 → exec .sideshowAnswer s = .next s))) ∧
  (∀ (temp : W16) (s : State), s.mainUp = true →
    ∃ t, exec (.healthSnapshot temp) s = .next t ∧ t = { s with side := t.side } ∧
      t.side = { s.side with snapSeq := s.side.snapSeq + 1, snapshot := t.side.snapshot } ∧
      t.side.snapshot.length = 40 ∧ t.side.snapshot.take 2 = leBytes 2 (s.side.snapSeq + 1).toNat ∧
      (t.side.snapshot.drop 10).take 4 = leBytes 4 s.regs.errFirst.toNat ∧
      t.side.snapshot.drop 38 = leBytes 2 temp.toNat) ∧
  (∀ (s : State), s.mainUp = true → s.side.locked = true →
    exec .lockoutEnd s = .next { s with side.locked := false })) ∧
  (∀ (s : State) (w : SbWrite), s.power.vstby = true →
    let writes : List (Byte × (SbWrite → Instr) × Nat × Nat) :=
      [(0x05, .logSel, 1, 1), (0x08, .mboxWrite, 4, 4), (0x20, .slotOff, 16, 16), (0x21, .mainReset, 9, 9),
       (0x22, .bistStart, 9, 9), (0x30, .fwOp, 9, 9), (0x31, .fwData, 13, 244)]
    (∀ e ∈ writes,
      (s.side.result = .pending → exec (e.2.1 w) s = .next { s with out := s.out ++ [.smbusNack] }) ∧
      (s.side.result ≠ .pending → w.data.length < e.2.2.1 ∨ e.2.2.2 < w.data.length →
        exec (e.2.1 w) s =
          .next { s with out := s.out ++ [.smbusNack], side.cmd := e.1, side.result := .badLength }) ∧
      (s.side.result ≠ .pending → e.2.2.1 ≤ w.data.length → w.data.length ≤ e.2.2.2 → w.pecOk = false →
        exec (e.2.1 w) s =
          .next { s with out := s.out ++ [.smbusNack], side.cmd := e.1, side.result := .pecFail }) ∧
      (s.side.result ≠ .pending → e.2.2.1 ≤ w.data.length → w.data.length ≤ e.2.2.2 → w.pecOk = true →
        e.1 ≠ 0x05 → s.bridgeUp = false →
        exec (e.2.1 w) s = .next { s with side.cmd := e.1, side.result := .mainUnavailable }) ∧
      (s.side.result ≠ .pending → e.2.2.1 ≤ w.data.length → w.data.length ≤ e.2.2.2 → w.pecOk = true →
        0x20 ≤ e.1.toNat → s.bridgeUp = true →
        let asked : State := { s with side.cmd := e.1, side.result := .pending,
                                      side.answerBarriers := s.regs.barrier.length }
        (s.side.locked = true → exec (e.2.1 w) s = .next { asked with side.answer := some .lockedOut }) ∧
        (s.side.locked = false → s.noTagKey = true →
          exec (e.2.1 w) s = .next { asked with side.answer := some .noKey }) ∧
        (s.side.locked = false → s.noTagKey = false → w.data.drop (w.data.length - 8) ≠ s.tagOf e.1 w.data →
          ∃ t, exec (e.2.1 w) s = .next t ∧
            t = { asked with draws := s.draws + 16, side.nonce := s.random 16, side.tagFails := s.side.tagFails + 1,
                             side.answer := some .authFail, side.locked := decide (4 ≤ s.side.tagFails + 1),
                             barker := t.barker } ∧
            (∃ x ∈ t.barker.queue, x.code = 0x0C01) ∧
            (4 ≤ s.side.tagFails + 1 → ∃ x ∈ t.barker.queue, x.code = 0x0C02 ∧ x.arg = 10000)))) ∧
    (s.side.result ≠ .pending → w.pecOk = true →
      (w.data.length = 1 →
        exec (.logSel w) s = .next { s with side.cmd := 0x05, side.result := .ok,
                                            side.logOffset := (byteAt w.data 0).toNat % 16 }) ∧
      (w.data.length = 4 → s.bridgeUp = true →
        ∃ t, exec (.mboxWrite w) s = .next t ∧
          t = { s with side.cmd := 0x08, side.result := .pending, side.answer := some .ok,
                       side.answerBarriers := s.regs.barrier.length,
                       regs.mboxFrom := BitVec.ofNat 32 (leAt w.data 0 4), regs.mboxFromFull := true,
                       regs.mboxLost := s.regs.mboxLost || s.regs.mboxFromFull,
                       regs.irqStatus := t.regs.irqStatus, regs.msixPending := t.regs.msixPending, out := t.out } ∧
          bit t.regs.irqStatus 5 = true)))

/-- The privileged Sideshow commands on their data once the tag has passed, with the failure count at 0 and a new nonce.
SLOT_OFF disables every slot it names, takes its card down and answers OK when all are unpowered; MAIN_RESET logs
its reason, resets the main side and ends OK; BIST_START starts the run with SOURCE 1 or is REFUSED; FW_OP starts
its operation or is REFUSED while GO reads 1 (the model's reading that an operation which then ends with an error is
still answered OK is log entry 44); FW_DATA appends in strict order, takes a repeat of the last write, and is
REFUSED otherwise. FENCED_SECURE and TERMINATED refuse the last three (R375, R377 to R380, R489). Where the spec
leaves the reading open this rests on the model's choices, log entry 44. -/
def Obligations.SideshowCommandsActOnAPassingTag : Prop :=
  ∀ (s : State) (w : SbWrite), s.power.vstby = true → s.side.result ≠ .pending → w.pecOk = true →
    s.bridgeUp = true → s.side.locked = false → s.noTagKey = false →
    let passes := fun (code : Byte) => w.data.drop (w.data.length - 8) = s.tagOf code w.data
    let asked : Byte → State := fun code =>
      { s with draws := s.draws + 16, side.nonce := s.random 16, side.tagFails := 0, side.cmd := code,
               side.result := .pending, side.answer := none, side.answerBarriers := 0 }
    let answers : Byte → SbResult → State := fun code r =>
      { asked code with side.answer := some r, side.answerBarriers := s.regs.barrier.length }
    let closed := s.nv.lc = .fencedSecure ∨ s.nv.lc = .terminated
    let named := fun (n : SlotId) => bit (byteAt w.data (n.val / 8)) (n.val % 8) = true
    (w.data.length = 16 → ∃ t, exec (.slotOff w) s = .next t ∧
      (passes 0x20 →
        (∀ n, named n → (t.slot n).enable = false ∧ (t.slot n).phase.live = false) ∧
        t.side.tagFails = 0 ∧ t.side.nonce = s.random 16 ∧ t.side.result = .pending ∧ t.nv = s.nv ∧
        (∃ e ∈ t.barker.queue, e.code = 0x0C03) ∧
        ((∀ n, named n → (t.slot n).vcc = .off ∧ s.regs.checkSlot ≠ some n) → t.side.answer = some .ok) ∧
        (∀ n, named n → (t.slot n).vcc ≠ .off → t.side.answer = none))) ∧
    (w.data.length = 9 → ∃ t, exec (.mainReset w) s = .next t ∧
      (passes 0x21 →
        t.regs.time = 0 ∧ t.regs.enable = false ∧ t.jobs = [] ∧ t.side.result = .ok ∧ t.side.tagFails = 0 ∧
        ∃ e ∈ t.standby.log, e.code = 0 ∧ e.reason = byteAt w.data 0)) ∧
    (w.data.length = 9 → ∃ t, exec (.bistStart w) s = .next t ∧
      (passes 0x22 →
        if closed ∨ s.bist.run.isSome = true ∨ field (byteAt w.data 0) 5 3 ≠ 0 then t = answers 0x22 .refused
        else if s.bistAllowed (bit (byteAt w.data 0) 4) true (BitVec.ofNat 4 (field (byteAt w.data 0) 0 4)) = true then
          t.bist.run.isSome = true ∧ t.bist.source = true ∧ t.bist.type = bit (byteAt w.data 0) 4 ∧
          t.side.answer = some .ok
        else t.bist.run = none ∧ t.bist.result = 3 ∧ t.side.answer = some .refused)) ∧
    (w.data.length = 9 → ∃ t, exec (.fwOp w) s = .next t ∧
      (passes 0x30 →
        if closed ∨ s.fw.go = true ∨ (byteAt w.data 0).toNat < 1 ∨ 4 < (byteAt w.data 0).toNat then
          t = answers 0x30 .refused
        else
          (byteAt w.data 0 ≠ 3 → t.side.answer = some .ok ∧ t.slots = s.slots ∧ t.jobs = s.jobs) ∧
          (byteAt w.data 0 = 1 → s.sec.changing = none → s.nv.confirmed = true →
            t.fw.go = true ∧ t.fw.busy = true ∧ t.fw.standby = .erasing) ∧
          (byteAt w.data 0 = 4 → t.fw.go = false ∧ t.fw.standby = .empty ∧ t.fw.result = 5) ∧
          (byteAt w.data 0 = 3 → s.fw.standby = .valid → s.regs.enable = false → s.sec.changing = none →
            t.regs.time = 0 ∧ t.side.result = .mainUnavailable))) ∧
    (13 ≤ w.data.length → w.data.length ≤ 244 → ∃ t, exec (.fwData w) s = .next t ∧
      (passes 0x31 →
        let d := (w.data.take (w.data.length - 8)).drop 4
        let off := leAt w.data 0 4
        if closed ∨ s.fw.go = true ∨ ¬(s.fw.standby = .erased ∨ s.fw.standby = .loading) ∨
            4194304 < off + d.length then
          t = answers 0x31 .refused
        else if s.fw.lastWrite = some (off, d.length) then t = answers 0x31 .ok
        else if off = s.fw.loaded.length then
          t = { answers 0x31 .ok with fw.loaded := s.fw.loaded ++ d, fw.standby := .loading,
                                      fw.lastWrite := some (off, d.length) }
        else t = answers 0x31 .refused))
end

