-- ==== Sys2Proof/Laws/State.lean ====
section
/-! SUPPORT. What each shared update of the state writes, and that it leaves every other field as it was. -/

namespace Sys2Proof.Machine

open Sys2Proof

/-! ## What each shared operation leaves -/

@[simp] theorem State.updSlot_pending (s : State) (n : SlotId) (f : Slot → Slot) : (s.updSlot n f).pending = s.pending := rfl
@[simp] theorem State.updSlot_power (s : State) (n : SlotId) (f : Slot → Slot) : (s.updSlot n f).power = s.power := rfl
@[simp] theorem State.updSlot_regs (s : State) (n : SlotId) (f : Slot → Slot) : (s.updSlot n f).regs = s.regs := rfl
@[simp] theorem State.updSlot_rings (s : State) (n : SlotId) (f : Slot → Slot) : (s.updSlot n f).rings = s.rings := rfl
@[simp] theorem State.updSlot_requests (s : State) (n : SlotId) (f : Slot → Slot) : (s.updSlot n f).requests = s.requests := rfl
@[simp] theorem State.updSlot_jobs (s : State) (n : SlotId) (f : Slot → Slot) : (s.updSlot n f).jobs = s.jobs := rfl
@[simp] theorem State.updSlot_closing (s : State) (n : SlotId) (f : Slot → Slot) : (s.updSlot n f).closing = s.closing := rfl
@[simp] theorem State.updSlot_barker (s : State) (n : SlotId) (f : Slot → Slot) : (s.updSlot n f).barker = s.barker := rfl
@[simp] theorem State.updSlot_place (s : State) (n : SlotId) (f : Slot → Slot) : (s.updSlot n f).place = s.place := rfl
@[simp] theorem State.updSlot_jugs (s : State) (n : SlotId) (f : Slot → Slot) : (s.updSlot n f).jugs = s.jugs := rfl
@[simp] theorem State.updSlot_bank (s : State) (n : SlotId) (f : Slot → Slot) : (s.updSlot n f).bank = s.bank := rfl
@[simp] theorem State.updSlot_nv (s : State) (n : SlotId) (f : Slot → Slot) : (s.updSlot n f).nv = s.nv := rfl
@[simp] theorem State.updSlot_sec (s : State) (n : SlotId) (f : Slot → Slot) : (s.updSlot n f).sec = s.sec := rfl
@[simp] theorem State.updSlot_faults (s : State) (n : SlotId) (f : Slot → Slot) : (s.updSlot n f).faults = s.faults := rfl
@[simp] theorem State.updSlot_standby (s : State) (n : SlotId) (f : Slot → Slot) : (s.updSlot n f).standby = s.standby := rfl
@[simp] theorem State.updSlot_side (s : State) (n : SlotId) (f : Slot → Slot) : (s.updSlot n f).side = s.side := rfl
@[simp] theorem State.updSlot_ports (s : State) (n : SlotId) (f : Slot → Slot) : (s.updSlot n f).ports = s.ports := rfl
@[simp] theorem State.updSlot_sbMap (s : State) (n : SlotId) (f : Slot → Slot) : (s.updSlot n f).sbMap = s.sbMap := rfl
@[simp] theorem State.updSlot_tight (s : State) (n : SlotId) (f : Slot → Slot) : (s.updSlot n f).tight = s.tight := rfl
@[simp] theorem State.updSlot_bist (s : State) (n : SlotId) (f : Slot → Slot) : (s.updSlot n f).bist = s.bist := rfl
@[simp] theorem State.updSlot_fw (s : State) (n : SlotId) (f : Slot → Slot) : (s.updSlot n f).fw = s.fw := rfl
@[simp] theorem State.updSlot_draws (s : State) (n : SlotId) (f : Slot → Slot) : (s.updSlot n f).draws = s.draws := rfl
@[simp] theorem State.updSlot_out (s : State) (n : SlotId) (f : Slot → Slot) : (s.updSlot n f).out = s.out := rfl

@[simp] theorem State.updRing_pending (s : State) (r : RingId) (f : Ring → Ring) : (s.updRing r f).pending = s.pending := rfl
@[simp] theorem State.updRing_power (s : State) (r : RingId) (f : Ring → Ring) : (s.updRing r f).power = s.power := rfl
@[simp] theorem State.updRing_regs (s : State) (r : RingId) (f : Ring → Ring) : (s.updRing r f).regs = s.regs := rfl
@[simp] theorem State.updRing_slots (s : State) (r : RingId) (f : Ring → Ring) : (s.updRing r f).slots = s.slots := rfl
@[simp] theorem State.updRing_requests (s : State) (r : RingId) (f : Ring → Ring) : (s.updRing r f).requests = s.requests := rfl
@[simp] theorem State.updRing_jobs (s : State) (r : RingId) (f : Ring → Ring) : (s.updRing r f).jobs = s.jobs := rfl
@[simp] theorem State.updRing_closing (s : State) (r : RingId) (f : Ring → Ring) : (s.updRing r f).closing = s.closing := rfl
@[simp] theorem State.updRing_barker (s : State) (r : RingId) (f : Ring → Ring) : (s.updRing r f).barker = s.barker := rfl
@[simp] theorem State.updRing_place (s : State) (r : RingId) (f : Ring → Ring) : (s.updRing r f).place = s.place := rfl
@[simp] theorem State.updRing_jugs (s : State) (r : RingId) (f : Ring → Ring) : (s.updRing r f).jugs = s.jugs := rfl
@[simp] theorem State.updRing_bank (s : State) (r : RingId) (f : Ring → Ring) : (s.updRing r f).bank = s.bank := rfl
@[simp] theorem State.updRing_nv (s : State) (r : RingId) (f : Ring → Ring) : (s.updRing r f).nv = s.nv := rfl
@[simp] theorem State.updRing_sec (s : State) (r : RingId) (f : Ring → Ring) : (s.updRing r f).sec = s.sec := rfl
@[simp] theorem State.updRing_faults (s : State) (r : RingId) (f : Ring → Ring) : (s.updRing r f).faults = s.faults := rfl
@[simp] theorem State.updRing_standby (s : State) (r : RingId) (f : Ring → Ring) : (s.updRing r f).standby = s.standby := rfl
@[simp] theorem State.updRing_side (s : State) (r : RingId) (f : Ring → Ring) : (s.updRing r f).side = s.side := rfl
@[simp] theorem State.updRing_ports (s : State) (r : RingId) (f : Ring → Ring) : (s.updRing r f).ports = s.ports := rfl
@[simp] theorem State.updRing_sbMap (s : State) (r : RingId) (f : Ring → Ring) : (s.updRing r f).sbMap = s.sbMap := rfl
@[simp] theorem State.updRing_tight (s : State) (r : RingId) (f : Ring → Ring) : (s.updRing r f).tight = s.tight := rfl
@[simp] theorem State.updRing_bist (s : State) (r : RingId) (f : Ring → Ring) : (s.updRing r f).bist = s.bist := rfl
@[simp] theorem State.updRing_fw (s : State) (r : RingId) (f : Ring → Ring) : (s.updRing r f).fw = s.fw := rfl
@[simp] theorem State.updRing_draws (s : State) (r : RingId) (f : Ring → Ring) : (s.updRing r f).draws = s.draws := rfl
@[simp] theorem State.updRing_out (s : State) (r : RingId) (f : Ring → Ring) : (s.updRing r f).out = s.out := rfl

@[simp] theorem State.updJob_pending (s : State) (j : JobId) (f : Job → Job) : (s.updJob j f).pending = s.pending := rfl
@[simp] theorem State.updJob_power (s : State) (j : JobId) (f : Job → Job) : (s.updJob j f).power = s.power := rfl
@[simp] theorem State.updJob_regs (s : State) (j : JobId) (f : Job → Job) : (s.updJob j f).regs = s.regs := rfl
@[simp] theorem State.updJob_slots (s : State) (j : JobId) (f : Job → Job) : (s.updJob j f).slots = s.slots := rfl
@[simp] theorem State.updJob_rings (s : State) (j : JobId) (f : Job → Job) : (s.updJob j f).rings = s.rings := rfl
@[simp] theorem State.updJob_requests (s : State) (j : JobId) (f : Job → Job) : (s.updJob j f).requests = s.requests := rfl
@[simp] theorem State.updJob_closing (s : State) (j : JobId) (f : Job → Job) : (s.updJob j f).closing = s.closing := rfl
@[simp] theorem State.updJob_barker (s : State) (j : JobId) (f : Job → Job) : (s.updJob j f).barker = s.barker := rfl
@[simp] theorem State.updJob_place (s : State) (j : JobId) (f : Job → Job) : (s.updJob j f).place = s.place := rfl
@[simp] theorem State.updJob_jugs (s : State) (j : JobId) (f : Job → Job) : (s.updJob j f).jugs = s.jugs := rfl
@[simp] theorem State.updJob_bank (s : State) (j : JobId) (f : Job → Job) : (s.updJob j f).bank = s.bank := rfl
@[simp] theorem State.updJob_nv (s : State) (j : JobId) (f : Job → Job) : (s.updJob j f).nv = s.nv := rfl
@[simp] theorem State.updJob_sec (s : State) (j : JobId) (f : Job → Job) : (s.updJob j f).sec = s.sec := rfl
@[simp] theorem State.updJob_faults (s : State) (j : JobId) (f : Job → Job) : (s.updJob j f).faults = s.faults := rfl
@[simp] theorem State.updJob_standby (s : State) (j : JobId) (f : Job → Job) : (s.updJob j f).standby = s.standby := rfl
@[simp] theorem State.updJob_side (s : State) (j : JobId) (f : Job → Job) : (s.updJob j f).side = s.side := rfl
@[simp] theorem State.updJob_ports (s : State) (j : JobId) (f : Job → Job) : (s.updJob j f).ports = s.ports := rfl
@[simp] theorem State.updJob_sbMap (s : State) (j : JobId) (f : Job → Job) : (s.updJob j f).sbMap = s.sbMap := rfl
@[simp] theorem State.updJob_tight (s : State) (j : JobId) (f : Job → Job) : (s.updJob j f).tight = s.tight := rfl
@[simp] theorem State.updJob_bist (s : State) (j : JobId) (f : Job → Job) : (s.updJob j f).bist = s.bist := rfl
@[simp] theorem State.updJob_fw (s : State) (j : JobId) (f : Job → Job) : (s.updJob j f).fw = s.fw := rfl
@[simp] theorem State.updJob_draws (s : State) (j : JobId) (f : Job → Job) : (s.updJob j f).draws = s.draws := rfl
@[simp] theorem State.updJob_out (s : State) (j : JobId) (f : Job → Job) : (s.updJob j f).out = s.out := rfl

@[simp] theorem State.drew_pending (s : State) (k : Nat) : (s.drew k).pending = s.pending := rfl
@[simp] theorem State.drew_power (s : State) (k : Nat) : (s.drew k).power = s.power := rfl
@[simp] theorem State.drew_regs (s : State) (k : Nat) : (s.drew k).regs = s.regs := rfl
@[simp] theorem State.drew_slots (s : State) (k : Nat) : (s.drew k).slots = s.slots := rfl
@[simp] theorem State.drew_rings (s : State) (k : Nat) : (s.drew k).rings = s.rings := rfl
@[simp] theorem State.drew_requests (s : State) (k : Nat) : (s.drew k).requests = s.requests := rfl
@[simp] theorem State.drew_jobs (s : State) (k : Nat) : (s.drew k).jobs = s.jobs := rfl
@[simp] theorem State.drew_closing (s : State) (k : Nat) : (s.drew k).closing = s.closing := rfl
@[simp] theorem State.drew_barker (s : State) (k : Nat) : (s.drew k).barker = s.barker := rfl
@[simp] theorem State.drew_place (s : State) (k : Nat) : (s.drew k).place = s.place := rfl
@[simp] theorem State.drew_jugs (s : State) (k : Nat) : (s.drew k).jugs = s.jugs := rfl
@[simp] theorem State.drew_bank (s : State) (k : Nat) : (s.drew k).bank = s.bank := rfl
@[simp] theorem State.drew_nv (s : State) (k : Nat) : (s.drew k).nv = s.nv := rfl
@[simp] theorem State.drew_sec (s : State) (k : Nat) : (s.drew k).sec = s.sec := rfl
@[simp] theorem State.drew_faults (s : State) (k : Nat) : (s.drew k).faults = s.faults := rfl
@[simp] theorem State.drew_standby (s : State) (k : Nat) : (s.drew k).standby = s.standby := rfl
@[simp] theorem State.drew_side (s : State) (k : Nat) : (s.drew k).side = s.side := rfl
@[simp] theorem State.drew_ports (s : State) (k : Nat) : (s.drew k).ports = s.ports := rfl
@[simp] theorem State.drew_sbMap (s : State) (k : Nat) : (s.drew k).sbMap = s.sbMap := rfl
@[simp] theorem State.drew_tight (s : State) (k : Nat) : (s.drew k).tight = s.tight := rfl
@[simp] theorem State.drew_bist (s : State) (k : Nat) : (s.drew k).bist = s.bist := rfl
@[simp] theorem State.drew_fw (s : State) (k : Nat) : (s.drew k).fw = s.fw := rfl
@[simp] theorem State.drew_out (s : State) (k : Nat) : (s.drew k).out = s.out := rfl

@[simp] theorem emit_pending (e : Emission) (s : State) : (emit e s).pending = s.pending := rfl
@[simp] theorem emit_power (e : Emission) (s : State) : (emit e s).power = s.power := rfl
@[simp] theorem emit_regs (e : Emission) (s : State) : (emit e s).regs = s.regs := rfl
@[simp] theorem emit_slots (e : Emission) (s : State) : (emit e s).slots = s.slots := rfl
@[simp] theorem emit_rings (e : Emission) (s : State) : (emit e s).rings = s.rings := rfl
@[simp] theorem emit_requests (e : Emission) (s : State) : (emit e s).requests = s.requests := rfl
@[simp] theorem emit_jobs (e : Emission) (s : State) : (emit e s).jobs = s.jobs := rfl
@[simp] theorem emit_closing (e : Emission) (s : State) : (emit e s).closing = s.closing := rfl
@[simp] theorem emit_barker (e : Emission) (s : State) : (emit e s).barker = s.barker := rfl
@[simp] theorem emit_place (e : Emission) (s : State) : (emit e s).place = s.place := rfl
@[simp] theorem emit_jugs (e : Emission) (s : State) : (emit e s).jugs = s.jugs := rfl
@[simp] theorem emit_bank (e : Emission) (s : State) : (emit e s).bank = s.bank := rfl
@[simp] theorem emit_nv (e : Emission) (s : State) : (emit e s).nv = s.nv := rfl
@[simp] theorem emit_sec (e : Emission) (s : State) : (emit e s).sec = s.sec := rfl
@[simp] theorem emit_faults (e : Emission) (s : State) : (emit e s).faults = s.faults := rfl
@[simp] theorem emit_standby (e : Emission) (s : State) : (emit e s).standby = s.standby := rfl
@[simp] theorem emit_side (e : Emission) (s : State) : (emit e s).side = s.side := rfl
@[simp] theorem emit_ports (e : Emission) (s : State) : (emit e s).ports = s.ports := rfl
@[simp] theorem emit_sbMap (e : Emission) (s : State) : (emit e s).sbMap = s.sbMap := rfl
@[simp] theorem emit_tight (e : Emission) (s : State) : (emit e s).tight = s.tight := rfl
@[simp] theorem emit_bist (e : Emission) (s : State) : (emit e s).bist = s.bist := rfl
@[simp] theorem emit_fw (e : Emission) (s : State) : (emit e s).fw = s.fw := rfl
@[simp] theorem emit_draws (e : Emission) (s : State) : (emit e s).draws = s.draws := rfl

@[simp] theorem raise_pending (c : W16) (o : Option SlotId) (a : Nat) (s : State) : (raise c o a s).pending = s.pending := rfl
@[simp] theorem raise_power (c : W16) (o : Option SlotId) (a : Nat) (s : State) : (raise c o a s).power = s.power := rfl
@[simp] theorem raise_regs (c : W16) (o : Option SlotId) (a : Nat) (s : State) : (raise c o a s).regs = s.regs := rfl
@[simp] theorem raise_slots (c : W16) (o : Option SlotId) (a : Nat) (s : State) : (raise c o a s).slots = s.slots := rfl
@[simp] theorem raise_rings (c : W16) (o : Option SlotId) (a : Nat) (s : State) : (raise c o a s).rings = s.rings := rfl
@[simp] theorem raise_requests (c : W16) (o : Option SlotId) (a : Nat) (s : State) : (raise c o a s).requests = s.requests := rfl
@[simp] theorem raise_jobs (c : W16) (o : Option SlotId) (a : Nat) (s : State) : (raise c o a s).jobs = s.jobs := rfl
@[simp] theorem raise_closing (c : W16) (o : Option SlotId) (a : Nat) (s : State) : (raise c o a s).closing = s.closing := rfl
@[simp] theorem raise_place (c : W16) (o : Option SlotId) (a : Nat) (s : State) : (raise c o a s).place = s.place := rfl
@[simp] theorem raise_jugs (c : W16) (o : Option SlotId) (a : Nat) (s : State) : (raise c o a s).jugs = s.jugs := rfl
@[simp] theorem raise_bank (c : W16) (o : Option SlotId) (a : Nat) (s : State) : (raise c o a s).bank = s.bank := rfl
@[simp] theorem raise_nv (c : W16) (o : Option SlotId) (a : Nat) (s : State) : (raise c o a s).nv = s.nv := rfl
@[simp] theorem raise_sec (c : W16) (o : Option SlotId) (a : Nat) (s : State) : (raise c o a s).sec = s.sec := rfl
@[simp] theorem raise_faults (c : W16) (o : Option SlotId) (a : Nat) (s : State) : (raise c o a s).faults = s.faults := rfl
@[simp] theorem raise_standby (c : W16) (o : Option SlotId) (a : Nat) (s : State) : (raise c o a s).standby = s.standby := rfl
@[simp] theorem raise_side (c : W16) (o : Option SlotId) (a : Nat) (s : State) : (raise c o a s).side = s.side := rfl
@[simp] theorem raise_ports (c : W16) (o : Option SlotId) (a : Nat) (s : State) : (raise c o a s).ports = s.ports := rfl
@[simp] theorem raise_sbMap (c : W16) (o : Option SlotId) (a : Nat) (s : State) : (raise c o a s).sbMap = s.sbMap := rfl
@[simp] theorem raise_tight (c : W16) (o : Option SlotId) (a : Nat) (s : State) : (raise c o a s).tight = s.tight := rfl
@[simp] theorem raise_bist (c : W16) (o : Option SlotId) (a : Nat) (s : State) : (raise c o a s).bist = s.bist := rfl
@[simp] theorem raise_fw (c : W16) (o : Option SlotId) (a : Nat) (s : State) : (raise c o a s).fw = s.fw := rfl
@[simp] theorem raise_draws (c : W16) (o : Option SlotId) (a : Nat) (s : State) : (raise c o a s).draws = s.draws := rfl
@[simp] theorem raise_out (c : W16) (o : Option SlotId) (a : Nat) (s : State) : (raise c o a s).out = s.out := rfl

@[simp] theorem setPlan_pending (n : SlotId) (p : SlotPlan) (s : State) : (setPlan n p s).pending = s.pending := rfl
@[simp] theorem setPlan_power (n : SlotId) (p : SlotPlan) (s : State) : (setPlan n p s).power = s.power := rfl
@[simp] theorem setPlan_regs (n : SlotId) (p : SlotPlan) (s : State) : (setPlan n p s).regs = s.regs := rfl
@[simp] theorem setPlan_slots (n : SlotId) (p : SlotPlan) (s : State) : (setPlan n p s).slots = s.slots := rfl
@[simp] theorem setPlan_rings (n : SlotId) (p : SlotPlan) (s : State) : (setPlan n p s).rings = s.rings := rfl
@[simp] theorem setPlan_requests (n : SlotId) (p : SlotPlan) (s : State) : (setPlan n p s).requests = s.requests := rfl
@[simp] theorem setPlan_jobs (n : SlotId) (p : SlotPlan) (s : State) : (setPlan n p s).jobs = s.jobs := rfl
@[simp] theorem setPlan_closing (n : SlotId) (p : SlotPlan) (s : State) : (setPlan n p s).closing = s.closing := rfl
@[simp] theorem setPlan_barker (n : SlotId) (p : SlotPlan) (s : State) : (setPlan n p s).barker = s.barker := rfl
@[simp] theorem setPlan_place (n : SlotId) (p : SlotPlan) (s : State) : (setPlan n p s).place = s.place := rfl
@[simp] theorem setPlan_jugs (n : SlotId) (p : SlotPlan) (s : State) : (setPlan n p s).jugs = s.jugs := rfl
@[simp] theorem setPlan_bank (n : SlotId) (p : SlotPlan) (s : State) : (setPlan n p s).bank = s.bank := rfl
@[simp] theorem setPlan_nv (n : SlotId) (p : SlotPlan) (s : State) : (setPlan n p s).nv = s.nv := rfl
@[simp] theorem setPlan_sec (n : SlotId) (p : SlotPlan) (s : State) : (setPlan n p s).sec = s.sec := rfl
@[simp] theorem setPlan_faults (n : SlotId) (p : SlotPlan) (s : State) : (setPlan n p s).faults = s.faults := rfl
@[simp] theorem setPlan_standby (n : SlotId) (p : SlotPlan) (s : State) : (setPlan n p s).standby = s.standby := rfl
@[simp] theorem setPlan_side (n : SlotId) (p : SlotPlan) (s : State) : (setPlan n p s).side = s.side := rfl
@[simp] theorem setPlan_ports (n : SlotId) (p : SlotPlan) (s : State) : (setPlan n p s).ports = s.ports := rfl
@[simp] theorem setPlan_sbMap (n : SlotId) (p : SlotPlan) (s : State) : (setPlan n p s).sbMap = s.sbMap := rfl
@[simp] theorem setPlan_bist (n : SlotId) (p : SlotPlan) (s : State) : (setPlan n p s).bist = s.bist := rfl
@[simp] theorem setPlan_fw (n : SlotId) (p : SlotPlan) (s : State) : (setPlan n p s).fw = s.fw := rfl
@[simp] theorem setPlan_draws (n : SlotId) (p : SlotPlan) (s : State) : (setPlan n p s).draws = s.draws := rfl
@[simp] theorem setPlan_out (n : SlotId) (p : SlotPlan) (s : State) : (setPlan n p s).out = s.out := rfl

@[simp] theorem setUnit_pending (u : UnitRef) (p : UnitPhase) (c : W16) (s : State) : (setUnit u p c s).pending = s.pending := rfl
@[simp] theorem setUnit_power (u : UnitRef) (p : UnitPhase) (c : W16) (s : State) : (setUnit u p c s).power = s.power := rfl
@[simp] theorem setUnit_regs (u : UnitRef) (p : UnitPhase) (c : W16) (s : State) : (setUnit u p c s).regs = s.regs := rfl
@[simp] theorem setUnit_slots (u : UnitRef) (p : UnitPhase) (c : W16) (s : State) : (setUnit u p c s).slots = s.slots := rfl
@[simp] theorem setUnit_rings (u : UnitRef) (p : UnitPhase) (c : W16) (s : State) : (setUnit u p c s).rings = s.rings := rfl
@[simp] theorem setUnit_requests (u : UnitRef) (p : UnitPhase) (c : W16) (s : State) : (setUnit u p c s).requests = s.requests := rfl
@[simp] theorem setUnit_jobs (u : UnitRef) (p : UnitPhase) (c : W16) (s : State) : (setUnit u p c s).jobs = s.jobs := rfl
@[simp] theorem setUnit_closing (u : UnitRef) (p : UnitPhase) (c : W16) (s : State) : (setUnit u p c s).closing = s.closing := rfl
@[simp] theorem setUnit_barker (u : UnitRef) (p : UnitPhase) (c : W16) (s : State) : (setUnit u p c s).barker = s.barker := rfl
@[simp] theorem setUnit_place (u : UnitRef) (p : UnitPhase) (c : W16) (s : State) : (setUnit u p c s).place = s.place := rfl
@[simp] theorem setUnit_jugs (u : UnitRef) (p : UnitPhase) (c : W16) (s : State) : (setUnit u p c s).jugs = s.jugs := rfl
@[simp] theorem setUnit_bank (u : UnitRef) (p : UnitPhase) (c : W16) (s : State) : (setUnit u p c s).bank = s.bank := rfl
@[simp] theorem setUnit_nv (u : UnitRef) (p : UnitPhase) (c : W16) (s : State) : (setUnit u p c s).nv = s.nv := rfl
@[simp] theorem setUnit_sec (u : UnitRef) (p : UnitPhase) (c : W16) (s : State) : (setUnit u p c s).sec = s.sec := rfl
@[simp] theorem setUnit_standby (u : UnitRef) (p : UnitPhase) (c : W16) (s : State) : (setUnit u p c s).standby = s.standby := rfl
@[simp] theorem setUnit_side (u : UnitRef) (p : UnitPhase) (c : W16) (s : State) : (setUnit u p c s).side = s.side := rfl
@[simp] theorem setUnit_ports (u : UnitRef) (p : UnitPhase) (c : W16) (s : State) : (setUnit u p c s).ports = s.ports := rfl
@[simp] theorem setUnit_sbMap (u : UnitRef) (p : UnitPhase) (c : W16) (s : State) : (setUnit u p c s).sbMap = s.sbMap := rfl
@[simp] theorem setUnit_tight (u : UnitRef) (p : UnitPhase) (c : W16) (s : State) : (setUnit u p c s).tight = s.tight := rfl
@[simp] theorem setUnit_bist (u : UnitRef) (p : UnitPhase) (c : W16) (s : State) : (setUnit u p c s).bist = s.bist := rfl
@[simp] theorem setUnit_fw (u : UnitRef) (p : UnitPhase) (c : W16) (s : State) : (setUnit u p c s).fw = s.fw := rfl
@[simp] theorem setUnit_draws (u : UnitRef) (p : UnitPhase) (c : W16) (s : State) : (setUnit u p c s).draws = s.draws := rfl
@[simp] theorem setUnit_out (u : UnitRef) (p : UnitPhase) (c : W16) (s : State) : (setUnit u p c s).out = s.out := rfl

@[simp] theorem askBarrier_pending (c : RuleCause) (s : State) : (askBarrier c s).pending = s.pending := rfl
@[simp] theorem askBarrier_power (c : RuleCause) (s : State) : (askBarrier c s).power = s.power := rfl
@[simp] theorem askBarrier_slots (c : RuleCause) (s : State) : (askBarrier c s).slots = s.slots := rfl
@[simp] theorem askBarrier_rings (c : RuleCause) (s : State) : (askBarrier c s).rings = s.rings := rfl
@[simp] theorem askBarrier_requests (c : RuleCause) (s : State) : (askBarrier c s).requests = s.requests := rfl
@[simp] theorem askBarrier_jobs (c : RuleCause) (s : State) : (askBarrier c s).jobs = s.jobs := rfl
@[simp] theorem askBarrier_closing (c : RuleCause) (s : State) : (askBarrier c s).closing = s.closing := rfl
@[simp] theorem askBarrier_barker (c : RuleCause) (s : State) : (askBarrier c s).barker = s.barker := rfl
@[simp] theorem askBarrier_place (c : RuleCause) (s : State) : (askBarrier c s).place = s.place := rfl
@[simp] theorem askBarrier_jugs (c : RuleCause) (s : State) : (askBarrier c s).jugs = s.jugs := rfl
@[simp] theorem askBarrier_bank (c : RuleCause) (s : State) : (askBarrier c s).bank = s.bank := rfl
@[simp] theorem askBarrier_nv (c : RuleCause) (s : State) : (askBarrier c s).nv = s.nv := rfl
@[simp] theorem askBarrier_sec (c : RuleCause) (s : State) : (askBarrier c s).sec = s.sec := rfl
@[simp] theorem askBarrier_faults (c : RuleCause) (s : State) : (askBarrier c s).faults = s.faults := rfl
@[simp] theorem askBarrier_standby (c : RuleCause) (s : State) : (askBarrier c s).standby = s.standby := rfl
@[simp] theorem askBarrier_side (c : RuleCause) (s : State) : (askBarrier c s).side = s.side := rfl
@[simp] theorem askBarrier_ports (c : RuleCause) (s : State) : (askBarrier c s).ports = s.ports := rfl
@[simp] theorem askBarrier_sbMap (c : RuleCause) (s : State) : (askBarrier c s).sbMap = s.sbMap := rfl
@[simp] theorem askBarrier_tight (c : RuleCause) (s : State) : (askBarrier c s).tight = s.tight := rfl
@[simp] theorem askBarrier_bist (c : RuleCause) (s : State) : (askBarrier c s).bist = s.bist := rfl
@[simp] theorem askBarrier_fw (c : RuleCause) (s : State) : (askBarrier c s).fw = s.fw := rfl
@[simp] theorem askBarrier_draws (c : RuleCause) (s : State) : (askBarrier c s).draws = s.draws := rfl
@[simp] theorem askBarrier_out (c : RuleCause) (s : State) : (askBarrier c s).out = s.out := rfl

@[simp] theorem logStandby_pending (c : W16) (k i : Nat) (r : Byte) (s : State) : (logStandby c k i r s).pending = s.pending := by simp only [logStandby]
@[simp] theorem logStandby_power (c : W16) (k i : Nat) (r : Byte) (s : State) : (logStandby c k i r s).power = s.power := by simp only [logStandby]
@[simp] theorem logStandby_regs (c : W16) (k i : Nat) (r : Byte) (s : State) : (logStandby c k i r s).regs = s.regs := by simp only [logStandby]
@[simp] theorem logStandby_slots (c : W16) (k i : Nat) (r : Byte) (s : State) : (logStandby c k i r s).slots = s.slots := by simp only [logStandby]
@[simp] theorem logStandby_rings (c : W16) (k i : Nat) (r : Byte) (s : State) : (logStandby c k i r s).rings = s.rings := by simp only [logStandby]
@[simp] theorem logStandby_requests (c : W16) (k i : Nat) (r : Byte) (s : State) : (logStandby c k i r s).requests = s.requests := by simp only [logStandby]
@[simp] theorem logStandby_jobs (c : W16) (k i : Nat) (r : Byte) (s : State) : (logStandby c k i r s).jobs = s.jobs := by simp only [logStandby]
@[simp] theorem logStandby_closing (c : W16) (k i : Nat) (r : Byte) (s : State) : (logStandby c k i r s).closing = s.closing := by simp only [logStandby]
@[simp] theorem logStandby_barker (c : W16) (k i : Nat) (r : Byte) (s : State) : (logStandby c k i r s).barker = s.barker := by simp only [logStandby]
@[simp] theorem logStandby_place (c : W16) (k i : Nat) (r : Byte) (s : State) : (logStandby c k i r s).place = s.place := by simp only [logStandby]
@[simp] theorem logStandby_jugs (c : W16) (k i : Nat) (r : Byte) (s : State) : (logStandby c k i r s).jugs = s.jugs := by simp only [logStandby]
@[simp] theorem logStandby_bank (c : W16) (k i : Nat) (r : Byte) (s : State) : (logStandby c k i r s).bank = s.bank := by simp only [logStandby]
@[simp] theorem logStandby_nv (c : W16) (k i : Nat) (r : Byte) (s : State) : (logStandby c k i r s).nv = s.nv := by simp only [logStandby]
@[simp] theorem logStandby_sec (c : W16) (k i : Nat) (r : Byte) (s : State) : (logStandby c k i r s).sec = s.sec := by simp only [logStandby]
@[simp] theorem logStandby_faults (c : W16) (k i : Nat) (r : Byte) (s : State) : (logStandby c k i r s).faults = s.faults := by simp only [logStandby]
@[simp] theorem logStandby_side (c : W16) (k i : Nat) (r : Byte) (s : State) : (logStandby c k i r s).side = s.side := by simp only [logStandby]
@[simp] theorem logStandby_ports (c : W16) (k i : Nat) (r : Byte) (s : State) : (logStandby c k i r s).ports = s.ports := by simp only [logStandby]
@[simp] theorem logStandby_sbMap (c : W16) (k i : Nat) (r : Byte) (s : State) : (logStandby c k i r s).sbMap = s.sbMap := by simp only [logStandby]
@[simp] theorem logStandby_tight (c : W16) (k i : Nat) (r : Byte) (s : State) : (logStandby c k i r s).tight = s.tight := by simp only [logStandby]
@[simp] theorem logStandby_bist (c : W16) (k i : Nat) (r : Byte) (s : State) : (logStandby c k i r s).bist = s.bist := by simp only [logStandby]
@[simp] theorem logStandby_fw (c : W16) (k i : Nat) (r : Byte) (s : State) : (logStandby c k i r s).fw = s.fw := by simp only [logStandby]
@[simp] theorem logStandby_draws (c : W16) (k i : Nat) (r : Byte) (s : State) : (logStandby c k i r s).draws = s.draws := by simp only [logStandby]
@[simp] theorem logStandby_out (c : W16) (k i : Nat) (r : Byte) (s : State) : (logStandby c k i r s).out = s.out := by simp only [logStandby]

@[simp] theorem pushClosing_pending (c : Closing) (s : State) : (pushClosing c s).pending = s.pending := rfl
@[simp] theorem pushClosing_power (c : Closing) (s : State) : (pushClosing c s).power = s.power := rfl
@[simp] theorem pushClosing_regs (c : Closing) (s : State) : (pushClosing c s).regs = s.regs := rfl
@[simp] theorem pushClosing_slots (c : Closing) (s : State) : (pushClosing c s).slots = s.slots := rfl
@[simp] theorem pushClosing_rings (c : Closing) (s : State) : (pushClosing c s).rings = s.rings := rfl
@[simp] theorem pushClosing_requests (c : Closing) (s : State) : (pushClosing c s).requests = s.requests := rfl
@[simp] theorem pushClosing_jobs (c : Closing) (s : State) : (pushClosing c s).jobs = s.jobs := rfl
@[simp] theorem pushClosing_barker (c : Closing) (s : State) : (pushClosing c s).barker = s.barker := rfl
@[simp] theorem pushClosing_place (c : Closing) (s : State) : (pushClosing c s).place = s.place := rfl
@[simp] theorem pushClosing_jugs (c : Closing) (s : State) : (pushClosing c s).jugs = s.jugs := rfl
@[simp] theorem pushClosing_bank (c : Closing) (s : State) : (pushClosing c s).bank = s.bank := rfl
@[simp] theorem pushClosing_nv (c : Closing) (s : State) : (pushClosing c s).nv = s.nv := rfl
@[simp] theorem pushClosing_sec (c : Closing) (s : State) : (pushClosing c s).sec = s.sec := rfl
@[simp] theorem pushClosing_faults (c : Closing) (s : State) : (pushClosing c s).faults = s.faults := rfl
@[simp] theorem pushClosing_standby (c : Closing) (s : State) : (pushClosing c s).standby = s.standby := rfl
@[simp] theorem pushClosing_side (c : Closing) (s : State) : (pushClosing c s).side = s.side := rfl
@[simp] theorem pushClosing_ports (c : Closing) (s : State) : (pushClosing c s).ports = s.ports := rfl
@[simp] theorem pushClosing_sbMap (c : Closing) (s : State) : (pushClosing c s).sbMap = s.sbMap := rfl
@[simp] theorem pushClosing_tight (c : Closing) (s : State) : (pushClosing c s).tight = s.tight := rfl
@[simp] theorem pushClosing_bist (c : Closing) (s : State) : (pushClosing c s).bist = s.bist := rfl
@[simp] theorem pushClosing_fw (c : Closing) (s : State) : (pushClosing c s).fw = s.fw := rfl
@[simp] theorem pushClosing_draws (c : Closing) (s : State) : (pushClosing c s).draws = s.draws := rfl
@[simp] theorem pushClosing_out (c : Closing) (s : State) : (pushClosing c s).out = s.out := rfl

@[simp] theorem withPending_power (s : State) (l : List Instr) : (withPending s l).power = s.power := rfl
@[simp] theorem withPending_regs (s : State) (l : List Instr) : (withPending s l).regs = s.regs := rfl
@[simp] theorem withPending_slots (s : State) (l : List Instr) : (withPending s l).slots = s.slots := rfl
@[simp] theorem withPending_rings (s : State) (l : List Instr) : (withPending s l).rings = s.rings := rfl
@[simp] theorem withPending_requests (s : State) (l : List Instr) : (withPending s l).requests = s.requests := rfl
@[simp] theorem withPending_jobs (s : State) (l : List Instr) : (withPending s l).jobs = s.jobs := rfl
@[simp] theorem withPending_closing (s : State) (l : List Instr) : (withPending s l).closing = s.closing := rfl
@[simp] theorem withPending_barker (s : State) (l : List Instr) : (withPending s l).barker = s.barker := rfl
@[simp] theorem withPending_place (s : State) (l : List Instr) : (withPending s l).place = s.place := rfl
@[simp] theorem withPending_jugs (s : State) (l : List Instr) : (withPending s l).jugs = s.jugs := rfl
@[simp] theorem withPending_bank (s : State) (l : List Instr) : (withPending s l).bank = s.bank := rfl
@[simp] theorem withPending_nv (s : State) (l : List Instr) : (withPending s l).nv = s.nv := rfl
@[simp] theorem withPending_sec (s : State) (l : List Instr) : (withPending s l).sec = s.sec := rfl
@[simp] theorem withPending_faults (s : State) (l : List Instr) : (withPending s l).faults = s.faults := rfl
@[simp] theorem withPending_standby (s : State) (l : List Instr) : (withPending s l).standby = s.standby := rfl
@[simp] theorem withPending_side (s : State) (l : List Instr) : (withPending s l).side = s.side := rfl
@[simp] theorem withPending_ports (s : State) (l : List Instr) : (withPending s l).ports = s.ports := rfl
@[simp] theorem withPending_sbMap (s : State) (l : List Instr) : (withPending s l).sbMap = s.sbMap := rfl
@[simp] theorem withPending_tight (s : State) (l : List Instr) : (withPending s l).tight = s.tight := rfl
@[simp] theorem withPending_bist (s : State) (l : List Instr) : (withPending s l).bist = s.bist := rfl
@[simp] theorem withPending_fw (s : State) (l : List Instr) : (withPending s l).fw = s.fw := rfl
@[simp] theorem withPending_draws (s : State) (l : List Instr) : (withPending s l).draws = s.draws := rfl
@[simp] theorem withPending_out (s : State) (l : List Instr) : (withPending s l).out = s.out := rfl

@[simp] theorem settle_pending (q : W64) (r : JResult) (w : W16) (h : Nat) (o : Option SlotId) (s : State) : (settle q r w h o s).pending = s.pending := rfl
@[simp] theorem settle_power (q : W64) (r : JResult) (w : W16) (h : Nat) (o : Option SlotId) (s : State) : (settle q r w h o s).power = s.power := rfl
@[simp] theorem settle_regs (q : W64) (r : JResult) (w : W16) (h : Nat) (o : Option SlotId) (s : State) : (settle q r w h o s).regs = s.regs := rfl
@[simp] theorem settle_slots (q : W64) (r : JResult) (w : W16) (h : Nat) (o : Option SlotId) (s : State) : (settle q r w h o s).slots = s.slots := rfl
@[simp] theorem settle_rings (q : W64) (r : JResult) (w : W16) (h : Nat) (o : Option SlotId) (s : State) : (settle q r w h o s).rings = s.rings := rfl
@[simp] theorem settle_requests (q : W64) (r : JResult) (w : W16) (h : Nat) (o : Option SlotId) (s : State) : (settle q r w h o s).requests = s.requests := rfl
@[simp] theorem settle_jobs (q : W64) (r : JResult) (w : W16) (h : Nat) (o : Option SlotId) (s : State) : (settle q r w h o s).jobs = s.jobs := rfl
@[simp] theorem settle_closing (q : W64) (r : JResult) (w : W16) (h : Nat) (o : Option SlotId) (s : State) : (settle q r w h o s).closing = s.closing := rfl
@[simp] theorem settle_barker (q : W64) (r : JResult) (w : W16) (h : Nat) (o : Option SlotId) (s : State) : (settle q r w h o s).barker = s.barker := rfl
@[simp] theorem settle_place (q : W64) (r : JResult) (w : W16) (h : Nat) (o : Option SlotId) (s : State) : (settle q r w h o s).place = s.place := rfl
@[simp] theorem settle_jugs (q : W64) (r : JResult) (w : W16) (h : Nat) (o : Option SlotId) (s : State) : (settle q r w h o s).jugs = s.jugs := rfl
@[simp] theorem settle_nv (q : W64) (r : JResult) (w : W16) (h : Nat) (o : Option SlotId) (s : State) : (settle q r w h o s).nv = s.nv := rfl
@[simp] theorem settle_sec (q : W64) (r : JResult) (w : W16) (h : Nat) (o : Option SlotId) (s : State) : (settle q r w h o s).sec = s.sec := rfl
@[simp] theorem settle_faults (q : W64) (r : JResult) (w : W16) (h : Nat) (o : Option SlotId) (s : State) : (settle q r w h o s).faults = s.faults := rfl
@[simp] theorem settle_standby (q : W64) (r : JResult) (w : W16) (h : Nat) (o : Option SlotId) (s : State) : (settle q r w h o s).standby = s.standby := rfl
@[simp] theorem settle_side (q : W64) (r : JResult) (w : W16) (h : Nat) (o : Option SlotId) (s : State) : (settle q r w h o s).side = s.side := rfl
@[simp] theorem settle_ports (q : W64) (r : JResult) (w : W16) (h : Nat) (o : Option SlotId) (s : State) : (settle q r w h o s).ports = s.ports := rfl
@[simp] theorem settle_sbMap (q : W64) (r : JResult) (w : W16) (h : Nat) (o : Option SlotId) (s : State) : (settle q r w h o s).sbMap = s.sbMap := rfl
@[simp] theorem settle_tight (q : W64) (r : JResult) (w : W16) (h : Nat) (o : Option SlotId) (s : State) : (settle q r w h o s).tight = s.tight := rfl
@[simp] theorem settle_bist (q : W64) (r : JResult) (w : W16) (h : Nat) (o : Option SlotId) (s : State) : (settle q r w h o s).bist = s.bist := rfl
@[simp] theorem settle_fw (q : W64) (r : JResult) (w : W16) (h : Nat) (o : Option SlotId) (s : State) : (settle q r w h o s).fw = s.fw := rfl
@[simp] theorem settle_draws (q : W64) (r : JResult) (w : W16) (h : Nat) (o : Option SlotId) (s : State) : (settle q r w h o s).draws = s.draws := rfl
@[simp] theorem settle_out (q : W64) (r : JResult) (w : W16) (h : Nat) (o : Option SlotId) (s : State) : (settle q r w h o s).out = s.out := rfl
/-! ## What each shared operation writes -/

@[simp] theorem State.updSlot_slot_self (s : State) (n : SlotId) (f : Slot → Slot) :
    (s.updSlot n f).slot n = f (s.slot n) := by
  simp [State.slot, State.updSlot]

theorem State.updSlot_slot_other (s : State) (n m : SlotId) (f : Slot → Slot) (h : m ≠ n) :
    (s.updSlot n f).slot m = s.slot m := by
  simp [State.slot, State.updSlot, Fin.val_inj, h.symm]

theorem State.updSlot_slot (s : State) (n m : SlotId) (f : Slot → Slot) :
    (s.updSlot n f).slot m = if m = n then f (s.slot n) else s.slot m := by
  by_cases h : m = n
  · subst h; simp
  · simp [h, State.updSlot_slot_other]

@[simp] theorem State.updSlot_ring (s : State) (n : SlotId) (f : Slot → Slot) (r : RingId) :
    (s.updSlot n f).ring r = s.ring r := rfl

@[simp] theorem State.updRing_ring_self (s : State) (r : RingId) (f : Ring → Ring) :
    (s.updRing r f).ring r = f (s.ring r) := by
  simp [State.ring, State.updRing]

theorem State.updRing_ring_other (s : State) (r q : RingId) (f : Ring → Ring) (h : q ≠ r) :
    (s.updRing r f).ring q = s.ring q := by
  simp [State.ring, State.updRing, Fin.val_inj, h.symm]

@[simp] theorem State.updRing_slot (s : State) (r : RingId) (f : Ring → Ring) (n : SlotId) :
    (s.updRing r f).slot n = s.slot n := rfl

@[simp] theorem State.updJob_slot (s : State) (j : JobId) (f : Job → Job) (n : SlotId) :
    (s.updJob j f).slot n = s.slot n := rfl

@[simp] theorem raise_slot (c : W16) (o : Option SlotId) (a : Nat) (s : State) (n : SlotId) :
    (raise c o a s).slot n = s.slot n := rfl

@[simp] theorem emit_slot (e : Emission) (s : State) (n : SlotId) : (emit e s).slot n = s.slot n := rfl

@[simp] theorem raise_queue (c : W16) (o : Option SlotId) (a : Nat) (s : State) :
    (raise c o a s).barker.queue = s.barker.queue ++
      [{ code := c, slot := o, arg := BitVec.ofNat 32 a, time := s.regs.time }] := rfl

@[simp] theorem emit_out_append (e : Emission) (s : State) : (emit e s).out = s.out ++ [e] := rfl

/-! ## Interrupts and errors -/

/-- An interrupt source writes the IRQ status, the MSI-X pending bits and what leaves the device, nothing else. -/
theorem fireIrq_frame (n : Nat) (s : State) :
    fireIrq n s = { s with regs.irqStatus := (fireIrq n s).regs.irqStatus,
                           regs.msixPending := (fireIrq n s).regs.msixPending,
                           out := (fireIrq n s).out } := by
  simp only [fireIrq, sendVector, emit]
  repeat' split
  all_goals rfl

@[simp] theorem fireIrq_irqStatus (n : Nat) (s : State) :
    (fireIrq n s).regs.irqStatus = s.regs.irqStatus ||| BitVec.ofNat 32 (2 ^ n) := by
  simp only [fireIrq, sendVector, emit]
  repeat' split
  all_goals rfl

/-- A latched error writes the error registers, the IRQ status, the MSI-X pending bits, the event queue and what
leaves the device, nothing else. -/
theorem latchAt_frame (c : W16) (k i : Nat) (o : Option SlotId) (j : Option JobId) (e : Bool) (s : State) :
    latchAt c k i o j e s =
      { s with regs.errFirst := (latchAt c k i o j e s).regs.errFirst,
               regs.errInfo := (latchAt c k i o j e s).regs.errInfo,
               regs.errCount := (latchAt c k i o j e s).regs.errCount,
               regs.irqStatus := (latchAt c k i o j e s).regs.irqStatus,
               regs.msixPending := (latchAt c k i o j e s).regs.msixPending,
               barker.queue := (latchAt c k i o j e s).barker.queue,
               out := (latchAt c k i o j e s).out } := by
  simp only [latchAt, raise, fireIrq, sendVector, emit]
  repeat' split
  all_goals rfl

@[simp] theorem fireIrq_pending (n : Nat) (s : State) : (fireIrq n s).pending = s.pending := by
  rw [fireIrq_frame]
@[simp] theorem fireIrq_power (n : Nat) (s : State) : (fireIrq n s).power = s.power := by
  rw [fireIrq_frame]
@[simp] theorem fireIrq_slots (n : Nat) (s : State) : (fireIrq n s).slots = s.slots := by
  rw [fireIrq_frame]
@[simp] theorem fireIrq_rings (n : Nat) (s : State) : (fireIrq n s).rings = s.rings := by
  rw [fireIrq_frame]
@[simp] theorem fireIrq_requests (n : Nat) (s : State) : (fireIrq n s).requests = s.requests := by
  rw [fireIrq_frame]
@[simp] theorem fireIrq_jobs (n : Nat) (s : State) : (fireIrq n s).jobs = s.jobs := by
  rw [fireIrq_frame]
@[simp] theorem fireIrq_closing (n : Nat) (s : State) : (fireIrq n s).closing = s.closing := by
  rw [fireIrq_frame]
@[simp] theorem fireIrq_barker (n : Nat) (s : State) : (fireIrq n s).barker = s.barker := by
  rw [fireIrq_frame]
@[simp] theorem fireIrq_place (n : Nat) (s : State) : (fireIrq n s).place = s.place := by
  rw [fireIrq_frame]
@[simp] theorem fireIrq_jugs (n : Nat) (s : State) : (fireIrq n s).jugs = s.jugs := by
  rw [fireIrq_frame]
@[simp] theorem fireIrq_bank (n : Nat) (s : State) : (fireIrq n s).bank = s.bank := by
  rw [fireIrq_frame]
@[simp] theorem fireIrq_nv (n : Nat) (s : State) : (fireIrq n s).nv = s.nv := by
  rw [fireIrq_frame]
@[simp] theorem fireIrq_sec (n : Nat) (s : State) : (fireIrq n s).sec = s.sec := by
  rw [fireIrq_frame]
@[simp] theorem fireIrq_faults (n : Nat) (s : State) : (fireIrq n s).faults = s.faults := by
  rw [fireIrq_frame]
@[simp] theorem fireIrq_standby (n : Nat) (s : State) : (fireIrq n s).standby = s.standby := by
  rw [fireIrq_frame]
@[simp] theorem fireIrq_side (n : Nat) (s : State) : (fireIrq n s).side = s.side := by
  rw [fireIrq_frame]
@[simp] theorem fireIrq_ports (n : Nat) (s : State) : (fireIrq n s).ports = s.ports := by
  rw [fireIrq_frame]
@[simp] theorem fireIrq_sbMap (n : Nat) (s : State) : (fireIrq n s).sbMap = s.sbMap := by
  rw [fireIrq_frame]
@[simp] theorem fireIrq_tight (n : Nat) (s : State) : (fireIrq n s).tight = s.tight := by
  rw [fireIrq_frame]
@[simp] theorem fireIrq_bist (n : Nat) (s : State) : (fireIrq n s).bist = s.bist := by
  rw [fireIrq_frame]
@[simp] theorem fireIrq_fw (n : Nat) (s : State) : (fireIrq n s).fw = s.fw := by
  rw [fireIrq_frame]
@[simp] theorem fireIrq_draws (n : Nat) (s : State) : (fireIrq n s).draws = s.draws := by
  rw [fireIrq_frame]
@[simp] theorem fireIrq_slot (k : Nat) (s : State) (n : SlotId) : (fireIrq k s).slot n = s.slot n := by
  simp [State.slot]
@[simp] theorem latchAt_pending (c : W16) (k i : Nat) (o : Option SlotId) (j : Option JobId) (e : Bool) (s : State) : (latchAt c k i o j e s).pending = s.pending := by
  rw [latchAt_frame]
@[simp] theorem latchError_pending (c : W16) (u : UnitRef) (j : Option JobId) (e : Bool) (s : State) :
    (latchError c u j e s).pending = s.pending := by
  rw [latchError, latchAt_pending]
@[simp] theorem latchAt_power (c : W16) (k i : Nat) (o : Option SlotId) (j : Option JobId) (e : Bool) (s : State) : (latchAt c k i o j e s).power = s.power := by
  rw [latchAt_frame]
@[simp] theorem latchError_power (c : W16) (u : UnitRef) (j : Option JobId) (e : Bool) (s : State) :
    (latchError c u j e s).power = s.power := by
  rw [latchError, latchAt_power]
@[simp] theorem latchAt_slots (c : W16) (k i : Nat) (o : Option SlotId) (j : Option JobId) (e : Bool) (s : State) : (latchAt c k i o j e s).slots = s.slots := by
  rw [latchAt_frame]
@[simp] theorem latchError_slots (c : W16) (u : UnitRef) (j : Option JobId) (e : Bool) (s : State) :
    (latchError c u j e s).slots = s.slots := by
  rw [latchError, latchAt_slots]
@[simp] theorem latchAt_rings (c : W16) (k i : Nat) (o : Option SlotId) (j : Option JobId) (e : Bool) (s : State) : (latchAt c k i o j e s).rings = s.rings := by
  rw [latchAt_frame]
@[simp] theorem latchError_rings (c : W16) (u : UnitRef) (j : Option JobId) (e : Bool) (s : State) :
    (latchError c u j e s).rings = s.rings := by
  rw [latchError, latchAt_rings]
@[simp] theorem latchAt_requests (c : W16) (k i : Nat) (o : Option SlotId) (j : Option JobId) (e : Bool) (s : State) : (latchAt c k i o j e s).requests = s.requests := by
  rw [latchAt_frame]
@[simp] theorem latchError_requests (c : W16) (u : UnitRef) (j : Option JobId) (e : Bool) (s : State) :
    (latchError c u j e s).requests = s.requests := by
  rw [latchError, latchAt_requests]
@[simp] theorem latchAt_jobs (c : W16) (k i : Nat) (o : Option SlotId) (j : Option JobId) (e : Bool) (s : State) : (latchAt c k i o j e s).jobs = s.jobs := by
  rw [latchAt_frame]
@[simp] theorem latchError_jobs (c : W16) (u : UnitRef) (j : Option JobId) (e : Bool) (s : State) :
    (latchError c u j e s).jobs = s.jobs := by
  rw [latchError, latchAt_jobs]
@[simp] theorem latchAt_closing (c : W16) (k i : Nat) (o : Option SlotId) (j : Option JobId) (e : Bool) (s : State) : (latchAt c k i o j e s).closing = s.closing := by
  rw [latchAt_frame]
@[simp] theorem latchError_closing (c : W16) (u : UnitRef) (j : Option JobId) (e : Bool) (s : State) :
    (latchError c u j e s).closing = s.closing := by
  rw [latchError, latchAt_closing]
@[simp] theorem latchAt_place (c : W16) (k i : Nat) (o : Option SlotId) (j : Option JobId) (e : Bool) (s : State) : (latchAt c k i o j e s).place = s.place := by
  rw [latchAt_frame]
@[simp] theorem latchError_place (c : W16) (u : UnitRef) (j : Option JobId) (e : Bool) (s : State) :
    (latchError c u j e s).place = s.place := by
  rw [latchError, latchAt_place]
@[simp] theorem latchAt_jugs (c : W16) (k i : Nat) (o : Option SlotId) (j : Option JobId) (e : Bool) (s : State) : (latchAt c k i o j e s).jugs = s.jugs := by
  rw [latchAt_frame]
@[simp] theorem latchError_jugs (c : W16) (u : UnitRef) (j : Option JobId) (e : Bool) (s : State) :
    (latchError c u j e s).jugs = s.jugs := by
  rw [latchError, latchAt_jugs]
@[simp] theorem latchAt_bank (c : W16) (k i : Nat) (o : Option SlotId) (j : Option JobId) (e : Bool) (s : State) : (latchAt c k i o j e s).bank = s.bank := by
  rw [latchAt_frame]
@[simp] theorem latchError_bank (c : W16) (u : UnitRef) (j : Option JobId) (e : Bool) (s : State) :
    (latchError c u j e s).bank = s.bank := by
  rw [latchError, latchAt_bank]
@[simp] theorem latchAt_nv (c : W16) (k i : Nat) (o : Option SlotId) (j : Option JobId) (e : Bool) (s : State) : (latchAt c k i o j e s).nv = s.nv := by
  rw [latchAt_frame]
@[simp] theorem latchError_nv (c : W16) (u : UnitRef) (j : Option JobId) (e : Bool) (s : State) :
    (latchError c u j e s).nv = s.nv := by
  rw [latchError, latchAt_nv]
@[simp] theorem latchAt_sec (c : W16) (k i : Nat) (o : Option SlotId) (j : Option JobId) (e : Bool) (s : State) : (latchAt c k i o j e s).sec = s.sec := by
  rw [latchAt_frame]
@[simp] theorem latchError_sec (c : W16) (u : UnitRef) (j : Option JobId) (e : Bool) (s : State) :
    (latchError c u j e s).sec = s.sec := by
  rw [latchError, latchAt_sec]
@[simp] theorem latchAt_faults (c : W16) (k i : Nat) (o : Option SlotId) (j : Option JobId) (e : Bool) (s : State) : (latchAt c k i o j e s).faults = s.faults := by
  rw [latchAt_frame]
@[simp] theorem latchError_faults (c : W16) (u : UnitRef) (j : Option JobId) (e : Bool) (s : State) :
    (latchError c u j e s).faults = s.faults := by
  rw [latchError, latchAt_faults]
@[simp] theorem latchAt_standby (c : W16) (k i : Nat) (o : Option SlotId) (j : Option JobId) (e : Bool) (s : State) : (latchAt c k i o j e s).standby = s.standby := by
  rw [latchAt_frame]
@[simp] theorem latchError_standby (c : W16) (u : UnitRef) (j : Option JobId) (e : Bool) (s : State) :
    (latchError c u j e s).standby = s.standby := by
  rw [latchError, latchAt_standby]
@[simp] theorem latchAt_side (c : W16) (k i : Nat) (o : Option SlotId) (j : Option JobId) (e : Bool) (s : State) : (latchAt c k i o j e s).side = s.side := by
  rw [latchAt_frame]
@[simp] theorem latchError_side (c : W16) (u : UnitRef) (j : Option JobId) (e : Bool) (s : State) :
    (latchError c u j e s).side = s.side := by
  rw [latchError, latchAt_side]
@[simp] theorem latchAt_ports (c : W16) (k i : Nat) (o : Option SlotId) (j : Option JobId) (e : Bool) (s : State) : (latchAt c k i o j e s).ports = s.ports := by
  rw [latchAt_frame]
@[simp] theorem latchError_ports (c : W16) (u : UnitRef) (j : Option JobId) (e : Bool) (s : State) :
    (latchError c u j e s).ports = s.ports := by
  rw [latchError, latchAt_ports]
@[simp] theorem latchAt_sbMap (c : W16) (k i : Nat) (o : Option SlotId) (j : Option JobId) (e : Bool) (s : State) : (latchAt c k i o j e s).sbMap = s.sbMap := by
  rw [latchAt_frame]
@[simp] theorem latchError_sbMap (c : W16) (u : UnitRef) (j : Option JobId) (e : Bool) (s : State) :
    (latchError c u j e s).sbMap = s.sbMap := by
  rw [latchError, latchAt_sbMap]
@[simp] theorem latchAt_tight (c : W16) (k i : Nat) (o : Option SlotId) (j : Option JobId) (e : Bool) (s : State) : (latchAt c k i o j e s).tight = s.tight := by
  rw [latchAt_frame]
@[simp] theorem latchError_tight (c : W16) (u : UnitRef) (j : Option JobId) (e : Bool) (s : State) :
    (latchError c u j e s).tight = s.tight := by
  rw [latchError, latchAt_tight]
@[simp] theorem latchAt_bist (c : W16) (k i : Nat) (o : Option SlotId) (j : Option JobId) (e : Bool) (s : State) : (latchAt c k i o j e s).bist = s.bist := by
  rw [latchAt_frame]
@[simp] theorem latchError_bist (c : W16) (u : UnitRef) (j : Option JobId) (e : Bool) (s : State) :
    (latchError c u j e s).bist = s.bist := by
  rw [latchError, latchAt_bist]
@[simp] theorem latchAt_fw (c : W16) (k i : Nat) (o : Option SlotId) (j : Option JobId) (e : Bool) (s : State) : (latchAt c k i o j e s).fw = s.fw := by
  rw [latchAt_frame]
@[simp] theorem latchError_fw (c : W16) (u : UnitRef) (j : Option JobId) (e : Bool) (s : State) :
    (latchError c u j e s).fw = s.fw := by
  rw [latchError, latchAt_fw]
@[simp] theorem latchAt_draws (c : W16) (k i : Nat) (o : Option SlotId) (j : Option JobId) (e : Bool) (s : State) : (latchAt c k i o j e s).draws = s.draws := by
  rw [latchAt_frame]
@[simp] theorem latchError_draws (c : W16) (u : UnitRef) (j : Option JobId) (e : Bool) (s : State) :
    (latchError c u j e s).draws = s.draws := by
  rw [latchError, latchAt_draws]
@[simp] theorem latchAt_slot (c : W16) (k i : Nat) (o : Option SlotId) (j : Option JobId) (e : Bool) (s : State) (n : SlotId) : (latchAt c k i o j e s).slot n = s.slot n := by
  simp [State.slot]
@[simp] theorem latchError_slot (c : W16) (u : UnitRef) (j : Option JobId) (e : Bool) (s : State) (n : SlotId) :
    (latchError c u j e s).slot n = s.slot n := by
  simp [State.slot]

/-! ## Guards -/

theorem State.gate_open {s : State} {c : Bool} {f : State → State} (h : c = true) : s.gate c f = .next (f s) := by
  simp [State.gate, h]

theorem State.gate_shut {s : State} {c : Bool} {f : State → State} (h : c = false) : s.gate c f = .next s := by
  simp [State.gate, h]

theorem State.hostWrite_open {s : State} {off : Nat} {f : State → State} (h : s.hostReach) :
    s.hostWrite off f = .next (f s) := by
  simp [State.hostWrite, State.gate, h.1, h.2]

theorem State.hostRead_open {s : State} {off : Nat} {f : State → State} (h : s.hostReach) :
    s.hostRead off f = .next (f s) := by
  simp [State.hostRead, State.gate, h.1, h.2]

end Sys2Proof.Machine
end

