-- ==== Sys2Proof/Laws/Slots.lean ====
section
/-! SUPPORT. Loops over the slots, interrupts, slots taken down and waiting on an admission: what each shared
operation does to the fields a statement reads. -/

set_option linter.unusedSimpArgs false
set_option linter.unusedVariables false
set_option Elab.async false

namespace Sys2Proof.Machine
open Sys2Proof
theorem fe_frame {α β : Type} (p : State → β) (l : List α) (f : α → State → State) (s : State)
    (h : ∀ a s, p (f a s) = p s) : p (forEach l f s) = p s := by
  unfold forEach
  induction l generalizing s with
  | nil => rfl
  | cons a l ih => simp only [List.foldl_cons]; rw [ih, h]
theorem fe_inv {α : Type} (P : State → Prop) (l : List α) (f : α → State → State) (s : State) (h0 : P s)
    (h : ∀ a s, P s → P (f a s)) : P (forEach l f s) := by
  unfold forEach
  induction l generalizing s with
  | nil => exact h0
  | cons a l ih => simp only [List.foldl_cons]; exact ih _ (h _ _ h0)
/-- A loop over a list of distinct elements. -/
theorem fe_all {α : Type} [DecidableEq α] (Q : α → State → Prop) (l : List α) (f : α → State → State) (s : State)
    (h1 : ∀ a s, Q a (f a s)) (h2 : ∀ a b s, Q a s → Q a (f b s)) : ∀ a ∈ l, Q a (forEach l f s) := by
  unfold forEach
  induction l generalizing s with
  | nil => simp
  | cons b l ih =>
    intro a ha
    simp only [List.foldl_cons]
    rcases List.mem_cons.1 ha with rfl | ha
    · clear ih ha
      have : ∀ (l : List α) s, Q a s → Q a (List.foldl (fun s a => f a s) s l) := by
        intro l; induction l with
        | nil => intro s h; exact h
        | cons c l ih => intro s h; exact ih _ (h2 _ _ _ h)
      exact this _ _ (h1 _ _)
    · exact ih _ a ha
theorem fireIrq_enable (n) (s : State) : (fireIrq n s).regs.enable = s.regs.enable := by rw [fireIrq_frame]
theorem fireIrq_cfgCheck (n) (s : State) : (fireIrq n s).regs.cfgCheck = s.regs.cfgCheck := by rw [fireIrq_frame]
theorem fireIrq_checkSlot (n) (s : State) : (fireIrq n s).regs.checkSlot = s.regs.checkSlot := by rw [fireIrq_frame]
theorem bit_or (a : W32) (n : Nat) (h : n < 32) : bit (a ||| BitVec.ofNat 32 (2^n)) n = true := by
  simp only [bit, BitVec.getLsbD_or, BitVec.getLsbD_ofNat]; simp [h]
theorem fireIrq_bit (n) (s : State) (h : n < 32) : bit (fireIrq n s).regs.irqStatus n = true := by
  rw [fireIrq_irqStatus]; exact bit_or _ _ h
theorem writeOverflow_frame (s : State) : writeOverflow s =
   { s with regs.eqTail := (writeOverflow s).regs.eqTail, regs.irqStatus := (writeOverflow s).regs.irqStatus,
            regs.msixPending := (writeOverflow s).regs.msixPending, barker := (writeOverflow s).barker,
            out := (writeOverflow s).out } := by
  simp only [writeOverflow, writeEntry]
  split
  · rw [fireIrq_frame]; rfl
  · rfl
theorem putEntry_frame (e d) (s : State) : putEntry e d s =
   { s with regs.eqTail := (putEntry e d s).regs.eqTail, regs.irqStatus := (putEntry e d s).regs.irqStatus,
            regs.msixPending := (putEntry e d s).regs.msixPending, barker := (putEntry e d s).barker,
            out := (putEntry e d s).out } := by
  simp only [putEntry]
  split
  · rw [writeOverflow_frame]
  · simp only [writeEntry]; rw [fireIrq_frame, writeOverflow_frame]; rfl
theorem startConverter_rest {β} (p : State → β) (hp : ∀ s r, p {s with rings := r} = p s) (r) (s : State) : p (startConverter r s) = p s := by
  simp only [startConverter]; split
  · exact hp _ _
  · rfl
theorem startConverter_slot (r) (s : State) (m) : (startConverter r s).slot m = s.slot m := startConverter_rest (fun s => s.slot m) (fun _ _ => rfl) r s
theorem startConverter_side (r) (s : State)  : (startConverter r s).side = s.side := startConverter_rest (fun s => s.side) (fun _ _ => rfl) r s
theorem startConverter_regs (r) (s : State)  : (startConverter r s).regs = s.regs := startConverter_rest (fun s => s.regs) (fun _ _ => rfl) r s
theorem setPlan_slot (n p) (s : State) (m) : (setPlan n p s).slot m = s.slot m := rfl
theorem endGal_slot (n) (s : State) (m) : (endGalSession n s).slot m = s.slot m := by
  unfold endGalSession; split <;> rfl
theorem endGal_frame (n) (s : State) : endGalSession n s = { s with tight := (endGalSession n s).tight } := by
  unfold endGalSession; split <;> rfl
theorem endRot_frame (n) (s : State) : endRotation n s = { s with slots := (endRotation n s).slots, rings := (endRotation n s).rings } := by
  unfold endRotation; repeat' split
  all_goals rfl
theorem endRot_other (n m) (s : State) (h : m ≠ n) : (endRotation n s).slot m = s.slot m := by
  unfold endRotation; repeat' split
  · rw [State.updSlot_slot_other _ _ _ _ h]; rfl
  all_goals rfl
theorem endRot_phase (n) (s : State) : ((endRotation n s).slot n).phase = (s.slot n).phase := by
  unfold endRotation; repeat' split
  · rw [State.updSlot_slot_self]; rfl
  all_goals rfl
theorem startNormal_frame (n c b) (s : State) : startNormal n c b s = { s with slots := (startNormal n c b s).slots, rings := (startNormal n c b s).rings, tight := (startNormal n c b s).tight } := by
  unfold startNormal
  split
  · rw [endRot_frame, endGal_frame]; rfl
  · rfl
theorem startNormal_other (n m c b) (s : State) (h : m ≠ n) : (startNormal n c b s).slot m = s.slot m := by
  unfold startNormal
  split
  · rw [State.updSlot_slot_other _ _ _ _ h, endRot_other _ _ _ h, endGal_slot]
  · rfl
theorem endRot_keep {β} (p : Slot → β) (hp : ∀ x c, p {x with check := c} = p x) (n) (s : State) : p ((endRotation n s).slot n) = p (s.slot n) := by
  unfold endRotation; repeat' split
  · rw [State.updSlot_slot_self]; exact hp _ _
  all_goals rfl
theorem startNormal_self (n c b) (s : State) (h : (s.slot n).phase.live = true) :
   ((startNormal n c b s).slot n).phase = .deactivating ∧ ((startNormal n c b s).slot n).cause = c ∧ ((startNormal n c b s).slot n).rst = false ∧
   ((startNormal n c b s).slot n).enable = (s.slot n).enable ∧ ((startNormal n c b s).slot n).job = (s.slot n).job := by
  unfold startNormal; rw [if_pos h]; simp only [State.updSlot_slot_self]
  refine ⟨trivial, trivial, trivial, ?_, ?_⟩
  · show ((endRotation n _).slot n).enable = _
    rw [endRot_keep (·.enable) (fun _ _ => rfl), endGal_slot]
  · show ((endRotation n _).slot n).job = _
    rw [endRot_keep (·.job) (fun _ _ => rfl), endGal_slot]
theorem markCut_nojob (n) (s : State) (h : (s.slot n).job = none) : markCut n s = s := by
  simp [markCut, h]
theorem lostJob_nojob (n c) (s : State) (h : (s.slot n).job = none) : lostJob n c s = s := by
  simp [lostJob, State.holder, h]
theorem loseNormal_nojob (n c) (s : State) (h : (s.slot n).job = none) : loseNormal n c s = startNormal n c false s := by
  rw [loseNormal, markCut_nojob _ _ h, lostJob_nojob]
  by_cases h1 : (s.slot n).phase.live = true
  · rw [(startNormal_self n c false s h1).2.2.2.2, h]
  · simp [startNormal, h1, h]
theorem leaveQueue_frame (n) (s : State) : leaveQueue n s = { s with requests := s.requests.filter (fun q => q.slot != n), slots := (leaveQueue n s).slots } := by
  simp only [leaveQueue]; split <;> rfl
theorem leaveQueue_other (n m) (s : State) (h : m ≠ n) : (leaveQueue n s).slot m = s.slot m := by
  simp only [leaveQueue]; split
  · rw [State.updSlot_slot_other _ _ _ _ h]; rfl
  · rfl
theorem leaveQueue_pw (n) (s : State) (h : (s.slot n).phase = .powerWait) : ((leaveQueue n s).slot n) = { s.slot n with phase := .off, cls := none, actWait := false } := by
  have : (leaveQueue n s) = State.updSlot { s with requests := s.requests.filter (fun q => q.slot != n) } n (fun x => { x with phase := .off, cls := none, actWait := false }) := by
    simp only [leaveQueue]; rw [if_pos]; show ((s.slot n).phase == _) = true; rw [h]; rfl
  rw [this, State.updSlot_slot_self]; rfl
end Sys2Proof.Machine
end

