-- ==== Sys2Proof/Laws/Jobs.lean ====
section
/-! SUPPORT. How a ticket of no slot runs and ends: the job leaves, one completion joins, nothing else changes
(R163, R254). -/

set_option linter.unusedSimpArgs false
set_option linter.unusedVariables false
set_option Elab.async false

namespace Sys2Proof.Machine
open Sys2Proof
theorem noteNoise_frame (j) (s : State) : noteNoise j s = { s with barker := (noteNoise j s).barker } := by
  simp only [noteNoise, onlyIf]; split <;> rfl
theorem endJob_free (b id st err) (s : State) (j : Job) (h : s.findJob id = some j) (h1 : j.slot = none) (h2 : j.run = none)
   (h3 : j.jug = none) (h4 : j.counter = none) :
   endJobAfter b id st err s = { s with barker := (noteNoise j s).barker, jobs := s.jobs.filter (fun k => k.ticket.jobId != id), closing := s.closing ++ [closingOf j st err b] } := by
  simp only [endJobAfter, h, settleUnsent, h2, noteIssueEnd, h4, releaseContext, h3, freeSlot, h1, pushClosing, noteLeft,
    Option.isSome_none, Bool.false_eq_true, if_false]
  rw [noteNoise_frame]
theorem find_filter_none (l : List Job) (id : JobId) : (l.filter (fun k => k.ticket.jobId != id)).find? (fun j => j.ticket.jobId == id) = none := by
  rw [List.find?_eq_none]; intro x hx; simp at hx ⊢; exact hx.2
theorem find_updJob (s : State) (id : JobId) (f : Job → Job) (hf : ∀ j, (f j).ticket = j.ticket) (j) (h : s.findJob id = some j) :
   (s.updJob id f).findJob id = some (f j) := by
  simp only [State.findJob, State.updJob, List.find?_map] at *
  have e : ((fun j : Job => j.ticket.jobId == id) ∘ fun j => if (j.ticket.jobId == id) = true then f j else j) = (fun j : Job => j.ticket.jobId == id) := by
    funext x; simp only [Function.comp]; split <;> simp [hf]
  have hj := List.find?_some h
  rw [e, h]; simp at hj; simp [hj]
theorem find_id {s : State} {id j} (h : s.findJob id = some j) : j.ticket.jobId = id := by
  have := List.find?_some h; simpa using this
theorem updJob_filter (s : State) (id) (f : Job → Job) (hf : ∀ j, (f j).ticket = j.ticket) : (s.updJob id f).jobs.filter (fun k => k.ticket.jobId != id) = s.jobs.filter (fun k => k.ticket.jobId != id) := by
  simp only [State.updJob]
  induction s.jobs with
  | nil => rfl
  | cons a l ih =>
    simp only [List.map_cons, List.filter_cons, ih]
    by_cases h : a.ticket.jobId = id <;> simp [h, hf]
/-- ends of a slotless ticket -/
theorem fail_free (id err) (s : State) (j) (h : s.findJob id = some j) (h1 : j.slot = none) (h2 : j.run = none)
   (h3 : j.jug = none) (h4 : j.counter = none) (st) (he : st ≠ .done ∨ err = 0) :
   s.jobEnds (endJob id st err s) j st err j.result ∧ endJob id st err s = { s with jobs := (endJob id st err s).jobs, closing := (endJob id st err s).closing, barker := (endJob id st err s).barker } ∧
    (endJob id st err s).jobs = s.jobs.filter (fun k => k.ticket.jobId != id) := by
  have := endJob_free 0 id st err s j h h1 h2 h3 h4
  have hid := find_id h
  refine ⟨⟨?_, closingOf j st err 0, ?_, ?_, ?_, ?_, ?_⟩, ?_, ?_⟩
  · rw [endJob, this, hid]; exact find_filter_none _ _
  · rw [endJob, this]
  · rfl
  · rfl
  · rcases he with he | he
    · simp [closingOf, he]
    · simp [closingOf, he]
  · rfl
  · rw [endJob, this]
  · rw [endJob, this]
theorem done_free (id r) (s : State) (j) (h : s.findJob id = some j) (h1 : j.slot = none) (h2 : j.run = none)
   (h3 : j.jug = none) (h4 : j.counter = none) (st err) (he : st ≠ .done ∨ err = 0) :
   s.jobEnds (finish id st err r s) j st err r ∧ finish id st err r s = { s with jobs := (finish id st err r s).jobs, closing := (finish id st err r s).closing, barker := (finish id st err r s).barker } ∧
    (finish id st err r s).jobs = s.jobs.filter (fun k => k.ticket.jobId != id) := by
  have hf := find_updJob s id (fun j => { j with result := r }) (fun _ => rfl) j h
  have := fail_free id err (s.updJob id (fun j => { j with result := r })) { j with result := r } hf h1 h2 h3 h4 st he
  refine ⟨?_, ?_, ?_⟩
  · exact this.1
  · have h2 := this.2.1; rw [finish]; rw [h2]; rfl
  · rw [finish, this.2.2, updJob_filter]; intro; rfl
theorem runnable_open {s : State} {id type op j f} (h : s.runnable id type op j) : runTicket id type op f s = .next (f j s) := by
  simp only [runTicket, h.1, State.gate_open h.2.1]
theorem runnable_find {s : State} {id type op j} (h : s.runnable id type op j) : s.findJob id = some j := by
  have := h.1; simp only [State.ticketOf, Option.filter_eq_some_iff] at this; exact this.1
theorem runnable_fail {s : State} {id type op j} (h : s.runnable id type op j) (err) : s.jobEnds (endJob id .failed err s) j .failed err j.result ∧ endJob id .failed err s = { s with jobs := (endJob id .failed err s).jobs, closing := (endJob id .failed err s).closing, barker := (endJob id .failed err s).barker } :=
  let ⟨a, b, _⟩ := fail_free id err s j (runnable_find h) h.2.2.1 h.2.2.2.1 h.2.2.2.2.1 h.2.2.2.2.2 .failed (Or.inl (by decide))
  ⟨a, b⟩
/-- a ticket that finishes on a state with the same jobs -/
theorem runnable_finish {s : State} {id type op j} (h : s.runnable id type op j) (s' : State) (hj : s'.jobs = s.jobs) (hc : s'.closing = s.closing) (r st err) (he : st ≠ .done ∨ err = 0) :
   s.jobEnds (finish id st err r s') j st err r ∧ finish id st err r s' = { s' with jobs := (finish id st err r s').jobs, closing := (finish id st err r s').closing, barker := (finish id st err r s').barker } := by
  have hf : s'.findJob id = some j := by have := runnable_find h; simpa [State.findJob, hj] using this
  have := done_free id r s' j hf h.2.2.1 h.2.2.2.1 h.2.2.2.2.1 h.2.2.2.2.2 st err he
  refine ⟨?_, this.2.1⟩
  have h2 := this.1
  simp only [State.jobEnds, hc] at h2 ⊢; exact h2
theorem jobid_of {s : State} {id type op j} (h : s.runnable id type op j) : j.ticket.jobId = id := find_id (runnable_find h)
theorem runnable_op {s : State} {id type op j} (h : s.runnable id type op j) : j.ticket.type.toNat = type ∧ j.ticket.op.toNat = op := by
  have := h.1; simp only [State.ticketOf, Option.filter_eq_some_iff] at this; have := this.2; simp at this; exact this.1
end Sys2Proof.Machine
end

