-- ==== Sys2Proof/Laws/Kept.lean ====
section
/-! SUPPORT. What the machine's operations keep: the command queue, EPOCH and the option area stand across every
operation of Machine/ that does not change one of them. One lemma per operation; a proof over exec cites them in
place of the operations' text. -/

set_option linter.unusedSimpArgs false
set_option linter.unusedVariables false
set_option linter.unusedTactic false
set_option linter.unreachableTactic false
set_option Elab.async false

namespace Sys2Proof.Machine

open Sys2Proof

/-- The parts of a state that few operations change. -/
structure Kept where
  /-- the commands that wait -/
  pending : List Instr
  /-- EPOCH (R361) -/
  epoch : W16
  /-- the option area (R398, R402) -/
  nv : OptionArea

/-- Those parts of a state. -/
def State.kept (s : State) : Kept := ⟨s.pending, s.regs.epoch, s.nv⟩

theorem kept_ite (c : Prop) [Decidable c] (a b : State) : (if c then a else b).kept = if c then a.kept else b.kept := by
  split <;> rfl

@[simp] theorem State.updSlot_kept (s : State) (n : SlotId) (f : Slot → Slot) : (s.updSlot n f).kept = s.kept := rfl
@[simp] theorem State.updRing_kept (s : State) (n : RingId) (f : Ring → Ring) : (s.updRing n f).kept = s.kept := rfl
@[simp] theorem forEach_kept {α : Type} (l : List α) (f : α → State → State) (s : State) (h : ∀ a s, (f a s).kept = s.kept) :
    (forEach l f s).kept = s.kept := by
  unfold forEach
  induction l generalizing s with
  | nil => rfl
  | cons a l ih => simp only [List.foldl_cons]; rw [ih, h]

theorem mk_kept (pending power regs slots rings requests jobs closing barker place jugs bank nv sec faults standby side ports sbMap tight bist fw draws out) :
  State.kept ⟨pending, power, regs, slots, rings, requests, jobs, closing, barker, place, jugs, bank, nv, sec, faults, standby, side, ports, sbMap, tight, bist, fw, draws, out⟩ = ⟨pending, regs.epoch, nv⟩ := rfl
theorem pend_kept (s : State) : s.pending = s.kept.pending := rfl
theorem ep_kept (s : State) : s.regs.epoch = s.kept.epoch := rfl
theorem nv_kept (s : State) : s.nv = s.kept.nv := rfl

@[simp] theorem fireIrq_kept (n : Nat) (s : State) : (fireIrq n s).kept = s.kept := by
  simp only [fireIrq, sendVector, emit]
  repeat' split
  all_goals rfl
@[simp] theorem raise_kept (c o a) (s : State) : (raise c o a s).kept = s.kept := rfl
@[simp] theorem latchAt_kept (code kind index slot job esc) (s : State) : (latchAt code kind index slot job esc s).kept = s.kept := by
  simp only [latchAt]
  repeat' split
  all_goals first | rfl | simp only [raise_kept, fireIrq_kept, ↓mk_kept, pend_kept, ep_kept, nv_kept]
@[simp] theorem onlyIf_kept (c : Bool) (f : State → State) (s : State) (h : ∀ s, (f s).kept = s.kept) :
    (onlyIf c f s).kept = s.kept := by
  unfold onlyIf; split
  · exact h s
  · rfl

/-! Ops -/

@[simp] theorem State.updJob_kept (s : State) (id : JobId) (f : Job → Job) :
    (State.updJob s id f).kept = s.kept := rfl
@[simp] theorem emit_kept (e : Emission) (s : State) :
    (emit e s).kept = s.kept := rfl
@[simp] theorem sendVector_kept (n : Nat) (s : State) :
    (sendVector n s).kept = s.kept := by
  simp only [sendVector]; repeat' split
  all_goals simp [↓mk_kept, pend_kept, ep_kept, nv_kept, kept_ite, *]
@[simp] theorem State.drew_kept (s : State) (n : Nat) :
    (State.drew s n).kept = s.kept := rfl
@[simp] theorem latchError_kept (code : W16) (u : UnitRef) (job : Option JobId) (esc : Bool) (s : State) :
    (latchError code u job esc s).kept = s.kept := by simp [latchError]
@[simp] theorem logStandby_kept (code : W16) (kind index : Nat) (reason : Byte) (s : State) :
    (logStandby code kind index reason s).kept = s.kept := by
  simp only [logStandby]; repeat' split
  all_goals simp [↓mk_kept, pend_kept, ep_kept, nv_kept, kept_ite, *]
@[simp] theorem recordViolation_kept (master access region : Nat) (addr : W64) (slot : Option SlotId) (s : State) :
    (recordViolation master access region addr slot s).kept = s.kept := by
  simp only [recordViolation]; repeat' split
  all_goals simp [↓mk_kept, pend_kept, ep_kept, nv_kept, kept_ite, *]
@[simp] theorem refuseHostWrite_kept (off : Nat) (s : State) :
    (refuseHostWrite off s).kept = s.kept := by simp [refuseHostWrite]
@[simp] theorem askBarrier_kept (c : RuleCause) (s : State) :
    (askBarrier c s).kept = s.kept := rfl
@[simp] theorem setUnit_kept (u : UnitRef) (p : UnitPhase) (code : W16) (s : State) :
    (setUnit u p code s).kept = s.kept := rfl
@[simp] theorem leaveQueue_kept (n : SlotId) (s : State) :
    (leaveQueue n s).kept = s.kept := by
  simp only [leaveQueue]; repeat' split
  all_goals simp [↓mk_kept, pend_kept, ep_kept, nv_kept, kept_ite, *]
@[simp] theorem recomputeBounds_kept (s : State) :
    (recomputeBounds s).kept = s.kept := rfl
@[simp] theorem joinQueue_kept (n : SlotId) (k : CardClass) (s : State) :
    (joinQueue n k s).kept = s.kept := by
  simp only [joinQueue]; repeat' split
  all_goals simp [↓mk_kept, pend_kept, ep_kept, nv_kept, kept_ite, *]
@[simp] theorem requestActivation_kept (n : SlotId) (s : State) :
    (requestActivation n s).kept = s.kept := by
  simp only [requestActivation]; repeat' split
  all_goals simp [↓mk_kept, pend_kept, ep_kept, nv_kept, kept_ite, *]
@[simp] theorem setPlan_kept (n : SlotId) (p : SlotPlan) (s : State) :
    (setPlan n p s).kept = s.kept := rfl
@[simp] theorem endGalSession_kept (n : SlotId) (s : State) :
    (endGalSession n s).kept = s.kept := by
  unfold endGalSession; split <;> simp
@[simp] theorem endRotation_kept (n : SlotId) (s : State) :
    (endRotation n s).kept = s.kept := by
  simp only [endRotation]; repeat' split
  all_goals simp [↓mk_kept, pend_kept, ep_kept, nv_kept, kept_ite, *]
@[simp] theorem startNormal_kept (n : SlotId) (c : Cause) (forBist : Bool) (s : State) :
    (startNormal n c forBist s).kept = s.kept := by
  unfold startNormal; split <;> simp
@[simp] theorem startEmergency_kept (n : SlotId) (c : Cause) (s : State) :
    (startEmergency n c s).kept = s.kept := by
  simp only [startEmergency]; repeat' split
  all_goals simp [↓mk_kept, pend_kept, ep_kept, nv_kept, kept_ite, *]
@[simp] theorem settle_kept (jseq : W64) (r : JResult) (sw : W16) (how : Nat) (slot : Option SlotId) (s : State) :
    (settle jseq r sw how slot s).kept = s.kept := rfl
@[simp] theorem settleUnsent_kept (j : Job) (s : State) :
    (settleUnsent j s).kept = s.kept := by
  simp only [settleUnsent]
  repeat' (first
    | with_reducible rfl
    | (simp [↓mk_kept, pend_kept, ep_kept, nv_kept, kept_ite, *]; done)
    | (intro _)
    | (refine (onlyIf_kept _ _ _ ?_).trans ?_)
    | (refine (forEach_kept _ _ _ ?_).trans ?_)
    | (simp [↓mk_kept, pend_kept, ep_kept, nv_kept, kept_ite])
    | split)
@[simp] theorem audit_kept (atype outcome : Byte) (ctrIdx : Nat) (job : W32) (counter digest : W64) (s : State) :
    (audit atype outcome ctrIdx job counter digest s).kept = s.kept := by
  simp only [audit]
  repeat' (first
    | with_reducible rfl
    | (simp [↓mk_kept, pend_kept, ep_kept, nv_kept, kept_ite, *]; done)
    | (intro _)
    | (refine (onlyIf_kept _ _ _ ?_).trans ?_)
    | (refine (forEach_kept _ _ _ ?_).trans ?_)
    | (simp [↓mk_kept, pend_kept, ep_kept, nv_kept, kept_ite])
    | split)
@[simp] theorem issueResult_kept (i : IssueEnd) (s : State) :
    (issueResult i s).kept = s.kept := by
  simp only [issueResult]; repeat' split
  all_goals simp [↓mk_kept, pend_kept, ep_kept, nv_kept, kept_ite, *]
@[simp] theorem issueResults_kept (s : State) :
    (issueResults s).kept = s.kept := by simp [issueResults]
@[simp] theorem stationCommand_kept (n : SlotId) (eject : Bool) (bin : Byte) (job : JobId) (s : State) :
    (stationCommand n eject bin job s).kept = s.kept := by
  simp only [stationCommand]; repeat' split
  all_goals simp [↓mk_kept, pend_kept, ep_kept, nv_kept, kept_ite, *]
@[simp] theorem releaseContext_kept (j : Job) (s : State) :
    (releaseContext j s).kept = s.kept := by
  simp only [releaseContext]; repeat' split
  all_goals simp [↓mk_kept, pend_kept, ep_kept, nv_kept, kept_ite, *]
@[simp] theorem pushClosing_kept (c : Closing) (s : State) :
    (pushClosing c s).kept = s.kept := rfl
@[simp] theorem slotFreed_kept (n : SlotId) (s : State) :
    (slotFreed n s).kept = s.kept := by
  simp only [slotFreed]; repeat' split
  all_goals simp [↓mk_kept, pend_kept, ep_kept, nv_kept, kept_ite, *]
@[simp] theorem freeSlot_kept (j : Job) (st : CStatus) (s : State) :
    (freeSlot j st s).kept = s.kept := by
  simp only [freeSlot]; repeat' split
  all_goals simp [↓mk_kept, pend_kept, ep_kept, nv_kept, kept_ite, *]
@[simp] theorem noteIssueEnd_kept (j : Job) (st : CStatus) (s : State) :
    (noteIssueEnd j st s).kept = s.kept := by
  simp only [noteIssueEnd]; repeat' split
  all_goals simp [↓mk_kept, pend_kept, ep_kept, nv_kept, kept_ite, *]
@[simp] theorem noteNoise_kept (j : Job) (s : State) :
    (noteNoise j s).kept = s.kept := by
  simp only [noteNoise]
  repeat' (first
    | with_reducible rfl
    | (simp [↓mk_kept, pend_kept, ep_kept, nv_kept, kept_ite, *]; done)
    | (intro _)
    | (refine (onlyIf_kept _ _ _ ?_).trans ?_)
    | (refine (forEach_kept _ _ _ ?_).trans ?_)
    | (simp [↓mk_kept, pend_kept, ep_kept, nv_kept, kept_ite])
    | split)
@[simp] theorem noteJournal_kept (s : State) :
    (noteJournal s).kept = s.kept := by
  simp only [noteJournal]; repeat' split
  all_goals simp [↓mk_kept, pend_kept, ep_kept, nv_kept, kept_ite, *]
@[simp] theorem noteLeft_kept (j : Job) (s : State) :
    (noteLeft j s).kept = s.kept := by
  unfold noteLeft; split <;> simp
@[simp] theorem endJobAfter_kept (barriers : Nat) (id : JobId) (st : CStatus) (err : W16) (s : State) :
    (endJobAfter barriers id st err s).kept = s.kept := by
  simp only [endJobAfter]; repeat' split
  all_goals simp [↓mk_kept, pend_kept, ep_kept, nv_kept, kept_ite, *]
@[simp] theorem endJob_kept (id : JobId) (st : CStatus) (err : W16) (s : State) :
    (endJob id st err s).kept = s.kept := by simp [endJob]
@[simp] theorem replaceJob_kept (id : JobId) (s : State) :
    (replaceJob id s).kept = s.kept := by
  simp only [replaceJob]; repeat' split
  all_goals simp [↓mk_kept, pend_kept, ep_kept, nv_kept, kept_ite, *]
@[simp] theorem markCut_kept (n : SlotId) (s : State) :
    (markCut n s).kept = s.kept := by
  simp only [markCut]; repeat' split
  all_goals simp [↓mk_kept, pend_kept, ep_kept, nv_kept, kept_ite, *]
@[simp] theorem lostJob_kept (n : SlotId) (c : Cause) (s : State) :
    (lostJob n c s).kept = s.kept := by
  simp only [lostJob]; repeat' split
  all_goals simp [↓mk_kept, pend_kept, ep_kept, nv_kept, kept_ite, *]
@[simp] theorem loseNormal_kept (n : SlotId) (c : Cause) (s : State) :
    (loseNormal n c s).kept = s.kept := by simp [loseNormal]
@[simp] theorem loseEmergency_kept (n : SlotId) (c : Cause) (s : State) :
    (loseEmergency n c s).kept = s.kept := by simp [loseEmergency]
@[simp] theorem emergencyAll_kept (c : Cause) (s : State) :
    (emergencyAll c s).kept = s.kept := by
  simp only [emergencyAll]; repeat' split
  all_goals simp [↓mk_kept, pend_kept, ep_kept, nv_kept, kept_ite, *]
@[simp] theorem enterFenced_kept (n : SlotId) (src : FenceSrc) (code : W16) (s : State) :
    (enterFenced n src code s).kept = s.kept := rfl
@[simp] theorem markFence_kept (n : SlotId) (src : FenceSrc) (code : W16) (s : State) :
    (markFence n src code s).kept = s.kept := rfl
@[simp] theorem fenceSlotBy_kept (down : SlotId → State → State) (n : SlotId) (src : FenceSrc) (code : W16) (s : State) (h_down : ∀ a0 s, (down a0 s).kept = s.kept) :
    (fenceSlotBy down n src code s).kept = s.kept := by
  simp only [fenceSlotBy]; repeat' split
  all_goals simp [↓mk_kept, pend_kept, ep_kept, nv_kept, kept_ite, *]
@[simp] theorem fenceSlot_kept (n : SlotId) (src : FenceSrc) (code : W16) (s : State) :
    (fenceSlot n src code s).kept = s.kept := by simp [fenceSlot]
@[simp] theorem losePairJobs_kept (p : PairId) (s : State) :
    (losePairJobs p s).kept = s.kept := by
  simp only [losePairJobs]
  repeat' (first
    | with_reducible rfl
    | (simp [↓mk_kept, pend_kept, ep_kept, nv_kept, kept_ite, *]; done)
    | (intro _)
    | (refine (onlyIf_kept _ _ _ ?_).trans ?_)
    | (refine (forEach_kept _ _ _ ?_).trans ?_)
    | (simp [↓mk_kept, pend_kept, ep_kept, nv_kept, kept_ite])
    | split)
@[simp] theorem handOver_kept (s : State) :
    (handOver s).kept = s.kept := by
  simp only [handOver]; repeat' split
  all_goals simp [↓mk_kept, pend_kept, ep_kept, nv_kept, kept_ite, *]
@[simp] theorem loseJuggler_kept (g : JugId) (s : State) :
    (loseJuggler g s).kept = s.kept := by
  simp only [loseJuggler]
  repeat' (first
    | with_reducible rfl
    | (simp [↓mk_kept, pend_kept, ep_kept, nv_kept, kept_ite, *]; done)
    | (intro _)
    | (refine (onlyIf_kept _ _ _ ?_).trans ?_)
    | (refine (forEach_kept _ _ _ ?_).trans ?_)
    | (simp [↓mk_kept, pend_kept, ep_kept, nv_kept, kept_ite])
    | split)
@[simp] theorem fenceRing_kept (stopNow : Bool) (down : SlotId → State → State) (r : RingId) (code : W16) (s : State) (h_down : ∀ a0 s, (down a0 s).kept = s.kept) :
    (fenceRing stopNow down r code s).kept = s.kept := by
  simp only [fenceRing]; repeat' split
  all_goals simp [↓mk_kept, pend_kept, ep_kept, nv_kept, kept_ite, *]
@[simp] theorem noteFence_kept (u : UnitRef) (code : W16) (s : State) :
    (noteFence u code s).kept = s.kept := rfl
@[simp] theorem fenceUnit_kept (u : UnitRef) (code : W16) (s : State) :
    (fenceUnit u code s).kept = s.kept := by
  simp only [fenceUnit]; repeat' split
  all_goals simp [↓mk_kept, pend_kept, ep_kept, nv_kept, kept_ite, *]
@[simp] theorem slotOffDone_kept (n : SlotId) (s : State) :
    (slotOffDone n s).kept = s.kept := by
  simp only [slotOffDone]; repeat' split
  all_goals simp [↓mk_kept, pend_kept, ep_kept, nv_kept, kept_ite, *]
@[simp] theorem monFailEvent_kept (code : W16) (slot : Option SlotId) (c : CompId) (step : Nat) (ring : Nat) (s : State) :
    (monFailEvent code slot c step ring s).kept = s.kept := rfl
@[simp] theorem decideAbsent_kept (n : SlotId) (s : State) :
    (decideAbsent n s).kept = s.kept := by
  simp only [decideAbsent]
  repeat' (first
    | with_reducible rfl
    | (simp [↓mk_kept, pend_kept, ep_kept, nv_kept, kept_ite, *]; done)
    | (intro _)
    | (refine (onlyIf_kept _ _ _ ?_).trans ?_)
    | (refine (forEach_kept _ _ _ ?_).trans ?_)
    | (simp [↓mk_kept, pend_kept, ep_kept, nv_kept, kept_ite])
    | split)
@[simp] theorem failSlotComp_kept (n : SlotId) (c : CompId) (step : Nat) (s : State) :
    (failSlotComp n c step s).kept = s.kept := by
  simp only [failSlotComp]; repeat' split
  all_goals simp [↓mk_kept, pend_kept, ep_kept, nv_kept, kept_ite, *]
@[simp] theorem startConverter_kept (r : RingId) (s : State) :
    (startConverter r s).kept = s.kept := by
  simp only [startConverter]; repeat' split
  all_goals simp [↓mk_kept, pend_kept, ep_kept, nv_kept, kept_ite, *]
@[simp] theorem finish_kept (id : JobId) (st : CStatus) (err : W16) (result : List Byte) (s : State) :
    (finish id st err result s).kept = s.kept := by simp [finish]
@[simp] theorem failJob_kept (id : JobId) (err : W16) (s : State) :
    (failJob id err s).kept = s.kept := by simp [failJob]
@[simp] theorem finishAfterBarrier_kept (id : JobId) (st : CStatus) (err : W16) (s : State) :
    (finishAfterBarrier id st err s).kept = s.kept := by simp [finishAfterBarrier]

/-! Reset -/

@[simp] theorem latchedPresence_kept (e : SlotId × CompId × Nat) (s : State) :
    (latchedPresence e s).kept = s.kept := by simp [latchedPresence]
@[simp] theorem reportSupply_kept (b : Board) (s : State) :
    (reportSupply b s).kept = s.kept := by
  unfold reportSupply; split <;> simp
@[simp] theorem priorReset_kept (s : State) :
    (priorReset s).kept = s.kept := by
  unfold priorReset; split <;> simp
@[simp] theorem captureBist_kept (s : State) : (captureBist s).kept = s.kept := rfl
@[simp] theorem restoreCoreBist_kept (s : State) :
    (restoreCoreBist s).kept = s.kept := by
  simp only [restoreCoreBist]; repeat' split
  all_goals simp [↓mk_kept, pend_kept, ep_kept, nv_kept, kept_ite, *]
@[simp] theorem logSource_kept (src : ResetSource) (s : State) :
    (logSource src s).kept = s.kept := by
  unfold logSource; split <;> simp
@[simp] theorem restoreCounter_kept (i : Fin 256) (h : W32) (top : W64) (s : State) :
    (restoreCounter i h top s).kept = s.kept := by
  simp only [restoreCounter]; repeat' split
  all_goals simp [↓mk_kept, pend_kept, ep_kept, nv_kept, kept_ite, *]
@[simp] theorem reserveAll_kept (s : State) :
    (reserveAll s).kept = s.kept := rfl
@[simp] theorem scanJournal_kept (s : State) :
    (scanJournal s).kept = s.kept := by simp [scanJournal, ↓mk_kept, pend_kept, ep_kept, nv_kept]

/-! Booth -/

@[simp] theorem writeCompletion_kept (s : State) :
    (writeCompletion s).kept = s.kept := by
  simp only [writeCompletion]; repeat' split
  all_goals simp [↓mk_kept, pend_kept, ep_kept, nv_kept, kept_ite, *]
@[simp] theorem writeEntry_kept (e : Event) (dropped : Nat) (s : State) :
    (writeEntry e dropped s).kept = s.kept := by
  simp only [writeEntry]; repeat' split
  all_goals simp [↓mk_kept, pend_kept, ep_kept, nv_kept, kept_ite, *]
@[simp] theorem writeOverflow_kept (s : State) :
    (writeOverflow s).kept = s.kept := by
  simp only [writeOverflow]; repeat' split
  all_goals simp [↓mk_kept, pend_kept, ep_kept, nv_kept, kept_ite, *]
@[simp] theorem putEntry_kept (e : Event) (dropped : Nat) (s : State) :
    (putEntry e dropped s).kept = s.kept := by
  simp only [putEntry]; repeat' split
  all_goals simp [↓mk_kept, pend_kept, ep_kept, nv_kept, kept_ite, *]
@[simp] theorem writeEvent_kept (s : State) :
    (writeEvent s).kept = s.kept := by
  simp only [writeEvent]; repeat' split
  all_goals simp [↓mk_kept, pend_kept, ep_kept, nv_kept, kept_ite, *]
@[simp] theorem flushHeld_kept (s : State) :
    (flushHeld s).kept = s.kept := by
  simp only [flushHeld]; repeat' split
  all_goals simp [↓mk_kept, pend_kept, ep_kept, nv_kept, kept_ite, *]
@[simp] theorem flushRings_kept (s : State) :
    (flushRings s).kept = s.kept := by simp [flushRings]

/-! HostLink -/

@[simp] theorem sendPending_kept (s : State) :
    (sendPending s).kept = s.kept := by
  simp only [sendPending]; repeat' split
  all_goals simp [↓mk_kept, pend_kept, ep_kept, nv_kept, kept_ite, *]
@[simp] theorem dropWrite_kept (s : State) :
    (dropWrite s).kept = s.kept := rfl
@[simp] theorem askCancel_kept (id : JobId) (err : W16) (s : State) :
    (askCancel id err s).kept = s.kept := rfl
@[simp] theorem cancelNow_kept (id : JobId) (s : State) :
    (cancelNow id s).kept = s.kept := by
  simp only [cancelNow]; repeat' split
  all_goals simp [↓mk_kept, pend_kept, ep_kept, nv_kept, kept_ite, *]
@[simp] theorem stopUnused_kept (r : RingId) (s : State) :
    (stopUnused r s).kept = s.kept := by
  unfold stopUnused; split <;> simp
@[simp] theorem stopAllConverters_kept (s : State) :
    (stopAllConverters s).kept = s.kept := rfl
@[simp] theorem windDownStep6_kept (s : State) :
    (windDownStep6 s).kept = s.kept := by
  unfold windDownStep6; split <;> simp
@[simp] theorem beginWindDown_kept (s : State) :
    (beginWindDown s).kept = s.kept := by
  simp only [beginWindDown]; repeat' split
  all_goals simp [↓mk_kept, pend_kept, ep_kept, nv_kept, kept_ite, *]
@[simp] theorem enableSlot_kept (n : SlotId) (s : State) :
    (enableSlot n s).kept = s.kept := by simp [enableSlot]
@[simp] theorem endSlotCheckOf_kept (n : SlotId) (failed : Option (CompId × Nat)) (s : State) :
    (endSlotCheckOf n failed s).kept = s.kept := by
  simp only [endSlotCheckOf]; repeat' split
  all_goals simp [↓mk_kept, pend_kept, ep_kept, nv_kept, kept_ite, *]
@[simp] theorem disableSlot_kept (n : SlotId) (s : State) :
    (disableSlot n s).kept = s.kept := by
  simp only [disableSlot]; repeat' split
  all_goals simp [↓mk_kept, pend_kept, ep_kept, nv_kept, kept_ite, *]
@[simp] theorem clearSlot_kept (n : SlotId) (s : State) :
    (clearSlot n s).kept = s.kept := by
  simp only [clearSlot]; repeat' split
  all_goals simp [↓mk_kept, pend_kept, ep_kept, nv_kept, kept_ite, *]

/-! Fatal -/

@[simp] theorem fatalDown_kept (s : State) :
    (fatalDown s).kept = s.kept := by simp [fatalDown]

/-! Checks -/

@[simp] theorem stopIfDown_kept (r : RingId) (s : State) :
    (stopIfDown r s).kept = s.kept := by
  unfold stopIfDown; split <;> simp
@[simp] theorem failRingComp_kept (r : RingId) (c : CompId) (step : Nat) (s : State) :
    (failRingComp r c step s).kept = s.kept := by simp [failRingComp]

/-! Bist -/

@[simp] theorem endNotRun_kept (s : State) :
    (endNotRun s).kept = s.kept := by
  simp only [endNotRun]; repeat' split
  all_goals simp [↓mk_kept, pend_kept, ep_kept, nv_kept, kept_ite, *]
@[simp] theorem drainRing_kept (r : RingId) (s : State) :
    (drainRing r s).kept = s.kept := by
  simp only [drainRing]; repeat' split
  all_goals simp [↓mk_kept, pend_kept, ep_kept, nv_kept, kept_ite, *]
@[simp] theorem startBist_kept (memory source : Bool) (scope : BitVec 4) (s : State) :
    (startBist memory source scope s).kept = s.kept := by
  simp only [startBist]; repeat' split
  all_goals simp [↓mk_kept, pend_kept, ep_kept, nv_kept, kept_ite, *]
@[simp] theorem hostBist_kept (memory : Bool) (scope : BitVec 4) (s : State) :
    (hostBist memory scope s).kept = s.kept := by
  unfold hostBist; split <;> simp
@[simp] theorem writeResult_kept (b : BistRun) (sig : W64) (s : State) :
    (writeResult b sig s).kept = s.kept := by
  simp only [writeResult]; repeat' split
  all_goals simp [↓mk_kept, pend_kept, ep_kept, nv_kept, kept_ite, *]
@[simp] theorem returnSlots_kept (b : BistRun) (r : RingId) (s : State) :
    (returnSlots b r s).kept = s.kept := by
  simp only [returnSlots]; repeat' split
  all_goals simp [↓mk_kept, pend_kept, ep_kept, nv_kept, kept_ite, *]
@[simp] theorem failRingRun_kept (r : RingId) (s : State) :
    (failRingRun r s).kept = s.kept := by
  simp only [failRingRun]; repeat' split
  all_goals simp [↓mk_kept, pend_kept, ep_kept, nv_kept, kept_ite, *]

/-! Firmware -/

@[simp] theorem endFw_kept (op : Nat) (result : Nat) (s : State) :
    (endFw op result s).kept = s.kept := by
  simp only [endFw]; repeat' split
  all_goals simp [↓mk_kept, pend_kept, ep_kept, nv_kept, kept_ite, *]
@[simp] theorem takeFw_kept (op : Nat) (s : State) :
    (takeFw op s).kept = s.kept := rfl
@[simp] theorem endErase_kept (result : Nat) (s : State) :
    (endErase result s).kept = s.kept := by
  simp only [endErase]; repeat' split
  all_goals simp [↓mk_kept, pend_kept, ep_kept, nv_kept, kept_ite, *]

/-! Registers -/

@[simp] theorem writeBase_kept (f : State → State) (s : State) (h_f : ∀  s, (f  s).kept = s.kept) :
    (writeBase f s).kept = s.kept := by
  simp only [writeBase]; repeat' split
  all_goals simp [↓mk_kept, pend_kept, ep_kept, nv_kept, kept_ite, *]

/-! Tickets -/

@[simp] theorem takeTicket_kept (t : Ticket) (s : State) :
    (takeTicket t s).kept = s.kept := by
  simp only [takeTicket]; repeat' split
  all_goals simp [↓mk_kept, pend_kept, ep_kept, nv_kept, kept_ite, *]
@[simp] theorem doneWith_kept (id : JobId) (result : List Byte) (s : State) :
    (doneWith id result s).kept = s.kept := by simp [doneWith]
@[simp] theorem doneWithEntries_kept (j : Job) (header : List Byte) (size : Nat) (l : List (List Byte)) (s : State) :
    (doneWithEntries j header size l s).kept = s.kept := by simp [doneWithEntries]
@[simp] theorem takeUp_kept (id : JobId) (param : List Byte) (s : State) :
    (takeUp id param s).kept = s.kept := rfl
@[simp] theorem startJob_kept (id : JobId) (s : State) :
    (startJob id s).kept = s.kept := rfl
@[simp] theorem adminActivate_kept (j : Job) (n : SlotId) (s : State) :
    (adminActivate j n s).kept = s.kept := by
  unfold adminActivate; split <;> simp
@[simp] theorem adminDeactivate_kept (j : Job) (n : SlotId) (s : State) :
    (adminDeactivate j n s).kept = s.kept := by
  simp only [adminDeactivate]; repeat' split
  all_goals simp [↓mk_kept, pend_kept, ep_kept, nv_kept, kept_ite, *]
@[simp] theorem adminInventory_kept (param : List Byte) (j : Job) (n : SlotId) (s : State) :
    (adminInventory param j n s).kept = s.kept := by
  simp only [adminInventory]; repeat' split
  all_goals simp [↓mk_kept, pend_kept, ep_kept, nv_kept, kept_ite, *]

/-! BankOps -/

@[simp] theorem noParam_kept (f : Job → State → State) (j : Job) (s : State) (h_f : ∀ a0 s, (f a0 s).kept = s.kept) :
    (noParam f j s).kept = s.kept := by
  simp only [noParam]; repeat' split
  all_goals simp [↓mk_kept, pend_kept, ep_kept, nv_kept, kept_ite, *]
@[simp] theorem paramOf_kept (len : Nat) (f : Job → State → State) (j : Job) (s : State) (h_f : ∀ a0 s, (f a0 s).kept = s.kept) :
    (paramOf len f j s).kept = s.kept := by
  simp only [paramOf]; repeat' split
  all_goals simp [↓mk_kept, pend_kept, ep_kept, nv_kept, kept_ite, *]
@[simp] theorem storeRecord_kept (id : W64) (d : List Byte) (s : State) :
    (storeRecord id d s).kept = s.kept := rfl
@[simp] theorem profileDelete_kept (j : Job) (s : State) :
    (profileDelete j s).kept = s.kept := by
  simp only [profileDelete]; repeat' split
  all_goals simp [↓mk_kept, pend_kept, ep_kept, nv_kept, kept_ite, *]
@[simp] theorem journalList_kept (param : List Byte) (j : Job) (s : State) :
    (journalList param j s).kept = s.kept := by
  unfold journalList; split <;> simp
@[simp] theorem journalClose_kept (param : List Byte) (j : Job) (s : State) :
    (journalClose param j s).kept = s.kept := by
  simp only [journalClose]; repeat' split
  all_goals simp [↓mk_kept, pend_kept, ep_kept, nv_kept, kept_ite, *]
@[simp] theorem auditRead_kept (param : List Byte) (j : Job) (s : State) :
    (auditRead param j s).kept = s.kept := by simp [auditRead]
@[simp] theorem auditTrim_kept (param : List Byte) (j : Job) (s : State) :
    (auditTrim param j s).kept = s.kept := by
  simp only [auditTrim]; repeat' split
  all_goals simp [↓mk_kept, pend_kept, ep_kept, nv_kept, kept_ite, *]

/-! KeyOps -/

@[simp] theorem renewCeremonyNonce_kept (s : State) :
    (renewCeremonyNonce s).kept = s.kept := by
  simp only [renewCeremonyNonce]; repeat' split
  all_goals simp [↓mk_kept, pend_kept, ep_kept, nv_kept, kept_ite, *]
@[simp] theorem needBank_kept (f : Job → State → State) (j : Job) (s : State) (h_f : ∀ a0 s, (f a0 s).kept = s.kept) :
    (needBank f j s).kept = s.kept := by
  simp only [needBank]; repeat' split
  all_goals simp [↓mk_kept, pend_kept, ep_kept, nv_kept, kept_ite, *]
@[simp] theorem closeCeremony_kept (s : State) :
    (closeCeremony s).kept = s.kept := by
  simp only [closeCeremony]; repeat' split
  all_goals simp [↓mk_kept, pend_kept, ep_kept, nv_kept, kept_ite, *]
@[simp] theorem ceremonyOpen_kept (j : Job) (s : State) :
    (ceremonyOpen j s).kept = s.kept := by
  simp only [ceremonyOpen]; repeat' split
  all_goals simp [↓mk_kept, pend_kept, ep_kept, nv_kept, kept_ite, *]
@[simp] theorem ceremonyClose_kept (j : Job) (s : State) :
    (ceremonyClose j s).kept = s.kept := by
  simp only [ceremonyClose]; repeat' split
  all_goals simp [↓mk_kept, pend_kept, ep_kept, nv_kept, kept_ite, *]
@[simp] theorem keyImport_kept (param : List Byte) (j : Job) (s : State) :
    (keyImport param j s).kept = s.kept := by
  simp only [keyImport]; repeat' split
  all_goals simp [↓mk_kept, pend_kept, ep_kept, nv_kept, kept_ite, *]
@[simp] theorem dropCached_kept (h : W32) (s : State) :
    (dropCached h s).kept = s.kept := rfl
@[simp] theorem keyDelete_kept (j : Job) (s : State) :
    (keyDelete j s).kept = s.kept := by
  simp only [keyDelete]; repeat' split
  all_goals simp [↓mk_kept, pend_kept, ep_kept, nv_kept, kept_ite, *]
@[simp] theorem keyList_kept (j : Job) (s : State) :
    (keyList j s).kept = s.kept := by simp [keyList]
@[simp] theorem lcChange_kept (param : List Byte) (j : Job) (s : State) :
    (lcChange param j s).kept = s.kept := by
  simp only [lcChange]; repeat' split
  all_goals simp [↓mk_kept, pend_kept, ep_kept, nv_kept, kept_ite, *]
@[simp] theorem attestId_kept (j : Job) (s : State) :
    (attestId j s).kept = s.kept := by simp [attestId]

/-! ToolOps -/

@[simp] theorem cancelPlaced_kept (k : Job) (s : State) :
    (cancelPlaced k s).kept = s.kept := by
  simp only [cancelPlaced]; repeat' split
  all_goals simp [↓mk_kept, pend_kept, ep_kept, nv_kept, kept_ite, *]
@[simp] theorem cancelTarget_kept (j : Job) (s : State) :
    (cancelTarget j s).kept = s.kept := by
  simp only [cancelTarget]; repeat' split
  all_goals simp [↓mk_kept, pend_kept, ep_kept, nv_kept, kept_ite, *]
@[simp] theorem sbusConfig_kept (param : List Byte) (j : Job) (s : State) :
    (sbusConfig param j s).kept = s.kept := by
  simp only [sbusConfig]; repeat' split
  all_goals simp [↓mk_kept, pend_kept, ep_kept, nv_kept, kept_ite, *]
@[simp] theorem sbusStatus_kept (j : Job) (s : State) :
    (sbusStatus j s).kept = s.kept := by simp [sbusStatus]
@[simp] theorem restoreSlot_kept (n : SlotId) (s : State) :
    (restoreSlot n s).kept = s.kept := rfl
@[simp] theorem restoreUnit_kept (u : UnitRef) (s : State) :
    (restoreUnit u s).kept = s.kept := by
  simp only [restoreUnit]; repeat' split
  all_goals simp [↓mk_kept, pend_kept, ep_kept, nv_kept, kept_ite, *]
@[simp] theorem unitClear_kept (failed : Option W16) (j : Job) (s : State) :
    (unitClear failed j s).kept = s.kept := by
  simp only [unitClear]; repeat' split
  all_goals simp [↓mk_kept, pend_kept, ep_kept, nv_kept, kept_ite, *]
@[simp] theorem bistReport_kept (j : Job) (s : State) :
    (bistReport j s).kept = s.kept := by simp [bistReport]

/-! Link -/

@[simp] theorem sendChars_kept (n : SlotId) (bs : List Byte) (s : State) :
    (sendChars n bs s).kept = s.kept := rfl
@[simp] theorem updExch_kept (n : SlotId) (f : Exch → Exch) (s : State) :
    (updExch n f s).kept = s.kept := rfl
@[simp] theorem updT1_kept (n : SlotId) (f : T1 → T1) (s : State) :
    (updT1 n f s).kept = s.kept := rfl
@[simp] theorem endExch_kept (n : SlotId) (st : ExchStatus) (sw : W16) (resp : List Byte) (s : State) :
    (endExch n st sw resp s).kept = s.kept := by
  simp only [endExch]; repeat' split
  all_goals simp [↓mk_kept, pend_kept, ep_kept, nv_kept, kept_ite, *]
@[simp] theorem endResponse_kept (n : SlotId) (data : List Byte) (sw : W16) (s : State) :
    (endResponse n data sw s).kept = s.kept := by
  simp only [endResponse]; repeat' split
  all_goals simp [↓mk_kept, pend_kept, ep_kept, nv_kept, kept_ite, *]
@[simp] theorem sendIBlock_kept (n : SlotId) (s : State) :
    (sendIBlock n s).kept = s.kept := by
  simp only [sendIBlock]; repeat' split
  all_goals simp [↓mk_kept, pend_kept, ep_kept, nv_kept, kept_ite, *]
@[simp] theorem sendBlock_kept (n : SlotId) (pcb : Byte) (inf : List Byte) (s : State) :
    (sendBlock n pcb inf s).kept = s.kept := rfl
@[simp] theorem sendRequest_kept (n : SlotId) (pcb : Byte) (inf : List Byte) (f : T1 → T1) (s : State) :
    (sendRequest n pcb inf f s).kept = s.kept := rfl
@[simp] theorem resendLast_kept (n : SlotId) (s : State) :
    (resendLast n s).kept = s.kept := rfl
@[simp] theorem sendResynch_kept (n : SlotId) (s : State) :
    (sendResynch n s).kept = s.kept := rfl
@[simp] theorem t1Escalate_kept (n : SlotId) (s : State) :
    (t1Escalate n s).kept = s.kept := by
  simp only [t1Escalate]; repeat' split
  all_goals simp [↓mk_kept, pend_kept, ep_kept, nv_kept, kept_ite, *]
@[simp] theorem t1Fail_kept (n : SlotId) (err : Nat) (invalid : Bool) (s : State) :
    (t1Fail n err invalid s).kept = s.kept := by
  simp only [t1Fail]; repeat' split
  all_goals simp [↓mk_kept, pend_kept, ep_kept, nv_kept, kept_ite, *]
@[simp] theorem startExch_kept (n : SlotId) (kind : ExchKind) (job : JobId) (gen : W16) (step : Nat) (apdu : List Byte) (respMax : Nat) (s : State) :
    (startExch n kind job gen step apdu respMax s).kept = s.kept := by
  simp only [startExch]; repeat' split
  all_goals simp [↓mk_kept, pend_kept, ep_kept, nv_kept, kept_ite, *]
@[simp] theorem startIfs_kept (n : SlotId) (s : State) :
    (startIfs n s).kept = s.kept := rfl
@[simp] theorem endSession_kept (n : SlotId) (s : State) :
    (endSession n s).kept = s.kept := by
  simp only [endSession]; repeat' split
  all_goals simp [↓mk_kept, pend_kept, ep_kept, nv_kept, kept_ite, *]
@[simp] theorem startWarm_kept (n : SlotId) (s : State) :
    (startWarm n s).kept = s.kept := by simp [startWarm]
@[simp] theorem tryWarm_kept (n : SlotId) (s : State) :
    (tryWarm n s).kept = s.kept := by
  simp only [tryWarm]; repeat' split
  all_goals simp [↓mk_kept, pend_kept, ep_kept, nv_kept, kept_ite, *]
@[simp] theorem markGalFailed_kept (n : SlotId) (s : State) :
    (markGalFailed n s).kept = s.kept := rfl
@[simp] theorem updGal_kept (n : SlotId) (f : Gal → Gal) (s : State) :
    (updGal n f s).kept = s.kept := rfl
@[simp] theorem sendToken_kept (n : SlotId) (op : BitVec 6) (csn : W16) (len : Nat) (aux : W16) (want : GalExpect) (s : State) :
    (sendToken n op csn len aux want s).kept = s.kept := rfl
@[simp] theorem sendCmd_kept (n : SlotId) (w : WCmd) (s : State) :
    (sendCmd n w s).kept = s.kept := rfl
@[simp] theorem sendFetch_kept (n : SlotId) (w : WCmd) (s : State) :
    (sendFetch n w s).kept = s.kept := rfl
@[simp] theorem sendLts_kept (n : SlotId) (s : State) :
    (sendLts n s).kept = s.kept := rfl
@[simp] theorem galPhase_kept (n : SlotId) (s : State) :
    (galPhase n s).kept = s.kept := rfl
@[simp] theorem pushEnded_kept (n : SlotId) (l : List Ended) (s : State) :
    (pushEnded n l s).kept = s.kept := rfl
@[simp] theorem settleFrom_kept (n : SlotId) (r : LtsRec) (how : Nat) (l : List Intent) (s : State) :
    (settleFrom n r how l s).kept = s.kept := by
  simp only [settleFrom]
  repeat' (first
    | with_reducible rfl
    | (simp [↓mk_kept, pend_kept, ep_kept, nv_kept, kept_ite, *]; done)
    | (intro _)
    | (refine (onlyIf_kept _ _ _ ?_).trans ?_)
    | (refine (forEach_kept _ _ _ ?_).trans ?_)
    | (simp [↓mk_kept, pend_kept, ep_kept, nv_kept, kept_ite])
    | split)
@[simp] theorem beginGiveUp_kept (n : SlotId) (why : GiveUp) (s : State) :
    (beginGiveUp n why s).kept = s.kept := rfl
@[simp] theorem abandon_kept (n : SlotId) (base : ExchStatus) (mark : Bool) (rec : Option LtsRec) (s : State) :
    (abandon n base mark rec s).kept = s.kept := by
  simp only [abandon]
  repeat' (first
    | with_reducible rfl
    | (simp [↓mk_kept, pend_kept, ep_kept, nv_kept, kept_ite, *]; done)
    | (intro _)
    | (refine (onlyIf_kept _ _ _ ?_).trans ?_)
    | (refine (forEach_kept _ _ _ ?_).trans ?_)
    | (simp [↓mk_kept, pend_kept, ep_kept, nv_kept, kept_ite])
    | split)
@[simp] theorem concludeGiveUp_kept (n : SlotId) (rec : Option LtsRec) (s : State) :
    (concludeGiveUp n rec s).kept = s.kept := by
  simp only [concludeGiveUp]; repeat' split
  all_goals simp [↓mk_kept, pend_kept, ep_kept, nv_kept, kept_ite, *]
@[simp] theorem pump_kept (n : SlotId) (s : State) :
    (pump n s).kept = s.kept := by
  simp only [pump]; repeat' split
  all_goals simp [↓mk_kept, pend_kept, ep_kept, nv_kept, kept_ite, *]
@[simp] theorem linkError_kept (n : SlotId) (lines : List Nat) (s : State) :
    (linkError n lines s).kept = s.kept := by
  simp only [linkError]; repeat' split
  all_goals simp [↓mk_kept, pend_kept, ep_kept, nv_kept, kept_ite, *]
@[simp] theorem afterLinkError_kept (n : SlotId) (lines : List Nat) (s : State) :
    (afterLinkError n lines s).kept = s.kept := by simp [afterLinkError]

/-! Engine -/

@[simp] theorem writeIntent_kept (id : JobId) (n : SlotId) (k : Nat) (st : Step) (first : Bool) (csn : W16) (s : State) :
    (writeIntent id n k st first csn s).kept = s.kept := by
  simp only [writeIntent]; repeat' split
  all_goals simp [↓mk_kept, pend_kept, ep_kept, nv_kept, kept_ite, *]
@[simp] theorem updRun_kept (id : JobId) (f : Run → Run) (s : State) :
    (updRun id f s).kept = s.kept := rfl
@[simp] theorem holdError_kept (id : JobId) (k : Nat) (err : W16) (s : State) :
    (holdError id k err s).kept = s.kept := rfl
@[simp] theorem settleIdle_kept (id : JobId) (s : State) :
    (settleIdle id s).kept = s.kept := by
  simp only [settleIdle]; repeat' split
  all_goals simp [↓mk_kept, pend_kept, ep_kept, nv_kept, kept_ite, *]
@[simp] theorem queueStaged_kept (id : JobId) (l : List Staged) (follow : Run → Run) (s : State) :
    (queueStaged id l follow s).kept = s.kept := rfl
@[simp] theorem settleCard_kept (n : SlotId) (l : List Intent) (s : State) :
    (settleCard n l s).kept = s.kept := by
  simp only [settleCard]; repeat' split
  all_goals simp [↓mk_kept, pend_kept, ep_kept, nv_kept, kept_ite, *]
@[simp] theorem admitCard_kept (id : JobId) (n : SlotId) (ok : State → State) (s : State) (h_ok : ∀  s, (ok  s).kept = s.kept) :
    (admitCard id n ok s).kept = s.kept := by
  simp only [admitCard]; repeat' split
  all_goals simp [↓mk_kept, pend_kept, ep_kept, nv_kept, kept_ite, *]
@[simp] theorem dropStaged_kept (id : JobId) (n : SlotId) (l : List Staged) (s : State) :
    (dropStaged id n l s).kept = s.kept := by
  simp only [dropStaged]
  repeat' (first
    | with_reducible rfl
    | (simp [↓mk_kept, pend_kept, ep_kept, nv_kept, kept_ite, *]; done)
    | (intro _)
    | (refine (onlyIf_kept _ _ _ ?_).trans ?_)
    | (refine (forEach_kept _ _ _ ?_).trans ?_)
    | (simp [↓mk_kept, pend_kept, ep_kept, nv_kept, kept_ite])
    | split)
@[simp] theorem goTarget_kept (id : JobId) (st : Step) (t : Nat) (s : State) :
    (goTarget id st t s).kept = s.kept := by
  simp only [goTarget]; repeat' split
  all_goals simp [↓mk_kept, pend_kept, ep_kept, nv_kept, kept_ite, *]
@[simp] theorem takeResult_kept (id : JobId) (d : List Byte) (s : State) :
    (takeResult id d s).kept = s.kept := rfl
@[simp] theorem takeKeep_kept (id : JobId) (d : List Byte) (s : State) :
    (takeKeep id d s).kept = s.kept := rfl
@[simp] theorem takeData_kept (id : JobId) (st : Step) (d : List Byte) (s : State) :
    (takeData id st d s).kept = s.kept := by
  simp only [takeData]
  repeat' (first
    | with_reducible rfl
    | (simp [↓mk_kept, pend_kept, ep_kept, nv_kept, kept_ite, *]; done)
    | (intro _)
    | (refine (onlyIf_kept _ _ _ ?_).trans ?_)
    | (refine (forEach_kept _ _ _ ?_).trans ?_)
    | (simp [↓mk_kept, pend_kept, ep_kept, nv_kept, kept_ite])
    | split)
@[simp] theorem takeIdentity_kept (id : JobId) (n : SlotId) (d : List Byte) (s : State) :
    (takeIdentity id n d s).kept = s.kept := by simp [takeIdentity]
@[simp] theorem matchStep_kept (id : JobId) (n : SlotId) (t : Staged) (st : Step) (sw rsw : W16) (data : List Byte) (s : State) :
    (matchStep id n t st sw rsw data s).kept = s.kept := by
  simp only [matchStep]
  repeat' (first
    | with_reducible rfl
    | (simp [↓mk_kept, pend_kept, ep_kept, nv_kept, kept_ite, *]; done)
    | (intro _)
    | (refine (onlyIf_kept _ _ _ ?_).trans ?_)
    | (refine (forEach_kept _ _ _ ?_).trans ?_)
    | (simp [↓mk_kept, pend_kept, ep_kept, nv_kept, kept_ite])
    | split)

/-! SlotElec -/

@[simp] theorem grant_kept (q : Request) (s : State) :
    (grant q s).kept = s.kept := rfl
@[simp] theorem failAttempt_kept (n : SlotId) (c : Cause) (s : State) :
    (failAttempt n c s).kept = s.kept := by simp [failAttempt]
@[simp] theorem classStep_kept (n : SlotId) (k : CardClass) (s : State) :
    (classStep n k s).kept = s.kept := by simp [classStep]
@[simp] theorem stepOrFail_kept (n : SlotId) (c : Cause) (s : State) :
    (stepOrFail n c s).kept = s.kept := by
  simp only [stepOrFail]; repeat' split
  all_goals simp [↓mk_kept, pend_kept, ep_kept, nv_kept, kept_ite, *]
@[simp] theorem setDeact_kept (n : SlotId) (f : Deact → Deact) (s : State) :
    (setDeact n f s).kept = s.kept := rfl
@[simp] theorem linesLow_kept (n : SlotId) (s : State) :
    (linesLow n s).kept = s.kept := rfl
@[simp] theorem judgeContact_kept (n : SlotId) (s : State) :
    (judgeContact n s).kept = s.kept := by
  simp only [judgeContact]
  repeat' (first
    | with_reducible rfl
    | (simp [↓mk_kept, pend_kept, ep_kept, nv_kept, kept_ite, *]; done)
    | (intro _)
    | (refine (onlyIf_kept _ _ _ ?_).trans ?_)
    | (refine (forEach_kept _ _ _ ?_).trans ?_)
    | (simp [↓mk_kept, pend_kept, ep_kept, nv_kept, kept_ite])
    | split)
@[simp] theorem ldoOff_kept (n : SlotId) (s : State) :
    (ldoOff n s).kept = s.kept := rfl
@[simp] theorem railFell_kept (r : RingId) (before : CardClass) (s : State) :
    (railFell r before s).kept = s.kept := by
  simp only [railFell]; repeat' split
  all_goals simp [↓mk_kept, pend_kept, ep_kept, nv_kept, kept_ite, *]
@[simp] theorem ejectAtEnd_kept (n : SlotId) (s : State) :
    (ejectAtEnd n s).kept = s.kept := by
  simp only [ejectAtEnd]; repeat' split
  all_goals simp [↓mk_kept, pend_kept, ep_kept, nv_kept, kept_ite, *]
@[simp] theorem loseIfExcluded_kept (n : SlotId) (s : State) :
    (loseIfExcluded n s).kept = s.kept := by
  simp only [loseIfExcluded]; repeat' split
  all_goals simp [↓mk_kept, pend_kept, ep_kept, nv_kept, kept_ite, *]
@[simp] theorem enterUnstable_kept (n : SlotId) (s : State) :
    (enterUnstable n s).kept = s.kept := rfl
@[simp] theorem enterQuarantined_kept (n : SlotId) (s : State) :
    (enterQuarantined n s).kept = s.kept := rfl
@[simp] theorem settleSlot_kept (n : SlotId) (s : State) :
    (settleSlot n s).kept = s.kept := by
  simp only [settleSlot]; repeat' split
  all_goals simp [↓mk_kept, pend_kept, ep_kept, nv_kept, kept_ite, *]
@[simp] theorem adminDown_kept (n : SlotId) (s : State) :
    (adminDown n s).kept = s.kept := by
  simp only [adminDown]; repeat' split
  all_goals simp [↓mk_kept, pend_kept, ep_kept, nv_kept, kept_ite, *]
@[simp] theorem wantActivation_kept (n : SlotId) (s : State) :
    (wantActivation n s).kept = s.kept := by
  simp only [wantActivation]; repeat' split
  all_goals simp [↓mk_kept, pend_kept, ep_kept, nv_kept, kept_ite, *]
@[simp] theorem sideLost_kept (s : State) :
    (sideLost s).kept = s.kept := rfl

/-! Presence -/

@[simp] theorem learnFeed_kept (n : SlotId) (s : State) :
    (learnFeed n s).kept = s.kept := by
  simp only [learnFeed]; repeat' split
  all_goals simp [↓mk_kept, pend_kept, ep_kept, nv_kept, kept_ite, *]

/-! CharLayer -/

@[simp] theorem adminReady_kept (n : SlotId) (s : State) :
    (adminReady n s).kept = s.kept := by
  simp only [adminReady]; repeat' split
  all_goals simp [↓mk_kept, pend_kept, ep_kept, nv_kept, kept_ite, *]
@[simp] theorem failPps_kept (n : SlotId) (s : State) :
    (failPps n s).kept = s.kept := by simp [failPps]
@[simp] theorem noteOverruns_kept (n : SlotId) (k : Nat) (s : State) :
    (noteOverruns n k s).kept = s.kept := rfl
@[simp] theorem t1Repeat_kept (n : SlotId) (s : State) :
    (t1Repeat n s).kept = s.kept := by
  simp only [t1Repeat]; repeat' split
  all_goals simp [↓mk_kept, pend_kept, ep_kept, nv_kept, kept_ite, *]
@[simp] theorem sendAbort_kept (n : SlotId) (s : State) :
    (sendAbort n s).kept = s.kept := rfl
@[simp] theorem t1Complete_kept (n : SlotId) (resp : List Byte) (s : State) :
    (t1Complete n resp s).kept = s.kept := by
  simp only [t1Complete]; repeat' split
  all_goals simp [↓mk_kept, pend_kept, ep_kept, nv_kept, kept_ite, *]
@[simp] theorem takeIBlock_kept (n : SlotId) (pcb : Byte) (inf : List Byte) (s : State) :
    (takeIBlock n pcb inf s).kept = s.kept := by
  simp only [takeIBlock]; repeat' split
  all_goals simp [↓mk_kept, pend_kept, ep_kept, nv_kept, kept_ite, *]
@[simp] theorem takeRBlock_kept (n : SlotId) (nr : Bool) (s : State) :
    (takeRBlock n nr s).kept = s.kept := by
  simp only [takeRBlock]; repeat' split
  all_goals simp [↓mk_kept, pend_kept, ep_kept, nv_kept, kept_ite, *]
@[simp] theorem takeSBlock_kept (n : SlotId) (valid : Bool) (f : State → State) (s : State) (h_f : ∀  s, (f  s).kept = s.kept) :
    (takeSBlock n valid f s).kept = s.kept := by
  simp only [takeSBlock]; repeat' split
  all_goals simp [↓mk_kept, pend_kept, ep_kept, nv_kept, kept_ite, *]
@[simp] theorem t0Error_kept (n : SlotId) (at_ : Nat) (again : State → State) (s : State) (h_again : ∀  s, (again  s).kept = s.kept) :
    (t0Error n at_ again s).kept = s.kept := by
  simp only [t0Error]; repeat' split
  all_goals simp [↓mk_kept, pend_kept, ep_kept, nv_kept, kept_ite, *]
@[simp] theorem t0Proceed_kept (n : SlotId) (e : Exch) (one : Bool) (s : State) :
    (t0Proceed n e one s).kept = s.kept := by
  simp only [t0Proceed]; repeat' split
  all_goals simp [↓mk_kept, pend_kept, ep_kept, nv_kept, kept_ite, *]
@[simp] theorem t0Again_kept (n : SlotId) (a : List Byte) (s : State) :
    (t0Again n a s).kept = s.kept := rfl
@[simp] theorem takeProcedure_kept (n : SlotId) (e : Exch) (b b2 : Byte) (s : State) :
    (takeProcedure n e b b2 s).kept = s.kept := by
  simp only [takeProcedure]; repeat' split
  all_goals simp [↓mk_kept, pend_kept, ep_kept, nv_kept, kept_ite, *]
@[simp] theorem adminWarm_kept (j : Job) (n : SlotId) (s : State) :
    (adminWarm j n s).kept = s.kept := by
  simp only [adminWarm]; repeat' split
  all_goals simp [↓mk_kept, pend_kept, ep_kept, nv_kept, kept_ite, *]

/-! Exchange -/

@[simp] theorem noteStale_kept (job : JobId) (s : State) :
    (noteStale job s).kept = s.kept := rfl
@[simp] theorem takeCsn_kept (n : SlotId) (s : State) : (takeCsn n s).2.kept = s.kept := by
  simp only [takeCsn]; split <;> simp
@[simp] theorem takeCancelled_kept (id : JobId) (n : SlotId) (t : Staged) (how : Nat) (s : State) :
    (takeCancelled id n t how s).kept = s.kept := by
  simp only [takeCancelled]; repeat' split
  all_goals simp [↓mk_kept, pend_kept, ep_kept, nv_kept, kept_ite, *]
@[simp] theorem takeFailed_kept (id : JobId) (n : SlotId) (t : Staged) (e : Ended) (s : State) :
    (takeFailed id n t e s).kept = s.kept := by
  simp only [takeFailed]; repeat' split
  all_goals simp [↓mk_kept, pend_kept, ep_kept, nv_kept, kept_ite, *]
@[simp] theorem reportResolution_kept (n : SlotId) (e : Ended) (s : State) :
    (reportResolution n e s).kept = s.kept := by
  simp only [reportResolution]; repeat' split
  all_goals simp [↓mk_kept, pend_kept, ep_kept, nv_kept, kept_ite, *]
@[simp] theorem addNoise_kept (n : SlotId) (job : JobId) (noise chars : Nat) (s : State) :
    (addNoise n job noise chars s).kept = s.kept := rfl
@[simp] theorem resumeJob_kept (id : JobId) (n : SlotId) (s : State) :
    (resumeJob id n s).kept = s.kept := by simp [resumeJob]
@[simp] theorem settleResolving_kept (j : Job) (n : SlotId) (s : State) :
    (settleResolving j n s).kept = s.kept := by
  simp only [settleResolving]; repeat' split
  all_goals simp [↓mk_kept, pend_kept, ep_kept, nv_kept, kept_ite, *]

/-! Profile -/

@[simp] theorem startSwitch_kept (n : SlotId) (s : State) :
    (startSwitch n s).kept = s.kept := by simp [startSwitch]
@[simp] theorem beginRun_kept (id : JobId) (n : SlotId) (r : Run) (s : State) :
    (beginRun id n r s).kept = s.kept := by
  simp only [beginRun]; repeat' split
  all_goals simp [↓mk_kept, pend_kept, ep_kept, nv_kept, kept_ite, *]
@[simp] theorem firstByte_kept (j : Job) (k : Nat) (go : State → State) (s : State) (h_go : ∀  s, (go  s).kept = s.kept) :
    (firstByte j k go s).kept = s.kept := by
  simp only [firstByte]; repeat' split
  all_goals simp [↓mk_kept, pend_kept, ep_kept, nv_kept, kept_ite, *]
@[simp] theorem markSent_kept (id : JobId) (t : Staged) (s : State) :
    (markSent id t s).kept = s.kept := rfl
@[simp] theorem sendGal_kept (id : JobId) (n : SlotId) (gen : W16) (r : Run) (t : Staged) (s : State) :
    (sendGal id n gen r t s).kept = s.kept := by
  simp only [sendGal]; repeat' split
  all_goals simp [↓mk_kept, pend_kept, ep_kept, nv_kept, kept_ite, *]
@[simp] theorem sendStaged_kept (j : Job) (n : SlotId) (r : Run) (t : Staged) (s : State) :
    (sendStaged j n r t s).kept = s.kept := by
  simp only [sendStaged]; repeat' split
  all_goals simp [↓mk_kept, pend_kept, ep_kept, nv_kept, kept_ite, *]
@[simp] theorem releaseSwitch_kept (n : SlotId) (s : State) :
    (releaseSwitch n s).kept = s.kept := by
  simp only [releaseSwitch]; repeat' split
  all_goals simp [↓mk_kept, pend_kept, ep_kept, nv_kept, kept_ite, *]
@[simp] theorem stageExtAuth_kept (id : JobId) (t : Staged) (st : Step) (g : Config.GpIn) (s : State) :
    (stageExtAuth id t st g s).kept = s.kept := rfl
@[simp] theorem scRefused_kept (id : JobId) (n : SlotId) (t : Staged) (st : Step) (s : State) :
    (scRefused id n t st s).kept = s.kept := by simp [scRefused]
@[simp] theorem takeInitUpdate_kept (id : JobId) (n : SlotId) (r : Run) (t : Staged) (st : Step) (resp : List Byte) (sw : W16) (s : State) :
    (takeInitUpdate id n r t st resp sw s).kept = s.kept := by
  simp only [takeInitUpdate]; repeat' split
  all_goals simp [↓mk_kept, pend_kept, ep_kept, nv_kept, kept_ite, *]
@[simp] theorem updBlock_kept (t : TargetId) (i : Nat) (f : Block → Block) (s : State) :
    (updBlock t i f s).kept = s.kept := rfl
@[simp] theorem updTarget_kept (t : TargetId) (f : Target → Target) (s : State) :
    (updTarget t f s).kept = s.kept := rfl
@[simp] theorem growBad_kept (t : TargetId) (i : Nat) (s : State) :
    (growBad t i s).kept = s.kept := by
  simp only [growBad]
  repeat' (first
    | with_reducible rfl
    | (simp [↓mk_kept, pend_kept, ep_kept, nv_kept, kept_ite, *]; done)
    | (intro _)
    | (refine (onlyIf_kept _ _ _ ?_).trans ?_)
    | (refine (forEach_kept _ _ _ ?_).trans ?_)
    | (simp [↓mk_kept, pend_kept, ep_kept, nv_kept, kept_ite])
    | split)
@[simp] theorem noteRead_kept (rd : PrefetchRead) (s : State) :
    (noteRead rd s).kept = s.kept := rfl
@[simp] theorem takeRecord_kept (j : Job) (n : SlotId) (rd : PrefetchRead) (s : State) :
    (takeRecord j n rd s).kept = s.kept := by
  simp only [takeRecord]; repeat' split
  all_goals simp [↓mk_kept, pend_kept, ep_kept, nv_kept, kept_ite, *]

/-! Galloper -/

@[simp] theorem updCmd_kept (n : SlotId) (csn : W16) (f : WCmd → WCmd) (s : State) :
    (updCmd n csn f s).kept = s.kept := rfl
@[simp] theorem noteBusy_kept (n : SlotId) (s : State) :
    (noteBusy n s).kept = s.kept := rfl
@[simp] theorem takeRcv_kept (n : SlotId) (csn sw : W16) (s : State) :
    (takeRcv n csn sw s).kept = s.kept := by
  simp only [takeRcv]; repeat' split
  all_goals simp [↓mk_kept, pend_kept, ep_kept, nv_kept, kept_ite, *]
@[simp] theorem fetched_kept (n : SlotId) (csn sw : W16) (data : List Byte) (s : State) :
    (fetched n csn sw data s).kept = s.kept := by
  simp only [fetched]; repeat' split
  all_goals simp [↓mk_kept, pend_kept, ep_kept, nv_kept, kept_ite, *]
@[simp] theorem endUnfetched_kept (n : SlotId) (csn : W16) (st : ExchStatus) (how : Nat) (s : State) :
    (endUnfetched n csn st how s).kept = s.kept := by
  simp only [endUnfetched]; repeat' split
  all_goals simp [↓mk_kept, pend_kept, ep_kept, nv_kept, kept_ite, *]
@[simp] theorem takeRsp_kept (n : SlotId) (csn : W16) (t : Tok) (s : State) :
    (takeRsp n csn t s).kept = s.kept := by
  simp only [takeRsp]; repeat' split
  all_goals simp [↓mk_kept, pend_kept, ep_kept, nv_kept, kept_ite, *]
@[simp] theorem actOnRecord_kept (n : SlotId) (r : LtsRec) (csn : W16) (s : State) :
    (actOnRecord n r csn s).kept = s.kept := by
  simp only [actOnRecord]; repeat' split
  all_goals simp [↓mk_kept, pend_kept, ep_kept, nv_kept, kept_ite, *]
@[simp] theorem takeLts_kept (n : SlotId) (g : Gal) (b : List Byte) (s : State) :
    (takeLts n g b s).kept = s.kept := by
  simp only [takeLts]; repeat' split
  all_goals simp [↓mk_kept, pend_kept, ep_kept, nv_kept, kept_ite, *]
@[simp] theorem busyDown_kept (n : SlotId) (s : State) :
    (busyDown n s).kept = s.kept := by simp [busyDown]
@[simp] theorem settleOld_kept (n : SlotId) (r : LtsRec) (s : State) :
    (settleOld n r s).kept = s.kept := by
  simp only [settleOld]; repeat' split
  all_goals simp [↓mk_kept, pend_kept, ep_kept, nv_kept, kept_ite, *]
@[simp] theorem sendTrain_kept (n : SlotId) (s : State) :
    (sendTrain n s).kept = s.kept := rfl

/-! Placement -/

@[simp] theorem takeContext_kept (id : JobId) (g : JugId) (p : Profile) (s : State) :
    (takeContext id g p s).kept = s.kept := rfl
@[simp] theorem placeJob_kept (id : JobId) (n : SlotId) (s : State) :
    (placeJob id n s).kept = s.kept := by
  simp only [placeJob]; repeat' split
  all_goals simp [↓mk_kept, pend_kept, ep_kept, nv_kept, kept_ite, *]
@[simp] theorem considerJob_kept (id : JobId) (s : State) :
    (considerJob id s).kept = s.kept := by
  simp only [considerJob]; repeat' split
  all_goals simp [↓mk_kept, pend_kept, ep_kept, nv_kept, kept_ite, *]
@[simp] theorem grantWindows_kept (s : State) :
    (grantWindows s).kept = s.kept := by
  simp only [grantWindows]; repeat' split
  all_goals simp [↓mk_kept, pend_kept, ep_kept, nv_kept, kept_ite, *]

/-! Monitors -/

@[simp] theorem startSlotCheck_kept (n : SlotId) (c : CompId) (s : State) :
    (startSlotCheck n c s).kept = s.kept := rfl
@[simp] theorem startRingCheck_kept (r : RingId) (l : List CompId) (s : State) :
    (startRingCheck r l s).kept = s.kept := rfl
@[simp] theorem resumeRequest_kept (n : SlotId) (s : State) :
    (resumeRequest n s).kept = s.kept := by
  simp only [resumeRequest]; repeat' split
  all_goals simp [↓mk_kept, pend_kept, ep_kept, nv_kept, kept_ite, *]
@[simp] theorem endInPlace_kept (n : SlotId) (s : State) :
    (endInPlace n s).kept = s.kept := by
  simp only [endInPlace]; repeat' split
  all_goals simp [↓mk_kept, pend_kept, ep_kept, nv_kept, kept_ite, *]
@[simp] theorem failPowered_kept (n : SlotId) (c : CompId) (step : Nat) (s : State) :
    (failPowered n c step s).kept = s.kept := by
  simp only [failPowered]; repeat' split
  all_goals simp [↓mk_kept, pend_kept, ep_kept, nv_kept, kept_ite, *]
@[simp] theorem endSlotCheck_kept (n : SlotId) (c : CompId) (fail : Option (Fin 3)) (s : State) :
    (endSlotCheck n c fail s).kept = s.kept := by
  simp only [endSlotCheck]; repeat' split
  all_goals simp [↓mk_kept, pend_kept, ep_kept, nv_kept, kept_ite, *]
@[simp] theorem failStandbySet_kept (r : RingId) (c : CompId) (step : Nat) (s : State) :
    (failStandbySet r c step s).kept = s.kept := by simp [failStandbySet]
@[simp] theorem endRingCheck_kept (r : RingId) (c : CompId) (fail : Option (Fin 3)) (s : State) :
    (endRingCheck r c fail s).kept = s.kept := by
  simp only [endRingCheck]; repeat' split
  all_goals simp [↓mk_kept, pend_kept, ep_kept, nv_kept, kept_ite, *]
@[simp] theorem failSupply_kept (c : CompId) (k : Fin 3) (s : State) :
    (failSupply c k s).kept = s.kept := by
  simp only [failSupply]; repeat' split
  all_goals simp [↓mk_kept, pend_kept, ep_kept, nv_kept, kept_ite, *]
@[simp] theorem takeHandover_kept (ring : RingId) (k : Fin 8) (c : CompId) (agree : Bool) (s : State) :
    (takeHandover ring k c agree s).kept = s.kept := by
  simp only [takeHandover]; repeat' split
  all_goals simp [↓mk_kept, pend_kept, ep_kept, nv_kept, kept_ite, *]

/-! Rings -/

@[simp] theorem ringFault_kept (r : RingId) (code : W16) (s : State) :
    (ringFault r code s).kept = s.kept := by simp [ringFault]

/-! Journal -/

@[simp] theorem eraseDone_kept (t : TargetId) (i : Nat) (s : State) :
    (eraseDone t i s).kept = s.kept := by simp [eraseDone]

/-! Tightrope -/

@[simp] theorem noteLimit_kept (key : Nat) (reached : Bool) (event : State → State) (s : State) (h_event : ∀  s, (event  s).kept = s.kept) :
    (noteLimit key reached event s).kept = s.kept := by
  simp only [noteLimit]; repeat' split
  all_goals simp [↓mk_kept, pend_kept, ep_kept, nv_kept, kept_ite, *]
@[simp] theorem lowerSession_kept (n : SlotId) (ceiling : Nat) (s : State) :
    (lowerSession n ceiling s).kept = s.kept := rfl
@[simp] theorem applyGuard_kept (s : State) :
    (applyGuard s).kept = s.kept := rfl

/-! Security -/

@[simp] theorem endDebug_kept (why : Nat) (s : State) :
    (endDebug why s).kept = s.kept := by
  simp only [endDebug]; repeat' split
  all_goals simp [↓mk_kept, pend_kept, ep_kept, nv_kept, kept_ite, *]
@[simp] theorem renewDebugNonce_kept (s : State) :
    (renewDebugNonce s).kept = s.kept := rfl
@[simp] theorem openDebug_kept (r : SignedReq) (s : State) :
    (openDebug r s).kept = s.kept := by
  simp only [openDebug]; repeat' split
  all_goals simp [↓mk_kept, pend_kept, ep_kept, nv_kept, kept_ite, *]
@[simp] theorem zeroiseBuffers_kept (s : State) :
    (zeroiseBuffers s).kept = s.kept := rfl
@[simp] theorem endQueued_kept (s : State) :
    (endQueued s).kept = s.kept := by simp [endQueued]
@[simp] theorem dropReady_kept (s : State) :
    (dropReady s).kept = s.kept := by
  simp only [dropReady]; repeat' split
  all_goals simp [↓mk_kept, pend_kept, ep_kept, nv_kept, kept_ite, *]
@[simp] theorem endChange_kept (c : LcChange) (st : CStatus) (err : W16) (s : State) :
    (endChange c st err s).kept = s.kept := by
  simp only [endChange]; repeat' split
  all_goals simp [↓mk_kept, pend_kept, ep_kept, nv_kept, kept_ite, *]
@[simp] theorem dropHolder_kept (n : SlotId) (s : State) :
    (dropHolder n s).kept = s.kept := by
  simp only [dropHolder]; repeat' split
  all_goals simp [↓mk_kept, pend_kept, ep_kept, nv_kept, kept_ite, *]
@[simp] theorem latchTamper_kept (level : Nat) (x : Sensor) (s : State) :
    (latchTamper level x s).kept = s.kept := by
  simp only [latchTamper]; repeat' split
  all_goals simp [↓mk_kept, pend_kept, ep_kept, nv_kept, kept_ite, *]
@[simp] theorem tamperClose_kept (s : State) :
    (tamperClose s).kept = s.kept := by
  simp only [tamperClose]; repeat' split
  all_goals simp [↓mk_kept, pend_kept, ep_kept, nv_kept, kept_ite, *]

/-! Faults -/

@[simp] theorem noteRecovery_kept (u : UnitRef) (s : State) :
    (noteRecovery u s).kept = s.kept := rfl
@[simp] theorem recoverSlot_kept (n : SlotId) (s : State) :
    (recoverSlot n s).kept = s.kept := by
  simp only [recoverSlot]; repeat' split
  all_goals simp [↓mk_kept, pend_kept, ep_kept, nv_kept, kept_ite, *]
@[simp] theorem recoverPair_kept (p : PairId) (s : State) :
    (recoverPair p s).kept = s.kept := by
  simp only [recoverPair]; repeat' split
  all_goals simp [↓mk_kept, pend_kept, ep_kept, nv_kept, kept_ite, *]
@[simp] theorem startRecovery_kept (u : UnitRef) (code : W16) (s : State) :
    (startRecovery u code s).kept = s.kept := by
  simp only [startRecovery]; repeat' split
  all_goals simp [↓mk_kept, pend_kept, ep_kept, nv_kept, kept_ite, *]
@[simp] theorem backInService_kept (u : UnitRef) (s : State) :
    (backInService u s).kept = s.kept := by
  simp only [backInService]; repeat' split
  all_goals simp [↓mk_kept, pend_kept, ep_kept, nv_kept, kept_ite, *]
@[simp] theorem refusalJob_kept (v : Violation) (s : State) :
    (refusalJob v s).kept = s.kept := by
  simp only [refusalJob]; repeat' split
  all_goals simp [↓mk_kept, pend_kept, ep_kept, nv_kept, kept_ite, *]

/-! StationBus -/

@[simp] theorem updPort_kept (p : PortId) (f : SbPort → SbPort) (s : State) :
    (updPort p f s).kept = s.kept := rfl
@[simp] theorem feedFails_kept (n : SlotId) (job : JobId) (s : State) :
    (feedFails n job s).kept = s.kept := by
  simp only [feedFails]; repeat' split
  all_goals simp [↓mk_kept, pend_kept, ep_kept, nv_kept, kept_ite, *]
@[simp] theorem failCommand_kept (p : PortId) (why : Nat) (c : SbCmd) (s : State) :
    (failCommand p why c s).kept = s.kept := by
  simp only [failCommand]; repeat' split
  all_goals simp [↓mk_kept, pend_kept, ep_kept, nv_kept, kept_ite, *]
@[simp] theorem retryCommand_kept (p : PortId) (why : Nat) (c : SbCmd) (s : State) :
    (retryCommand p why c s).kept = s.kept := by
  simp only [retryCommand]; repeat' split
  all_goals simp [↓mk_kept, pend_kept, ep_kept, nv_kept, kept_ite, *]
@[simp] theorem unanswered_kept (p : PortId) (mu : MuId) (s : State) :
    (unanswered p mu s).kept = s.kept := by
  simp only [unanswered]; repeat' split
  all_goals simp [↓mk_kept, pend_kept, ep_kept, nv_kept, kept_ite, *]
@[simp] theorem emitPoll_kept (p : PortId) (mu : MuId) (s : State) :
    (emitPoll p mu s).kept = s.kept := rfl
@[simp] theorem emitCommand_kept (p : PortId) (c : SbCmd) (s : State) :
    (emitCommand p c s).kept = s.kept := rfl
@[simp] theorem noteStatus_kept (p : PortId) (mu : MuId) (d : List Byte) (s : State) :
    (noteStatus p mu d s).kept = s.kept := by
  simp only [noteStatus]
  repeat' (first
    | with_reducible rfl
    | (simp [↓mk_kept, pend_kept, ep_kept, nv_kept, kept_ite, *]; done)
    | (intro _)
    | (refine (onlyIf_kept _ _ _ ?_).trans ?_)
    | (refine (forEach_kept _ _ _ ?_).trans ?_)
    | (simp [↓mk_kept, pend_kept, ep_kept, nv_kept, kept_ite])
    | split)
@[simp] theorem judgeAck_kept (p : PortId) (mu : MuId) (d : List Byte) (s : State) :
    (judgeAck p mu d s).kept = s.kept := by
  simp only [judgeAck]; repeat' split
  all_goals simp [↓mk_kept, pend_kept, ep_kept, nv_kept, kept_ite, *]

/-! Sideshow -/

@[simp] theorem blockRead_kept (d : List Byte) (s : State) :
    (blockRead d s).kept = s.kept := rfl
@[simp] theorem sideResult_kept (code : Byte) (r : SbResult) (s : State) :
    (sideResult code r s).kept = s.kept := rfl
@[simp] theorem sideNack_kept (code : Byte) (r : SbResult) (s : State) :
    (sideNack code r s).kept = s.kept := rfl
@[simp] theorem answerSide_kept (r : SbResult) (s : State) :
    (answerSide r s).kept = s.kept := rfl
@[simp] theorem mainCommand_kept (code : Byte) (f : State → State) (s : State) (h_f : ∀  s, (f  s).kept = s.kept) :
    (mainCommand code f s).kept = s.kept := by
  simp only [mainCommand]; repeat' split
  all_goals simp [↓mk_kept, pend_kept, ep_kept, nv_kept, kept_ite, *]
@[simp] theorem tagFailed_kept (code : Byte) (s : State) :
    (tagFailed code s).kept = s.kept := by
  simp only [tagFailed]; repeat' split
  all_goals simp [↓mk_kept, pend_kept, ep_kept, nv_kept, kept_ite, *]
@[simp] theorem slotsOff_kept (d : List Byte) (s : State) :
    (slotsOff d s).kept = s.kept := by
  simp only [slotsOff]; repeat' split
  all_goals simp [↓mk_kept, pend_kept, ep_kept, nv_kept, kept_ite, *]
@[simp] theorem sideBist_kept (d : List Byte) (s : State) :
    (sideBist d s).kept = s.kept := by
  simp only [sideBist]; repeat' split
  all_goals simp [↓mk_kept, pend_kept, ep_kept, nv_kept, kept_ite, *]

/-! Debug -/



end Sys2Proof.Machine
end

