-- ==== Sys2Proof/WellFormed.lean ====
section
/-! DEFINITION. Which operands a command can have: the limits of the wires, counts and layouts that carry it. A
command with other operands cannot arise. -/

namespace Sys2Proof

open Sys2Proof.Machine

/-- Steps of a comparator check are numbered 1 to 3 (R300, R307). -/
def stepNo (k : Nat) : Bool := 1 ≤ k && k ≤ 3

/-- Each NAND target is reported once (R229). -/
def boardOk (b : Board) : Bool := (b.targets.map (·.target)).Nodup

/-- One copy of the RPP state has 256 counters and a 32-byte chain value (R256). -/
def rppOk (c : RppCopy) : Bool := c.counters.length == 256 && c.anchorChain.length == 32

/-- A T=1 block: 3 bytes of prologue, at most 254 of INF and 2 of epilogue (R89). -/
def blockOk (b : RawT1) : Bool := b.bytes.length ≤ 259

/-- Segments of 30 bytes on each line (R126). -/
def segsOk (b : RawBlock) : Bool :=
  b.segs.all (fun x => x.1.bytes.length == 30 && x.2.1.bytes.length == 30 && x.2.2.bytes.length == 30)

/-- The comparator is one of the object's (R288). -/
def objHas (o : CheckObj) (c : CompId) : Bool :=
  match o with
  | .slot _ => c.isSlot
  | .ring _ => c.isRing || c.isStandby
  | .device => c.isDevice

/-- A signed request has 16 bytes of nonce and 64 of signature (R400). -/
def requestFormOk (r : SignedReq) : Bool := r.nonce.length == 16 && r.sig.length == 64

/-- The sensors of tamper level 2 (R423). -/
def majorSensor (x : Sensor) : Bool := x == .mesh || x == .light

/-- A command whose operands can arise. -/
def WellFormed (i : Instr) : Bool :=
  match i with
  | .vstbyRise _ => true
  | .mainSideReset _ b => boardOk b
  | .booted => true
  | .bankStart l => l.length ≤ 2 && l.all rppOk
  | .readyRise => true
  | .pcieReset _ => true
  | .flr => true
  | .dmaHold _ => true
  | .dmaResumed => true
  | .msixUnmask _ => true
  | .barAccessRefused _ => true
  | .deviceCheck => true
  | .deviceCheckEnd => true
  | .windDown => true
  | .windDownEnd => true
  | .gctrlPause _ => true
  | .slotEnable => true
  | .slotCheckEnd f => match f with | some (c, k) => c.isSlot && stepNo k | none => true
  | .slotDisable => true
  | .slotDeactivate => true
  | .slotClear => true
  | .slotCfgWrite _ _ => true
  | .slotSelWrite _ => true
  | .tbTailWrite _ => true
  | .cqHeadWrite _ => true
  | .eqHeadWrite _ => true
  | .ringSizeWrite _ _ => true
  | .powerBudgetWrite _ => true
  | .irqStatusWrite _ => true
  | .irqMaskWrite _ => true
  | .errFirstClear => true
  | .violClear => true
  | .mboxToSbWrite _ => true
  | .mboxFromSbRead => true
  | .pairLowRead _ => true
  | .registerWrite _ _ => true
  | .regParity _ _ => true
  | .logicBist _ => true
  | .memoryBist _ => true
  | .bistRingDrained => true
  | .bistDrainTimeout => true
  | .bistPassEnd _ => true
  | .bistRunEnd _ r l => (match r with | some (c, k) => (c.isRing || c.isStandby) && stepNo k | none => true) &&
      l.all (fun e => e.2.1.isSlot && stepNo e.2.2)
  | .bistDomainEnd _ => true
  | .fwPrepare _ => true
  | .fwCommit _ => true
  | .fwSwitch _ => true
  | .fwAbort _ => true
  | .sectorEraseDone => true
  | .sectorEraseAbort => true
  | .fwConfirmed => true
  | .ticketFetch l => 1 ≤ l.length && l.length ≤ 65535
  | .fetchRetry => true
  | .paramReadFail _ p => p.length ≤ 16777216
  | .issue _ _ => true
  | .samOp _ _ => true
  | .activate _ => true
  | .deactivate _ => true
  | .warmReset _ => true
  | .inventory _ _ => true
  | .format _ p => p.retryLevels ≤ 255 && p.factoryBad.all (fun b => b.2 < 65536)
  | .recordWrite _ p => p.length ≤ 16777216
  | .recordDelete _ _ => true
  | .profileWrite _ p => p.length ≤ 65536
  | .profileDelete _ => true
  | .journalList _ _ => true
  | .journalClose _ _ => true
  | .auditRead _ _ => true
  | .auditAttest _ _ => true
  | .auditTrim _ _ => true
  | .bankStatus _ => true
  | .counterRelease _ => true
  | .ownerSet _ _ => true
  | .mgmtSet _ _ => true
  | .ceremonyOpen _ => true
  | .keyImport _ _ => true
  | .keyDelete _ => true
  | .keyList _ => true
  | .ceremonyClose _ => true
  | .lcChange _ _ => true
  | .attestId _ => true
  | .cancel _ => true
  | .sbusConfig _ _ => true
  | .sbusStatus _ => true
  | .unitClear _ _ => true
  | .faultStatus _ => true
  | .marginRead _ => true
  | .bistReport _ => true
  | .fwWrite _ p => p.length ≤ 65536
  | .placementPass => true
  | .sweepYield _ => true
  | .jobDeadline _ => true
  | .feedTimeout _ => true
  | .jobSettled _ => true
  | .staleResult _ _ => true
  | .completionWrite => true
  | .eventWrite => true
  | .precompute _ => true
  | .precomputeRelease _ => true
  | .scOpen _ r _ => r.length ≤ 256
  | .prefetchDone _ _ r => 1 ≤ r.stage && r.stage ≤ 5 && r.level ≤ 7
  | .tokenGrant => true
  | .admitWait _ => true
  | .vccQualified _ => true
  | .clkStart _ => true
  | .rstRise _ => true
  | .vccFail _ => true
  | .ocBlankingEnd _ => true
  | .atrReceived _ r _ => r.length ≤ 33
  | .noAtr _ => true
  | .atrGapTimeout _ => true
  | .ppsResponse _ r _ => r.length ≤ 6
  | .ppsTimeout _ => true
  | .rateApply _ => true
  | .iBlock _ b => blockOk b
  | .rBlock _ b => blockOk b
  | .sIfsRequest _ _ => true
  | .sIfsResponse _ _ => true
  | .sWtxRequest _ _ => true
  | .sAbortRequest _ => true
  | .sAbortResponse _ => true
  | .sResynchResponse _ => true
  | .bwtTimeout _ => true
  | .cwtOverrun _ => true
  | .wtTimeout _ => true
  | .exchLimit _ => true
  | .lineStuck _ => true
  | .t0Character _ _ _ _ => true
  | .errorSignalSeen _ _ => true
  | .procedureByte _ _ _ => true
  | .exchangeEnd _ n c => n ≤ c
  | .clockStop _ => true
  | .clockRestart _ => true
  | .modeSwitchAnswer _ _ d _ => d.length ≤ 256
  | .galloperClockApply _ => true
  | .quietEnd _ => true
  | .rcvToken _ t => t.toNat < 2 ^ 63
  | .rspToken _ t => t.toNat < 2 ^ 63
  | .readBlock _ b => segsOk b
  | .ltsRecord _ b => segsOk b
  | .noResponseToken _ => true
  | .busyEnd _ => true
  | .busyLimit _ => true
  | .busyLimitIdle _ => true
  | .c7Stuck _ => true
  | .galloperClockStop _ => true
  | .galloperClockRestart _ => true
  | .galloperCodeApply _ => true
  | .ltsApdu _ _ d _ => d.length ≤ 256
  | .eyeSweep _ => true
  | .trainPattern _ b _ => segsOk b
  | .deactClkStop _ => true
  | .measurementWindowEnd _ _ => true
  | .deactLdoOff _ => true
  | .emergencyStep _ => true
  | .deactivationEnd _ => true
  | .tOffEnd _ => true
  | .voffAbove _ => true
  | .overcurrent _ => true
  | .short _ _ => true
  | .vccWindow _ => true
  | .removal _ => true
  | .supplyTrigger _ => true
  | .refClockLost => true
  | .refClockRestored => true
  | .presencePresent _ => true
  | .presenceAbsent _ => true
  | .presBand _ => true
  | .unstable _ _ _ => true
  | .resolutionActivation _ => true
  | .comparatorCheck o c => objHas o c
  | .comparatorCheckEnd o c _ => objHas o c
  | .rotationCheck _ _ c => c.isSlot && !c.isPresence
  | .handoverEnd _ _ => true
  | .presCheck _ => true
  | .twinCheck _ => true
  | .ringParked _ => true
  | .railRetarget _ => true
  | .railSettled _ => true
  | .downHoldEnd _ => true
  | .ringUv _ => true
  | .ringOv _ => true
  | .ringOc _ => true
  | .ringOt _ => true
  | .ringStart _ => true
  | .ringSettle _ => true
  | .journalGroupCommit => true
  | .journalDurable => true
  | .journalCopy _ => true
  | .journalBlockErase _ => true
  | .rppWrite => true
  | .anchorUpdate => true
  | .pagePad _ _ => true
  | .blockRelocate _ _ => true
  | .wearLevel _ => true
  | .mediaProgramDone _ _ _ _ => true
  | .lcDrained => true
  | .lcWaitTimeout => true
  | .debugLcChange r => requestFormOk r
  | .debugToken r => requestFormOk r
  | .debugClose => true
  | .debugExpiry => true
  | .ceremonyTimeout => true
  | .accessViolation v => v.access.toNat < 3 && v.master.toNat < 0xE
  | .ruleBarrier _ => true
  | .ruleBarrierDrained => true
  | .tamperL1 x => !majorSensor x
  | .tamperL2 x => majorSensor x
  | .tamperSelfTest _ => true
  | .unitError _ _ => true
  | .lockstep _ => true
  | .pairWatchdog _ => true
  | .deviceWatchdog => true
  | .recoveryDone _ _ => true
  | .probationEnd _ => true
  | .fatalError _ => true
  | .fatalWindowTimeout => true
  | .fatalNested _ => true
  | .siliconMonitor _ _ _ _ => true
  | .efficiencySample _ p _ => p ≤ 100
  | .retentionCheck _ _ _ => true
  | .eyeSweepRequest _ => true
  | .planEvaluation => true
  | .guardSwitch => true
  | .guardForce => true
  | .sbCommandFrame _ => true
  | .pollResponse _ _ f => f.data.length ≤ 8
  | .pollPeriod _ _ => true
  | .respTimeout _ _ => true
  | .announce _ _ f => f.data.length ≤ 8
  | .collision _ => true
  | .listen _ => true
  | .wake _ => true
  | .sbStuckLow _ => true
  | .sbRecovered _ => true
  | .rtsCtsMessage _ => true
  | .ctsTimeout _ => true
  | .rtsCtsAnswer _ _ => true
  | .ackTimeout _ => true
  | .busStartStop _ => true
  | .ident => true
  | .status => true
  | .health => true
  | .presence => true
  | .logSel w => w.data.length ≤ 255
  | .logRead => true
  | .mboxRead => true
  | .mboxWrite w => w.data.length ≤ 255
  | .nonce => true
  | .slotOff w => w.data.length ≤ 255
  | .mainReset w => w.data.length ≤ 255
  | .bistStart w => w.data.length ≤ 255
  | .bistResult => true
  | .fwOp w => w.data.length ≤ 255
  | .fwData w => w.data.length ≤ 255
  | .fwStatus => true
  | .lockoutEnd => true
  | .sideshowAnswer => true
  | .healthSnapshot _ => true
  | .vstbyFall => true
  | .vinRingRestored => true
  | .tapInstructionLoad _ => true
  | .debugHalt _ => true
  | .debugResume _ => true

end Sys2Proof
end

