-- ==== Sys2Proof/Tests/Slice0.lean ====
section
/-! SUPPORT. The model's own tests: one step each on a small state. For the hypotheses of every statement a state and
operands that meet them together, with what the step then does; and the well-formedness checks with an operand that
each refuses. Expected values come from the rules named. -/

namespace Sys2Proof.Tests

open Sys2Proof Sys2Proof.Machine

set_option maxRecDepth 20000
set_option Elab.async false

/-! ## Small states -/

/-- The state after a command. -/
def after (c : Instr) (s : State) : State := match exec c s with | .next t => t | _ => s

/-- The state after a step. -/
def stepped (s : State) : State := match step s with | .next t => t | _ => s

/-- The device enabled, its firmware running, the host's rings open. -/
def up : State :=
  { State.reset with regs.booted := true, regs.enable := true, regs.ready := true, regs.busMaster := true }

/-- The rings 2, 4 and 8 entries long. -/
def rings (s : State) : State := { s with regs.tbSize := 8, regs.cqSize := 4, regs.eqSize := 2 }

/-- The bank started and formatted, with room. -/
def banked (s : State) : State := { s with bank.started := true, bank.formatted := true }

/-- A ticket of a TYPE and OP. -/
def tk (id : JobId) (type op : Byte) : Ticket :=
  { jobId := id, type := type, affinity := 0, pinSlot := 0xFF, op := op, flags := 0, profileId := 1, keysetId := 0,
    recordId := 0, deadline := 0, paramAddr := 0x1000, resultAddr := 0x2000, paramLen := 0, resultMax := 4096,
    arg := 0, reserved := 0 }

/-- The device holds one more job. -/
def hold (j : Job) (s : State) : State := { s with jobs := s.jobs ++ [j] }

/-- A queued job of a ticket. -/
def job (t : Ticket) : Job := newJob t 0 0

/-- Slot 63 changed. -/
def at63 (f : Slot → Slot) (s : State) : State := s.updSlot 63 f

/-- What the last completion says. -/
def lastEnd (t : State) : Option (JobId × CStatus × W16 × List Byte) :=
  t.closing.getLast?.map (fun c => (c.jobId, c.status, c.error, c.result))

/-- An event of a code waits. -/
def told (t : State) (code : W16) : Bool := t.barker.queue.any (fun e => e.code == code)

/-! ## The machine as a whole -/

theorem test_StepRunsTheFrontCommand :
    step { up with pending := [.gctrlPause true, .ident] } = exec (.gctrlPause true) (withPending up [.ident]) := rfl

theorem test_EmptyQueueCountsOneMicrosecond :
    (stepped { up with power.aonUs := 5, regs.time := 7 }).power.aonUs = 6 ∧
    (stepped { up with power.aonUs := 5, regs.time := 7 }).regs.time = 8 ∧
    (stepped { State.reset with power.refClock := false }).power.aonUs = 1 ∧
    (stepped { State.reset with power.refClock := false }).regs.time = 0 := by
  decide +kernel

theorem test_RuleEpochIsNeverZero :
    let s := { up with regs.epoch := 0xFFFF, regs.barrier := [.tamper], regs.barrierOn := true }
    s.regs.epoch ≠ 0 ∧ (after .ruleBarrierDrained s).regs.epoch = 1 := by
  decide +kernel

theorem test_OneWayCellsNeverGoBack :
    let s := { up with sec.changing := some { target := .terminated, job := none }, nv.lc := .fencedSecure }
    (∀ c, s.sec.changing = some c → lcOnward s.nv.lc c.target = true) ∧
    (after .lcDrained s).nv.lc = .terminated := by
  refine ⟨?_, by decide +kernel⟩
  intro c h; cases h; decide

theorem test_ReadyOnlyWhileEnabled :
    let s := { up with regs.windDown := true }
    ((s.regs.ready = true → s.regs.enable = true ∧ s.regs.booted = true) ∧
      (s.regs.windDown = true → s.regs.enable = true)) ∧
    (after .windDownEnd s).regs.enable = false ∧ (after .windDownEnd s).regs.ready = false ∧
      (after .windDownEnd s).regs.windDown = false := by
  decide +kernel

/-! ## Reset, boot and the link -/

theorem test_MainSideReset :
    up.power.vstby = true ∧ up.power.main ≠ .off ∧
    let t := after (.mainSideReset .perst Power.noBoard) (hold (job (tk 7 6 1)) up)
    t.regs.enable = false ∧ t.regs.ready = false ∧ t.jobs = [] ∧ t.regs.irqMask = 0xFFFFFFFF ∧
      (∀ n, (t.slot n).vcc = .off) ∧ ∀ r, (t.ring r).phase = .off := by
  decide +kernel

theorem test_LinkResets :
    (after (.pcieReset .hotReset) up).regs.enable = false ∧ (after .flr up).regs.ready = false ∧
    up.mainUp = true := by
  decide +kernel

theorem test_VstbyRise :
    let s := { State.reset with power.vstby := false, standby.tamper := some (1, .temperature) }
    s.power.vstby = false ∧ (after (.vstbyRise 5) s).power.vstby = true ∧ (after (.vstbyRise 5) s).side.straps = 5 ∧
      (after (.vstbyRise 5) s).standby.tamper = some (1, .temperature) := by
  decide +kernel

theorem test_Booted :
    let s := State.reset
    s.mainUp = true ∧ s.regs.booted = false ∧ s.power.loader = false ∧ (after .booted s).regs.booted = true := by
  decide +kernel

theorem test_BankStart :
    let s := { up with bank.formatted := true, bank.boot := 8 }
    s.booted = true ∧ s.bank.started = false ∧ (after (.bankStart []) s).bank.started = true ∧
      (after (.bankStart []) s).bank.boot = 9 ∧ told (after (.bankStart []) s) 0x0701 = true := by
  decide +kernel

theorem test_ReadyRise :
    let s := { up with regs.ready := false, bank.started := true }
    s.booted = true ∧ s.regs.enable = true ∧ s.regs.windDown = false ∧ s.regs.ready = false ∧
      s.bank.started = true ∧ s.admissionArmed = true ∧ (after .readyRise s).regs.ready = true ∧
      bit (after .readyRise s).regs.irqStatus 4 = true := by
  decide +kernel

theorem test_DmaHold :
    up.mainUp = true ∧ up.regs.enable = true ∧ up.regs.dmaHeld = false ∧
    (after (.dmaHold true) up).regs.errFirst = 0x80000A04 ∧ (after (.dmaHold true) up).canSend = false ∧
    (after .dmaResumed (after (.dmaHold true) up)).canSend = true := by
  decide +kernel

theorem test_MsixUnmask :
    (after (.msixUnmask 31) up).regs.msixMask = 0x7FFFFFFF ∧ (after (.msixUnmask 0) up).regs.msixMask = 0xFFFFFFFE := by
  decide +kernel

theorem test_BarRefused :
    (after (.barAccessRefused .tooLong) up).out = [.unsupported] ∧
    (after (.barAccessRefused .poisonedWrite) up).out = [] := by
  decide +kernel

theorem test_RegParity :
    up.mainUp = true ∧ up.faults.fatalWindow = none ∧
    (after (.regParity 0x88 false) up).regs.errFirst = 0x80000A05 ∧
    ((after (.regParity 0x88 true) up).faults.fatalWindow = some 0x0F03 ∨
      (after (.regParity 0x88 true) up).regs.time = 0) := by
  decide +kernel

/-! ## The host registers -/

theorem test_RingSizeWrite :
    let s := { State.reset with regs.tbTail := 3 }
    s.mainUp = true ∧ s.sec.rightsWithdrawn = false ∧ s.deviceCheckRuns = false ∧ s.regs.enable = false ∧
    (after (.ringSizeWrite .tb 0xFFFFFFFF) s).regs.tbSize = 0x1FFFF ∧ (after (.ringSizeWrite .tb 2) s).regs.tbTail = 0 ∧
    up.deviceCheckRuns = false ∧ (after (.ringSizeWrite .cq 2) up).regs.cqSize = 0 ∧
    { up with regs.cfgCheck := 1 }.deviceCheckRuns = true ∧
    (after (.ringSizeWrite .eq 2) { up with regs.cfgCheck := 1 }).regs.cfgCheck = 9 := by
  decide +kernel

theorem test_SlotSel :
    (after (.slotSelWrite 63) up).regs.slotSel = 63 ∧ (after (.slotSelWrite 64) up).regs.slotSel = 0 ∧
    (after (.slotSelWrite 0) up).regs.slotSel = 0 := by
  decide +kernel

theorem test_TbTail :
    let s := { rings up with regs.fetchStalled := true }
    (7 : W32).toNat < s.regs.tbSize.toNat ∧ (after (.tbTailWrite 7) s).regs.tbTail = 7 ∧
      (after (.tbTailWrite 7) s).regs.fetchStalled = false ∧
    s.regs.tbSize.toNat ≤ (8 : W32).toNat ∧ (after (.tbTailWrite 8) s).regs.tbTail = 0 ∧
      told (after (.tbTailWrite 8) s) 0x0201 = true := by
  decide +kernel

theorem test_Heads :
    let s := { rings up with regs.cqTail := 1, regs.eqTail := 1 }
    headOk 1 s.regs.cqHead s.regs.cqTail s.regs.cqSize = true ∧ (after (.cqHeadWrite 1) s).regs.cqHead = 1 ∧
    headOk 2 s.regs.cqHead s.regs.cqTail s.regs.cqSize = false ∧ told (after (.cqHeadWrite 2) s) 0x0202 = true ∧
    headOk 1 s.regs.eqHead s.regs.eqTail s.regs.eqSize = true ∧ (after (.eqHeadWrite 1) s).regs.eqHead = 1 ∧
    headOk 2 s.regs.eqHead s.regs.eqTail s.regs.eqSize = false ∧ told (after (.eqHeadWrite 2) s) 0x0203 = true := by
  decide +kernel

theorem test_PlainRegisters :
    (after (.gctrlPause true) up).regs.pause = true ∧
    (after (.irqStatusWrite 2) { up with regs.irqStatus := 7 }).regs.irqStatus = 5 ∧
    (after (.irqMaskWrite 9) up).regs.irqMask = 9 ∧
    (after .errFirstClear { up with regs.errFirst := 0x80000A04, regs.errCount := 0x00020003 }).regs.errFirst = 0 ∧
    (after .errFirstClear { up with regs.errCount := 0x00020003 }).regs.errCount = 0x00020000 ∧
    (after .violClear { up with regs.violInfo := 1 }).regs.violInfo = 0 ∧
    (after (.mboxToSbWrite 5) up).regs.mboxToPending = true ∧
    (after .mboxFromSbRead { up with regs.mboxFrom := 6, regs.mboxFromFull := true }).out = [.barData 6] ∧
    (after (.pairLowRead .time) { up with regs.time := 0x100000002 }).regs.timeHold = 1 ∧
    (after (.pairLowRead .present) (at63 (fun x => { x with present := true }) up)).regs.presentHold = 0x80000000 ∧
    (after (.pairLowRead .fenced) (at63 (fun x => { x with phase := .fenced }) up)).regs.fencedHold = 0x80000000 := by
  decide +kernel

theorem test_PolicyRegisters :
    up.deviceCheckRuns = false ∧ (after (.registerWrite 0x088 0xFFFFFFFF) up).regs.schedPolicy = 0x00FFFF0F ∧
    State.reset.checkRunning = false ∧ State.reset.regs.enable = false ∧
    (after (.powerBudgetWrite 0) State.reset).regs.powerBudget = 0 ∧
    budgetOk 0x14640082 = true ∧ (after (.powerBudgetWrite 0x14640082) up).regs.powerBudget = 0x14640082 := by
  decide +kernel

/-! ## Checks, the slot window and the wind-down -/

theorem test_DeviceCheckStarts :
    State.reset.checkRunning = false ∧ (after .deviceCheck State.reset).regs.cfgCheck = 1 ∧
    { State.reset with regs.cfgCheck := 1 }.checkRunning = true ∧
    (after .deviceCheck { State.reset with regs.cfgCheck := 1 }).regs.cfgCheck = 9 := by
  decide +kernel

theorem test_DeviceCheckFails :
    let s := { State.reset with regs.cfgCheck := 1 }
    s.checkRunning = true ∧ s.regs.checkSlot = none ∧ s.deviceFails ≠ [] ∧
    (after .deviceCheckEnd s).regs.enable = false ∧ field (after .deviceCheckEnd s).regs.cfgCheck 0 2 = 3 ∧
    bit (after .deviceCheckEnd s).regs.irqStatus 3 = true := by
  decide +kernel

/-- A NAND target as its identification finds it. -/
def goodTarget (n : TargetId) : TargetReport :=
  { target := n, fail := none, geometry := 1, endurance := 3000, mainBytes := 16384, spareBytes := 2208,
    blocks := 64, pages := 64, capacity := 1000000000 }

/-- A device ready to be enabled, with targets on two channels. -/
def ready : State :=
  { State.reset with
    regs.booted := true, regs.busMaster := true, regs.cfgCheck := 1, regs.tbSize := 16, regs.cqSize := 16,
    regs.eqSize := 16, regs.tbBase := 0x1000, regs.cqBase := 0x2000, regs.eqBase := 0x3000, nv.lc := .operational,
    power.vinOk := true, power.board := { Power.noBoard with targets := [goodTarget 0, goodTarget 4], vinOk := true } }

theorem test_DeviceCheckPasses :
    ready.deviceFails = [] ∧ (after .deviceCheckEnd ready).regs.enable = true ∧
    (after .deviceCheckEnd ready).regs.cfgCheck = 2 ∧ bit (after .deviceCheckEnd ready).regs.irqStatus 3 = true := by
  decide +kernel

theorem test_SlotEnable :
    up.checkRunning = false ∧ (up.slot up.regs.slotSel).enable = false ∧
    (after .slotEnable up).regs.cfgCheck = 5 ∧ (after .slotEnable up).regs.checkSlot = some 0 := by
  decide +kernel

/-- Slot 63 under its slot check. -/
def checking : State := { up with regs.cfgCheck := 5, regs.checkSlot := some 63 }

theorem test_SlotCheckEnd :
    checking.checkRunning = true ∧ checking.side.slotOffWait.contains 63 = false ∧ checking.slotFail 63 = none ∧
    ((after (.slotCheckEnd none) checking).slot 63).enable = true ∧
    (after (.slotCheckEnd none) checking).regs.cfgCheck = 6 ∧
    (at63 (fun x => { x with cfgA := 0 }) checking).slotFail 63 = some (0x12, 1, 63) ∧
    field (after (.slotCheckEnd none) (at63 (fun x => { x with cfgA := 0 }) checking)).regs.cfgCheck 8 8 = 0x12 := by
  decide +kernel

theorem test_SlotCheckComparator :
    (checking.slot 63).phase = .off ∧ (checking.slot 63).job = none ∧
    ((after (.slotCheckEnd (some (.vsc, 3))) checking).slot 63).fenceSrc = .comparator ∧
    ((after (.slotCheckEnd (some (.vsc, 3))) checking).slot 63).phase = .fenced ∧
    field (after (.slotCheckEnd (some (.vsc, 3))) checking).regs.cfgCheck 8 8 = 0x1A ∧
    field (after (.slotCheckEnd (some (.vsc, 3))) checking).regs.cfgCheck 20 12 = 63 * 64 + CompId.vsc.code := by
  decide +kernel

theorem test_CheckReport :
    field (checkReport 0xC (some (255, 15, 4095))) 20 12 = 4095 ∧ bit (checkReport 0xC none) 3 = true := by
  decide +kernel

/-- Slot 63 selected, enabled and in a phase. -/
def selected (p : SlotPhase) : State :=
  at63 (fun x => { x with phase := p, enable := true, ldo := true }) { up with regs.slotSel := 63 }

theorem test_SlotDisable :
    ((selected .ready).slot 63).enable = true ∧ ((selected .ready).slot 63).job = none ∧
    ((after .slotDisable (selected .ready)).slot 63).phase = .deactivating ∧
    ((after .slotDisable (selected .ready)).slot 63).cause = .disable ∧
    ((after .slotDisable (selected .powerWait)).slot 63).phase = .off ∧
    ∀ n, n ≠ 63 → (after .slotDisable (selected .ready)).slot n = (selected .ready).slot n := by
  decide +kernel

theorem test_SlotDeactivate :
    ((after .slotDeactivate (selected .ready)).slot 63).cause = .host ∧
    ((after .slotDeactivate (selected .ready)).slot 63).rst = false ∧
    ((after .slotDeactivate (selected .powerWait)).slot 63).phase = .off ∧
    (selected .quarantined |>.slot 63).phase.powered = false ∧
    ((after .slotDeactivate (selected .quarantined)).slot 63).phase = .quarantined := by
  decide +kernel

theorem test_SlotClear :
    ((after .slotClear (selected .quarantined)).slot 63).phase = .off ∧
    ((after .slotClear (selected .unstable)).slot 63).phase = .off ∧
    (let s := at63 (fun x => { x with fenceSrc := .contact }) (selected .fenced);
      (s.slot 63).fenceSrc = .contact ∧ ((after .slotClear s).slot 63).phase = .off) ∧
    (let s := at63 (fun x => { x with fenceSrc := .comparator }) (selected .fenced);
      (s.slot 63).fenceSrc ≠ .contact ∧ ((after .slotClear s).slot 63).phase = .fenced) := by
  decide +kernel

theorem test_SlotCfgWrite :
    (up.slot up.regs.slotSel).enable = false ∧
    ((after (.slotCfgWrite false 0xFFFFFFFF) up).slot 0).cfgA = 0x0FFFFFF7 ∧
    ((after (.slotCfgWrite true 0xFFFFFFFF) up).slot 0).cfgB = 0x00FF077F ∧
    cfgFault (maskWrite cfgAWritable ((selected .off).slot 63).cfgA 0) ((selected .off).slot 63).cfgB = some 0x12 ∧
    ((after (.slotCfgWrite false 0) (selected .off)).slot 63).cfgA = 0x0E0C0F07 ∧
    told (after (.slotCfgWrite false 0) (selected .off)) 0x0A03 = true := by
  decide +kernel

theorem test_WindDown :
    up.regs.enable = true ∧ up.regs.windDown = false ∧
    (let t := after .windDown (hold (job (tk 9 1 0)) (selected .ready));
      t.regs.windDown = true ∧ t.regs.enable = true ∧ t.jobs = [] ∧ (t.slot 63).phase = .deactivating) ∧
    (let s := { up with regs.windDown := true };
      s.windDownDone = true ∧ (after .windDownEnd s).regs.enable = false ∧
        bit (after .windDownEnd s).regs.irqStatus 10 = true) := by
  decide +kernel

/-! ## Self-test and firmware -/

theorem test_BistStart (h : Config.bistSignature true 7 ≠ 0xFFFFFFFFFFFFFFFF) :
    up.hostLocked = false ∧ up.bist.run = none ∧ up.bistAllowed true false 7 = true := by
  refine ⟨by decide +kernel, rfl, ?_⟩
  have h' : (Config.bistSignature true 7 != 0xFFFFFFFFFFFFFFFF) = true := bne_iff_ne.mpr h
  have e : up.bistAllowed true false 7 = (Config.bistSignature true 7 != 0xFFFFFFFFFFFFFFFF) := rfl
  rw [e, h']

theorem test_BistNotAllowed :
    up.bistAllowed false false 0xB = false ∧ (after (.logicBist 0xB) up).bist.result = 3 ∧
    bit (after (.logicBist 0xB) up).regs.irqStatus 7 = true ∧
    (let s := { up with nv.lc := .terminated };
      s.hostLocked = true ∧ told (after (.memoryBist 0) s) 0x0B05 = true) := by
  decide +kernel

/-- A self-test run. -/
def run (scope : BitVec 4) (memory testing : Bool) (pass : Nat) (unrepaired : Bool) : State :=
  { State.reset with
    bist.run := some { scope := scope, memory := memory, testing := testing, pass := pass, unrepaired := unrepaired } }

theorem test_BistIgnoredWhileRunning :
    (run 0 true true 1 false).bist.run ≠ none ∧
    (after (.logicBist 3) (run 0 true true 1 false)).bist.run = (run 0 true true 1 false).bist.run := by
  decide +kernel

theorem test_BistRing :
    (run 7 true false 1 false).draining = some 7 ∧ (run 7 true false 1 false).ringDrained 7 = true ∧
    ((after .bistRingDrained (run 7 true false 1 false)).slot 63).phase = .bist ∧
    ((after .bistRingDrained (run 7 true false 1 false)).slot 55).phase = .off ∧
    (after .bistRingDrained (run 7 true false 1 false)).draining = none ∧
    (after .bistDrainTimeout (run 7 true false 1 false)).bist.result = 3 := by
  decide +kernel

/-- A failing address. -/
def failAddr (spare : Bool) : FailAddr := { array := 3, row := 4, col := 0, spare := spare, unit := .device }

theorem test_BistPass :
    (let t := after (.bistPassEnd [failAddr true]) (run 7 true true 1 false);
      t.bist.failAddrs = 1 ∧ t.bist.repaired = true ∧ (3, 4) ∈ t.nv.repairs ∧ t.bist.run.map (·.pass) = some 2) ∧
    (after (.bistPassEnd [failAddr false]) (run 7 true true 1 false)).bist.run.map (·.unrepaired) = some true ∧
    (after (.bistPassEnd []) (run 7 true true 2 false)).bist.run.map (·.pass) = some 3 := by
  decide +kernel

theorem test_BistRunEnd :
    let b : BistRun := { scope := 7, memory := true, testing := true, pass := 3, unrepaired := false }
    scopeRing b.scope = some 7 ∧ (run 7 true true 3 false).bist.run = some b ∧ b.unrepaired = false ∧
    (run 7 true true 3 false).mainUp = true := by
  decide +kernel

theorem test_BistDomainEnd :
    let b : BistRun := { scope := 8, memory := false, testing := true, pass := 3, unrepaired := true }
    scopeRing b.scope = none ∧ b.scope ≠ 0xA ∧ (run 8 false true 3 true).bist.run = some b := by
  decide +kernel

theorem test_FwPrepare :
    up.power.loader = false ∧ up.hostLocked = false ∧ up.fw.go = false ∧ up.sec.changing = none ∧
    up.nv.confirmed = true ∧ (after (.fwPrepare 0xA5) up).fw.standby = .erasing ∧
    (after (.fwPrepare 0xA5) up).nv.bankB.eip = true ∧
    (after (.fwPrepare 0xA5) { up with nv.confirmed := false }).fw.result = 4 ∧
    (after (.fwPrepare 0xA4) up).fw.standby = .empty := by
  decide +kernel

theorem test_FwCommit :
    (let s := { up with fw.standby := .loading };
      imagePasses s.nv.svnFloor { valid := true, eip := false, image := some (readImage s.fw.loaded) } = false ∧
        (after (.fwCommit 0xA5) s).fw.result = 1 ∧ (after (.fwCommit 0xA5) s).fw.standby = .loaded) ∧
    up.fw.standby ≠ .loading ∧ (after (.fwCommit 0xA5) up).fw.result = 4 := by
  decide +kernel

/-- A good image. -/
def anImage (svn : W16) : FwImage := { formOk := true, major := 2, minor := 1, svn := svn, verified := true }

theorem test_FwSwitch :
    (let s := { State.reset with fw.standby := .valid, nv.bankB := { valid := true, eip := false, image := some (anImage 3) } };
      s.regs.enable = false ∧ s.sec.changing = none ∧ (after (.fwSwitch 0xA5) s).nv.trial = 2 ∧
        (after (.fwSwitch 0xA5) s).nv.confirmed = false) ∧
    (after (.fwSwitch 0xA5) up).fw.result = 4 ∧ (after (.fwAbort 0xA5) up).fw.result = 5 := by
  decide +kernel

/-- The standby bank's erase under way. -/
def erasing (sector : Nat) : State := { up with fw.busy := true, fw.standby := .erasing, fw.sector := sector, fw.go := true }

theorem test_SectorErase :
    (erasing 62).erasing = true ∧ (after .sectorEraseDone (erasing 62)).fw.sector = 63 ∧
    (after .sectorEraseDone (erasing 63)).fw.standby = .erased ∧ (after .sectorEraseDone (erasing 63)).fw.go = false ∧
    (after .sectorEraseAbort (erasing 63)).fw.result = 2 ∧
    (after .sectorEraseAbort (erasing 63)).fw.standby = .empty := by
  decide +kernel

theorem test_FwConfirmed :
    let s := { up with nv.confirmed := false, nv.svnFloor := 2, nv.trial := 2,
                       nv.bankA := { valid := true, eip := false, image := some (anImage 3) } }
    s.booted = true ∧ ((s.nv.fwBank s.fw.activeB).image).isSome = true ∧ (after .fwConfirmed s).nv.svnFloor = 3 ∧
    (after .fwConfirmed s).nv.confirmed = true ∧ told (after .fwConfirmed s) 0x1103 = true := by
  decide +kernel

/-- A device that runs one ticket of an OP with parameter data of a length. -/
def ticketed (t : Ticket) : State := hold (job t) { banked up with nv.lc := .provisioning }

theorem test_FwWrite :
    let t := { tk 9 6 0x50 with paramLen := 2 }
    let s := { ticketed t with fw.standby := .erased };
    s.ticketOf 9 6 0x50 = some (job t) ∧ s.mayRun (job t) = true ∧ (job t).slot = none ∧
    (after (.fwWrite 9 [1, 2]) s).fw.loaded = [1, 2] ∧ lastEnd (after (.fwWrite 9 [1, 2]) s) = some (9, .done, 0, []) ∧
    (after (.fwWrite 9 [1, 2]) { s with fw.lastWrite := some (0, 2) }).fw.standby = .erased ∧
    lastEnd (after (.fwWrite 9 [1, 2]) (ticketed t)) = some (9, .failed, 0x0F0B, []) := by
  decide +kernel

/-! ## Tickets -/

/-- A job of the ticket may run now, as the statements ask. -/
def canRun (t : Ticket) (s : State) : Prop :=
  s.ticketOf t.jobId t.type.toNat t.op.toNat = some (job t) ∧ s.mayRun (job t) = true

/-- The completion's status and error. -/
def code (t : State) : Option (CStatus × W16) := t.closing.getLast?.map (fun c => (c.status, c.error))

theorem test_TicketFetch :
    let s := { rings up with regs.tbTail := 1 }
    s.canFetch = true ∧ s.ticketFault (tk 9 6 1) = none ∧
    (after (.ticketFetch [tk 9 6 1]) s).regs.tbHead = 1 ∧
    (after (.ticketFetch [tk 9 6 1]) s).jobs.map (·.ticket) = [tk 9 6 1] ∧
    s.ticketFault (tk 9 0 1) = some (.rejected, 0x0201) ∧
    code (after (.ticketFetch [tk 9 0 1]) s) = some (.rejected, 0x0201) ∧
    (after (.ticketFetch [tk 9 0 1]) s).jobs = [] := by
  decide +kernel

theorem test_FetchRetry :
    let s := { rings up with regs.tbTail := 1 }
    s.canFetch = true ∧ (after .fetchRetry { s with regs.fetchFails := 1 }).regs.fetchFails = 2 ∧
    (after .fetchRetry { s with regs.fetchFails := 2 }).regs.fetchStalled = true ∧
    told (after .fetchRetry { s with regs.fetchFails := 2 }) 0x0A01 = true := by
  decide +kernel

/-- A one-step profile: SELECT, its identity step. -/
def aStep : Step :=
  { kind := 1, flags := 0x20, tmpl := [0x00, 0xA4, 0x04, 0x00, 0x00], subs := [], onFail := 0xFF, expSw := 0x9000,
    expMask := 0xFFFF, altSw := 0, altMask := 0, altTo := 0xFF, respMax := 0, failErr := 0x8001, exchLimit := 0,
    karg := 0, next := 0xFD }

/-- A profile of given steps. -/
def aProfile (l : List Step) : Profile :=
  { id := 1, pflags := 0, classes := 7, scp := 0, ahead := 4, busyLimit := 0, exchDefault := 0, minRecord := 0,
    keys := [0, 0, 0, 0], steps := l }

/-- A checkpoint at the start of a profile. -/
def start : Checkpoint :=
  { step := 0, stepsRun := 0, session := none, kslots := [], kslotTypes := [], keepLen := 0, resultLen := 0 }

/-- The run of a profile at its next step. -/
def aRun (p : Profile) (next : Option Nat) (run : Nat) (staged : List Staged) : Run :=
  { profile := p, taken := true, param := [], next := next, stepsRun := run, keep := [], staged := staged,
    base := start, baseNext := some 0, baseRe := [], session := none, kslots := [], kslotTypes := [], challenge := [], held := none, reentry := [] }

/-- A placed job on slot 63. -/
def placed (t : Ticket) : Job := { job t with phase := .placed, slot := some 63, lastSlot := 63 }

/-- Slot 63 is held by job 9. -/
def heldBy9 (p : SlotPhase) : State :=
  at63 (fun x => { x with phase := p, enable := true, present := true, job := some 9, vcc := .on, ldo := true }) up

theorem test_Issue :
    let j := { placed (tk 9 1 0) with run := some { aRun (aProfile [aStep]) (some 0) 0 [] with taken := false } };
    let k := { j with ticket := tk 9 2 0 };
    let s := hold j (heldBy9 .ready);
    s.booted = true ∧ s.untaken 9 = some j ∧ j.ticket.isIssue = true ∧
    ((after (.issue 9 [1, 2]) s).findJob 9).map (fun j => (j.run.map (·.taken), j.slot)) = some (some true, some 63) ∧
    k.ticket.isSam = true ∧
    ((after (.samOp 9 []) (hold k (heldBy9 .ready))).findJob 9).map (fun j => j.run.map (·.taken)) = some (some true) := by
  decide +kernel

/-- A SLOT_ADMIN ticket of slot 63. -/
def adm (op : Byte) : Ticket := { tk 9 3 op with pinSlot := 63, paramLen := 8 }

theorem test_SlotAdmin :
    let s := fun (op : Byte) (p : SlotPhase) => hold (placed (adm op)) (heldBy9 p);
    (s 1 .off).booted = true ∧ (s 1 .off).deadlinePassed (placed (adm 1)) = false ∧ (s 1 .off).canActivate 63 = true ∧
    ((s 1 .off).slot 63).check = .idle ∧ ((s 1 .off).slot 63).firstClass = some .c ∧
    ((after (.activate 9) (s 1 .off)).slot 63).phase = .powerWait ∧
    (after (.activate 9) (s 1 .off)).requests.map (·.slot) = [63] ∧
    (s 1 .quarantined).canActivate 63 = false ∧ code (after (.activate 9) (s 1 .quarantined)) = some (.failed, 0x020E) ∧
    ((s 2 .ready).slot 63).phase.live = true ∧ ((after (.deactivate 9) (s 2 .ready)).slot 63).cause = .host ∧
    code (after (.inventory 9 [1, 0, 0, 0, 2, 0, 0, 0]) (s 4 .ready)) = some (.done, 0) ∧
    ((after (.inventory 9 [1, 0, 0, 0, 2, 0, 0, 0]) (s 4 .ready)).slot 63).inventory = [1, 2] := by
  decide +kernel

theorem test_Format :
    let p : FormatParams :=
      { auditBlocksPerTarget := 64, retryLevels := 7, slcPrefix := none, pairedPages := [], factoryBad := [] };
    let s := hold (job (tk 9 4 1)) up;
    (s.ticketOf 9 4 1 = some (job (tk 9 4 1)) ∧ s.mayRun (job (tk 9 4 1)) = true) ∧ s.bank.formatted = false ∧
    code (after (.format 9 p) s) = some (.done, 0) ∧ (after (.format 9 p) s).bank.formatted = true ∧
    (after (.format 9 p) s).nv.wcnt = 1 ∧
    code (after (.format 9 p) (ticketed (tk 9 4 1))) = some (.failed, 0x0702) := by
  decide +kernel

theorem test_BankStatus : canRun (tk 9 4 0xB) (ticketed (tk 9 4 0xB)) ∧
    code (after (.bankStatus 9) (ticketed (tk 9 4 0xB))) = some (.done, 0) := by
  unfold canRun; decide +kernel

theorem test_CounterRelease :
    let t := { tk 9 4 0xC with arg := 255 };
    let c : Counter := { handle := 5, next := 7, top := 64, bound := true };
    let s := { ticketed t with bank.counters := (ticketed t).bank.counters.set 255 c };
    canRun t s ∧ s.bank.counters[255].bound = true ∧ s.counterInUse 255 5 = false ∧
    (after (.counterRelease 9) s).bank.counters[255].bound = false ∧
    (after (.counterRelease 9) s).bank.counters[255].next = 7 ∧
    (after (.counterRelease 9) s).bank.audit.map (fun a => (a.atype, a.counter)) = [(0x0A, 6)] ∧
    code (after (.counterRelease 9)
      { s with bank.keys := [{ handle := 5, ktype := 1, usage := 0, value := [] }] }) = some (.failed, 0x0710) := by
  unfold canRun; decide +kernel

/-- A formatted bank with room, on the targets of `ready`. -/
def roomy (t : Ticket) : State :=
  let p : FormatParams :=
    { auditBlocksPerTarget := 1, retryLevels := 7, slcPrefix := none, pairedPages := [], factoryBad := [] }
  let s := { up with power.board := ready.power.board, nv.lc := .operational }
  hold (job t) { s with bank := { formattedBank p s with targets := [
    { id := 0, endurance := 3000, blocks := 1024, spares := 16, spares0 := 16, offsets := Vector.replicate 4 0,
      mostCorrected := 0 }] } }

/-- A RECORD_WRITE entry: RECORD_ID 5, 3 bytes. -/
def anEntry : List Byte := [5, 0, 0, 0, 0, 0, 0, 0, 3, 0, 0, 0, 0, 0, 0, 0, 0xA, 0xB, 0xC, 0, 0, 0, 0, 0]

theorem test_RecordWrite :
    let t := { tk 9 4 2 with arg := 1, paramLen := 24 };
    canRun t (roomy t) ∧ readBatch 1 ((job t).data anEntry) = ([(5, [0xA, 0xB, 0xC])], true, true) ∧
    (roomy t).hasRoom (unitsOf 3) = true ∧ (after (.recordWrite 9 anEntry) (roomy t)).record 5 = some (1, [0xA, 0xB, 0xC]) ∧
    lastEnd (after (.recordWrite 9 anEntry) (roomy t)) = some (9, .done, 0, [1, 0, 0, 0]) := by
  unfold canRun; decide +kernel

theorem test_RecordDelete :
    let t := { tk 9 4 3 with paramLen := 8 };
    let s := { roomy t with bank.records := [(5, 3, [1]), (6, 1, [2])] };
    canRun t s ∧ (after (.recordDelete 9 [5]) s).record 5 = none ∧ (after (.recordDelete 9 [5]) s).record 6 = some (1, [2]) ∧
    lastEnd (after (.recordDelete 9 [5]) s) = some (9, .done, 0, [1, 0, 0, 0]) ∧
    lastEnd (after (.recordDelete 9 [4]) s) = some (9, .done, 0, [0, 0, 0, 0]) := by
  unfold canRun; decide +kernel

/-- A profile image of one SELECT step, by the layout of R198 and R200. -/
def image : List Byte :=
  let head : List Byte := [1, 0, 1, 0, 7, 1, 0, 1] ++ [0, 0, 0, 0, 5, 0, 0, 0] ++ List.replicate 44 0
  let body : List Byte := [1, 0x20, 0, 0, 5, 0, 0, 0, 0, 0xFF, 0x00, 0x90, 0xFF, 0xFF, 0, 0, 0, 0, 0xFF, 0] ++
    [0x01, 0x80, 0, 0, 0, 0, 0, 0, 0xFD, 0, 0, 0] ++ [0x00, 0xA4, 0x04, 0x00, 0x00]
  head ++ leBytes 4 (crc32 (head ++ [0, 0, 0, 0] ++ body)).toNat ++ body

theorem test_ProfileWrite :
    let t := { tk 9 4 4 with paramLen := 101 };
    canRun t (roomy t) ∧ (parseProfile ((job t).data image)).map (·.id) = some 1 ∧
    (after (.profileWrite 9 image) (roomy t)).image 1 = some image ∧ parseProfile ((job t).data []) = none ∧
    code (after (.profileWrite 9 []) (roomy t)) = some (.failed, 0x060A) := by
  unfold canRun; decide +kernel

theorem test_ProfileDelete :
    let t := { tk 9 4 5 with arg := 1 };
    let s := { roomy t with bank.profiles := [(1, image)] };
    canRun t s ∧ s.profileInUse 1 = false ∧ (s.image 1).isSome = true ∧
    (after (.profileDelete 9) s).image 1 = none ∧ (hold (job (tk 8 1 0)) s).profileInUse 1 = true ∧
    code (after (.profileDelete 9) (hold (job (tk 8 1 0)) s)) = some (.failed, 0x0706) := by
  unfold canRun; decide +kernel

/-- An open entry of a job on slot 63. -/
def entry (id : JobId) (jseq : W64) (step : Nat) : Intent :=
  { slot := 63, step := step, galloper := false, first := false, write := true, jobId := id, jseq := jseq, digest := 0,
    recordId := 0, counter := 0, ctrIdx := 0, profileId := 1, gen := 0, sid := 0, csn := 0, boot := 1, timeMs := 0,
    queued := true, durable := true, outcome := none }

theorem test_Journal :
    let t := { tk 9 4 7 with paramLen := 16 };
    let s := { roomy t with bank.journal := [entry 8 3 1, entry 7 4 1] };
    let p : List Byte := [3, 0, 0, 0, 0, 0, 0, 0, 4];
    canRun t s ∧ allZero (slice ((job t).data p) 9 7) = true ∧ s.findJob 8 = none ∧
    (after (.journalClose 9 p) s).openIntents.map (·.jseq) = [4] ∧
    (after (.journalClose 9 p) s).bank.audit.map (fun a => (a.atype, a.jobId)) = [(3, 8)] ∧
    code (after (.journalClose 9 (5 :: p.drop 1)) s) = some (.failed, 0x0708) ∧
    code (after (.journalClose 9 p) (hold (job (tk 8 1 0)) s)) = some (.failed, 0x0709) ∧
    (let l := { roomy (tk 9 4 6) with bank.journal := [entry 8 3 1, entry 7 4 1] };
      canRun (tk 9 4 6) l ∧ (lastEnd (after (.journalList 9 []) l)).map (·.2.2.2.length) = some 128) := by
  unfold canRun; decide +kernel

/-- An audit entry. -/
def anAudit (a : W64) : AuditEntry :=
  { aseq := a, atype := 1, outcome := 0, ctrIdx := 0, jobId := 8, counter := 1, digest := 0, boot := 1, timeMs := 0,
    chain := List.replicate 32 0 }

theorem test_AuditTickets :
    let r := { tk 9 4 8 with paramLen := 12 };
    let a := { tk 9 4 9 with paramLen := 16 };
    let m := { tk 9 4 0xA with paramLen := 8 };
    let s := fun t => { roomy t with bank.audit := [anAudit 1, anAudit 2], bank.aseqNext := 3, bank.attested := 1 };
    canRun r (s r) ∧ canRun a (s a) ∧ canRun m (s m) ∧
    (lastEnd (after (.auditRead 9 [2, 0, 0, 0, 0, 0, 0, 0, 9]) (s r))).map (·.2.2.2.length) = some 80 ∧
    (after (.auditAttest 9 []) (s a)).bank.attested = 2 ∧ (after (.auditAttest 9 []) (s a)).nv.wcnt = 1 ∧
    (after (.auditTrim 9 [1]) (s m)).bank.audit.map (·.aseq) = [2] ∧
    code (after (.auditTrim 9 [2]) (s m)) = some (.failed, 0x070D) := by
  unfold canRun; decide +kernel

/-! ## Keys and tools -/

theorem test_Ceremonies :
    (let s := ticketed (tk 9 5 3); canRun (tk 9 5 3) s ∧ s.nv.lc = .provisioning ∧
      (after (.ceremonyOpen 9) s).sec.cidNext = 2 ∧ code (after (.ceremonyOpen 9) s) = some (.done, 0)) ∧
    (let t := { tk 9 5 7 with arg := 4 };
      let s := { ticketed t with sec.ceremony := some (4, [], [], []) };
      canRun t s ∧ (after (.ceremonyClose 9) s).sec.ceremony = none ∧ told (after (.ceremonyClose 9) s) 0x0B02 = true ∧
      code (after (.ceremonyClose 9) { s with sec.ceremony := some (5, [], [], []) }) = some (.failed, 0x0B03)) := by
  unfold canRun; decide +kernel

theorem test_OwnerSet :
    let a := { tk 9 5 1 with paramLen := 65 };
    let b := { tk 9 5 1 with paramLen := 161 };
    canRun a (ticketed a) ∧ (ticketed a).nv.ownerKey = none ∧
    (after (.ownerSet 9 [4, 7]) (ticketed a)).nv.ownerKey.isSome = true ∧
    canRun b { ticketed b with nv.ownerKey := some [4] } ∧ (ticketed b).sec.ceremony = none ∧
    code (after (.ownerSet 9 [4]) { ticketed b with nv.ownerKey := some [4] }) = some (.failed, 0x0B02) := by
  unfold canRun; decide +kernel

/-- An import packet with no signature worth having. -/
def packet (handle ktype : Byte) (mgmt : Bool) : List Byte :=
  [0, 0, 0, 0] ++ (if mgmt then [0xFF, 0xFF, 0xFF, 0xFF] else [handle, 0, 0, 0]) ++ [ktype, 0, 16, 0] ++
    List.replicate 164 0

theorem test_MgmtSet :
    let t := { tk 9 5 2 with paramLen := 176 };
    canRun t (ticketed t) ∧ packetOk true ((job t).data (packet 0 1 true)) = true ∧
    (ticketed t).importFault ((job t).data (packet 0 1 true)) = some 0x0B03 ∧
    code (after (.mgmtSet 9 (packet 0 1 true)) (ticketed t)) = some (.failed, 0x0B03) := by
  unfold canRun; decide +kernel

theorem test_KeyStore :
    let i := { tk 9 5 4 with paramLen := 176 };
    let d := { tk 9 5 5 with arg := 7 };
    let key : StoredKey := { handle := 7, ktype := 1, usage := 0, value := List.replicate 16 0 };
    let s := fun t => { roomy t with bank.keys := [key] };
    (let r := { s i with nv.lc := .provisioning };
      canRun i r ∧ packetOk false ((job i).data (packet 5 1 false)) = true ∧ r.hasRoom 1 = true ∧
      r.bank.keys.any (fun e => e.handle == 5) = false ∧
      code (after (.keyImport 9 (packet 5 1 false)) r) = some (.failed, 0x0B03)) ∧
    canRun d (s d) ∧ (s d).keyInUse 7 = false ∧ (after (.keyDelete 9) (s d)).bank.keys = [] ∧
    canRun (tk 9 5 6) (s (tk 9 5 6)) ∧
    code (after (.keyList 9) (s (tk 9 5 6))) = some (.done, 0) := by
  unfold canRun; decide +kernel

theorem test_KeyInUse :
    let d := { tk 9 5 5 with arg := 7 };
    let key : StoredKey := { handle := 7, ktype := 1, usage := 0, value := [] };
    let j := { job (tk 8 1 0) with run := some (aRun { aProfile [aStep] with keys := [7, 0, 0, 0] } (some 0) 0 []) };
    let s := hold j { roomy d with bank.keys := [key] };
    s.keyInUse 7 = true ∧ code (after (.keyDelete 9) s) = some (.failed, 0x0B0A) := by
  decide +kernel

theorem test_Cancel :
    let t := { tk 9 6 1 with arg := 8 };
    (let s := hold (job (tk 8 6 0x21)) (ticketed t);
      canRun t s ∧ (s.findJob 8).map (·.phase) = some .queued ∧
      (after (.cancel 9) s).closing.map (fun c => (c.jobId, c.status, c.error)) = [(8, .cancelled, 0x020A), (9, .done, 0)]) ∧
    (ticketed t).findJob 8 = none ∧ code (after (.cancel 9) (ticketed t)) = some (.failed, 0x0210) ∧
    (let s := hold { job (tk 8 1 0) with phase := .started } (ticketed t);
      (tk 8 1 0).nonIdempotent = true ∧ code (after (.cancel 9) s) = some (.failed, 0x020F)) := by
  unfold canRun; decide +kernel

theorem test_UnitClear :
    let t := { tk 9 6 0x20 with arg := 0x3F1 };
    let s := at63 (fun x => { x with phase := .fenced, fenceSrc := .comparator }) (ticketed t);
    canRun t s ∧ unitOf (field t.arg 0 4) (field t.arg 4 8) = some (.slot 63) ∧ s.unitFenced (.slot 63) = true ∧
    s.tamperFence (.slot 63) = false ∧ ((after (.unitClear 9 none) s).slot 63).phase = .off ∧
    told (after (.unitClear 9 none) s) 0x0F03 = true ∧ (after (.unitClear 9 none) s).regs.barrier = [.unitRights] ∧
    code (after (.unitClear 9 (some 0x0904)) s) = some (.failed, 0x0904) ∧
    (let r := at63 (fun x => { x with phase := .fenced, fenceSrc := .tamper }) (ticketed t);
      r.tamperFence (.slot 63) = true ∧ code (after (.unitClear 9 none) r) = some (.failed, 0x0B09)) := by
  unfold canRun; decide +kernel

theorem test_ParamReadFail :
    let t := { tk 9 5 1 with paramLen := 65 };
    (ticketed t).findJob 9 = some (job t) ∧ (job t).phase = .queued ∧ (job t).ticket.paramLen ≠ 0 ∧
    code (after (.paramReadFail 9 []) (ticketed t)) = some (.failed, 0x0A02) := by
  decide +kernel

/-- SBUS_CONFIG's 160 bytes: port 0 in FRAME at 9600 with a map entry for slot 0. -/
def busConfig : List Byte :=
  let port := fun (m : Byte) => [m, 0, 0x80, 0x25, 0, 0, 8, 8, 10, 1, 1, 1, 0xFF, 0xFF, 0, 0]
  port 1 ++ port 0 ++ [0x85, 0x0F] ++ List.replicate 126 0

theorem test_SbusConfig :
    let t := { tk 9 6 0x10 with paramLen := 160 };
    canRun t (ticketed t) ∧ portBlockOk (slice ((job t).data busConfig) 0 16) = true ∧
    portBlockOk (slice ((job t).data busConfig) 16 16) = true ∧
    (List.range 64).all (mapEntryOk ((job t).data busConfig)) = true ∧
    (after (.sbusConfig 9 busConfig) (ticketed t)).ports[0].mode = .frame ∧
    (after (.sbusConfig 9 busConfig) (ticketed t)).sbMap[0] = some { port := 0, station := 5, mu := 15 } ∧
    portBlockOk (slice ((job t).data []) 0 16) = false ∧
    code (after (.sbusConfig 9 []) (ticketed t)) = some (.failed, 0x0202) ∧
    (let s := { ticketed t with slots := (ticketed t).slots.set 0 { Slot.reset with job := some 5 } };
      code (after (.sbusConfig 9 busConfig) s) = some (.failed, 0x0D01)) := by
  unfold canRun; decide +kernel

theorem test_Reports :
    canRun (tk 9 6 0x11) (ticketed (tk 9 6 0x11)) ∧ canRun (tk 9 6 0x21) (ticketed (tk 9 6 0x21)) ∧
    canRun (tk 9 6 0x30) (ticketed (tk 9 6 0x30)) ∧ canRun (tk 9 6 0x40) (ticketed (tk 9 6 0x40)) ∧
    (lastEnd (after (.sbusStatus 9) (ticketed (tk 9 6 0x11)))).map (·.2.2.2.length) = some 288 ∧
    code (after (.faultStatus 9) (ticketed (tk 9 6 0x21))) = some (.done, 0) ∧
    code (after (.marginRead 9) (ticketed (tk 9 6 0x30))) = some (.done, 0) ∧
    (lastEnd (after (.bistReport 9) (ticketed (tk 9 6 0x40)))).map (·.2.2.2) = some [0, 0, 0, 0] := by
  unfold canRun; decide +kernel

/-! ## Placement, jobs and rings -/

/-- A queued SLOT_ADMIN ACTIVATE of slot 63 with an enabled slot. -/
def asking : State := at63 (fun x => { x with enable := true, present := true }) (hold (job (adm 1)) up)

theorem test_ChooseSlot :
    asking.chooseSlot (job (adm 1)) = some 63 ∧ asking.eligible (job (adm 1)) 63 = true ∧
    (hold (job (adm 1)) up).chooseSlot (job (adm 1)) = none ∧
    (∀ n, (hold (job (adm 1)) up).eligible (job (adm 1)) n = false) := by
  decide +kernel

theorem test_PlacementPass :
    asking.placing = true ∧ asking.queuedJobs = [job (adm 1)] ∧ asking.findJob 9 = some (job (adm 1)) ∧
    asking.deadlinePassed (job (adm 1)) = false ∧ asking.hopeless (job (adm 1)) = none ∧
    asking.mustWait (job (adm 1)) = false ∧ asking.chooseSlot (job (adm 1)) = some 63 ∧
    ((after .placementPass asking).slot 63).job = some 9 ∧
    ((after .placementPass asking).findJob 9).map (fun j => (j.phase, j.slot, j.gen)) = some (.placed, some 63, 1) := by
  decide +kernel

theorem test_PlacementEnds :
    (let j := job { adm 1 with deadline := 5 };
      let s := hold j { up with regs.time := 6 };
      s.queuedJobs = [j] ∧ s.deadlinePassed j = true ∧ code (after .placementPass s) = some (.cancelled, 0x0209)) ∧
    (let s := at63 (fun x => { x with phase := .quarantined }) asking;
      s.hopeless (job (adm 1)) = some 0x0207 ∧ code (after .placementPass s) = some (.failed, 0x0207)) ∧
    (let j := job { adm 1 with flags := 4 };
      let s := hold j (hold { job (tk 8 6 1) with seq := 0 } up);
      let k := { j with seq := 1 };
      let r := hold k (hold (job (tk 8 6 1)) up);
      s.queuedJobs = [j] ∧ r.queuedJobs = [k] ∧ r.mustWait k = true ∧ (after .placementPass r).jobs = r.jobs) := by
  decide +kernel

theorem test_IdleWindows :
    let p := { up.tight with slots := up.tight.slots.set 63 { up.planOf 63 with asks := true } };
    let s := at63 (fun x => { x with phase := .ready, enable := true }) { up with tight := p };
    s.queuedJobs = [] ∧ ((after .placementPass s).slot 63).window = true ∧
    ((after .placementPass s).slot 62).window = false := by
  decide +kernel

theorem test_JobDeadline :
    let j := placed { tk 9 1 0 with deadline := 5 };
    let s := hold j { heldBy9 .ready with regs.time := 6 };
    s.booted = true ∧ s.findJob 9 = some j ∧ s.deadlinePassed j = true ∧
    code (after (.jobDeadline 9) s) = some (.cancelled, 0x0209) ∧ ((after (.jobDeadline 9) s).slot 63).job = none := by
  decide +kernel

theorem test_FeedTimeout :
    (let s := at63 (fun x => { x with feed := some (9, 0), job := none, present := false }) (heldBy9 .off);
      (s.slot 63).present = false ∧ ((after (.feedTimeout 63) s).slot 63).feedBlocked = true ∧
      told (after (.feedTimeout 63) s) 0x0206 = true) ∧
    (let s := hold (placed (tk 9 1 0)) (at63 (fun x => { x with feed := some (9, 0), present := false }) (heldBy9 .off));
      (0 : Nat) < s.regs.maxReplace ∧ (s.slot 63).job = some 9 ∧
      ((after (.feedTimeout 63) s).findJob 9).map (fun j => (j.phase, j.gen, j.replaced)) = some (.queued, 1, 1) ∧
      ((after (.feedTimeout 63) s).slot 63).job = none) := by
  decide +kernel

theorem test_StaleResult :
    let s := hold (placed (tk 9 1 0)) (heldBy9 .ready);
    (s.findJob 9).map (·.gen) = some 0 ∧ (after (.staleResult 9 1) s).place.stale = 1 ∧
    told (after (.staleResult 9 1) s) 0x0205 = true := by
  decide +kernel

/-- A Galloper session on slot 63, nothing in flight. -/
def gal : Gal :=
  { code := 3, staged := none, codeMax := 14, depth := 4, sid := 0x55, csnNext := 2, window := [], switching := false,
    quiet := false, expect := .none, ltsNeeded := false, ltsTries := 0, linkErrors := 0, downshifted := false,
    giveUp := none, stopped := false, phases := Vector.replicate 4 60, sweep := none }

/-- Slot 63 in Galloper mode. -/
def galloping (p : SlotPhase) (g : Gal) : State :=
  at63 (fun x => { x with phase := p, enable := true, present := true, proto := .galloper, gal := some g, vcc := .on,
                          ldo := true, rst := true, clk := .run, io := .pushPull, d0PullUp := true, galLimits := true,
                          cls := some .c }) up

theorem test_SweepYield :
    let g := { gal with sweep := some (5, []), expect := .train };
    let s := at63 (fun x => { x with job := some 9 }) (galloping .galloper g);
    (s.slot 63).job.isSome = true ∧ g.sweep.isSome = true ∧ g.giveUp = none ∧
    ((after (.sweepYield 63) s).slot 63).gal.map (·.sweep) = some none := by
  decide +kernel

theorem test_JobSettled :
    let j := { placed (tk 9 1 0) with phase := .resolving, exch := .timeout };
    let o : JOutcome := { result := .done, sw := 0x9000, how := 3, slot := 63, boot := 1, timeMs := 0, queued := true,
                          durable := true };
    let s := fun l => hold j { heldBy9 .ready with bank.journal := l };
    (s []).slotSettled 63 = true ∧
    code (after (.jobSettled 9) (s [entry 9 1 1])) = some (.indeterminate, 0x020D) ∧
    code (after (.jobSettled 9) (s [{ entry 9 1 1 with outcome := some o }])) = some (.done, 0) ∧
    j.exch.mayHaveExecuted = true ∧ j.replaced < (s []).regs.maxReplace ∧
    ((after (.jobSettled 9) (s [])).findJob 9).map (fun j => (j.phase, j.gen)) = some (.queued, 1) := by
  decide +kernel

/-- A completion that waits. -/
def closing : Closing := { closingOf (job (tk 9 6 1)) .done 0 0 with result := [1, 2] }

theorem test_CompletionWrite :
    let s := { rings up with closing := [closing] };
    s.completionReady closing = true ∧ (after .completionWrite s).regs.cqTail = 1 ∧
    (after .completionWrite s).out = [.result 0x2000 [1, 2], .completion 0 closing, .cqTail 1] ∧
    bit (after .completionWrite s).regs.irqStatus 0 = true ∧
    { s with regs.dmaHeld := true }.completionReady closing = false ∧
    (after .completionWrite { s with regs.dmaHeld := true }).closing = [closing] := by
  decide +kernel

/-- An event of slot 63 at a time. -/
def event (at_ : W64) : Event := { code := 0x0106, slot := some 63, arg := 0, time := at_ }

theorem test_EventWrite :
    let s := { rings up with barker.queue := [event 9999] };
    let late := { s with barker.lastAt := s.barker.lastAt.set 63 (some 0) };
    let off := { s with regs.enable := false };
    late.barker.limited (event 9999) = true ∧ (after .eventWrite late).barker.dropped[63] = 1 ∧
    s.barker.limited (event 9999) = false ∧ (after .eventWrite off).barker.held = [(event 9999, 0)] ∧
    (after .eventWrite { off with barker.held := List.replicate 64 (event 0, 0) }).barker.overflow = 1 ∧
    { s with regs.dmaHeld := true }.ringsOpen = false ∧
    (after .eventWrite { s with regs.dmaHeld := true }).barker.queue = [event 9999] ∧
    s.ringsOpen = true ∧ { s with regs.eqHead := 1 }.eqFull = true ∧
    (after .eventWrite { s with regs.eqHead := 1 }).barker.overflow = 1 ∧
    s.eqFull = false ∧ (after .eventWrite s).out = [.event 0 (event 9999) 0, .eqTail 1] := by
  decide +kernel

/-! ## The profile engine -/

/-- An APDU step that changes the card. -/
def writeStep : Step := { aStep with flags := 1, tmpl := [0x80, 0xE2, 0, 0, 0] }

/-- Job 9 on slot 63 with a run. -/
def running (phase : JobPhase) (sp : SlotPhase) (t : Ticket) (r : Run) : State :=
  hold { placed t with phase := phase, run := some r } (at63 (fun x => { x with clk := .run, rst := true, proto := .t1 }) (heldBy9 sp))

theorem test_PrecomputeStages :
    let r := aRun (aProfile [aStep, writeStep]) (some 1) 1 [];
    let s := running .placed .ready (tk 9 2 0) r;
    (s.working 9).map (fun w => w.2.1) = some 63 ∧ (s.slot 63).cardFree = true ∧ r.stops writeStep = false ∧
    journalled { placed (tk 9 2 0) with run := some r } 1 writeStep = true ∧
    ((after (.precompute 9) s).bank.journal.map (fun e => (e.jobId, e.step, e.jseq, e.first))) = [(9, 1, 1, true)] ∧
    (after (.precompute 9) s).bank.counters[0].next = 2 ∧
    (((after (.precompute 9) s).findJob 9).bind (·.run)).map (fun r => r.staged.map (fun c => (c.step, c.sent))) =
      some [(1, false)] := by
  decide +kernel

theorem test_PrecomputeKeepsItsCounter :
    let r := aRun (aProfile [aStep, writeStep]) (some 1) 1 [];
    let s := hold { placed (tk 9 2 0) with run := some r, counter := some (3, 77) }
      (at63 (fun x => { x with clk := .run }) (heldBy9 .ready));
    ((after (.precompute 9) s).bank.journal.map (fun e => (e.counter, e.ctrIdx, e.first))) = [(77, 3, false)] := by
  decide +kernel

theorem test_PrecomputePlainStep :
    let plain := { writeStep with flags := 0 };
    let r := aRun (aProfile [aStep, plain]) (some 1) 1 [];
    let s := running .placed .ready (tk 9 2 0) r;
    journalled { placed (tk 9 2 0) with run := some r } 1 plain = false ∧
    (after (.precompute 9) s).bank.journal = [] ∧
    (((after (.precompute 9) s).findJob 9).bind (·.run)).map (fun r => r.staged.map (·.apdu)) = some [plain.tmpl] := by
  decide +kernel

/-- A staged command of step 1. -/
def staged (kind : ExchKind) (jseq : Option W64) (sent : Bool) : Staged :=
  { step := 1, kind := kind, apdu := [0x80, 0xE2, 0, 0, 0], exp := 0x9000, csn := 0, jseq := jseq, sent := sent, cp := start,
    after := none, afterRe := [] }

theorem test_PrecomputeWaits :
    let st := { writeStep with flags := 0 };
    let r := aRun { aProfile [aStep, st, st] with ahead := 1 } (some 2) 2 [staged .step none true];
    r.stops st = true ∧
    (((after (.precompute 9) (running .started .busy (tk 9 2 0) r)).findJob 9).bind (·.run)).map (·.staged) =
      some [staged .step none true] := by
  decide +kernel

theorem test_Release :
    let r := aRun (aProfile [aStep, writeStep]) (some 1) 1 [staged .step (some 1) false];
    let s := running .placed .ready (tk 9 2 0) r;
    let d := { s with bank.journal := [entry 9 1 1] };
    s.intentDurable (staged .step (some 1) false) = false ∧ ((after (.precomputeRelease 9) s).slot 63).phase = .ready ∧
    d.intentDurable (staged .step (some 1) false) = true ∧ (d.slot 63).takesApdu = true ∧
    ((after (.precomputeRelease 9) d).slot 63).phase = .busy ∧
    ((after (.precomputeRelease 9) d).slot 63).exch.map (fun e => (e.job, e.step, e.cmd)) =
      some (9, 1, [0x80, 0xE2, 0, 0, 0]) ∧
    ((after (.precomputeRelease 9) d).findJob 9).map (·.phase) = some .started := by
  decide +kernel

theorem test_ReleaseTooLate :
    let r := aRun (aProfile [aStep, writeStep]) (some 1) 1 [staged .step none false];
    let s := { running .placed .ready { tk 9 2 0 with deadline := 5 } r with regs.time := 6 };
    (s.working 9).isSome = true ∧ code (after (.precomputeRelease 9) s) = some (.cancelled, 0x0209) := by
  decide +kernel

/-- The step that opens a session. -/
def scStep : Step := { aStep with kind := 2, flags := 0, tmpl := [], karg := 0x00000000 }

/-- A job whose INITIALIZE UPDATE has ended. -/
def opening (resp : List Byte) (sw : W16) : State :=
  let p := { aProfile [aStep, scStep] with scp := 3 }
  let s := running .started .ready (tk 9 2 0) (aRun p (some 2) 2 [staged .initUpdate none true])
  at63 (fun x => { x with ended := [{ kind := .initUpdate, job := 9, gen := 0, step := 1, csn := 0, status := .ok, sw := sw,
                                      resp := resp, how := 1 }] }) s

theorem test_ScOpen :
    (opening [] 0x6A88).initUpdateOf 63 9 [] 0x6A88 = true ∧
    code (after (.scOpen 9 [] 0x6A88) (opening [] 0x6A88)) = some (.failed, 0x8001) ∧
    scParamOk 3 scStep.scI (List.replicate 11 0 ++ [2, 0]) = false ∧
    code (after (.scOpen 9 (List.replicate 11 0 ++ [2, 0]) 0x9000) (opening (List.replicate 11 0 ++ [2, 0]) 0x9000)) =
      some (.failed, 0x0605) ∧
    scParamOk 3 scStep.scI (List.replicate 11 0 ++ [3, 0]) = true := by
  decide +kernel

/-- A prefetch read that decoded at a stage. -/
def read (stage : Nat) : PrefetchRead := { stage := stage, level := 0, corrected := 0, target := 0, block := 1, band := 0 }

theorem test_PrefetchDone :
    let s := { running .placed .ready { tk 9 2 0 with recordId := 5 } (aRun (aProfile [aStep]) (some 0) 0 []) with
               bank.formatted := true, bank.records := [(5, 3, [1, 2])] };
    ((after (.prefetchDone 9 0 (read 4)) s).slot 63).record = some (5, 3, [1, 2]) ∧
    (after (.prefetchDone 9 1 (read 1)) s).place.stale = 1 ∧
    code (after (.prefetchDone 9 0 (read 5)) s) = some (.failed, 0x0705) ∧
    (let h := at63 (fun x => { x with record := some (5, 2, [9]) }) s;
      h.recordHere 63 { placed { tk 9 2 0 with recordId := 5 } with run := some (aRun (aProfile [aStep]) (some 0) 0 []) } = true ∧
      ((after (.prefetchDone 9 0 (read 1)) h).slot 63).record = some (5, 2, [9])) := by
  decide +kernel

/-! ## Slots and their contacts -/

/-- Slot 63 asks for power at class C on a parked ring. -/
def granting : State :=
  let s := at63 (fun x => { x with phase := .powerWait, present := true, enable := true, cls := some .c }) up
  { s.updRing 7 (fun r => { r with phase := .settled, joined := true }) with
    power.vinOk := true, requests := [{ slot := 63, cls := .c, since := 0, wmax := 0, warned := false }] }

theorem test_TokenGrant :
    granting.power.vinOk = true ∧ granting.power.vcoreOk = true ∧ granting.tokensUsed < granting.regs.globalTokens ∧
    granting.nextGrant.map (·.slot) = some 63 ∧ ((after .tokenGrant granting).slot 63).phase = .powering ∧
    ((after .tokenGrant granting).slot 63).token = true ∧ (after .tokenGrant granting).requests = [] ∧
    { granting with requests := [] }.nextGrant = none := by
  decide +kernel

theorem test_AdmitWait :
    let s := { granting with regs.time := 10001 };
    s.regs.waitWarn = 10000 ∧ s.regs.waitWarn < s.regs.time.toNat - 0 ∧ told (after (.admitWait 63) s) 0x0801 = true ∧
    (after (.admitWait 63) s).requests.map (·.warned) = [true] ∧
    told (after (.admitWait 63) { granting with regs.time := 10000 }) 0x0801 = false := by
  decide +kernel

/-- Slot 63 with power. -/
def powered (f : Slot → Slot) : State :=
  at63 (fun x => f { x with phase := .powering, ldo := true, vcc := .ramp, blanked := true, token := true, present := true,
                            cls := some .c, enable := true }) up

theorem test_Powering :
    ((after (.vccQualified 63) (powered id)).slot 63).io = .pullUp ∧
    ((after (.vccQualified 63) (powered id)).slot 63).token = false ∧
    ((after (.clkStart 63) (powered (fun x => { x with qualified := true }))).slot 63).clk = .run ∧
    ((after (.rstRise 63) (powered (fun x => { x with qualified := true, clk := .run }))).slot 63).phase = .atrWait ∧
    ((after (.rstRise 63) (powered (fun x => { x with phase := .atrWait, warm := true, clk := .run }))).slot 63).rst = true ∧
    ((after (.ocBlankingEnd 63) (powered id)).slot 63).blanked = false ∧
    ((after (.vccFail 63) (powered (fun x => { x with failCount := 2 }))).slot 63).failCount = 3 ∧
    ((after (.vccFail 63) (powered id)).slot 63).cause = .vccFail := by
  decide +kernel

/-- Slot 63 going down. -/
def downing (e w : Bool) (st : DeactStep) (f : Slot → Slot) : State :=
  at63 (fun x => f { x with phase := .deactivating, ldo := true, vcc := .on, clk := .run, io := .pullUp, present := true,
                            deact := some { emergency := e, step := st, window := w, reading := none, counted := false } }) up

theorem test_DeactClkStop :
    ((after (.deactClkStop 63) (downing false true .rstLow id)).slot 63).deact.map (·.step) = some .window ∧
    ((after (.deactClkStop 63) (downing false false .rstLow id)).slot 63).deact.map (·.step) = some .linesLow ∧
    ((after (.deactClkStop 63) (downing false false .rstLow id)).slot 63).io = .low := by
  decide +kernel

theorem test_MeasurementWindow :
    let s := downing false true .window id;
    ((after (.measurementWindowEnd 63 ⟨499, 0, 0⟩) s).slot 63).deact.map (·.step) = some .linesLow ∧
    told (after (.measurementWindowEnd 63 ⟨499, 0, 0⟩) s) 0x0106 = false ∧
    told (after (.measurementWindowEnd 63 ⟨0, 500, 0⟩) s) 0x0106 = true ∧
    ((after (.measurementWindowEnd 63 ⟨0, 1499, 0⟩) s).slot 63).fencePending = false ∧
    ((after (.measurementWindowEnd 63 ⟨1500, 0, 0⟩) s).slot 63).fencePending = true := by
  decide +kernel

theorem test_LastDeactSteps :
    ((after (.deactLdoOff 63) (downing false true .linesLow id)).slot 63).ldo = false ∧
    ((after (.emergencyStep 63) (downing true false .rstLow id)).slot 63).clk = .low ∧
    ((after (.emergencyStep 63) (downing true false .clkLow id)).slot 63).io = .low ∧
    ((after (.emergencyStep 63) (downing true false .linesLow id)).slot 63).vcc = .discharge := by
  decide +kernel

theorem test_DeactivationEnd :
    let s := fun f => downing false true .ldoOff f;
    (s id).side.slotOffWait = [] ∧ ((after (.deactivationEnd 63) (s id)).slot 63).phase = .off ∧
    ((after (.deactivationEnd 63) (s id)).slot 63).tOff = true ∧
    ((after (.deactivationEnd 63) (s (fun x => { x with fencePending := true, failCount := 3 }))).slot 63).phase = .fenced ∧
    told (after (.deactivationEnd 63) (s (fun x => { x with fencePending := true }))) 0x0105 = true ∧
    ((after (.deactivationEnd 63) (s (fun x => { x with unstablePending := true }))).slot 63).phase = .unstable ∧
    ((after (.deactivationEnd 63) (s (fun x => { x with failCount := 3 }))).slot 63).phase = .quarantined ∧
    ((after (.deactivationEnd 63) (s (fun x => { x with failCount := 2 }))).slot 63).phase = .off := by
  decide +kernel

theorem test_TOff :
    let s := fun k => at63 (fun x => { x with tOff := true, stepTo := k, present := true, enable := true }) up;
    ((after (.tOffEnd 63) (s none)).slot 63).tOff = false ∧ (s (some .a)).scanLoaded = false ∧
    ((after (.tOffEnd 63) (s (some .a))).slot 63).phase = .powerWait ∧
    ((after (.tOffEnd 63) (s (some .a))).slot 63).cls = some .a ∧
    ((after (.voffAbove 63) up).slot 63).tOff = true := by
  decide +kernel

/-- Slot 63 with a card in use. -/
def inUse (p : SlotPhase) (f : Slot → Slot) : State :=
  at63 (fun x => f { x with phase := p, ldo := true, vcc := .on, qualified := true, present := true, enable := true,
                            cls := some .c, rst := true, clk := .run, io := .pullUp }) up

theorem test_Emergencies :
    let cause := fun (c : Instr) => ((after c (inUse .ready id)).slot 63).cause;
    cause (.overcurrent 63) = .overcurrent ∧ cause (.vccWindow 63) = .vccWindow ∧ cause (.short 63 .vcc) = .short ∧
    ((inUse .ready id).slot 63).shortDecides (.contact .shC8) = true ∧ cause (.removal 63) = .removal ∧
    ((after (.removal 63) (inUse .ready id)).slot 63).present = false ∧
    told (after (.removal 63) (inUse .ready id)) 0x0101 = true ∧
    ((after (.overcurrent 63) (inUse .ready id)).slot 63).rst = false ∧
    ((after (.overcurrent 63) (downing false true .window id)).slot 63).deact.map (·.emergency) = some true := by
  decide +kernel

theorem test_Supplies :
    (after (.supplyTrigger true) up).power.main = .off ∧ (after (.supplyTrigger false) up).regs.enable = false ∧
    (after (.supplyTrigger false) up).power.vinOk = false ∧ (after .refClockLost up).power.main = .reset .refClock ∧
    (after .refClockLost up).standby.log.map (·.code) = [0x0F01] ∧
    (let s := { State.reset with power.main := .reset .refClock, power.refClock := false };
      s.power.vstby = true ∧ (after .refClockRestored s).power.main = .up) ∧
    (after .vstbyFall up).power.main = .off ∧ (after .vinRingRestored State.reset).power.vinOk = true := by
  decide +kernel

theorem test_Presence :
    let off := fun p f => at63 (fun x => f { x with phase := p }) up;
    ((after (.presencePresent 63) (off .off id)).slot 63).present = true ∧
    told (after (.presencePresent 63) (off .off id)) 0x0101 = true ∧
    ((after (.presenceAbsent 63) (off .off (fun x => { x with present := true, inventory := [1] }))).slot 63).inventory = [] ∧
    ((after (.presenceAbsent 63) (off .powerWait (fun x => { x with present := true }))).slot 63).phase = .off ∧
    told (after (.presBand 63) (off .off id)) 0x0102 = true ∧ ((after (.presBand 63) (off .off id)).slot 63).presBand = true := by
  decide +kernel

theorem test_Unstable :
    ((after (.unstable 63 9 0) up).slot 63).phase = .unstable ∧ ((after (.unstable 63 0 33) up).slot 63).phase = .unstable ∧
    ((after (.unstable 63 8 32) up).slot 63).phase = .off ∧ told (after (.unstable 63 9 0) up) 0x0104 = true ∧
    ((after (.unstable 63 9 0) (inUse .ready id)).slot 63).unstablePending = true := by
  decide +kernel

theorem test_Resolution :
    let s := at63 (fun x => { x with present := true, enable := true }) { banked up with bank.journal := [entry 9 1 1] };
    s.booted = true ∧ s.resolutionPlan 63 = [1] ∧ s.canActivate 63 = true ∧ (s.slot 63).firstClass = some .c ∧
    ((after (.resolutionActivation 63) s).slot 63).phase = .powerWait ∧
    ((after (.resolutionActivation 63) s).slot 63).resolution = some [1] := by
  decide +kernel

/-! ## Monitors and rings -/

/-- A check of slot 63 under way. -/
def checked (c : CompId) (f : Slot → Slot) : State := at63 (fun x => f { x with check := .running c }) up

theorem test_SlotComparators :
    CompId.oc.isSlot = true ∧ CompId.oc.isPresence = false ∧
    ((after (.comparatorCheck (.slot 63) .oc) up).slot 63).check = .running .oc ∧
    ((after (.comparatorCheckEnd (.slot 63) .oc none) (checked .oc id)).slot 63).check = .idle ∧
    ((after (.comparatorCheckEnd (.slot 63) .oc (some 0)) (checked .oc id)).slot 63).phase = .fenced ∧
    ((after (.comparatorCheckEnd (.slot 63) .presA (some 2)) (checked .presA id)).slot 63).fenceCode = 0x0902 ∧
    told (after (.comparatorCheckEnd (.slot 63) .oc (some 0)) (checked .oc id)) 0x0901 = true ∧
    (let s := checked .oc (fun x => { x with actWait := true, present := true, enable := true });
      s.canActivate 63 = true ∧ ((after (.comparatorCheckEnd (.slot 63) .oc none) s).slot 63).phase = .powerWait) ∧
    (let s := checked .oc (fun x => { x with phase := .ready, ldo := true });
      ((after (.comparatorCheckEnd (.slot 63) .oc (some 1)) s).slot 63).phase = .deactivating ∧
      ((after (.comparatorCheckEnd (.slot 63) .oc (some 1)) s).slot 63).fencePending = true) := by
  decide +kernel

theorem test_RingComparators :
    let s := fun c => up.updRing 7 (fun r => { r with checks := [c], checkDue := true });
    CompId.ot.isRing = true ∧ CompId.sbSh.isStandby = true ∧ CompId.ot.isStandby = false ∧
    (after (.comparatorCheck (.ring 7) .ot) up |>.ring 7).checks = [.ot] ∧
    ((after (.comparatorCheckEnd (.ring 7) .ot none) (s .ot)).ring 7).checkDue = false ∧
    ((after (.comparatorCheckEnd (.ring 7) .sbSh (some 0)) (s .sbSh)).ring 7).rotationStopped = true ∧
    ((after (.comparatorCheckEnd (.ring 7) .sbSh (some 0)) (s .sbSh)).ring 7).fenced = false ∧
    ((after (.comparatorCheckEnd (.ring 7) .ot (some 0)) (s .ot)).ring 7).fenced = true := by
  decide +kernel

theorem test_SupplyComparator :
    CompId.vinHi.isDevice = true ∧ State.reset.regs.enable = false ∧
    (after (.comparatorCheckEnd .device .vinHi (some 2)) State.reset).power.board.supplyFail = some (.vinHi, 2) := by
  decide +kernel

theorem test_Rotation :
    let r := slotOfRing 7 7;
    let s := inUse .ready id;
    let t := s.updRing 7 (fun x => { x with rotation := some (7, .vsc) });
    r = 63 ∧ ((after (.rotationCheck 7 7 .vsc) s).ring 7).rotation = some (7, .vsc) ∧
    ((after (.handoverEnd 7 true) t).ring 7).standbyHolds = true ∧
    ((after (.handoverEnd 7 true) (t.updRing 7 (fun x => { x with standbyHolds := true }))).ring 7).rotation = none ∧
    .sbI ∈ ((after (.handoverEnd 7 false) t).ring 7).checks ∧ ((after (.handoverEnd 7 false) t).slot 63).check = .running .vsc := by
  decide +kernel

theorem test_PresAndTwinChecks :
    ((after (.presCheck 63) up).slot 63).check = .running .presA ∧
    ((after (.presCheck 63) (at63 (fun x => { x with presNext := true }) up)).slot 63).check = .running .presR ∧
    (let s := up.updRing 7 (fun r => { r with phase := .settled });
      .uvA ∈ ((after (.twinCheck 7) s).ring 7).checks ∧ ((after (.twinCheck 7) s).ring 7).twinB = true ∧
      .ovB ∈ ((after (.twinCheck 7) (s.updRing 7 (fun r => { r with twinB := true }))).ring 7).checks) := by
  decide +kernel

/-- Ring 7's converter. -/
def conv (p : RailPhase) (f : Ring → Ring) : State := up.updRing 7 (fun r => f { r with phase := p, joined := p != .off })

theorem test_Converters :
    let req : Request := { slot := 63, cls := .a, since := 0, wmax := 0, warned := false };
    ((after (.ringParked 7) (conv .starting (fun r => { r with headroomNext := some 9 }))).ring 7).headroom = 9 ∧
    ((after (.railRetarget 7) { conv .settled id with requests := [req] }).ring 7).railCls = .a ∧
    ((after (.railRetarget 7) { conv .settled id with requests := [req] }).ring 7).phase = .ramping ∧
    ((after (.railRetarget 7) (conv .settled id)).ring 7).phase = .settled ∧
    ((after (.railSettled 7) (conv .ramping id)).ring 7).phase = .settled ∧
    (let s := conv .settled (fun r => { r with railCls := .a, downHold := true });
      classRank (s.ringClass 7) < classRank (s.ring 7).railCls ∧ ((after (.downHoldEnd 7) s).ring 7).railCls = .c ∧
      ((after (.downHoldEnd 7) { s with requests := [req] }).ring 7).railCls = .a) ∧
    (let s := { conv .settled (fun r => { r with railCls := .a, downHold := true }) with
                requests := [{ req with cls := .c }] };
      ((after (.downHoldEnd 7) s).ring 7).postponed = true) := by
  decide +kernel

theorem test_RingFaults :
    let fenced := fun (c : Instr) (p : RailPhase) =>
      ((after c (conv p id)).ring 7).fenced && ((after c (conv p id)).slot 63).phase == .fenced;
    fenced (.ringUv 7) .settled = true ∧ fenced (.ringOv 7) .ramping = true ∧ fenced (.ringOc 7) .starting = true ∧
    fenced (.ringOt 7) .settled = true ∧ fenced (.ringStart 7) .starting = true ∧ fenced (.ringSettle 7) .ramping = true ∧
    (after (.ringUv 7) (conv .settled id)).regs.errFirst = 0x80000801 ∧
    (after (.ringSettle 7) (conv .ramping id)).regs.errFirst = 0x80000806 := by
  decide +kernel

/-! ## The bank's durability -/

theorem test_JournalCommit :
    let s := { banked up with bank.journal := [{ entry 9 1 1 with durable := false }] };
    let p := after .journalGroupCommit s;
    s.bank.journal.any Intent.waits = true ∧ p.bank.journal.map (·.queued) = [false] ∧
    p.bank.journal.any Intent.programming = true ∧ (after .journalDurable p).bank.journal.map (·.durable) = [true] := by
  decide +kernel

theorem test_IssueResult :
    let o : JOutcome := { result := .done, sw := 0x9000, how := 1, slot := 63, boot := 1, timeMs := 0, queued := false,
                          durable := false };
    let s := { banked up with bank.journal := [{ entry 9 1 1 with queued := false, outcome := some o }],
                              bank.issueEnds := [{ jobId := 9, counter := 4, ctrIdx := 0, done := true }] };
    s.bank.journal.any Intent.programming = true ∧
    (s.bank.journal.all (fun e => e.outcome.isSome && !e.waits)) = true ∧
    (after .journalDurable s).bank.audit.map (fun a => (a.atype, a.jobId, a.counter)) = [(1, 9, 4)] := by
  decide +kernel

theorem test_JournalCopyAndErase :
    let o : JOutcome := { result := .done, sw := 0, how := 1, slot := 63, boot := 1, timeMs := 0, queued := false,
                          durable := true };
    let b := { up with power.board := ready.power.board };
    let s := { banked b with bank.copyDue := true, bank.journal := [entry 9 1 1, { entry 8 2 1 with outcome := some o }] };
    s.mirrorChans.contains 0 = true ∧ (after (.journalCopy 0) s).bank.copyDue = false ∧
    (after (.journalBlockErase 2) s).bank.journal.map (·.jseq) = [1] ∧
    (after (.journalBlockErase 1) s).bank.journal.map (·.jseq) = [1, 2] := by
  decide +kernel

theorem test_Rpp :
    let s := { banked up with bank.rppValid := true, bank.aseqNext := 3, nv.wcnt := 7 };
    (after .rppWrite s).nv.wcnt = 8 ∧ (after .rppWrite s).bank.rppWc = 7 ∧ (after .rppWrite s).bank.anchorAseq = 2 ∧
    (after .anchorUpdate s).bank.anchorAseq = 2 ∧ (after .anchorUpdate { s with bank.aseqNext := 1 }).nv.wcnt = 7 ∧
    (after .rppWrite { s with bank.rppValid := false }).nv.wcnt = 7 := by
  decide +kernel

/-- A good block of target 0. -/
def aBlock (i erases reads : Nat) : Block :=
  { target := 0, index := i, bad := false, erases := erases, reads := reads, refresh := false, padDue := true }

/-- A bank of listed blocks on target 0. -/
def blocks (l : List Block) : State :=
  let s := { up with power.board := ready.power.board }
  { s with bank := { (roomy (tk 9 4 1)).bank with blocks := l } }

theorem test_Blocks :
    let s := blocks [aBlock 1 0 100000, aBlock 2 201 0];
    ((after (.pagePad 0 1) s).block 0 1).map (·.padDue) = some false ∧
    ((after (.blockRelocate 0 1) s).block 0 1).map (·.reads) = some 0 ∧
    ((after (.blockRelocate 0 2) s).block 0 2).map (·.padDue) = some true ∧
    (leastErased (s.wearBlocks 0)).map (·.index) = some 1 ∧ ((after (.wearLevel 0) s).block 0 1).map (·.reads) = some 0 ∧
    ((after (.wearLevel 0) (blocks [aBlock 1 0 5, aBlock 2 200 0])).block 0 1).map (·.reads) = some 5 := by
  decide +kernel

theorem test_Media :
    let s := blocks [aBlock 1 2998 5, aBlock 2 2999 0];
    ((after (.mediaProgramDone 0 1 true true) s).block 0 1).map (fun b => (b.erases, b.bad)) = some (2999, false) ∧
    ((after (.mediaProgramDone 0 2 true true) s).block 0 2).map (·.bad) = some true ∧
    ((after (.mediaProgramDone 0 1 false false) s).block 0 1).map (·.bad) = some true ∧
    (after (.mediaProgramDone 0 1 false false) s).bank.targets.map (·.spares) = [15] ∧
    told (after (.mediaProgramDone 0 1 false false) s) 0x0706 = true ∧
    (let p := { s with bank.fmt := some { auditBlocksPerTarget := 64, retryLevels := 7, slcPrefix := none,
                                          pairedPages := [1], factoryBad := [] } };
      p.hasPairedPages = true ∧ ((after (.mediaProgramDone 0 7 false true) p).block 0 7).map (·.padDue) = some true) := by
  decide +kernel

/-! ## The card link -/

/-- Slot 63 awaits its ATR at class C. -/
def awaiting (f : Slot → Slot) : State := inUse .atrWait (fun x => f { x with rst := true })

/-- No fault seen. -/
def clean : CharFaults := { parity := false, gap := false }

theorem test_Atr :
    let t0 : List Byte := [0x3B, 0x00];
    let t1 : List Byte := [0x3B, 0x80, 0x01, 0x81];
    let s := awaiting id;
    let pps := awaiting (fun x => { x with cfgB := 0x0000046A ||| 8 });
    (s.slot 63).job = none ∧ (s.slot 63).warmDue = false ∧ atrIntact t0 clean = true ∧ (readAtr t0).broken = false ∧
    (readAtr t0).excludes (some .c) = false ∧ ((after (.atrReceived 63 t0 clean) s).slot 63).phase = .ready ∧
    ((after (.atrReceived 63 t0 clean) s).slot 63).proto = .t0 ∧ atrIntact t1 clean = true ∧
    ((after (.atrReceived 63 t1 clean) s).slot 63).exch.map (·.kind) = some .sIfs ∧
    atrIntact [0x3B] clean = false ∧ ((after (.atrReceived 63 [0x3B] clean) s).slot 63).cause = .atrError ∧
    (let off : List Byte := [0x3B, 0x80, 0x80, 0x1F, 0x01, 0x1E];
      atrIntact off clean = true ∧ (readAtr off).excludes (some .c) = true ∧
      ((after (.atrReceived 63 off clean) s).slot 63).cause = .classStep) ∧
    (let bad : List Byte := [0x3B, 0x80, 0x05, 0x85];
      atrIntact bad clean = true ∧ (readAtr bad).broken = true ∧
      ((after (.atrReceived 63 bad clean) s).slot 63).cause = .atrError) ∧
    (let fast : List Byte := [0x3B, 0x10, 0x95];
      (readAtr fast).proposal (pps.slot 63).ppsPolicy false = some (0, some (0x95, 9, 5)) ∧
      ((after (.atrReceived 63 fast clean) pps).slot 63).pps = some [0xFF, 0x10, 0x95, 0x7A]) := by
  decide +kernel

theorem test_NoAtr :
    ((after (.noAtr 63) (awaiting id)).slot 63).cause = .classStep ∧
    ((after (.noAtr 63) (awaiting id)).slot 63).stepTo = some .b ∧
    ((after (.noAtr 63) (awaiting (fun x => { x with cls := some .a }))).slot 63).cause = .noAtr ∧
    ((after (.noAtr 63) (awaiting (fun x => { x with warm := true }))).slot 63).cause = .noAtr ∧
    ((after (.atrGapTimeout 63) (awaiting (fun x => { x with failCount := 3 }))).slot 63).failCount = 3 := by
  decide +kernel

theorem test_Pps :
    let s := awaiting (fun x => { x with pps := some [0xFF, 0x10, 0x95, 0x7A], ppsPlan := some (9, 5, .t0) });
    ppsOutcome [0xFF, 0x10, 0x95, 0x7A] [0xFF, 0x10, 0x95, 0x7A] clean (9, 5, .t0) = some (9, 5, .t0) ∧
    ((after (.ppsResponse 63 [0xFF, 0x10, 0x95, 0x7A] clean) s).slot 63).phase = .ready ∧
    ((after (.ppsResponse 63 [0xFF, 0x10, 0x95, 0x7A] clean) s).slot 63).fiCode = 9 ∧
    ppsOutcome [0xFF, 0x10, 0x95, 0x7A] [0xFF, 0x01, 0xFE] clean (9, 5, .t0) = none ∧
    ((after (.ppsResponse 63 [0xFF, 0x01, 0xFE] clean) s).slot 63).ppsFailed = true ∧
    ((after (.ppsTimeout 63) s).slot 63).cause = .atrError := by
  decide +kernel

/-- An exchange of job 9's step 1. -/
def exch (cmd : List Byte) : Exch :=
  { kind := .step, job := 9, gen := 0, step := 1, cmd := cmd, rest := [], resp := [], respMax := 256, t0Sent := 0,
    t0Expect := 0, t0Errors := 0, t0ErrAt := 0, t0Follow := none, overruns := 0 }

/-- Slot 63 in an exchange under T=1. -/
def t1Busy (e : Exch) (f : T1 → T1) : State :=
  inUse .busy (fun x => { x with proto := .t1, exch := some e, t1 := f { x.t1 with last := [0, 0, 0, 0] } })

/-- A T=1 block with its LRC. -/
def block (pcb : Byte) (inf : List Byte) : RawT1 :=
  let b := [0, pcb, BitVec.ofNat 8 inf.length] ++ inf
  { bytes := b ++ [xorAll b], parity := false, overruns := 0 }

theorem test_IBlock :
    let s := t1Busy (exch []) id;
    s.t1Awaits 63 = true ∧ t1Read false (block 0x00 [0x90, 0x00]) = some (0x00, [0x90, 0x00]) ∧
    ((after (.iBlock 63 (block 0x00 [7, 0x90, 0x00])) s).slot 63).ended.map (fun e => (e.status, e.sw, e.resp)) =
      [(.ok, 0x9000, [7])] ∧
    ((after (.iBlock 63 (block 0x20 [7])) s).slot 63).exch.map (·.resp) = some [7] ∧
    ((after (.iBlock 63 (block 0x20 [7])) s).slot 63).t1.nr = true ∧
    (after (.iBlock 63 (block 0x20 [7])) s).out = [.chars 63 [0x00, 0x90, 0x00, 0x90]] ∧
    t1Read false { block 0 [] with parity := true } = none ∧
    ((after (.iBlock 63 { block 0 [] with parity := true }) (t1Busy (exch []) (fun t => { t with attempts := 2 }))).slot 63).t1.attempts = 3 := by
  decide +kernel

theorem test_RBlock :
    let s := t1Busy { exch [] with rest := [1, 2, 3] } (fun t => { t with chaining := true, ifsc := 2, ns := true });
    t1Read false (block 0x90 []) = some (0x90, []) ∧ s.stopAsked 63 = false ∧
    ((after (.rBlock 63 (block 0x90 [])) s).slot 63).exch.map (·.rest) = some [3] ∧
    ((after (.rBlock 63 (block 0x90 [])) s).slot 63).t1.ns = false ∧
    (after (.rBlock 63 (block 0x80 [])) s).out = [.chars 63 [0, 0, 0, 0]] := by
  decide +kernel

theorem test_SBlocks :
    let s := t1Busy (exch []) id;
    ((after (.sIfsRequest 63 0xFE) s).slot 63).t1.ifsc = 254 ∧ ((after (.sIfsRequest 63 1) s).slot 63).t1.ifsc = 1 ∧
    ((after (.sWtxRequest 63 0xFF) s).slot 63).t1.wtx = 255 ∧
    ((after (.sAbortRequest 63) s).slot 63).ended.map (·.status) = [.aborted] ∧
    ((after (.sAbortResponse 63) (t1Busy (exch []) (fun t => { t with abortOut := true }))).slot 63).ended.map (·.status) =
      [.aborted] ∧
    ((after (.sIfsResponse 63 0xFE) (t1Busy { exch [] with kind := .sIfs } (fun t => { t with ifsOut := true }))).slot 63).phase =
      .ready := by
  decide +kernel

theorem test_T1Errors :
    let s := fun f => t1Busy (exch []) f;
    ((after (.bwtTimeout 63) (s id)).slot 63).t1.attempts = 1 ∧
    ((after (.cwtOverrun 63) (s (fun t => { t with attempts := 2 }))).slot 63).t1.attempts = 3 ∧
    ((after (.bwtTimeout 63) (s (fun t => { t with attempts := 3 }))).slot 63).t1.resynchOut = true ∧
    (let r := s (fun t => { t with resynchOut := true, resynchs := 3 });
      ((after (.bwtTimeout 63) r).slot 63).ended.map (·.status) = [.timeout] ∧
      ((after (.cwtOverrun 63) r).slot 63).ended.map (·.status) = [.timeout] ∧
      ((after (.iBlock 63 { block 0 [] with parity := true }) r).slot 63).ended.map (·.status) = [.parity] ∧
      ((after (.sResynchResponse 63) r).slot 63).ended.map (·.status) = [.resynched] ∧
      ((after (.sResynchResponse 63) r).slot 63).exch.map (·.kind) = some .sIfs) := by
  decide +kernel

/-- Slot 63 in an exchange under T=0. -/
def t0Busy (e : Exch) : State := inUse .busy (fun x => { x with proto := .t0, exch := some e })

theorem test_T0Ends :
    let s := t0Busy (exch []);
    s.t0Runs 63 = true ∧ ((after (.wtTimeout 63) s).slot 63).ended.map (·.status) = [.timeout] ∧
    ((after (.exchLimit 63) s).slot 63).ended.map (·.status) = [.exchLimit] ∧
    ((after (.lineStuck 63) s).slot 63).ended.map (·.status) = [.lineStuck] := by
  decide +kernel

theorem test_T0Character :
    let s := fun k e at_ => t0Busy { exch [] with t0Expect := k, t0Errors := e, t0ErrAt := at_ };
    ((after (.t0Character 63 7 false false) (s 1 0 0)).slot 63).exch.map (fun e => (e.resp, e.t0Expect)) = some ([7], 0) ∧
    (after (.t0Character 63 7 true false) (s 1 3 0)).out = [.errorSignal 63] ∧
    (after (.t0Character 63 7 false true) (s 1 9 2)).out = [.errorSignal 63] ∧
    ((after (.t0Character 63 7 true false) (s 1 3 0)).slot 63).exch.map (·.t0Errors) = some 4 ∧
    ((after (.t0Character 63 7 true false) (s 1 4 0)).slot 63).ended.map (·.status) = [.parity] := by
  decide +kernel

theorem test_ErrorSignalSeen :
    let e := exch [0x80, 0xE2, 0, 0, 1, 0xAA];
    e.sentChars = [0x80, 0xE2, 0, 0, 1] ∧ (after (.errorSignalSeen 63 4) (t0Busy e)).out = [.chars 63 [1]] ∧
    (after (.errorSignalSeen 63 5) (t0Busy e)).out = [] := by
  decide +kernel

theorem test_ProcedureByte :
    let s := t0Busy { exch [0x80, 0xE2, 0, 0, 2, 0xAA, 0xBB] with t0Errors := 2 };
    ((after (.procedureByte 63 0x60 0) s).slot 63).exch.map (·.t0Errors) = some 0 ∧
    (after (.procedureByte 63 0xE2 0) s).out = [.chars 63 [0xAA, 0xBB]] ∧
    (after (.procedureByte 63 0x1D 0) s).out = [.chars 63 [0xAA]] ∧
    (after (.procedureByte 63 0x61 0x10) s).out = [.chars 63 [0x00, 0xC0, 0x00, 0x00, 0x10]] ∧
    ((after (.procedureByte 63 0x90 0) s).slot 63).ended.map (fun e => (e.status, e.sw)) = [(.ok, 0x9000)] ∧
    ((after (.procedureByte 63 0x50 0) s).slot 63).ended.map (·.status) = [.protocol] := by
  decide +kernel

theorem test_RateAndClock :
    let r : Rate := { f := 512, d := 16, n := 48 };
    ((after (.rateApply 63) (inUse .ready (fun x => { x with shadow := some r }))).slot 63).rate = r ∧
    (let s := inUse .ready (fun x => { x with cfgB := 0x46A, xi := 2 });
      (s.slot 63).clkStopEn = true ∧ ((after (.clockStop 63) s).slot 63).clk = .high ∧
      ((after (.clockStop 63) (inUse .ready (fun x => { x with xi := 1 }))).slot 63).clk = .low ∧
      ((after (.clockRestart 63) (after (.clockStop 63) s)).slot 63).clk = .run) := by
  decide +kernel

theorem test_WarmReset :
    let s := fun p => hold (placed (adm 3)) (at63 (fun x => { x with job := some 9 }) (inUse p id));
    ((after (.warmReset 9) (s .ready)).slot 63).phase = .atrWait ∧ ((after (.warmReset 9) (s .ready)).slot 63).rst = false ∧
    ((after (.warmReset 9) (s .ready)).slot 63).vcc = .on ∧ ((after (.warmReset 9) (s .busy)).slot 63).warm = true ∧
    code (after (.warmReset 9) (s .atrWait)) = some (.failed, 0x020E) := by
  decide +kernel

/-- An ended exchange of job 9's step 1. -/
def report (st : ExchStatus) (sw : W16) : Ended :=
  { kind := .step, job := 9, gen := 0, step := 1, csn := 0, status := st, sw := sw, resp := [7], how := 1 }

/-- Job 9's only command has ended on slot 63. -/
def reported (t : Ticket) (st : Step) (e : Ended) : State :=
  let s := running .started .ready t (aRun (aProfile [aStep, st]) none 2 [staged .step none true])
  at63 (fun x => { x with ended := [e] }) s

theorem test_ExchangeEnd :
    let plain := { writeStep with flags := 4 };
    let s := fun e => reported (tk 9 2 0) plain e;
    swMatches 0x9000 plain.expSw plain.expMask = true ∧
    lastEnd (after (.exchangeEnd 63 0 0) (s (report .ok 0x9000))) = some (9, .done, 0, [7]) ∧
    code (after (.exchangeEnd 63 0 0) (reported (tk 9 2 0) { plain with flags := 0 } (report .ok 0x6A80))) =
      some (.failed, 0x8001) ∧
    ((after (.exchangeEnd 63 0 0) (reported (tk 9 1 0) plain (report .timeout 0))).findJob 9).map (·.phase) =
      some .resolving ∧
    ((after (.exchangeEnd 63 0 0) (s (report .timeout 0))).findJob 9).map (fun j => (j.phase, j.gen)) =
      some (.queued, 1) := by
  decide +kernel

theorem test_StaleExchange :
    let s := inUse .ready (fun x => { x with ended := [report .ok 0x9000] });
    s.findJob 9 = none ∧ (after (.exchangeEnd 63 0 0) s).place.stale = 1 ∧
    told (after (.exchangeEnd 63 0 0) s) 0x0205 = true := by
  decide +kernel

/-! ## Galloper mode -/

theorem test_ModeSwitch :
    let e : Ended := { report .ok 0x9000 with kind := .modeSwitch, job := 0, resp := [5, 2] };
    let s := fun e => inUse .ready (fun x => { x with proto := .t1, proposal := some (14, 4, 0x77), ended := [e] });
    switchAnswer (14, 4, 0x77) [5, 2] = some (5, 2) ∧
    ((after (.modeSwitchAnswer 63 true [5, 2] 0x9000) (s e)).slot 63).gal.map (fun g => (g.code, g.depth, g.sid, g.csnNext)) =
      some (5, 2, 0x77, 1) ∧
    ((after (.modeSwitchAnswer 63 true [5, 2] 0x9000) (s e)).slot 63).phase = .galloper ∧
    switchAnswer (14, 4, 0x77) [15, 2] = none ∧
    ((after (.modeSwitchAnswer 63 true [15, 2] 0x9000) (s { e with resp := [15, 2] })).slot 63).galFailed = true ∧
    ((after (.modeSwitchAnswer 63 true [] 0x6A80) (s { e with sw := 0x6A80, resp := [] })).slot 63).galFailed = true ∧
    told (after (.modeSwitchAnswer 63 false [] 0) (s { e with status := .timeout })) 0x0108 = true := by
  decide +kernel

theorem test_GalloperClock :
    let cap : GalCap := { maxCode := 14, depth := 4, classB := true, classC := true, stopOk := true, blockKiB := 8 };
    ((after (.galloperClockApply 63) (galloping .galloper { gal with switching := true })).slot 63).gal.map
      (fun g => (g.switching, g.quiet)) = some (false, true) ∧
    ((after (.quietEnd 63) (galloping .galloper { gal with quiet := true })).slot 63).gal.map (·.quiet) = some false ∧
    gal.free = true ∧
    ((after (.galloperClockStop 63) (at63 (fun x => { x with galCap := some cap }) (galloping .galloper gal))).slot 63).clk =
      .low ∧
    ((after (.galloperClockRestart 63) (galloping .galloper { gal with stopped := true })).slot 63).clk = .run ∧
    ((after (.galloperCodeApply 63) (galloping .galloper { gal with staged := some 2 })).slot 63).gal.map (·.code) =
      some 2 := by
  decide +kernel

/-- A block of segments that carry nothing. -/
def noBlock : RawBlock := { startOk := false, endOk := true, segs := [] }

theorem test_EyeSweep :
    let s := at63 (fun x => { x with window := true }) (galloping .galloper gal);
    ((after (.eyeSweep 63) s).slot 63).gal.map (·.sweep) = some (some (0, [])) ∧
    (let l := fun k l => galloping .galloper { gal with expect := .train, sweep := some (k, l) };
      ((after (.trainPattern 63 noBlock true) (l 126 [])).slot 63).gal.map (fun g => g.sweep.map (·.1)) = some (some 127) ∧
      ((after (.trainPattern 63 noBlock true) (l 127 [])).slot 63).gal.map (·.sweep) = some none ∧
      ((after (.trainPattern 63 noBlock true) (l 127 [])).planOf 63).swept = true) := by
  decide +kernel

/-- A response token (R123, R124): direction 0. -/
def cardToken (op : Nat) (csn len aux : Nat) : W64 :=
  let w : W64 := BitVec.ofNat 64 (op * 2 ^ 56 + csn * 2 ^ 40 + len * 2 ^ 24 + aux * 2 ^ 8 + 1)
  w ||| BitVec.ofNat 64 ((crc7 (tokBits w)).toNat * 2)

/-- A command in flight. -/
def flying : WCmd :=
  { csn := 1, job := 9, gen := 0, step := 1, kind := .step, apdu := [0x80, 0xE2, 0, 0, 0], exp := 0x9000, respMax := 256,
    tx := 1, fetches := 0, accepted := true, refused := false, ready := false, jseq := none }

/-- Slot 63 with one command in flight. -/
def inFlight (w : WCmd) (f : Gal → Gal) : State := galloping .busy (f { gal with window := [w] })

theorem test_RcvToken :
    let w := { flying with accepted := false };
    let s := inFlight w (fun g => { g with expect := .rcv 1 });
    tokRead (cardToken 1 1 0 0) = some { op := 1, csn := 1, len := 0, aux := 0 } ∧
    ((after (.rcvToken 63 (cardToken 1 1 0 0)) s).slot 63).gal.map (fun g => (g.window.map (·.accepted), g.expect)) =
      some ([true], .none) ∧ ((after (.rcvToken 63 (cardToken 1 1 0 0)) s).slot 63).d0Busy = true := by
  decide +kernel

theorem test_RspToken :
    let s := inFlight { flying with ready := true } (fun g => { g with expect := .rsp 1 });
    ((after (.rspToken 63 (cardToken 2 1 2 0x9000)) s).slot 63).gal.map (·.expect) = some (.block 1 2 0x9000) ∧
    ((after (.rspToken 63 (cardToken 2 1 0 0x9000)) s).slot 63).ended.map (fun e => (e.status, e.sw, e.job)) =
      [(.ok, 0x9000, 9)] := by
  decide +kernel

theorem test_ReadBlock :
    let s := inFlight { flying with ready := true } (fun g => { g with expect := .block 1 2 0x9000 });
    let b : RawBlock := { startOk := true, endOk := true, segs := blockSegs [0xAA, 0xBB] };
    let f := inFlight flying (fun g => { g with expect := .block 1 2 0x9000 });
    blockErrors 2 b = [] ∧ blockBytes 2 b = [0xAA, 0xBB] ∧
    ((after (.readBlock 63 b) s).slot 63).ended.map (fun e => (e.status, e.resp)) = [(.ok, [0xAA, 0xBB])] ∧
    blockErrors 2 noBlock ≠ [] ∧
    ((after (.readBlock 63 noBlock) f).slot 63).gal.map (fun g => (g.linkErrors, g.expect)) = some (1, .ltsRsp) ∧
    ((after (.noResponseToken 63) (inFlight flying (fun g => { g with expect := .rsp 1 }))).slot 63).gal.map (·.expect) =
      some .ltsRsp := by
  decide +kernel

theorem test_BusyLines :
    let s := at63 (fun x => { x with d0Busy := true }) (inFlight flying id);
    ((after (.busyEnd 63) s).slot 63).gal.map (·.expect) = some (.rsp 1) ∧ ((after (.busyEnd 63) s).slot 63).d0Busy = false ∧
    ((after (.busyLimit 63) s).slot 63).cause = .busyLimit ∧ ((after (.busyLimit 63) s).slot 63).gal = none ∧
    ((after (.busyLimitIdle 63) (galloping .galloper gal)).slot 63).cause = .busyLimit ∧
    ((after (.c7Stuck 63) s).slot 63).ended.map (·.status) = [.lineStuck] ∧ ((after (.c7Stuck 63) s).slot 63).warmDue = true ∧
    told (after (.c7Stuck 63) s) 0x0108 = true := by
  decide +kernel

/-- A record (R143) of a session with one command. -/
def record (sid : Byte) (csn state : Byte) : List Byte :=
  [1, 0, sid, 0, csn, state, 0x90, 0] ++ List.replicate 15 0

theorem test_LtsRecord :
    let s := inFlight flying (fun g => { g with expect := .ltsBlock });
    let b := fun l => ({ startOk := true, endOk := true, segs := blockSegs l } : RawBlock);
    blockErrors 23 (b (record 0x55 1 3)) = [] ∧ ltsOk (blockBytes 23 (b (record 0x55 1 3))) = true ∧
    (readLts (record 0x55 1 3)).find 1 = some (3, 0x9000) ∧
    ((after (.ltsRecord 63 (b (record 0x55 1 3))) s).slot 63).gal.map (·.expect) = some (.rsp 1) ∧
    ((after (.ltsRecord 63 (b (record 0x55 1 2))) s).slot 63).d0Busy = true ∧
    ((after (.ltsRecord 63 (b (record 0x55 1 4))) s).slot 63).ended.map (·.status) = [.cancelled] ∧
    (readLts (record 0x55 2 3)).find 1 = none ∧
    ((after (.ltsRecord 63 (b (record 0x55 2 3))) s).slot 63).gal.map (fun g => g.window.map (·.tx)) = some [2] := by
  decide +kernel

theorem test_LtsApdu :
    let e : Ended := { report .ok 0x9000 with kind := .ltsApdu, job := 0, resp := record 0x55 1 3 };
    let s := fun e => inUse .ready (fun x => { x with proto := .t1, ended := [e] });
    ((after (.ltsApdu 63 true (record 0x55 1 3) 0x9000) (s e)).slot 63).lts.map (·.sid) = some 0x55 ∧
    ((after (.ltsApdu 63 true [] 0x9000) (s { e with resp := [] })).slot 63).lts = none ∧ ltsOk [] = false ∧
    ((after (.ltsApdu 63 false [] 0) (s { e with status := .timeout })).slot 63).lts = none := by
  decide +kernel

/-! ## Security, faults, margins, the station bus and Sideshow -/

/-- A signed request that names another KIND. -/
def request : SignedReq :=
  { dsn := 0, nonce := List.replicate 16 0, kind := 0x77, signer := 2, argA := 1, argB := 0, argC := 60,
    sig := List.replicate 64 0 }

theorem test_RuleBarrier :
    let s := { up with regs.barrier := [.tamper, .unitRights], side.answerBarriers := 2, regs.epoch := 6,
                       closing := [{ closing with barriers := 1 }] }
    s.mainUp = true ∧ s.regs.barrierOn = false ∧ s.regs.barrier.head? = some .tamper ∧
    (after (.ruleBarrier .tamper) s).regs.barrierOn = true ∧ (after (.ruleBarrier .unitRights) s).regs.barrierOn = false ∧
    (let t := after .ruleBarrierDrained (after (.ruleBarrier .tamper) s);
      t.regs.epoch = 7 ∧ t.regs.barrier = [.unitRights] ∧ t.side.answerBarriers = 1 ∧ t.closing.map (·.barriers) = [0]) := by
  decide +kernel

theorem test_DebugSession :
    let s := { up with sec.debugToken := some (1, 3, 60) }
    s.mainUp = true ∧ s.sec.debugToken.isSome = true ∧ (after .debugClose s).sec.debugToken = none ∧
    (after .debugClose s).regs.barrier = [.debugPort] ∧ told (after .debugClose s) 0x0B04 = true ∧
    (after .debugExpiry s).barker.queue.map (·.arg) = [1] ∧ up.sec.debugToken = none ∧
    (after (.debugToken request) { up with sec.tokenFails := 3 }).sec.tokenFails = 3 ∧
    (after .ceremonyTimeout { up with sec.ceremony := some (1, [], [], []) }).sec.ceremony = none ∧
    told (after .ceremonyTimeout { up with sec.ceremony := some (1, [], [], []) }) 0x0B02 = true := by
  decide +kernel

/-- A request of another KIND is refused whatever the serial number and the signature check say. -/
theorem test_DebugToken : (after (.debugToken request) up).sec.tokenFails = 1 ∧ up.sec.tokenFails = 0 := by
  have h : up.tokenOk request = false := by simp [State.tokenOk, State.requestOk, request]
  refine ⟨?_, by decide +kernel⟩
  have e : after (.debugToken request) up = { renewDebugNonce up with sec.tokenFails := 1 } := by
    show (if up.tokenOk request then openDebug request (renewDebugNonce up)
      else { renewDebugNonce up with sec.tokenFails := up.sec.tokenFails + 1 }) = _
    rw [h]; rfl
  rw [e]

theorem test_DebugHalt :
    let s := { up with nv.lc := .provisioning, faults.leader := some 2 }
    s.mayHalt = true ∧ s.sec.halted.contains (2 : PairId) = false ∧ (∀ j ∈ s.jobs, j.pair ≠ some 2) ∧
    (after (.debugHalt 2) s).pairUp 2 = false ∧ (after (.debugHalt 2) s).faults.leader ≠ some 2 ∧
    s.inService (.pair 2) = true ∧ (after (.debugResume 2) (after (.debugHalt 2) s)).pairUp 2 = true := by
  decide +kernel

theorem test_TapInstructionLoad :
    let s := { up with nv.lc := .manufacturing }
    s.mainUp = true ∧ s.scanLoaded = false ∧ (after (.tapInstructionLoad .sample) s).sec.tap = .sample ∧
    s.debugOpen = true ∧ (∀ n, (s.slot n).phase = .off) ∧ (after (.tapInstructionLoad .extest) s).sec.tap = .extest ∧
    (after (.tapInstructionLoad .intest) { s with nv.lc := .operational }).sec.tap = .bypass ∧
    (after (.tapInstructionLoad .extest) (at63 (fun x => { x with phase := .ready }) s)).sec.tap = .bypass := by
  decide +kernel

theorem test_NoEffect :
    exec .debugClose up = .next up ∧ exec .debugExpiry up = .next up ∧ exec (.busStartStop .nothing) up = .next up ∧
    exec (.retentionCheck none none none) up = .next up ∧ exec .sideshowAnswer up = .next up :=
  ⟨rfl, rfl, rfl, rfl, rfl⟩

/-! Life cycle -/

theorem test_LcDrained :
    let c : LcChange := { target := .operational, job := some 9 };
    let s := { ticketed (tk 9 5 8) with sec.changing := some c };
    let x := { s with bank.audit := [anAudit 5] };
    let q := hold (job (tk 8 1 0)) s;
    let k := { s with nv.lc := .operational, nv.keystoreKey := some [1],
                      sec.changing := some { c with target := .terminated } };
    s.mainUp = true ∧ s.slotHeld = false ∧ s.endedDurable = true ∧ s.lcRefusal .operational = none ∧
    (after .lcDrained s).nv.lc = .operational ∧ (after .lcDrained s).sec.changing = none ∧
    told (after .lcDrained s) 0x0B01 = true ∧ isSwap s.nv.lc .operational = true ∧
    (after .lcDrained s).regs.ready = false ∧ (after .lcDrained q).findJob 8 = none ∧
    x.lcRefusal .operational = some 0x070C ∧ x.findJob 9 = some (job (tk 9 5 8)) ∧
    code (after .lcDrained x) = some (.failed, 0x070C) ∧ (after .lcDrained x).nv.lc = .provisioning ∧
    k.lcRefusal .terminated = none ∧ (after .lcDrained k).nv.lc = .terminated ∧
    (after .lcDrained k).nv.keystoreKey = none ∧ (after .lcDrained k).bank.mediaKey = false := by
  decide +kernel

theorem test_LcWaitTimeout :
    let s := fun (l : LcState) => { heldBy9 .ready with sec.changing := some { target := l, job := none } };
    let q := { hold (job (tk 7 5 8)) (heldBy9 .ready) with sec.changing := some { target := .provisioning, job := some 7 } };
    (∀ n : SlotId, n ≠ 63 → ((s .terminated).slot n).job = none) ∧ ((s .terminated).slot 63).job.isSome = true ∧
    ((s .terminated).slot 63).phase.live = true ∧ ((after .lcWaitTimeout (s .terminated)).slot 63).phase = .deactivating ∧
    (after .lcWaitTimeout (s .terminated)).sec.changing = (s .terminated).sec.changing ∧
    (after .lcWaitTimeout (s .operational)).sec.changing = none ∧ q.findJob 7 = some (job (tk 7 5 8)) ∧
    code (after .lcWaitTimeout q) = some (.failed, 0x070E) := by
  decide +kernel

theorem test_LcTickets :
    let t := { tk 9 5 8 with paramLen := 96 };
    canRun t (ticketed t) ∧ canRun (tk 9 5 9) (ticketed (tk 9 5 9)) ∧ up.mainUp = true ∧
    ((ticketed t).nv.lc = .provisioning ∨ (ticketed t).nv.lc = .operational) ∧
    code (after (.attestId 9) (ticketed (tk 9 5 9))) = some (.done, 0) ∧
    code (after (.lcChange 9 (List.replicate 96 0)) (ticketed t)) = some (.failed, 0x0B02) := by
  unfold canRun; decide +kernel

/-! Tamper -/

theorem test_TamperL2 :
    let s := { heldBy9 .ready with nv.lc := .operational, nv.keystoreKey := some [1] };
    let r := { heldBy9 .ready with nv.lc := .terminated };
    let o := { State.reset with power.main := .off };
    s.power.vstby = true ∧ sensorLevel .mesh = 2 ∧ s.mainUp = true ∧ (after (.tamperL2 .mesh) s).nv.lc = .fencedSecure ∧
    (after (.tamperL2 .mesh) s).nv.keystoreKey = none ∧ ((after (.tamperL2 .mesh) s).slot 63).phase = .fenced ∧
    ((after (.tamperL2 .mesh) s).slot 63).fenceSrc = .tamper ∧ (after (.tamperL2 .mesh) s).jobs = [] ∧
    (after (.tamperL2 .mesh) r).nv.lc = .terminated ∧ (after (.tamperL2 .mesh) r).sec.rightsWithdrawn = true ∧
    ((after (.tamperL2 .mesh) r).slot 63).phase = .deactivating ∧
    o.power.vstby = true ∧ o.standby.tamper = none ∧ (after (.tamperL2 .light) o).standby.tamper = some (2, .light) := by
  decide +kernel

theorem test_TamperL1 :
    let s := { heldBy9 .ready with nv.lc := .operational };
    let r := { s with standby.tamperL1 := [7, 8], power.aonUs := 9000000 };
    s.watches .temperature = true ∧ sensorLevel .temperature = 1 ∧ s.mainUp = true ∧ s.standby.tamper = none ∧
    s.standby.tamperL1 = [] ∧ (after (.tamperL1 .temperature) s).jobs = [] ∧
    (after (.tamperL1 .temperature) s).nv.lc = .operational ∧
    (after (.tamperL1 .temperature) s).standby.log.map (·.code) = [0x0B20] ∧
    r.aonSeconds < 7 + 86400 ∧ (after (.tamperL1 .temperature) r).nv.lc = .fencedSecure ∧
    (after (.tamperSelfTest false) s).out = s.out ++ [.sensorStimulus] ∧
    (after (.tamperSelfTest true) s).standby.log.map (·.code) = [0x0B20] := by
  decide +kernel

/-! Unit errors -/

theorem test_UnitError :
    let s := heldBy9 .ready;
    let r := setUnit (.slot 63) .probation 0x0102 s;
    s.mainUp = true ∧ (unitCodes (.slot 63)).contains 0x0102 = true ∧ s.faults.fatalWindow = none ∧
    s.unitFenced (.slot 63) = false ∧ severityOf 0x0102 = 1 ∧ s.escalates (.slot 63) = false ∧
    (after (.unitError (.slot 63) 0x0102) s).unitPhase (.slot 63) = .recovering ∧
    (after (.unitError (.slot 63) 0x0102) s).regs.errFirst = 0x80000102 ∧
    ((after (.unitError (.slot 63) 0x0102) s).slot 63).phase = .deactivating ∧
    r.escalates (.slot 63) = true ∧ (after (.unitError (.slot 63) 0x0102) r).unitPhase (.slot 63) = .fenced ∧
    told (after (.unitError (.slot 63) 0x0102) r) 0x0F02 = true ∧
    (unitCodes (.slot 63)).contains 0x0103 = true ∧ severityOf 0x0103 ≠ 1 ∧
    (after (.unitError (.slot 63) 0x0103) s).unitPhase (.slot 63) = .service ∧
    told (after (.unitError (.slot 63) 0x0103) s) 0x0F01 = true := by
  decide +kernel

theorem test_PairErrors :
    let s := { up with faults.leader := some 1 };
    s.unitPhase (.pair 1) = .service ∧ s.unitFenced (.pair 1) = false ∧ s.escalates (.pair 1) = false ∧
    (∀ j ∈ s.jobs, j.pair ≠ some 1) ∧ (after (.lockstep 1) s).unitPhase (.pair 1) = .recovering ∧
    (after (.lockstep 1) s).faults.leader ≠ some 1 ∧ (after (.lockstep 1) s).regs.errFirst = 0x80000301 ∧
    (after (.pairWatchdog 1) s).regs.errFirst = 0x80000304 ∧
    (after (.pairWatchdog 1) s).regs.barrier = [.unitRights] ∧
    (let r := setUnit (.pair 1) .recovering 0x0301 s;
      r.recovered (.pair 1) = true ∧ r.faults.fatalWindow = none ∧ r.inService (.pair 0) = true ∧
      (after (.recoveryDone (.pair 1) true) r).unitPhase (.pair 1) = .probation ∧
      told (after (.recoveryDone (.pair 1) true) r) 0x0F03 = true ∧
      (after (.recoveryDone (.pair 1) false) r).unitPhase (.pair 1) = .fenced) ∧
    (after (.probationEnd (.pair 1)) (setUnit (.pair 1) .probation 0 s)).unitPhase (.pair 1) = .service := by
  decide +kernel

theorem test_FatalError :
    let s := heldBy9 .ready;
    let w := { s with faults.fatalWindow := some 0x0F03 };
    fatalCodes.contains 0x0F06 = true ∧ (s.slot 63).phase.live = true ∧ bit s.regs.errFirst 31 = false ∧
    (after (.fatalError 0x0F06) s).faults.fatalWindow = some 0x0F06 ∧
    ((after (.fatalError 0x0F06) s).slot 63).phase = .deactivating ∧ (after (.fatalError 0x0F06) s).jobs = s.jobs ∧
    (after (.fatalError 0x0F06) s).regs.errFirst = 0x80000F06 ∧
    (after .deviceWatchdog s).faults.fatalWindow = some 0x0F08 ∧
    (∀ n, (up.slot n).phase = .off) ∧ up.bank.journal = [] ∧ (after (.fatalError 0x0F06) up).regs.enable = false ∧
    (after (.fatalNested 0x0F04) w).standby.log.map (·.code) = [0x0F09] ∧ (after (.fatalNested 0x0F04) w).jobs = [] ∧
    (after .fatalWindowTimeout w).faults.fatalWindow = none ∧ (after .fatalWindowTimeout w).regs.enable = false := by
  decide +kernel

theorem test_AccessViolation :
    let v : Violation := { master := 0xA, access := 1, region := 0x0C, addr := 0x1234, unit := .device, job := none };
    let d := { v with master := 8 };
    let r := { v with master := 4, unit := .roust 5, job := some 9 };
    up.mainUp = true ∧ masterUnitOk v = true ∧ masterUnitOk d = true ∧ masterUnitOk r = true ∧
    bit up.regs.violInfo 31 = false ∧ (after (.accessViolation v) up).regs.violAddr = 0x1234 ∧
    field (after (.accessViolation v) up).regs.violInfo 0 4 = 0xA ∧
    field (after (.accessViolation v) up).regs.violInfo 8 8 = 0x0C ∧ bit (after (.accessViolation v) up).regs.irqStatus 9 = true ∧
    (after (.accessViolation v) up).regs.errFirst = 0 ∧ (after (.accessViolation d) up).regs.errFirst = 0x80000B10 ∧
    (hold (job (tk 9 1 0)) up).findJob 9 = some (job (tk 9 1 0)) ∧
    code (after (.accessViolation r) (hold (job (tk 9 1 0)) up)) = some (.failed, 0x0A02) := by
  decide +kernel

/-! Tightrope -/

theorem test_SiliconMonitor :
    up.booted = true ∧ (after (.siliconMonitor 1951 599 600 0) up).tight.limits = [3, 1] ∧
    (after (.siliconMonitor 1951 599 600 0) up).barker.queue.map (·.arg) = [1, 3] ∧
    (after (.siliconMonitor 1950 0 0 0) up).tight.limits = [] ∧ (after (.siliconMonitor 1950 0 0 0) up).guardPlanned = 7 := by
  decide +kernel

theorem test_EfficiencyAndRetention :
    let s := conv .settled id;
    (s.ring 7).phase ≠ .off ∧ (s.ring 7).fenced = false ∧ s.ringUnderTest 7 = false ∧
    (after (.efficiencySample 7 79 2001) s).barker.queue.map (fun e => (e.code, e.arg)) = [(0x1003, 0x4F07)] ∧
    (after (.efficiencySample 7 79 2000) s).barker.queue = [] ∧ (after (.efficiencySample 7 80 2001) s).tight.efficiency[7] = 80 ∧
    (after (.retentionCheck (some 150) (some 149) none) s).tight.flashMargin = 149 ∧
    (after (.retentionCheck (some 150) (some 149) none) s).barker.queue.map (·.arg) = [0x10095] ∧
    (after (.retentionCheck (some 150) none none) s).tight.flashLow = false := by
  decide +kernel

theorem test_EyeSweepRequest :
    let s := galloping .galloper gal;
    s.booted = true ∧ s.measured 63 = true ∧ s.sweepDue 63 = true ∧
    ((after (.eyeSweepRequest 63) s).planOf 63).asks = true := by
  decide +kernel

/-- The device with a plan of its own. -/
def planned : State :=
  { up with tight.planSeq := 4, tight.slots := (up.tight.slots).map (fun p => { p with phases := #v[1, 2, 3, 4] }) }

theorem test_PlanEvaluation :
    let s := { planned with tight.drift := #v[[451], [], [], []] };
    planned.planChanges = 0 ∧ (after .planEvaluation planned).tight.planSeq = 4 ∧
    s.planChanges ≠ 0 ∧ (after .planEvaluation s).tight.planSeq = 5 ∧ (after .planEvaluation s).tight.guardBand = 2 ∧
    (after .planEvaluation s).tight.guardNext = some 2 ∧ told (after .planEvaluation s) 0x1001 = true ∧
    bit (after .planEvaluation s).regs.irqStatus 8 = true ∧
    (after .guardSwitch (after .planEvaluation s)).tight.guardApplied = 2 ∧
    (let t := { after .planEvaluation s with regs.time := 8000 };
      t.tight.issuedAt.toNat + 8000 ≤ t.regs.time.toNat ∧ (after .guardForce t).tight.guardApplied = 2 ∧
      (after .guardForce { t with regs.time := 7999 }).tight.guardApplied = 0) := by
  decide +kernel

/-! The station bus -/

/-- A feed for slot 63's station. -/
def feedCmd : SbCmd :=
  { slot := 63, mu := 3, station := 63, eject := false, bin := 0, job := 9, cseq := 5, tx := 0 }

/-- Port 1 changed, in a mode. -/
def bus (m : SbMode) (f : SbPort → SbPort) : State :=
  updPort 1 (fun x => f { x with mode := m, muMask := 8, echo := true, wakeLatch := true })
    (at63 (fun x => { x with feed := some (9, 0) }) up)

/-- A frame of 8 bytes that passes. -/
def frame (id : Nat) (d : List Byte) : SbFrame :=
  { sync := 0x55, pid := pidOf id, data := d, checksum := sbChecksum (pidOf id) d }

theorem test_SbCommandFrame :
    let s := bus .frame (fun x => { x with queue := [feedCmd] });
    s.portIn 1 .frame = true ∧ (s.port 1).polling = none ∧ (s.port 1).nextCmd = some feedCmd ∧
    ((after (.sbCommandFrame 1) s).port 1).out = [{ feedCmd with tx := 1 }] ∧
    ((after (.sbCommandFrame 1) s).port 1).polling = some 3 ∧
    (after (.sbCommandFrame 1) s).out =
      [.sbFrame 1 0xD3 [1, 63, 0, 5, 9, 0, 0, 0] (some (sbChecksum 0xD3 [1, 63, 0, 5, 9, 0, 0, 0])),
       .sbFrame 1 0xA3 [] none] := by
  decide +kernel

theorem test_SbIdle :
    let s := bus .frame id;
    let l := bus .frame (fun x => { x with listening := true });
    (s.port 1).nextCmd = none ∧ bit (s.port 1).muMask 3 = true ∧ ((after (.pollPeriod 1 3) s).port 1).polling = some 3 ∧
    ((after (.listen 1) s).port 1).listening = true ∧ (l.port 1).wakeLatch = true ∧
    ((after (.wake 1) l).port 1).listening = false := by
  decide +kernel

theorem test_PollResponse :
    let c := { feedCmd with tx := 1 };
    let s := fun (c : SbCmd) => bus .frame (fun x => { x with polling := some 3, out := [c] });
    let say := fun (q r : Byte) => after (.pollResponse 1 3 (frame 0x23 [0, q, r, 0, 0, 0, 0, 0])) (s c);
    let bad := { frame 0x23 (List.replicate 8 0) with checksum := 0 };
    ((s c).port 1).outOf 3 = some c ∧ frameOk 0x23 (frame 0x23 (List.replicate 8 0)) = true ∧
    ((say 5 0).port 1).out = [] ∧ ((say 5 0).slot 63).feed = some (9, 0) ∧
    ((say 5 1).slot 63).feed = none ∧ ((say 5 1).slot 63).feedBlocked = true ∧ told (say 5 1) 0x0D03 = true ∧
    ((say 4 0).port 1).queue = [c] ∧
    frameOk 0x23 bad = false ∧ ((after (.pollResponse 1 3 bad) (s c)).port 1).checksums = 1 ∧
    ((after (.pollResponse 1 3 bad) (s c)).port 1).polling = some 3 ∧
    (let n := bus .frame (fun x => { x with polling := some 3 });
      (n.port 1).outOf 3 = none ∧
      told (after (.pollResponse 1 3 (frame 0x23 [7, 0, 0, 0, 0, 0, 0, 0])) n) 0x0D04 = true ∧
      ((after (.respTimeout 1 3) n).port 1).missing = 1) ∧
    ((after (.respTimeout 1 3) (s c)).port 1).queue = [c] ∧
    told (after (.respTimeout 1 3) (s { c with tx := 3 })) 0x0D03 = true := by
  decide +kernel

theorem test_AnnounceAndCollision :
    let s := bus .frame (fun x => { x with sending := some (.poll 3, 2), polling := some 3 });
    frameOk 3 (frame 3 [9, 0, 0, 0, 0, 0, 0, 0]) = true ∧ (s.port 1).listening = false ∧
    byteAt ((after (.announce 1 3 (frame 3 [9, 0, 0, 0, 0, 0, 0, 0])) s).port 1).last[3] 0 = 9 ∧
    ((after (.announce 1 4 (frame 4 [9, 0, 0, 0, 0, 0, 0, 0])) s).port 1).announces = 1 ∧
    ((after (.collision 1) s).port 1).sending = some (.poll 3, 3) ∧ (after (.collision 1) s).out.length = 1 ∧
    ((after (.collision 1) (after (.collision 1) s)).port 1).sending = none := by
  decide +kernel

theorem test_SbStuckLow :
    let s := bus .frame (fun x => { x with queue := [feedCmd] });
    (s.port 1).mode ≠ .off ∧ (s.port 1).stuck = false ∧ ((after (.sbStuckLow 1) s).port 1).stuck = true ∧
    ((after (.sbStuckLow 1) s).port 1).queue = [] ∧ ((after (.sbStuckLow 1) s).slot 63).feed = none ∧
    told (after (.sbStuckLow 1) s) 0x0D03 = true ∧
    ((after (.sbRecovered 1) (after (.sbStuckLow 1) s)).port 1).guarding = true ∧
    told (after (.sbRecovered 1) (after (.sbStuckLow 1) s)) 0x0D02 = true := by
  decide +kernel

theorem test_RtsCts :
    let e := { feedCmd with eject := true, bin := 2 };
    let q := bus .rtsCts (fun x => { x with queue := [e] });
    let s := fun (n : Nat) => bus .rtsCts (fun x => { x with out := [{ e with tx := n }] });
    q.portIn 1 .rtsCts = true ∧ (q.port 1).out = [] ∧
    (after (.rtsCtsMessage 1) q).out = [.sbMessage 1 [2, 0x45, 63, 0x52, 0x28, 3]] ∧
    told (after (.ctsTimeout 1) q) 0x0D03 = true ∧ ((after (.rtsCtsAnswer 1 0x06) (s 1)).port 1).out = [] ∧
    ((after (.rtsCtsAnswer 1 0x15) (s 1)).port 1).queue = [{ e with tx := 1 }] ∧
    ((after (.ackTimeout 1) (s 1)).port 1).missing = 1 ∧ told (after (.rtsCtsAnswer 1 0x15) (s 3)) 0x0D03 = true ∧
    told (after (.ackTimeout 1) (s 3)) 0x0D03 = true := by
  decide +kernel

/-! Sideshow -/

theorem test_SideshowReads :
    let s := { up with standby.log := [{ seq := 1, code := 0x0F01, kindIndex := 0x3F1, severity := 1, reason := 0, seconds := 2 }],
                       regs.mboxTo := 0x01020304, regs.mboxToPending := true };
    let got := fun (c : Instr) => (after c s).out;
    s.power.vstby = true ∧ got .ident = [.smbus [8, 0x40, 0, 0x47, 0x4B, 0xB0, 0, 0, 0]] ∧
    got .status = [.smbus [4, 2, 0, 0, 4]] ∧
    got .presence = [.smbus (8 :: List.replicate 8 0)] ∧
    got .logRead = [.smbus (48 :: [1, 0, 1, 0xF, 0xF1, 3, 1, 0, 2, 0, 0, 0] ++ List.replicate 36 0)] ∧
    (after .logRead s).side.logOffset = 4 ∧ got .mboxRead = [.smbus [4, 4, 3, 2, 1]] ∧
    (after .mboxRead s).regs.mboxToPending = false ∧ s.bridgeUp = true ∧
    (after .fwStatus { State.reset with power.main := .off }).out = [.smbus [4, 0, 0, 0, 0]] ∧
    (after .nonce { State.reset with power.main := .off }).out = [.smbus [0]] := by
  decide +kernel

theorem test_SideshowBuffers :
    up.side.bistCopy.length = 12 ∧ { up with side.nonce := List.replicate 16 1 }.side.nonce.length = 16 ∧
    (after .bistResult up).out = [.smbus (12 :: up.side.bistCopy)] ∧
    (after (.healthSnapshot 0x0148) up).side.snapshot.length = 40 ∧
    (after (.healthSnapshot 0x0148) up).side.snapshot.drop 38 = [0x48, 1] ∧
    (after .health { up with standby.tamper := some (1, .temperature) }).out.map
      (fun o => match o with | .smbus l => (l.length, byteAt l 43) | _ => (0, 0)) = [(49, 1)] := by
  decide +kernel

theorem test_BusCut :
    let p := { up with side.result := .pending };
    (after (.busStartStop (.undefinedCode 0x09)) up).side.result = .badCommand ∧
    (after (.busStartStop (.writeOfRead 0x32)) up).side.cmd = 0x32 ∧
    (after (.busStartStop (.writeOfRead 0x05)) up).side.result = .ok ∧
    (after (.busStartStop (.readOfWrite 0x31)) up).out = [.smbus [0]] ∧
    (after (.busStartStop (.undefinedCode 0x09)) p).out = [.smbusNack] ∧
    (after (.busStartStop (.undefinedCode 0x09)) p).side.result = .pending := by
  decide +kernel

theorem test_SideshowAnswer :
    let s := { up with side.result := .pending, side.answer := some .ok };
    (after .sideshowAnswer s).side.result = .ok ∧
    (after .sideshowAnswer { s with side.answerBarriers := 1 }).side.result = .pending ∧
    (after .lockoutEnd { up with side.locked := true }).side.locked = false := by
  decide +kernel

theorem test_SideshowWrites :
    let w : SbWrite := { data := [18], pecOk := true };
    let m : SbWrite := { data := [4, 3, 2, 1], pecOk := true };
    let o := { State.reset with power.main := .off };
    up.power.vstby = true ∧ up.side.result ≠ .pending ∧ (after (.logSel w) up).side.logOffset = 2 ∧
    (after (.logSel { w with pecOk := false }) up).side.result = .pecFail ∧
    (after (.logSel m) up).side.result = .badLength ∧ (after (.mboxWrite m) o).side.result = .mainUnavailable ∧
    o.bridgeUp = false ∧ (after (.mboxWrite m) up).regs.mboxFrom = 0x01020304 ∧
    bit (after (.mboxWrite m) up).regs.irqStatus 5 = true ∧
    (after (.mboxWrite m) { up with side.result := .pending }).out = [.smbusNack] := by
  decide +kernel

/-- The device with a management key. -/
def keyed : State := { up with nv.mgmtKey := some (List.replicate 16 7) }

theorem test_SideshowKeyless :
    let w : SbWrite := { data := List.replicate 16 0, pecOk := true };
    up.noTagKey = true ∧ (after (.slotOff w) up).side.answer = some .noKey ∧
    (after (.slotOff w) { keyed with side.locked := true }).side.answer = some .lockedOut ∧
    keyed.bridgeUp = true ∧ keyed.side.locked = false ∧ keyed.noTagKey = false := by
  decide +kernel

/-- Data of a privileged command with the tag that its check expects. -/
def tagged (code : Byte) (d : List Byte) (s : State) : List Byte := d ++ s.tagOf code (d ++ List.replicate 8 0)

theorem tagOf_length (code : Byte) (d : List Byte) (s : State) : (s.tagOf code d).length = 8 := by
  simp [State.tagOf, padTo]; omega

/-- Such data passes the check: every clause on a passing tag has operands that meet it. -/
theorem tagged_passes (code : Byte) (d : List Byte) (s : State) :
    (tagged code d s).length = d.length + 8 ∧
    (tagged code d s).drop ((tagged code d s).length - 8) = s.tagOf code (tagged code d s) := by
  have h : (tagged code d s).length = d.length + 8 := by simp [tagged, tagOf_length]
  refine ⟨h, ?_⟩
  have e : ∀ x : List Byte, x.length = 8 → s.tagOf code (d ++ x) = s.tagOf code (d ++ List.replicate 8 0) := by
    intro x hx; simp [State.tagOf, hx]
  rw [h, tagged, e _ (tagOf_length _ _ _)]
  simp

theorem test_SideshowTags :
    (tagged 0x20 (List.replicate 8 0) keyed).length = 16 ∧ (tagged 0x21 [3] keyed).length = 9 ∧
    (tagged 0x31 [0, 0, 0, 0, 9] keyed).length = 13 ∧ keyed.power.vstby = true ∧ keyed.side.result ≠ .pending := by
  simp [tagged, tagOf_length]; decide

theorem test_SideshowEffects :
    let s := { heldBy9 .ready with nv.mgmtKey := some [] };
    let f := { s with fw.standby := .erased };
    ((slotsOff [0, 0, 0, 0, 0, 0, 0, 0x80] s).slot 63).enable = false ∧
    (slotsOff [0, 0, 0, 0, 0, 0, 0, 0x80] s).side.slotOffWait = [63] ∧
    (slotsOff [1, 0, 0, 0, 0, 0, 0, 0] s).side.answer = some .ok ∧
    (sideBist [0xE0] s).side.answer = some .refused ∧ (sideFw [5] s).side.answer = some .refused ∧
    (sideFw [4] s).fw.standby = .empty ∧ (sideFwData [0, 0, 0, 0, 9] f).fw.loaded = [9] ∧
    (sideFwData [1, 0, 0, 0, 9] f).side.answer = some .refused := by
  decide +kernel

/-! ## Well-formedness: for each check a command it refuses -/

/-- A write of n bytes on Sideshow. -/
def wire (n : Nat) : SbWrite := { data := List.replicate n 0, pecOk := true }

/-- A frame of the station bus with n bytes of data. -/
def longFrame (n : Nat) : SbFrame := { sync := 0x55, pid := 0, data := List.replicate n 0, checksum := 0 }

theorem test_wfReset :
    WellFormed (.mainSideReset .perst { Power.noBoard with targets := [goodTarget 1, goodTarget 1] }) = false ∧
    WellFormed (.mainSideReset .perst { Power.noBoard with targets := [goodTarget 1, goodTarget 2] }) = true ∧
    (let c : RppCopy := { wc := 0, tagOk := true, counters := List.replicate 256 (0, 0), anchorAseq := 0,
                          anchorChain := List.replicate 32 0, trim := 0, jseqHw := 0 };
      WellFormed (.bankStart [c]) = true ∧ WellFormed (.bankStart [c, c, c]) = false ∧
      WellFormed (.bankStart [{ c with counters := [] }]) = false ∧
      WellFormed (.bankStart [{ c with anchorChain := [] }]) = false) := by
  decide +kernel

theorem test_wfChecks :
    WellFormed (.slotCheckEnd (some (.uvA, 1))) = false ∧ WellFormed (.slotCheckEnd (some (.vsc, 0))) = false ∧
    WellFormed (.slotCheckEnd (some (.vsc, 4))) = false ∧ WellFormed (.slotCheckEnd (some (.vsc, 3))) = true ∧
    WellFormed (.bistRunEnd 0 (some (.vsc, 1)) []) = false ∧ WellFormed (.bistRunEnd 0 none [(63, .ot, 1)]) = false ∧
    WellFormed (.bistRunEnd 0 (some (.ot, 2)) [(63, .oc, 3)]) = true ∧
    WellFormed (.comparatorCheck (.slot 63) .ot) = false ∧ WellFormed (.comparatorCheck (.ring 7) .vwl) = false ∧
    WellFormed (.comparatorCheck .device .ot) = false ∧ WellFormed (.comparatorCheckEnd (.ring 7) .vwl none) = false ∧
    WellFormed (.comparatorCheckEnd (.ring 7) .sbV1 none) = true ∧ WellFormed (.rotationCheck 7 7 .ot) = false ∧
    WellFormed (.rotationCheck 7 7 .presA) = false ∧ WellFormed (.rotationCheck 7 7 .oc) = true := by
  decide

theorem test_wfTickets :
    WellFormed (.ticketFetch []) = false ∧ WellFormed (.ticketFetch (List.replicate 65536 (tk 9 1 0))) = false ∧
    WellFormed (.ticketFetch [tk 9 1 0]) = true ∧
    WellFormed (.paramReadFail 9 (List.replicate 16777217 0)) = false ∧
    WellFormed (.recordWrite 9 (List.replicate 16777217 0)) = false ∧
    WellFormed (.profileWrite 9 (List.replicate 65537 0)) = false ∧
    WellFormed (.fwWrite 9 (List.replicate 65537 0)) = false ∧
    (let p : FormatParams :=
        { auditBlocksPerTarget := 1, retryLevels := 255, slcPrefix := none, pairedPages := [], factoryBad := [(0, 65535)] };
      WellFormed (.format 9 p) = true ∧ WellFormed (.format 9 { p with retryLevels := 256 }) = false ∧
      WellFormed (.format 9 { p with factoryBad := [(0, 65536)] }) = false) ∧
    WellFormed (.scOpen 9 (List.replicate 257 0) 0) = false ∧ WellFormed (.prefetchDone 9 0 (read 0)) = false ∧
    WellFormed (.prefetchDone 9 0 (read 6)) = false ∧ WellFormed (.prefetchDone 9 0 { read 2 with level := 8 }) = false ∧
    WellFormed (.prefetchDone 9 0 (read 5)) = true := by
  simp only [WellFormed, List.length_replicate]; decide

theorem test_wfLink :
    WellFormed (.atrReceived 63 (List.replicate 34 0) clean) = false ∧
    WellFormed (.ppsResponse 63 (List.replicate 7 0) clean) = false ∧
    WellFormed (.iBlock 63 { bytes := List.replicate 260 0, parity := false, overruns := 0 }) = false ∧
    WellFormed (.rBlock 63 { bytes := List.replicate 260 0, parity := false, overruns := 0 }) = false ∧
    WellFormed (.iBlock 63 (block 0 [1, 2])) = true ∧ WellFormed (.exchangeEnd 63 2 1) = false ∧
    WellFormed (.exchangeEnd 63 1 1) = true ∧ WellFormed (.modeSwitchAnswer 63 true (List.replicate 257 0) 0) = false ∧
    WellFormed (.ltsApdu 63 true (List.replicate 257 0) 0) = false := by
  decide +kernel

theorem test_wfGalloper :
    let b : RawBlock := { startOk := true, endOk := true, segs := blockSegs [0xAA] };
    let c : RawBlock := { b with segs := b.segs.map (fun x => ({ x.1 with bytes := [] }, x.2)) };
    WellFormed (.rcvToken 63 (2 ^ 63)) = false ∧ WellFormed (.rspToken 63 (2 ^ 63)) = false ∧
    WellFormed (.rcvToken 63 (2 ^ 63 - 1)) = true ∧ WellFormed (.readBlock 63 b) = true ∧
    WellFormed (.readBlock 63 c) = false ∧ WellFormed (.ltsRecord 63 c) = false ∧
    WellFormed (.trainPattern 63 c true) = false := by
  decide +kernel

theorem test_wfSecurity :
    WellFormed (.debugLcChange request) = true ∧ WellFormed (.debugLcChange { request with nonce := [] }) = false ∧
    WellFormed (.debugToken { request with sig := [] }) = false ∧
    (let v : Violation := { master := 0xD, access := 2, region := 0, addr := 0, unit := .device, job := none };
      WellFormed (.accessViolation v) = true ∧ WellFormed (.accessViolation { v with access := 3 }) = false ∧
      WellFormed (.accessViolation { v with master := 0xE }) = false) ∧
    WellFormed (.tamperL1 .mesh) = false ∧ WellFormed (.tamperL2 .temperature) = false ∧
    WellFormed (.efficiencySample 7 101 0) = false ∧ WellFormed (.efficiencySample 7 100 0) = true := by
  decide

theorem test_wfWires :
    WellFormed (.pollResponse 1 3 (longFrame 9)) = false ∧ WellFormed (.announce 1 3 (longFrame 9)) = false ∧
    WellFormed (.announce 1 3 (longFrame 8)) = true ∧ WellFormed (.logSel (wire 256)) = false ∧
    WellFormed (.mboxWrite (wire 256)) = false ∧ WellFormed (.slotOff (wire 256)) = false ∧
    WellFormed (.mainReset (wire 256)) = false ∧ WellFormed (.bistStart (wire 256)) = false ∧
    WellFormed (.fwOp (wire 256)) = false ∧ WellFormed (.fwData (wire 256)) = false ∧
    WellFormed (.fwData (wire 255)) = true := by
  simp [WellFormed, wire, longFrame]

end Sys2Proof.Tests
end

namespace Sys2Proof.Machine
open Sys2Proof

/-! # A microsecond on an empty queue -/

theorem tick_eq (s : State) : tick s =
    { s with power.aonUs := if s.power.vstby then s.power.aonUs + 1 else s.power.aonUs,
             regs.time := if s.mainUp ∧ s.power.refClock then s.regs.time + 1 else s.regs.time } := by
  obtain ⟨_, ⟨vstby, main, _, _, refClock⟩⟩ := s
  cases vstby <;> cases refClock <;> cases main <;> rfl

/-- Settles O2: on an empty queue a step is `tick`, which writes the standby counter and TIME alone. -/
theorem emptyQueueCountsOneMicrosecond : Obligations.EmptyQueueCountsOneMicrosecond := by
  intro s hs
  have h := tick_eq s
  exact ⟨tick s, by simp [step, hs], by rw [h], by rw [h], by rw [h]⟩

/-! # READY stands only in an enabled device that runs its firmware

Nearly every operation leaves the gate bits ENABLE, READY, BOOTED and WIND_DOWN as they are; a reset clears them; a
handful of commands move one of them under the guard that the order needs (R34, R316, R338). -/

/-- The gate bits of the registers: ENABLE, READY, BOOTED and WIND_DOWN (R34, R316, R338). -/
structure Gates where
  enable : Bool
  ready : Bool
  booted : Bool
  windDown : Bool

/-- The gate bits as they stand. -/
def Regs.gates (r : Regs) : Gates := ⟨r.enable, r.ready, r.booted, r.windDown⟩

@[simp] theorem Regs.gates_update (r : Regs) (pause dmaHeld fetchStalled mboxToPending mboxFromFull mboxLost cfgCheck
    checkSlot tbBase tbSize tbTail tbHead cqBase cqSize cqHead cqTail eqBase eqSize eqHead eqTail irqStatus irqMask
    slotSel powerBudget schedPolicy errFirst errInfo errCount violAddr violInfo marginStatus mboxTo mboxFrom epoch
    barrier barrierOn timeHold presentHold fencedHold time msixMask msixPending busMaster d3hot fetchFails) :
    Regs.gates ⟨r.enable, pause, r.booted, r.ready, r.windDown, dmaHeld, fetchStalled, mboxToPending, mboxFromFull,
      mboxLost, cfgCheck, checkSlot, tbBase, tbSize, tbTail, tbHead, cqBase, cqSize, cqHead, cqTail, eqBase, eqSize,
      eqHead, eqTail, irqStatus, irqMask, slotSel, powerBudget, schedPolicy, errFirst, errInfo, errCount, violAddr,
      violInfo, marginStatus, mboxTo, mboxFrom, epoch, barrier, barrierOn, timeHold, presentHold, fencedHold, time,
      msixMask, msixPending, busMaster, d3hot, fetchFails⟩ = r.gates := by
  simp only [Regs.gates]

/-- The gate bits of a state. -/
def State.gates (s : State) : Gates := s.regs.gates

@[simp] theorem gates_ite (c : Prop) [Decidable c] (a b : State) :
    (if c then a else b).gates = if c then a.gates else b.gates := by
  split <;> rfl

@[simp] theorem State.gates_mk (pending power regs slots rings requests jobs closing barker place jugs bank nv sec
    faults standby side ports sbMap tight bist fw draws out) :
    State.gates ⟨pending, power, regs, slots, rings, requests, jobs, closing, barker, place, jugs, bank, nv, sec,
      faults, standby, side, ports, sbMap, tight, bist, fw, draws, out⟩ = regs.gates := by
  simp only [State.gates]

@[simp] theorem regs_gates (s : State) : s.regs.gates = s.gates := rfl

/-! ## One lemma per shared operation, in the order of the model: it leaves the gate bits -/

@[simp] theorem State.updSlot_gates (s : State) (n : SlotId) (f : Slot → Slot) :
    (s.updSlot n f).gates = s.gates := by simp [State.updSlot]
@[simp] theorem State.updRing_gates (s : State) (n : RingId) (f : Ring → Ring) :
    (s.updRing n f).gates = s.gates := by simp [State.updRing]
@[simp] theorem forEach_gates {α : Type} (l : List α) (f : α → State → State) (s : State) (h : ∀ a s, (f a s).gates = s.gates) :
    (forEach l f s).gates = s.gates := by
  unfold forEach
  induction l generalizing s with
  | nil => rfl
  | cons a l ih => simp only [List.foldl_cons]; rw [ih, h]
@[simp] theorem fireIrq_gates (n : Nat) (s : State) :
    (fireIrq n s).gates = s.gates := by
  rw [fireIrq_frame]; simp
@[simp] theorem raise_gates (c o a) (s : State) :
    (raise c o a s).gates = s.gates := by simp [raise]
@[simp] theorem latchAt_gates (code kind index slot job esc) (s : State) :
    (latchAt code kind index slot job esc s).gates = s.gates := by simp [latchAt]
@[simp] theorem onlyIf_gates (c : Bool) (f : State → State) (s : State) (h : ∀ s, (f s).gates = s.gates) :
    (onlyIf c f s).gates = s.gates := by
  unfold onlyIf; split
  · exact h s
  · rfl

/-! ### Machine/Ops -/

@[simp] theorem State.updJob_gates (s : State) (id : JobId) (f : Job → Job) :
    (State.updJob s id f).gates = s.gates := by simp [State.updJob]
@[simp] theorem emit_gates (e : Emission) (s : State) :
    (emit e s).gates = s.gates := by simp [emit]
@[simp] theorem sendVector_gates (n : Nat) (s : State) :
    (sendVector n s).gates = s.gates := by simp [sendVector]
@[simp] theorem State.drew_gates (s : State) (n : Nat) :
    (State.drew s n).gates = s.gates := by simp [State.drew]
@[simp] theorem latchError_gates (code : W16) (u : UnitRef) (job : Option JobId) (esc : Bool) (s : State) :
    (latchError code u job esc s).gates = s.gates := by simp [latchError]
@[simp] theorem logStandby_gates (code : W16) (kind index : Nat) (reason : Byte) (s : State) :
    (logStandby code kind index reason s).gates = s.gates := by simp [logStandby]
@[simp] theorem recordViolation_gates (master access region : Nat) (addr : W64) (slot : Option SlotId) (s : State) :
    (recordViolation master access region addr slot s).gates = s.gates := by simp [recordViolation]
@[simp] theorem refuseHostWrite_gates (off : Nat) (s : State) :
    (refuseHostWrite off s).gates = s.gates := by simp [refuseHostWrite]
@[simp] theorem askBarrier_gates (c : RuleCause) (s : State) :
    (askBarrier c s).gates = s.gates := by simp [askBarrier]
@[simp] theorem setUnit_gates (u : UnitRef) (p : UnitPhase) (code : W16) (s : State) :
    (setUnit u p code s).gates = s.gates := by simp [setUnit]
@[simp] theorem leaveQueue_gates (n : SlotId) (s : State) :
    (leaveQueue n s).gates = s.gates := by simp [leaveQueue]
@[simp] theorem recomputeBounds_gates (s : State) :
    (recomputeBounds s).gates = s.gates := by simp [recomputeBounds]
@[simp] theorem joinQueue_gates (n : SlotId) (k : CardClass) (s : State) :
    (joinQueue n k s).gates = s.gates := by simp [joinQueue]
@[simp] theorem requestActivation_gates (n : SlotId) (s : State) :
    (requestActivation n s).gates = s.gates := by simp only [requestActivation]; split <;> simp
@[simp] theorem setPlan_gates (n : SlotId) (p : SlotPlan) (s : State) :
    (setPlan n p s).gates = s.gates := by simp [setPlan]
@[simp] theorem endGalSession_gates (n : SlotId) (s : State) :
    (endGalSession n s).gates = s.gates := by simp only [endGalSession]; split <;> simp
@[simp] theorem endRotation_gates (n : SlotId) (s : State) :
    (endRotation n s).gates = s.gates := by simp only [endRotation]; split <;> simp
@[simp] theorem startNormal_gates (n : SlotId) (c : Cause) (forBist : Bool) (s : State) :
    (startNormal n c forBist s).gates = s.gates := by simp [startNormal]
@[simp] theorem startEmergency_gates (n : SlotId) (c : Cause) (s : State) :
    (startEmergency n c s).gates = s.gates := by simp only [startEmergency]; (repeat' split) <;> simp
@[simp] theorem settle_gates (jseq : W64) (r : JResult) (sw : W16) (how : Nat) (slot : Option SlotId) (s : State) :
    (settle jseq r sw how slot s).gates = s.gates := by simp [settle]
@[simp] theorem settleUnsent_gates (j : Job) (s : State) :
    (settleUnsent j s).gates = s.gates := by
  unfold settleUnsent; split
  · rfl
  · exact forEach_gates _ _ _ fun t s => by split <;> simp
@[simp] theorem audit_gates (atype outcome : Byte) (ctrIdx : Nat) (job : W32) (counter digest : W64) (s : State) :
    (audit atype outcome ctrIdx job counter digest s).gates = s.gates := by simp only [audit, onlyIf]; (repeat' split) <;> simp
@[simp] theorem issueResult_gates (i : IssueEnd) (s : State) :
    (issueResult i s).gates = s.gates := by simp [issueResult]
@[simp] theorem issueResults_gates (s : State) :
    (issueResults s).gates = s.gates := by simp [issueResults]
@[simp] theorem stationCommand_gates (n : SlotId) (eject : Bool) (bin : Byte) (job : JobId) (s : State) :
    (stationCommand n eject bin job s).gates = s.gates := by simp only [stationCommand]; split <;> simp
@[simp] theorem releaseContext_gates (j : Job) (s : State) :
    (releaseContext j s).gates = s.gates := by simp only [releaseContext]; split <;> simp
@[simp] theorem pushClosing_gates (c : Closing) (s : State) :
    (pushClosing c s).gates = s.gates := by simp [pushClosing]
@[simp] theorem slotFreed_gates (n : SlotId) (s : State) :
    (slotFreed n s).gates = s.gates := by simp [slotFreed]
@[simp] theorem freeSlot_gates (j : Job) (st : CStatus) (s : State) :
    (freeSlot j st s).gates = s.gates := by simp only [freeSlot]; split <;> simp
@[simp] theorem noteIssueEnd_gates (j : Job) (st : CStatus) (s : State) :
    (noteIssueEnd j st s).gates = s.gates := by simp only [noteIssueEnd]; split <;> simp
@[simp] theorem noteNoise_gates (j : Job) (s : State) :
    (noteNoise j s).gates = s.gates := by simp only [noteNoise, onlyIf]; (repeat' split) <;> simp
@[simp] theorem noteJournal_gates (s : State) :
    (noteJournal s).gates = s.gates := by simp [noteJournal]
@[simp] theorem noteLeft_gates (j : Job) (s : State) :
    (noteLeft j s).gates = s.gates := by simp [noteLeft]
@[simp] theorem endJobAfter_gates (barriers : Nat) (id : JobId) (st : CStatus) (err : W16) (s : State) :
    (endJobAfter barriers id st err s).gates = s.gates := by simp only [endJobAfter]; split <;> simp
@[simp] theorem endJob_gates (id : JobId) (st : CStatus) (err : W16) (s : State) :
    (endJob id st err s).gates = s.gates := by simp [endJob]
@[simp] theorem replaceJob_gates (id : JobId) (s : State) :
    (replaceJob id s).gates = s.gates := by simp only [replaceJob]; (repeat' split) <;> simp
@[simp] theorem markCut_gates (n : SlotId) (s : State) :
    (markCut n s).gates = s.gates := by simp only [markCut]; split <;> simp
@[simp] theorem lostJob_gates (n : SlotId) (c : Cause) (s : State) :
    (lostJob n c s).gates = s.gates := by simp only [lostJob]; (repeat' split) <;> simp
@[simp] theorem loseNormal_gates (n : SlotId) (c : Cause) (s : State) :
    (loseNormal n c s).gates = s.gates := by simp [loseNormal]
@[simp] theorem loseEmergency_gates (n : SlotId) (c : Cause) (s : State) :
    (loseEmergency n c s).gates = s.gates := by simp [loseEmergency]
@[simp] theorem emergencyAll_gates (c : Cause) (s : State) :
    (emergencyAll c s).gates = s.gates := by simp [emergencyAll]
@[simp] theorem enterFenced_gates (n : SlotId) (src : FenceSrc) (code : W16) (s : State) :
    (enterFenced n src code s).gates = s.gates := by simp [enterFenced]
@[simp] theorem markFence_gates (n : SlotId) (src : FenceSrc) (code : W16) (s : State) :
    (markFence n src code s).gates = s.gates := by simp [markFence]
@[simp] theorem fenceSlotBy_gates (down : SlotId → State → State) (n : SlotId) (src : FenceSrc) (code : W16) (s : State) (hf : ∀ a0 s, (down a0 s).gates = s.gates) :
    (fenceSlotBy down n src code s).gates = s.gates := by simp only [fenceSlotBy]; (repeat' split) <;> simp [*]
@[simp] theorem fenceSlot_gates (n : SlotId) (src : FenceSrc) (code : W16) (s : State) :
    (fenceSlot n src code s).gates = s.gates := by simp [fenceSlot]
@[simp] theorem losePairJobs_gates (p : PairId) (s : State) :
    (losePairJobs p s).gates = s.gates := by
  exact forEach_gates _ _ _ fun j s => by (repeat' split) <;> simp
@[simp] theorem handOver_gates (s : State) :
    (handOver s).gates = s.gates := by simp only [handOver]; (repeat' split) <;> simp
@[simp] theorem loseJuggler_gates (g : JugId) (s : State) :
    (loseJuggler g s).gates = s.gates := by
  simp only [loseJuggler]
  refine (forEach_gates _ _ _ fun id s => ?_).trans rfl
  (repeat' split) <;> simp
@[simp] theorem fenceRing_gates (stopNow : Bool) (down : SlotId → State → State) (r : RingId) (code : W16) (s : State) (hf : ∀ a0 s, (down a0 s).gates = s.gates) :
    (fenceRing stopNow down r code s).gates = s.gates := by simp [fenceRing, *]
@[simp] theorem noteFence_gates (u : UnitRef) (code : W16) (s : State) :
    (noteFence u code s).gates = s.gates := by simp [noteFence]
@[simp] theorem fenceUnit_gates (u : UnitRef) (code : W16) (s : State) :
    (fenceUnit u code s).gates = s.gates := by simp only [fenceUnit]; split <;> simp
@[simp] theorem slotOffDone_gates (n : SlotId) (s : State) :
    (slotOffDone n s).gates = s.gates := by simp [slotOffDone]
@[simp] theorem monFailEvent_gates (code : W16) (slot : Option SlotId) (c : CompId) (step : Nat) (ring : Nat) (s : State) :
    (monFailEvent code slot c step ring s).gates = s.gates := by simp [monFailEvent]
@[simp] theorem decideAbsent_gates (n : SlotId) (s : State) :
    (decideAbsent n s).gates = s.gates := by simp only [decideAbsent, onlyIf]; (repeat' split) <;> simp
@[simp] theorem failSlotComp_gates (n : SlotId) (c : CompId) (step : Nat) (s : State) :
    (failSlotComp n c step s).gates = s.gates := by simp [failSlotComp]
@[simp] theorem startConverter_gates (r : RingId) (s : State) :
    (startConverter r s).gates = s.gates := by simp [startConverter]
@[simp] theorem finish_gates (id : JobId) (st : CStatus) (err : W16) (result : List Byte) (s : State) :
    (finish id st err result s).gates = s.gates := by simp [finish]
@[simp] theorem failJob_gates (id : JobId) (err : W16) (s : State) :
    (failJob id err s).gates = s.gates := by simp [failJob]
@[simp] theorem finishAfterBarrier_gates (id : JobId) (st : CStatus) (err : W16) (s : State) :
    (finishAfterBarrier id st err s).gates = s.gates := by simp [finishAfterBarrier]

/-! ### Machine/Reset -/

@[simp] theorem latchedPresence_gates (e : SlotId × CompId × Nat) (s : State) :
    (latchedPresence e s).gates = s.gates := by simp [latchedPresence]
@[simp] theorem reportSupply_gates (b : Board) (s : State) :
    (reportSupply b s).gates = s.gates := by simp only [reportSupply]; split <;> simp
@[simp] theorem priorReset_gates (s : State) :
    (priorReset s).gates = s.gates := by simp only [priorReset]; split <;> simp
@[simp] theorem captureBist_gates (s : State) :
    (captureBist s).gates = s.gates := by simp [captureBist]
@[simp] theorem restoreCoreBist_gates (s : State) :
    (restoreCoreBist s).gates = s.gates := by simp only [restoreCoreBist]; split <;> simp
@[simp] theorem logSource_gates (src : ResetSource) (s : State) :
    (logSource src s).gates = s.gates := by simp only [logSource]; split <;> simp
@[simp] theorem restoreCounter_gates (i : Fin 256) (h : W32) (top : W64) (s : State) :
    (restoreCounter i h top s).gates = s.gates := by simp [restoreCounter]
@[simp] theorem reserveAll_gates (s : State) :
    (reserveAll s).gates = s.gates := by simp [reserveAll]
@[simp] theorem scanJournal_gates (s : State) :
    (scanJournal s).gates = s.gates := by simp [scanJournal]

/-! ### Machine/Booth -/

@[simp] theorem writeCompletion_gates (s : State) :
    (writeCompletion s).gates = s.gates := by simp only [writeCompletion]; split <;> simp
@[simp] theorem writeEntry_gates (e : Event) (dropped : Nat) (s : State) :
    (writeEntry e dropped s).gates = s.gates := by simp [writeEntry]
@[simp] theorem writeOverflow_gates (s : State) :
    (writeOverflow s).gates = s.gates := by simp [writeOverflow]
@[simp] theorem putEntry_gates (e : Event) (dropped : Nat) (s : State) :
    (putEntry e dropped s).gates = s.gates := by simp [putEntry]
@[simp] theorem writeEvent_gates (s : State) :
    (writeEvent s).gates = s.gates := by simp only [writeEvent]; split <;> simp
@[simp] theorem flushHeld_gates (s : State) :
    (flushHeld s).gates = s.gates := by simp [flushHeld]
@[simp] theorem flushRings_gates (s : State) :
    (flushRings s).gates = s.gates := by simp [flushRings]

/-! ### Machine/HostLink -/

@[simp] theorem sendPending_gates (s : State) :
    (sendPending s).gates = s.gates := by simp [sendPending]
@[simp] theorem dropWrite_gates (s : State) :
    (dropWrite s).gates = s.gates := by simp [dropWrite]
@[simp] theorem askCancel_gates (id : JobId) (err : W16) (s : State) :
    (askCancel id err s).gates = s.gates := by simp [askCancel]
@[simp] theorem cancelNow_gates (id : JobId) (s : State) :
    (cancelNow id s).gates = s.gates := by simp only [cancelNow]; (repeat' split) <;> simp
@[simp] theorem stopUnused_gates (r : RingId) (s : State) :
    (stopUnused r s).gates = s.gates := by simp [stopUnused]
@[simp] theorem stopAllConverters_gates (s : State) :
    (stopAllConverters s).gates = s.gates := by simp [stopAllConverters]
@[simp] theorem windDownStep6_gates (s : State) :
    (windDownStep6 s).gates = s.gates := by simp [windDownStep6]
@[simp] theorem enableSlot_gates (n : SlotId) (s : State) :
    (enableSlot n s).gates = s.gates := by simp [enableSlot]
@[simp] theorem endSlotCheckOf_gates (n : SlotId) (failed : Option (CompId × Nat)) (s : State) :
    (endSlotCheckOf n failed s).gates = s.gates := by
  simp only [endSlotCheckOf]; split <;> simp
@[simp] theorem disableSlot_gates (n : SlotId) (s : State) :
    (disableSlot n s).gates = s.gates := by simp [disableSlot]
@[simp] theorem clearSlot_gates (n : SlotId) (s : State) :
    (clearSlot n s).gates = s.gates := by simp only [clearSlot]; split <;> simp

/-! ### Machine/Fatal -/

@[simp] theorem fatalDown_gates (s : State) :
    (fatalDown s).gates = s.gates := by simp [fatalDown]

/-! ### Machine/Checks -/

@[simp] theorem stopIfDown_gates (r : RingId) (s : State) :
    (stopIfDown r s).gates = s.gates := by simp [stopIfDown]
@[simp] theorem failRingComp_gates (r : RingId) (c : CompId) (step : Nat) (s : State) :
    (failRingComp r c step s).gates = s.gates := by simp [failRingComp]

/-! ### Machine/Bist -/

@[simp] theorem endNotRun_gates (s : State) :
    (endNotRun s).gates = s.gates := by simp [endNotRun]
@[simp] theorem drainRing_gates (r : RingId) (s : State) :
    (drainRing r s).gates = s.gates := by simp [drainRing]
@[simp] theorem startBist_gates (memory source : Bool) (scope : BitVec 4) (s : State) :
    (startBist memory source scope s).gates = s.gates := by simp only [startBist]; (repeat' split) <;> simp
@[simp] theorem hostBist_gates (memory : Bool) (scope : BitVec 4) (s : State) :
    (hostBist memory scope s).gates = s.gates := by simp [hostBist]
@[simp] theorem writeResult_gates (b : BistRun) (sig : W64) (s : State) :
    (writeResult b sig s).gates = s.gates := by simp [writeResult]
@[simp] theorem returnSlots_gates (b : BistRun) (r : RingId) (s : State) :
    (returnSlots b r s).gates = s.gates := by simp [returnSlots]
@[simp] theorem failRingRun_gates (r : RingId) (s : State) :
    (failRingRun r s).gates = s.gates := by simp [failRingRun]

/-! ### Machine/Firmware -/

@[simp] theorem endFw_gates (op : Nat) (result : Nat) (s : State) :
    (endFw op result s).gates = s.gates := by simp [endFw]
@[simp] theorem takeFw_gates (op : Nat) (s : State) :
    (takeFw op s).gates = s.gates := by simp [takeFw]
@[simp] theorem endErase_gates (result : Nat) (s : State) :
    (endErase result s).gates = s.gates := by simp [endErase]

/-! ### Machine/Registers -/

@[simp] theorem writeBase_gates (f : State → State) (s : State) (hf : ∀ s, (f s).gates = s.gates) :
    (writeBase f s).gates = s.gates := by simp [writeBase, *]

/-! ### Machine/Tickets -/

@[simp] theorem takeTicket_gates (t : Ticket) (s : State) :
    (takeTicket t s).gates = s.gates := by simp only [takeTicket]; split <;> simp
@[simp] theorem doneWith_gates (id : JobId) (result : List Byte) (s : State) :
    (doneWith id result s).gates = s.gates := by simp [doneWith]
@[simp] theorem doneWithEntries_gates (j : Job) (header : List Byte) (size : Nat) (l : List (List Byte)) (s : State) :
    (doneWithEntries j header size l s).gates = s.gates := by simp [doneWithEntries]
@[simp] theorem takeUp_gates (id : JobId) (param : List Byte) (s : State) :
    (takeUp id param s).gates = s.gates := by simp [takeUp]
@[simp] theorem startJob_gates (id : JobId) (s : State) :
    (startJob id s).gates = s.gates := by simp [startJob]
@[simp] theorem adminActivate_gates (j : Job) (n : SlotId) (s : State) :
    (adminActivate j n s).gates = s.gates := by simp [adminActivate]
@[simp] theorem adminDeactivate_gates (j : Job) (n : SlotId) (s : State) :
    (adminDeactivate j n s).gates = s.gates := by simp only [adminDeactivate]; split <;> simp
@[simp] theorem adminInventory_gates (param : List Byte) (j : Job) (n : SlotId) (s : State) :
    (adminInventory param j n s).gates = s.gates := by simp [adminInventory]

/-! ### Machine/BankOps -/

@[simp] theorem noParam_gates (f : Job → State → State) (j : Job) (s : State) (hf : ∀ a0 s, (f a0 s).gates = s.gates) :
    (noParam f j s).gates = s.gates := by simp [noParam, *]
@[simp] theorem paramOf_gates (len : Nat) (f : Job → State → State) (j : Job) (s : State) (hf : ∀ a0 s, (f a0 s).gates = s.gates) :
    (paramOf len f j s).gates = s.gates := by simp [paramOf, *]
@[simp] theorem storeRecord_gates (id : W64) (d : List Byte) (s : State) :
    (storeRecord id d s).gates = s.gates := by simp [storeRecord]
@[simp] theorem profileDelete_gates (j : Job) (s : State) :
    (profileDelete j s).gates = s.gates := by simp [profileDelete]
@[simp] theorem journalList_gates (param : List Byte) (j : Job) (s : State) :
    (journalList param j s).gates = s.gates := by simp [journalList]
@[simp] theorem journalClose_gates (param : List Byte) (j : Job) (s : State) :
    (journalClose param j s).gates = s.gates := by simp only [journalClose]; (repeat' split) <;> simp
@[simp] theorem auditRead_gates (param : List Byte) (j : Job) (s : State) :
    (auditRead param j s).gates = s.gates := by simp [auditRead]
@[simp] theorem auditTrim_gates (param : List Byte) (j : Job) (s : State) :
    (auditTrim param j s).gates = s.gates := by simp [auditTrim]

/-! ### Machine/KeyOps -/

@[simp] theorem renewCeremonyNonce_gates (s : State) :
    (renewCeremonyNonce s).gates = s.gates := by simp only [renewCeremonyNonce]; split <;> simp
@[simp] theorem needBank_gates (f : Job → State → State) (j : Job) (s : State) (hf : ∀ a0 s, (f a0 s).gates = s.gates) :
    (needBank f j s).gates = s.gates := by simp [needBank, *]
@[simp] theorem closeCeremony_gates (s : State) :
    (closeCeremony s).gates = s.gates := by simp only [closeCeremony]; split <;> simp
@[simp] theorem ceremonyOpen_gates (j : Job) (s : State) :
    (ceremonyOpen j s).gates = s.gates := by simp [ceremonyOpen]
@[simp] theorem ceremonyClose_gates (j : Job) (s : State) :
    (ceremonyClose j s).gates = s.gates := by simp only [ceremonyClose]; split <;> simp
@[simp] theorem keyImport_gates (param : List Byte) (j : Job) (s : State) :
    (keyImport param j s).gates = s.gates := by simp only [keyImport]; (repeat' split) <;> simp
@[simp] theorem dropCached_gates (h : W32) (s : State) :
    (dropCached h s).gates = s.gates := by simp [dropCached]
@[simp] theorem keyDelete_gates (j : Job) (s : State) :
    (keyDelete j s).gates = s.gates := by simp [keyDelete]
@[simp] theorem keyList_gates (j : Job) (s : State) :
    (keyList j s).gates = s.gates := by simp [keyList]
@[simp] theorem lcChange_gates (param : List Byte) (j : Job) (s : State) :
    (lcChange param j s).gates = s.gates := by simp only [lcChange]; (repeat' split) <;> simp
@[simp] theorem attestId_gates (j : Job) (s : State) :
    (attestId j s).gates = s.gates := by simp [attestId]

/-! ### Machine/ToolOps -/

@[simp] theorem cancelPlaced_gates (k : Job) (s : State) :
    (cancelPlaced k s).gates = s.gates := by simp only [cancelPlaced]; split <;> simp
@[simp] theorem cancelTarget_gates (j : Job) (s : State) :
    (cancelTarget j s).gates = s.gates := by simp only [cancelTarget]; (repeat' split) <;> simp
@[simp] theorem sbusConfig_gates (param : List Byte) (j : Job) (s : State) :
    (sbusConfig param j s).gates = s.gates := by simp [sbusConfig]
@[simp] theorem sbusStatus_gates (j : Job) (s : State) :
    (sbusStatus j s).gates = s.gates := by simp [sbusStatus]
@[simp] theorem restoreSlot_gates (n : SlotId) (s : State) :
    (restoreSlot n s).gates = s.gates := by simp [restoreSlot]
@[simp] theorem restoreUnit_gates (u : UnitRef) (s : State) :
    (restoreUnit u s).gates = s.gates := by simp only [restoreUnit]; split <;> simp
@[simp] theorem unitClear_gates (failed : Option W16) (j : Job) (s : State) :
    (unitClear failed j s).gates = s.gates := by simp only [unitClear]; (repeat' split) <;> simp
@[simp] theorem bistReport_gates (j : Job) (s : State) :
    (bistReport j s).gates = s.gates := by simp [bistReport]

/-! ### Machine/Link -/

@[simp] theorem sendChars_gates (n : SlotId) (bs : List Byte) (s : State) :
    (sendChars n bs s).gates = s.gates := by simp [sendChars]
@[simp] theorem updExch_gates (n : SlotId) (f : Exch → Exch) (s : State) :
    (updExch n f s).gates = s.gates := by simp [updExch]
@[simp] theorem updT1_gates (n : SlotId) (f : T1 → T1) (s : State) :
    (updT1 n f s).gates = s.gates := by simp [updT1]
@[simp] theorem endExch_gates (n : SlotId) (st : ExchStatus) (sw : W16) (resp : List Byte) (s : State) :
    (endExch n st sw resp s).gates = s.gates := by simp only [endExch]; split <;> simp
@[simp] theorem endResponse_gates (n : SlotId) (data : List Byte) (sw : W16) (s : State) :
    (endResponse n data sw s).gates = s.gates := by simp only [endResponse]; split <;> simp
@[simp] theorem sendIBlock_gates (n : SlotId) (s : State) :
    (sendIBlock n s).gates = s.gates := by simp only [sendIBlock]; split <;> simp
@[simp] theorem sendBlock_gates (n : SlotId) (pcb : Byte) (inf : List Byte) (s : State) :
    (sendBlock n pcb inf s).gates = s.gates := by simp [sendBlock]
@[simp] theorem sendRequest_gates (n : SlotId) (pcb : Byte) (inf : List Byte) (f : T1 → T1) (s : State) :
    (sendRequest n pcb inf f s).gates = s.gates := by simp [sendRequest]
@[simp] theorem resendLast_gates (n : SlotId) (s : State) :
    (resendLast n s).gates = s.gates := by simp [resendLast]
@[simp] theorem sendResynch_gates (n : SlotId) (s : State) :
    (sendResynch n s).gates = s.gates := by simp [sendResynch]
@[simp] theorem t1Escalate_gates (n : SlotId) (s : State) :
    (t1Escalate n s).gates = s.gates := by simp [t1Escalate]
@[simp] theorem t1Fail_gates (n : SlotId) (err : Nat) (invalid : Bool) (s : State) :
    (t1Fail n err invalid s).gates = s.gates := by simp [t1Fail]
@[simp] theorem startExch_gates (n : SlotId) (kind : ExchKind) (job : JobId) (gen : W16) (step : Nat) (apdu : List Byte) (respMax : Nat) (s : State) :
    (startExch n kind job gen step apdu respMax s).gates = s.gates := by simp [startExch]
@[simp] theorem startIfs_gates (n : SlotId) (s : State) :
    (startIfs n s).gates = s.gates := by simp [startIfs]
@[simp] theorem endSession_gates (n : SlotId) (s : State) :
    (endSession n s).gates = s.gates := by simp only [endSession]; split <;> simp
@[simp] theorem startWarm_gates (n : SlotId) (s : State) :
    (startWarm n s).gates = s.gates := by simp [startWarm]
@[simp] theorem tryWarm_gates (n : SlotId) (s : State) :
    (tryWarm n s).gates = s.gates := by simp [tryWarm]
@[simp] theorem markGalFailed_gates (n : SlotId) (s : State) :
    (markGalFailed n s).gates = s.gates := by simp [markGalFailed]
@[simp] theorem updGal_gates (n : SlotId) (f : Gal → Gal) (s : State) :
    (updGal n f s).gates = s.gates := by simp [updGal]
@[simp] theorem sendToken_gates (n : SlotId) (op : BitVec 6) (csn : W16) (len : Nat) (aux : W16) (want : GalExpect) (s : State) :
    (sendToken n op csn len aux want s).gates = s.gates := by simp [sendToken]
@[simp] theorem sendCmd_gates (n : SlotId) (w : WCmd) (s : State) :
    (sendCmd n w s).gates = s.gates := by simp [sendCmd]
@[simp] theorem sendFetch_gates (n : SlotId) (w : WCmd) (s : State) :
    (sendFetch n w s).gates = s.gates := by simp [sendFetch]
@[simp] theorem sendLts_gates (n : SlotId) (s : State) :
    (sendLts n s).gates = s.gates := by simp [sendLts]
@[simp] theorem galPhase_gates (n : SlotId) (s : State) :
    (galPhase n s).gates = s.gates := by simp [galPhase]
@[simp] theorem pushEnded_gates (n : SlotId) (l : List Ended) (s : State) :
    (pushEnded n l s).gates = s.gates := by simp [pushEnded]
@[simp] theorem settleFrom_gates (n : SlotId) (r : LtsRec) (how : Nat) (l : List Intent) (s : State) :
    (settleFrom n r how l s).gates = s.gates := by
  exact forEach_gates _ _ _ fun e s => by (repeat' split) <;> simp
@[simp] theorem beginGiveUp_gates (n : SlotId) (why : GiveUp) (s : State) :
    (beginGiveUp n why s).gates = s.gates := by simp [beginGiveUp]
@[simp] theorem abandon_gates (n : SlotId) (base : ExchStatus) (mark : Bool) (rec : Option LtsRec) (s : State) :
    (abandon n base mark rec s).gates = s.gates := by simp only [abandon, onlyIf]; (repeat' split) <;> simp
@[simp] theorem concludeGiveUp_gates (n : SlotId) (rec : Option LtsRec) (s : State) :
    (concludeGiveUp n rec s).gates = s.gates := by simp only [concludeGiveUp]; split <;> simp
@[simp] theorem pump_gates (n : SlotId) (s : State) :
    (pump n s).gates = s.gates := by simp only [pump]; (repeat' split) <;> simp
@[simp] theorem linkError_gates (n : SlotId) (lines : List Nat) (s : State) :
    (linkError n lines s).gates = s.gates := by simp only [linkError]; split <;> simp
@[simp] theorem afterLinkError_gates (n : SlotId) (lines : List Nat) (s : State) :
    (afterLinkError n lines s).gates = s.gates := by simp [afterLinkError]

/-! ### Machine/Engine -/

@[simp] theorem writeIntent_gates (id : JobId) (n : SlotId) (k : Nat) (st : Step) (first : Bool) (csn : W16) (s : State) :
    (writeIntent id n k st first csn s).gates = s.gates := by simp only [writeIntent]; split <;> simp
@[simp] theorem updRun_gates (id : JobId) (f : Run → Run) (s : State) :
    (updRun id f s).gates = s.gates := by simp [updRun]
@[simp] theorem holdError_gates (id : JobId) (k : Nat) (err : W16) (s : State) :
    (holdError id k err s).gates = s.gates := by simp [holdError]
@[simp] theorem settleIdle_gates (id : JobId) (s : State) :
    (settleIdle id s).gates = s.gates := by simp only [settleIdle]; (repeat' split) <;> simp
@[simp] theorem queueStaged_gates (id : JobId) (l : List Staged) (follow : Run → Run) (s : State) :
    (queueStaged id l follow s).gates = s.gates := by simp [queueStaged]
@[simp] theorem settleCard_gates (n : SlotId) (l : List Intent) (s : State) :
    (settleCard n l s).gates = s.gates := by simp only [settleCard]; split <;> simp
@[simp] theorem admitCard_gates (id : JobId) (n : SlotId) (ok : State → State) (s : State) (hf : ∀ s, (ok s).gates = s.gates) :
    (admitCard id n ok s).gates = s.gates := by simp only [admitCard]; (repeat' split) <;> simp [*]
@[simp] theorem dropStaged_gates (id : JobId) (n : SlotId) (l : List Staged) (s : State) :
    (dropStaged id n l s).gates = s.gates := by
  simp only [dropStaged, updRun_gates]
  exact forEach_gates _ _ _ fun t s => by split <;> simp
@[simp] theorem goTarget_gates (id : JobId) (st : Step) (t : Nat) (s : State) :
    (goTarget id st t s).gates = s.gates := by simp [goTarget]
@[simp] theorem takeResult_gates (id : JobId) (d : List Byte) (s : State) :
    (takeResult id d s).gates = s.gates := by simp [takeResult]
@[simp] theorem takeKeep_gates (id : JobId) (d : List Byte) (s : State) :
    (takeKeep id d s).gates = s.gates := by simp [takeKeep]
@[simp] theorem takeData_gates (id : JobId) (st : Step) (d : List Byte) (s : State) :
    (takeData id st d s).gates = s.gates := by simp only [takeData, onlyIf]; (repeat' split) <;> simp
@[simp] theorem takeIdentity_gates (id : JobId) (n : SlotId) (d : List Byte) (s : State) :
    (takeIdentity id n d s).gates = s.gates := by simp [takeIdentity]
@[simp] theorem matchStep_gates (id : JobId) (n : SlotId) (t : Staged) (st : Step) (sw rsw : W16) (data : List Byte) (s : State) :
    (matchStep id n t st sw rsw data s).gates = s.gates := by simp only [matchStep, onlyIf]; (repeat' split) <;> simp

/-! ### Machine/SlotElec -/

@[simp] theorem grant_gates (q : Request) (s : State) :
    (grant q s).gates = s.gates := by simp [grant]
@[simp] theorem failAttempt_gates (n : SlotId) (c : Cause) (s : State) :
    (failAttempt n c s).gates = s.gates := by simp [failAttempt]
@[simp] theorem classStep_gates (n : SlotId) (k : CardClass) (s : State) :
    (classStep n k s).gates = s.gates := by simp [classStep]
@[simp] theorem stepOrFail_gates (n : SlotId) (c : Cause) (s : State) :
    (stepOrFail n c s).gates = s.gates := by simp only [stepOrFail]; split <;> simp
@[simp] theorem setDeact_gates (n : SlotId) (f : Deact → Deact) (s : State) :
    (setDeact n f s).gates = s.gates := by simp [setDeact]
@[simp] theorem linesLow_gates (n : SlotId) (s : State) :
    (linesLow n s).gates = s.gates := by simp [linesLow]
@[simp] theorem judgeContact_gates (n : SlotId) (s : State) :
    (judgeContact n s).gates = s.gates := by simp only [judgeContact, onlyIf]; (repeat' split) <;> simp
@[simp] theorem ldoOff_gates (n : SlotId) (s : State) :
    (ldoOff n s).gates = s.gates := by simp [ldoOff]
@[simp] theorem railFell_gates (r : RingId) (before : CardClass) (s : State) :
    (railFell r before s).gates = s.gates := by simp [railFell]
@[simp] theorem ejectAtEnd_gates (n : SlotId) (s : State) :
    (ejectAtEnd n s).gates = s.gates := by simp only [ejectAtEnd]; split <;> simp
@[simp] theorem loseIfExcluded_gates (n : SlotId) (s : State) :
    (loseIfExcluded n s).gates = s.gates := by simp [loseIfExcluded]
@[simp] theorem enterUnstable_gates (n : SlotId) (s : State) :
    (enterUnstable n s).gates = s.gates := by simp [enterUnstable]
@[simp] theorem enterQuarantined_gates (n : SlotId) (s : State) :
    (enterQuarantined n s).gates = s.gates := by simp [enterQuarantined]
@[simp] theorem settleSlot_gates (n : SlotId) (s : State) :
    (settleSlot n s).gates = s.gates := by simp [settleSlot]
@[simp] theorem adminDown_gates (n : SlotId) (s : State) :
    (adminDown n s).gates = s.gates := by simp only [adminDown]; split <;> simp
@[simp] theorem wantActivation_gates (n : SlotId) (s : State) :
    (wantActivation n s).gates = s.gates := by simp only [wantActivation]; split <;> simp
@[simp] theorem sideLost_gates (s : State) :
    (sideLost s).gates = s.gates := by simp [sideLost]

/-! ### Machine/Presence -/

@[simp] theorem learnFeed_gates (n : SlotId) (s : State) :
    (learnFeed n s).gates = s.gates := by simp only [learnFeed]; split <;> simp

/-! ### Machine/CharLayer -/

@[simp] theorem adminReady_gates (n : SlotId) (s : State) :
    (adminReady n s).gates = s.gates := by simp only [adminReady]; split <;> simp
@[simp] theorem failPps_gates (n : SlotId) (s : State) :
    (failPps n s).gates = s.gates := by simp [failPps]
@[simp] theorem noteOverruns_gates (n : SlotId) (k : Nat) (s : State) :
    (noteOverruns n k s).gates = s.gates := by simp [noteOverruns]
@[simp] theorem t1Repeat_gates (n : SlotId) (s : State) :
    (t1Repeat n s).gates = s.gates := by simp [t1Repeat]
@[simp] theorem sendAbort_gates (n : SlotId) (s : State) :
    (sendAbort n s).gates = s.gates := by simp [sendAbort]
@[simp] theorem t1Complete_gates (n : SlotId) (resp : List Byte) (s : State) :
    (t1Complete n resp s).gates = s.gates := by simp [t1Complete]
@[simp] theorem takeIBlock_gates (n : SlotId) (pcb : Byte) (inf : List Byte) (s : State) :
    (takeIBlock n pcb inf s).gates = s.gates := by simp [takeIBlock]
@[simp] theorem takeRBlock_gates (n : SlotId) (nr : Bool) (s : State) :
    (takeRBlock n nr s).gates = s.gates := by simp [takeRBlock]
@[simp] theorem takeSBlock_gates (n : SlotId) (valid : Bool) (f : State → State) (s : State) (hf : ∀ s, (f s).gates = s.gates) :
    (takeSBlock n valid f s).gates = s.gates := by simp [takeSBlock, *]
@[simp] theorem t0Error_gates (n : SlotId) (at_ : Nat) (again : State → State) (s : State) (hf : ∀ s, (again s).gates = s.gates) :
    (t0Error n at_ again s).gates = s.gates := by simp only [t0Error]; (repeat' split) <;> simp [*]
@[simp] theorem t0Proceed_gates (n : SlotId) (e : Exch) (one : Bool) (s : State) :
    (t0Proceed n e one s).gates = s.gates := by simp [t0Proceed]
@[simp] theorem t0Again_gates (n : SlotId) (a : List Byte) (s : State) :
    (t0Again n a s).gates = s.gates := by simp [t0Again]
@[simp] theorem takeProcedure_gates (n : SlotId) (e : Exch) (b b2 : Byte) (s : State) :
    (takeProcedure n e b b2 s).gates = s.gates := by simp [takeProcedure]
@[simp] theorem adminWarm_gates (j : Job) (n : SlotId) (s : State) :
    (adminWarm j n s).gates = s.gates := by simp [adminWarm]

/-! ### Machine/Exchange -/

@[simp] theorem noteStale_gates (job : JobId) (s : State) :
    (noteStale job s).gates = s.gates := by simp [noteStale]
@[simp] theorem takeCsn_gates (n : SlotId) (s : State) : (takeCsn n s).2.gates = s.gates := by
  simp only [takeCsn]; split <;> simp
@[simp] theorem takeCancelled_gates (id : JobId) (n : SlotId) (t : Staged) (how : Nat) (s : State) :
    (takeCancelled id n t how s).gates = s.gates := by simp only [takeCancelled]; (repeat' split) <;> simp
@[simp] theorem takeFailed_gates (id : JobId) (n : SlotId) (t : Staged) (e : Ended) (s : State) :
    (takeFailed id n t e s).gates = s.gates := by simp only [takeFailed]; (repeat' split) <;> simp
@[simp] theorem reportResolution_gates (n : SlotId) (e : Ended) (s : State) :
    (reportResolution n e s).gates = s.gates := by simp only [reportResolution]; (repeat' split) <;> simp
@[simp] theorem addNoise_gates (n : SlotId) (job : JobId) (noise chars : Nat) (s : State) :
    (addNoise n job noise chars s).gates = s.gates := by simp [addNoise]
@[simp] theorem resumeJob_gates (id : JobId) (n : SlotId) (s : State) :
    (resumeJob id n s).gates = s.gates := by simp [resumeJob]
@[simp] theorem settleResolving_gates (j : Job) (n : SlotId) (s : State) :
    (settleResolving j n s).gates = s.gates := by simp only [settleResolving]; (repeat' split) <;> simp

/-! ### Machine/Profile -/

@[simp] theorem startSwitch_gates (n : SlotId) (s : State) :
    (startSwitch n s).gates = s.gates := by simp [startSwitch]
@[simp] theorem beginRun_gates (id : JobId) (n : SlotId) (r : Run) (s : State) :
    (beginRun id n r s).gates = s.gates := by simp [beginRun]
@[simp] theorem firstByte_gates (j : Job) (k : Nat) (go : State → State) (s : State) (hf : ∀ s, (go s).gates = s.gates) :
    (firstByte j k go s).gates = s.gates := by simp [firstByte, *]
@[simp] theorem markSent_gates (id : JobId) (t : Staged) (s : State) :
    (markSent id t s).gates = s.gates := by simp [markSent]
@[simp] theorem sendGal_gates (id : JobId) (n : SlotId) (gen : W16) (r : Run) (t : Staged) (s : State) :
    (sendGal id n gen r t s).gates = s.gates := by simp [sendGal]
@[simp] theorem sendStaged_gates (j : Job) (n : SlotId) (r : Run) (t : Staged) (s : State) :
    (sendStaged j n r t s).gates = s.gates := by simp [sendStaged]
@[simp] theorem releaseSwitch_gates (n : SlotId) (s : State) :
    (releaseSwitch n s).gates = s.gates := by simp [releaseSwitch]
@[simp] theorem stageExtAuth_gates (id : JobId) (t : Staged) (st : Step) (g : Config.GpIn) (s : State) :
    (stageExtAuth id t st g s).gates = s.gates := by simp [stageExtAuth]
@[simp] theorem scRefused_gates (id : JobId) (n : SlotId) (t : Staged) (st : Step) (s : State) :
    (scRefused id n t st s).gates = s.gates := by simp [scRefused]
@[simp] theorem takeInitUpdate_gates (id : JobId) (n : SlotId) (r : Run) (t : Staged) (st : Step) (resp : List Byte) (sw : W16) (s : State) :
    (takeInitUpdate id n r t st resp sw s).gates = s.gates := by simp [takeInitUpdate]
@[simp] theorem updBlock_gates (t : TargetId) (i : Nat) (f : Block → Block) (s : State) :
    (updBlock t i f s).gates = s.gates := by simp [updBlock]
@[simp] theorem updTarget_gates (t : TargetId) (f : Target → Target) (s : State) :
    (updTarget t f s).gates = s.gates := by simp [updTarget]
@[simp] theorem growBad_gates (t : TargetId) (i : Nat) (s : State) :
    (growBad t i s).gates = s.gates := by simp only [growBad, onlyIf]; (repeat' split) <;> simp
@[simp] theorem noteRead_gates (rd : PrefetchRead) (s : State) :
    (noteRead rd s).gates = s.gates := by simp [noteRead]
@[simp] theorem takeRecord_gates (j : Job) (n : SlotId) (rd : PrefetchRead) (s : State) :
    (takeRecord j n rd s).gates = s.gates := by simp only [takeRecord]; split <;> simp

/-! ### Machine/Galloper -/

@[simp] theorem updCmd_gates (n : SlotId) (csn : W16) (f : WCmd → WCmd) (s : State) :
    (updCmd n csn f s).gates = s.gates := by simp [updCmd]
@[simp] theorem noteBusy_gates (n : SlotId) (s : State) :
    (noteBusy n s).gates = s.gates := by simp [noteBusy]
@[simp] theorem takeRcv_gates (n : SlotId) (csn sw : W16) (s : State) :
    (takeRcv n csn sw s).gates = s.gates := by simp [takeRcv]
@[simp] theorem fetched_gates (n : SlotId) (csn sw : W16) (data : List Byte) (s : State) :
    (fetched n csn sw data s).gates = s.gates := by simp only [fetched]; (repeat' split) <;> simp
@[simp] theorem endUnfetched_gates (n : SlotId) (csn : W16) (st : ExchStatus) (how : Nat) (s : State) :
    (endUnfetched n csn st how s).gates = s.gates := by simp only [endUnfetched]; split <;> simp
@[simp] theorem takeRsp_gates (n : SlotId) (csn : W16) (t : Tok) (s : State) :
    (takeRsp n csn t s).gates = s.gates := by simp [takeRsp]
@[simp] theorem actOnRecord_gates (n : SlotId) (r : LtsRec) (csn : W16) (s : State) :
    (actOnRecord n r csn s).gates = s.gates := by simp only [actOnRecord]; split <;> simp
@[simp] theorem takeLts_gates (n : SlotId) (g : Gal) (b : List Byte) (s : State) :
    (takeLts n g b s).gates = s.gates := by simp [takeLts]
@[simp] theorem busyDown_gates (n : SlotId) (s : State) :
    (busyDown n s).gates = s.gates := by simp [busyDown]
@[simp] theorem settleOld_gates (n : SlotId) (r : LtsRec) (s : State) :
    (settleOld n r s).gates = s.gates := by simp [settleOld]
@[simp] theorem sendTrain_gates (n : SlotId) (s : State) :
    (sendTrain n s).gates = s.gates := by simp [sendTrain]

/-! ### Machine/Placement -/

@[simp] theorem takeContext_gates (id : JobId) (g : JugId) (p : Profile) (s : State) :
    (takeContext id g p s).gates = s.gates := by simp [takeContext]
@[simp] theorem placeJob_gates (id : JobId) (n : SlotId) (s : State) :
    (placeJob id n s).gates = s.gates := by simp only [placeJob]; (repeat' split) <;> simp
@[simp] theorem considerJob_gates (id : JobId) (s : State) :
    (considerJob id s).gates = s.gates := by simp only [considerJob]; (repeat' split) <;> simp
@[simp] theorem grantWindows_gates (s : State) :
    (grantWindows s).gates = s.gates := by simp [grantWindows]

/-! ### Machine/Monitors -/

@[simp] theorem startSlotCheck_gates (n : SlotId) (c : CompId) (s : State) :
    (startSlotCheck n c s).gates = s.gates := by simp [startSlotCheck]
@[simp] theorem startRingCheck_gates (r : RingId) (l : List CompId) (s : State) :
    (startRingCheck r l s).gates = s.gates := by simp [startRingCheck]
@[simp] theorem resumeRequest_gates (n : SlotId) (s : State) :
    (resumeRequest n s).gates = s.gates := by simp only [resumeRequest]; (repeat' split) <;> simp
@[simp] theorem endInPlace_gates (n : SlotId) (s : State) :
    (endInPlace n s).gates = s.gates := by simp [endInPlace]
@[simp] theorem failPowered_gates (n : SlotId) (c : CompId) (step : Nat) (s : State) :
    (failPowered n c step s).gates = s.gates := by simp [failPowered]
@[simp] theorem endSlotCheck_gates (n : SlotId) (c : CompId) (fail : Option (Fin 3)) (s : State) :
    (endSlotCheck n c fail s).gates = s.gates := by simp only [endSlotCheck]; split <;> simp
@[simp] theorem failStandbySet_gates (r : RingId) (c : CompId) (step : Nat) (s : State) :
    (failStandbySet r c step s).gates = s.gates := by simp [failStandbySet]
@[simp] theorem endRingCheck_gates (r : RingId) (c : CompId) (fail : Option (Fin 3)) (s : State) :
    (endRingCheck r c fail s).gates = s.gates := by simp only [endRingCheck]; split <;> simp
@[simp] theorem failSupply_gates (c : CompId) (k : Fin 3) (s : State) :
    (failSupply c k s).gates = s.gates := by simp [failSupply]
@[simp] theorem takeHandover_gates (ring : RingId) (k : Fin 8) (c : CompId) (agree : Bool) (s : State) :
    (takeHandover ring k c agree s).gates = s.gates := by simp [takeHandover]

/-! ### Machine/Rings -/

@[simp] theorem ringFault_gates (r : RingId) (code : W16) (s : State) :
    (ringFault r code s).gates = s.gates := by simp [ringFault]

/-! ### Machine/Journal -/

@[simp] theorem eraseDone_gates (t : TargetId) (i : Nat) (s : State) :
    (eraseDone t i s).gates = s.gates := by simp [eraseDone]

/-! ### Machine/Tightrope -/

@[simp] theorem noteLimit_gates (key : Nat) (reached : Bool) (event : State → State) (s : State) (hf : ∀ s, (event s).gates = s.gates) :
    (noteLimit key reached event s).gates = s.gates := by simp [noteLimit, *]
@[simp] theorem lowerSession_gates (n : SlotId) (ceiling : Nat) (s : State) :
    (lowerSession n ceiling s).gates = s.gates := by simp [lowerSession]
@[simp] theorem applyGuard_gates (s : State) :
    (applyGuard s).gates = s.gates := by simp [applyGuard]

/-! ### Machine/Security -/

@[simp] theorem endDebug_gates (why : Nat) (s : State) :
    (endDebug why s).gates = s.gates := by simp [endDebug]
@[simp] theorem renewDebugNonce_gates (s : State) :
    (renewDebugNonce s).gates = s.gates := by simp [renewDebugNonce]
@[simp] theorem openDebug_gates (r : SignedReq) (s : State) :
    (openDebug r s).gates = s.gates := by simp [openDebug]
@[simp] theorem zeroiseBuffers_gates (s : State) :
    (zeroiseBuffers s).gates = s.gates := by simp [zeroiseBuffers]
@[simp] theorem endQueued_gates (s : State) :
    (endQueued s).gates = s.gates := by simp [endQueued]
@[simp] theorem endChange_gates (c : LcChange) (st : CStatus) (err : W16) (s : State) :
    (endChange c st err s).gates = s.gates := by simp only [endChange]; split <;> simp
@[simp] theorem dropHolder_gates (n : SlotId) (s : State) :
    (dropHolder n s).gates = s.gates := by simp [dropHolder]
@[simp] theorem latchTamper_gates (level : Nat) (x : Sensor) (s : State) :
    (latchTamper level x s).gates = s.gates := by simp only [latchTamper]; split <;> simp
@[simp] theorem tamperClose_gates (s : State) :
    (tamperClose s).gates = s.gates := by simp [tamperClose]

/-! ### Machine/Faults -/

@[simp] theorem noteRecovery_gates (u : UnitRef) (s : State) :
    (noteRecovery u s).gates = s.gates := by simp [noteRecovery]
@[simp] theorem recoverSlot_gates (n : SlotId) (s : State) :
    (recoverSlot n s).gates = s.gates := by simp [recoverSlot]
@[simp] theorem recoverPair_gates (p : PairId) (s : State) :
    (recoverPair p s).gates = s.gates := by simp [recoverPair]
@[simp] theorem startRecovery_gates (u : UnitRef) (code : W16) (s : State) :
    (startRecovery u code s).gates = s.gates := by simp only [startRecovery]; split <;> simp
@[simp] theorem backInService_gates (u : UnitRef) (s : State) :
    (backInService u s).gates = s.gates := by simp only [backInService]; split <;> simp
@[simp] theorem refusalJob_gates (v : Violation) (s : State) :
    (refusalJob v s).gates = s.gates := by simp only [refusalJob]; split <;> simp

/-! ### Machine/StationBus -/

@[simp] theorem updPort_gates (p : PortId) (f : SbPort → SbPort) (s : State) :
    (updPort p f s).gates = s.gates := by simp [updPort]
@[simp] theorem feedFails_gates (n : SlotId) (job : JobId) (s : State) :
    (feedFails n job s).gates = s.gates := by simp only [feedFails]; split <;> simp
@[simp] theorem failCommand_gates (p : PortId) (why : Nat) (c : SbCmd) (s : State) :
    (failCommand p why c s).gates = s.gates := by simp [failCommand]
@[simp] theorem retryCommand_gates (p : PortId) (why : Nat) (c : SbCmd) (s : State) :
    (retryCommand p why c s).gates = s.gates := by simp [retryCommand]
@[simp] theorem unanswered_gates (p : PortId) (mu : MuId) (s : State) :
    (unanswered p mu s).gates = s.gates := by simp only [unanswered]; split <;> simp
@[simp] theorem emitPoll_gates (p : PortId) (mu : MuId) (s : State) :
    (emitPoll p mu s).gates = s.gates := by simp [emitPoll]
@[simp] theorem emitCommand_gates (p : PortId) (c : SbCmd) (s : State) :
    (emitCommand p c s).gates = s.gates := by simp [emitCommand]
@[simp] theorem noteStatus_gates (p : PortId) (mu : MuId) (d : List Byte) (s : State) :
    (noteStatus p mu d s).gates = s.gates := by simp only [noteStatus, onlyIf]; (repeat' split) <;> simp
@[simp] theorem judgeAck_gates (p : PortId) (mu : MuId) (d : List Byte) (s : State) :
    (judgeAck p mu d s).gates = s.gates := by simp only [judgeAck]; (repeat' split) <;> simp

/-! ### Machine/Sideshow -/

@[simp] theorem blockRead_gates (d : List Byte) (s : State) :
    (blockRead d s).gates = s.gates := by simp [blockRead]
@[simp] theorem sideResult_gates (code : Byte) (r : SbResult) (s : State) :
    (sideResult code r s).gates = s.gates := by simp [sideResult]
@[simp] theorem sideNack_gates (code : Byte) (r : SbResult) (s : State) :
    (sideNack code r s).gates = s.gates := by simp [sideNack]
@[simp] theorem answerSide_gates (r : SbResult) (s : State) :
    (answerSide r s).gates = s.gates := by simp [answerSide]
@[simp] theorem mainCommand_gates (code : Byte) (f : State → State) (s : State) (hf : ∀ s, (f s).gates = s.gates) :
    (mainCommand code f s).gates = s.gates := by simp [mainCommand, *]
@[simp] theorem tagFailed_gates (code : Byte) (s : State) :
    (tagFailed code s).gates = s.gates := by simp [tagFailed]
@[simp] theorem slotsOff_gates (d : List Byte) (s : State) :
    (slotsOff d s).gates = s.gates := by simp [slotsOff]
@[simp] theorem sideBist_gates (d : List Byte) (s : State) :
    (sideBist d s).gates = s.gates := by simp [sideBist]

/-! ### Machine/Debug -/

/-! ### Operations that may write the option area -/

@[simp] theorem rppWrite_gates (s : State) :
    (rppWrite s).gates = s.gates := by simp [rppWrite]
@[simp] theorem cryptoErase_gates (keep newKey : Bool) (s : State) :
    (cryptoErase keep newKey s).gates = s.gates := by simp [cryptoErase]
@[simp] theorem auditLcChange_gates (old new : LcState) (s : State) :
    (auditLcChange old new s).gates = s.gates := by simp [auditLcChange]
@[simp] theorem tamperWipe_gates (s : State) :
    (tamperWipe s).gates = s.gates := by simp only [tamperWipe]; split <;> simp
@[simp] theorem selectBank_gates (s : State) :
    (selectBank s).gates = s.gates := by simp only [selectBank]; split <;> simp
@[simp] theorem startRpp_gates (copies : List RppCopy) (s : State) :
    (startRpp copies s).gates = s.gates := by
  unfold startRpp
  split
  · rfl
  · simp only [rppWrite_gates, reserveAll_gates]
    refine (forEach_gates _ _ _ fun i s => by split <;> simp).trans ?_
    simp
@[simp] theorem writeBatch_gates (l : List (W64 × List Byte)) (n : Nat) (s : State) :
    (writeBatch l n s).1.gates = s.gates := by
  induction l generalizing n s with
  | nil => rfl
  | cons a l ih => unfold writeBatch; split <;> simp [ih]
@[simp] theorem recordWrite_gates (param : List Byte) (j : Job) (s : State) :
    (recordWrite param j s).gates = s.gates := by simp [recordWrite]
@[simp] theorem deleteRecord_gates (id : W64) (a : State × Nat) : (deleteRecord id a).1.gates = a.1.gates := by
  unfold deleteRecord; split <;> simp
theorem deleteRecords_gates (key : Nat → W64) (l : List Nat) (a : State × Nat) :
    (l.foldl (fun a i => deleteRecord (key i) a) a).1.gates = a.1.gates := by
  induction l generalizing a with
  | nil => rfl
  | cons i l ih => simp [ih]
@[simp] theorem recordDelete_gates (param : List Byte) (j : Job) (s : State) :
    (recordDelete param j s).gates = s.gates := by simp [recordDelete, deleteRecords_gates]
@[simp] theorem profileWrite_gates (param : List Byte) (j : Job) (s : State) :
    (profileWrite param j s).gates = s.gates := by
  unfold profileWrite
  extract_lets id img
  generalize parseProfile img = q
  cases q with
  | none => simp
  | some p =>
    dsimp only
    split
    · simp
    · rw [doneWith_gates, State.gates_mk]; rfl
@[simp] theorem auditAttest_gates (param : List Byte) (j : Job) (s : State) :
    (auditAttest param j s).gates = s.gates := by simp [auditAttest]
@[simp] theorem counterRelease_gates (j : Job) (s : State) :
    (counterRelease j s).gates = s.gates := by simp only [counterRelease]; split <;> simp
@[simp] theorem ownerSet_gates (param : List Byte) (j : Job) (s : State) :
    (ownerSet param j s).gates = s.gates := by simp only [ownerSet]; (repeat' split) <;> simp
@[simp] theorem mgmtSet_gates (param : List Byte) (j : Job) (s : State) :
    (mgmtSet param j s).gates = s.gates := by simp only [mgmtSet]; (repeat' split) <;> simp
@[simp] theorem consumeCounter_gates (id : JobId) (i : Fin 256) (h : W32) (s : State) :
    (consumeCounter id i h s).gates = s.gates := by simp [consumeCounter]
@[simp] theorem substitute_gates (n : SlotId) (j : Job) (r : Run) (ctr : Option W64) (l : List Sub) (t : List Byte)
    (s : State) : (substitute n j r ctr l t s).2.gates = s.gates := by
  induction l generalizing t s with
  | nil => rfl
  | cons u l ih => simp [substitute, ih]
@[simp] theorem intentFor_gates (id : JobId) (n : SlotId) (k : Nat) (st : Step) (csn : W16) (s : State) :
    (intentFor id n k st csn s).2.gates = s.gates := by
  simp only [intentFor]; (repeat' split) <;> simp
@[simp] theorem stageScOpen_gates (id : JobId) (n : SlotId) (j : Job) (k : Nat) (st : Step) (s : State) :
    (stageScOpen id n j k st s).gates = s.gates := by
  simp only [stageScOpen]; split <;> simp
@[simp] theorem stageApdu_gates (id : JobId) (n : SlotId) (j : Job) (r : Run) (k : Nat) (st : Step) (s : State) :
    (stageApdu id n j r k st s).gates = s.gates := by
  unfold stageApdu
  split; next csn s1 h1 =>
  split; next q s2 h2 =>
  extract_lets ctr
  split; next plain s3 h3 =>
  split
  have e1 : s1.gates = s.gates := by simpa [h1] using takeCsn_gates n s
  have e2 : s2.gates = s1.gates := by simpa [h2] using intentFor_gates id n k st csn s1
  have e3 : s3.gates = s2.gates := by simpa [h3] using substitute_gates n j r ctr st.subs st.tmpl s2
  cases q <;> simp [e1, e2, e3, apply_ite Prod.snd]
@[simp] theorem precompute_gates (fuel : Nat) (id : JobId) (n : SlotId) (s : State) :
    (precompute fuel id n s).gates = s.gates := by
  induction fuel generalizing s with
  | zero => rfl
  | succ fuel ih => simp only [precompute]; (repeat' split) <;> simp [ih]
theorem resolutionStep_build_gates (e : Intent) (l : List Sub) (d : List Byte) (s : State) {r : List Byte × State}
    (h : resolutionStep.build e l d s = some r) : r.2.gates = s.gates := by
  induction l generalizing d s with
  | nil => cases h; rfl
  | cons u l ih =>
    unfold resolutionStep.build at h
    split at h
    · split at h
      · split at h
        · exact ih _ _ h
        · cases h
      · cases h
    · exact ih _ (s.drew u.len) h
    · cases h
theorem resolutionStep_gates (n : SlotId) (p : W16) (s : State) {st : Step} {apdu : List Byte} {t : State}
    (h : resolutionStep n p s = some (st, apdu, t)) : t.gates = s.gates := by
  unfold resolutionStep at h
  split at h
  · obtain ⟨r, hr, e⟩ := Option.map_eq_some_iff.1 h
    cases e
    exact resolutionStep_build_gates _ _ _ _ hr
  · cases h
@[simp] theorem resolveNext_gates (n : SlotId) (l : List W16) (s : State) : (resolveNext n l s).gates = s.gates := by
  induction l with
  | nil => simp [resolveNext]
  | cons p l ih =>
    unfold resolveNext; split
    · next h => simp [resolutionStep_gates n p s h]
    · exact ih
@[simp] theorem whenReady_gates (n : SlotId) (s : State) : (whenReady n s).gates = s.gates := by
  simp only [whenReady]; (repeat' split) <;> simp
@[simp] theorem acceptCard_gates (n : SlotId) (fi di : Nat) (p : Proto) (s : State) :
    (acceptCard n fi di p s).gates = s.gates := by simp [acceptCard]
@[simp] theorem afterIfs_gates (n : SlotId) (s : State) :
    (afterIfs n s).gates = s.gates := by simp [afterIfs]
@[simp] theorem take61_gates (id : JobId) (n : SlotId) (t : Staged) (sw : W16) (s : State) :
    (take61 id n t sw s).gates = s.gates := by simp only [take61]; (repeat' split) <;> simp
@[simp] theorem takeOk_gates (id : JobId) (n : SlotId) (t : Staged) (st : Step) (e : Ended) (s : State) :
    (takeOk id n t st e s).gates = s.gates := by simp [takeOk]
@[simp] theorem reportStep_gates (n : SlotId) (e : Ended) (s : State) :
    (reportStep n e s).gates = s.gates := by simp only [reportStep]; (repeat' split) <;> simp
@[simp] theorem afterReport_gates (n : SlotId) (s : State) :
    (afterReport n s).gates = s.gates := by simp [afterReport]
@[simp] theorem reportEnd_gates (n : SlotId) (e : Ended) (rest : List Ended) (noise chars : Nat) (s : State) :
    (reportEnd n e rest noise chars s).gates = s.gates := by simp only [reportEnd]; split <;> simp
@[simp] theorem setStandby_gates (f : FwBank → FwBank) (s : State) :
    (setStandby f s).gates = s.gates := by simp [setStandby]
@[simp] theorem prepareFw_gates (s : State) :
    (prepareFw s).gates = s.gates := by simp [prepareFw]
@[simp] theorem commitFw_gates (s : State) :
    (commitFw s).gates = s.gates := by simp [commitFw]
@[simp] theorem abortFw_gates (s : State) :
    (abortFw s).gates = s.gates := by simp [abortFw]
@[simp] theorem takeSwitch_gates (n : SlotId) (e : Ended) (s : State) :
    (takeSwitch n e s).gates = s.gates := by simp only [takeSwitch]; (repeat' split) <;> simp
@[simp] theorem finishSweep_gates (n : SlotId) (g : Gal) (l : List (Vector Bool 4)) (s : State) :
    (finishSweep n g l s).gates = s.gates := by simp [finishSweep, onlyIf]
theorem writeImage_gates {off : Nat} {data : List Byte} {s t : State} (h : writeImage off data s = some t) :
    t.gates = s.gates := by
  unfold writeImage at h
  split at h
  · cases h
  · split at h
    · cases h; rfl
    · split at h <;> cases h; rfl
@[simp] theorem fwWrite_gates (param : List Byte) (j : Job) (s : State) : (fwWrite param j s).gates = s.gates := by
  simp only [fwWrite]; split
  · simp
  · split
    · next h => simp [writeImage_gates h]
    · simp
@[simp] theorem passPlan_gates (old : Tight) (s : State) : (passPlan old s).gates = s.gates := by
  simp only [passPlan]
  refine (forEach_gates _ _ _ ?_).trans (forEach_gates _ _ _ ?_) <;> intros <;> simp
@[simp] theorem issuePlan_gates (changes : Nat) (s : State) :
    (issuePlan changes s).gates = s.gates := by simp [issuePlan]
@[simp] theorem noteHeadrooms_gates (s : State) : (noteHeadrooms s).gates = s.gates :=
  forEach_gates _ _ _ fun _ _ => noteLimit_gates _ _ _ _ fun _ => rfl
@[simp] theorem toFactoryPlan_gates (old : Tight) (s : State) :
    (toFactoryPlan old s).gates = s.gates := by simp [toFactoryPlan]
@[simp] theorem keysInto_gates (target : LcState) (s : State) :
    (keysInto target s).gates = s.gates := by simp only [keysInto]; split <;> simp
@[simp] theorem commitChange_gates (target : LcState) (s : State) :
    (commitChange target s).gates = s.gates := by simp [commitChange]
@[simp] theorem badCommand_gates (code : Byte) (s : State) :
    (badCommand code s).gates = s.gates := by simp [badCommand]
/-! ## Operations that may end in a reset, a wind-down or the fall of READY keep the order -/

/-- The order of the gate bits (R34, R316, R338). -/
def Gates.Ok (g : Gates) : Prop := (g.ready = true → g.enable = true ∧ g.booted = true) ∧ (g.windDown = true → g.enable = true)

theorem gateBits_iff (s : State) : s.gateBits ↔ s.gates.Ok := Iff.rfl

/-- The gate bits at reset. -/
def Gates.clear : Gates := ⟨false, false, false, false⟩

theorem Gates.clear_ok : Gates.clear.Ok := by simp [Gates.Ok, Gates.clear]

@[simp] theorem handleTamper_gates (s : State) : (handleTamper s).gates = s.gates := by
  simp only [handleTamper]; split <;> simp

theorem regsAfterReset_gates (src : ResetSource) (r : Regs) : (regsAfterReset src r).gates = Gates.clear := by
  unfold regsAfterReset; split <;> rfl

theorem mainReset_gates (src : ResetSource) (board : Board) (s : State) : (mainReset src board s).gates = Gates.clear := by
  simp [mainReset, regsAfterReset_gates]

@[simp] theorem mainReset_ok (src : ResetSource) (board : Board) (s : State) : (mainReset src board s).gates.Ok := by
  rw [mainReset_gates]; exact Gates.clear_ok

@[simp] theorem resetBy_ok (src : ResetSource) (s : State) : (resetBy src s).gates.Ok := mainReset_ok _ _ _

theorem gatesOk_ite {c : Prop} [Decidable c] {a b : State} (ha : a.gates.Ok) (hb : b.gates.Ok) :
    (if c then a else b).gates.Ok := by split <;> assumption

theorem fatalProgress_ok {s : State} (h : s.gates.Ok) : (fatalProgress s).gates.Ok := gatesOk_ite (resetBy_ok _ _) h

theorem openFatal_ok (code : W16) (kind index : Nat) {s : State} (h : s.gates.Ok) :
    (openFatal code kind index s).gates.Ok := by
  unfold openFatal; split
  · exact resetBy_ok _ _
  · exact fatalProgress_ok (by simpa using h)

theorem fenceFully_ok (u : UnitRef) (code : W16) {s : State} (h : s.gates.Ok) : (fenceFully u code s).gates.Ok := by
  have h' : (fenceUnit u code s).gates.Ok := by simpa using h
  unfold fenceFully; split
  · exact gatesOk_ite h' (openFatal_ok _ _ _ h')
  · exact h'

theorem forEach_ok {α : Type} (l : List α) (f : α → State → State) {s : State} (h : s.gates.Ok)
    (hf : ∀ a s, s.gates.Ok → (f a s).gates.Ok) : (forEach l f s).gates.Ok := fe_inv (·.gates.Ok) l f s h hf

theorem failDomainRun_ok (b : BistRun) {s : State} (h : s.gates.Ok) : (failDomainRun b s).gates.Ok :=
  forEach_ok _ _ (by simpa using h) fun _ _ h => gatesOk_ite h (fenceFully_ok _ _ h)

theorem restoreScope_ok (b : BistRun) (sig : W64) {s : State} (h : s.gates.Ok) : (restoreScope b sig s).gates.Ok :=
  gatesOk_ite h (gatesOk_ite (resetBy_ok _ _) h)

theorem endDeactivation_ok (n : SlotId) {s : State} (h : s.gates.Ok) : (endDeactivation n s).gates.Ok :=
  fatalProgress_ok (by simpa using h)

theorem switchFw_ok {s : State} (h : s.gates.Ok) : (switchFw s).gates.Ok :=
  gatesOk_ite (by simpa using h) (resetBy_ok _ _)

theorem runFw_ok (op : Nat) {s : State} (h : s.gates.Ok) : (runFw op s).gates.Ok := by
  unfold runFw; split
  · simpa using h
  · simpa using h
  · exact switchFw_ok h
  · simpa using h
  · exact h

theorem hostFw_ok (op : Nat) (key : Byte) {s : State} (h : s.gates.Ok) : (hostFw op key s).gates.Ok :=
  gatesOk_ite (by simpa using h) (gatesOk_ite h (runFw_ok _ (by simpa using h)))

theorem escalate_ok (u : UnitRef) (code : W16) {s : State} (h : s.gates.Ok) : (escalate u code s).gates.Ok := by
  unfold escalate; split
  · exact openFatal_ok _ _ _ (by simpa using h)
  · exact fenceFully_ok _ _ (by simpa using h)

theorem unitFails_ok (u : UnitRef) (code : W16) {s : State} (h : s.gates.Ok) : (unitFails u code s).gates.Ok :=
  gatesOk_ite (by simpa using h) (gatesOk_ite (escalate_ok _ _ h) (by simpa using h))

theorem recoveryFails_ok (u : UnitRef) {s : State} (h : s.gates.Ok) : (recoveryFails u s).gates.Ok := by
  unfold recoveryFails; split <;> exact escalate_ok _ _ h

theorem refusalError_ok (v : Violation) {s : State} (h : s.gates.Ok) : (refusalError v s).gates.Ok := by
  refine gatesOk_ite h ?_
  split
  · simpa using h
  · exact unitFails_ok _ _ h

/-- READY may fall at any time. -/
theorem dropReady_ok {s : State} (h : s.gates.Ok) : (dropReady s).gates.Ok := by
  refine gatesOk_ite ?_ h
  rw [fireIrq_gates]
  exact ⟨nofun, h.2⟩

/-- A wind-down begins from ENABLE (R316). -/
theorem beginWindDown_ok {s : State} (h : s.gates.Ok) (he : s.regs.enable = true) : (beginWindDown s).gates.Ok := by
  have e : (beginWindDown s).gates = { s.gates with windDown := true } := by
    simp only [beginWindDown, windDownStep6_gates]
    rw [forEach_gates _ _ _ fun _ _ => by simp, forEach_gates _ _ _ fun _ _ => by simp,
      forEach_gates _ _ _ fun _ _ => by simp]
    rfl
  rw [e]
  exact ⟨h.1, fun _ => he⟩

theorem finishChange_ok (c : LcChange) {s : State} (h : s.gates.Ok) : (finishChange c s).gates.Ok := by
  unfold finishChange; split
  · simpa using h
  · have h' : (endChange c .done 0 (endQueued (commitChange c.target s))).gates.Ok := by simpa using h
    refine gatesOk_ite (dropReady_ok h') ?_
    split
    · next he => exact beginWindDown_ok h' (Bool.and_eq_true_iff.1 he).1
    · exact h'

theorem tamperLevel2_ok (x : Sensor) {s : State} (h : s.gates.Ok) : (tamperLevel2 x s).gates.Ok :=
  gatesOk_ite (by simpa using h) (gatesOk_ite (by simpa using h) (resetBy_ok _ _))

theorem tamperLevel1_ok (x : Sensor) {s : State} (h : s.gates.Ok) : (tamperLevel1 x s).gates.Ok :=
  gatesOk_ite (tamperLevel2_ok _ (by simpa using h)) (gatesOk_ite (by simpa using h) (resetBy_ok _ _))

theorem mainCommand_ok (code : Byte) (f : State → State) {s : State} (h : s.gates.Ok)
    (hf : ∀ s, s.gates.Ok → (f s).gates.Ok) : (mainCommand code f s).gates.Ok :=
  gatesOk_ite (hf _ (by simpa using h)) (by simpa using h)

theorem privileged_ok (code : Byte) (data : List Byte) (f : List Byte → State → State) {s : State} (h : s.gates.Ok)
    (hf : ∀ d s, s.gates.Ok → (f d s).gates.Ok) : (privileged code data f s).gates.Ok := by
  refine mainCommand_ok _ _ h fun s h => ?_
  refine gatesOk_ite (by simpa using h) (gatesOk_ite (by simpa using h) (gatesOk_ite (by simpa using h)
    (gatesOk_ite (by simpa using h) (hf _ _ (by simpa using h)))))

theorem sideFw_ok (d : List Byte) {s : State} (h : s.gates.Ok) : (sideFw d s).gates.Ok := by
  refine gatesOk_ite (by simpa using h) ?_
  have h' := runFw_ok (byteAt d 0).toNat (s := takeFw (byteAt d 0).toNat s) (by simpa using h)
  exact gatesOk_ite (by simpa using h') h'

theorem sideFwData_ok (d : List Byte) {s : State} (h : s.gates.Ok) : (sideFwData d s).gates.Ok := by
  unfold sideFwData; split
  · next e => simpa [writeImage_gates e] using h
  · simpa using h

/-! ## The commands -/

/-- The gate bits of the state that an outcome answers. -/
def outGates : Out → Option Gates
  | .next t => some t.gates
  | _ => none

@[simp] theorem outGates_next (s : State) : outGates (.next s) = some s.gates := rfl

@[simp] theorem outGates_gate (s : State) (c : Bool) (f : State → State) :
    outGates (s.gate c f) = some (if c then (f s).gates else s.gates) := by
  unfold State.gate; split <;> rfl

@[simp] theorem outGates_ite (c : Prop) [Decidable c] (a b : Out) :
    outGates (if c then a else b) = if c then outGates a else outGates b := by
  split <;> rfl

@[simp] theorem outGates_hostWrite (s : State) (off : Nat) (f : State → State) :
    outGates (s.hostWrite off f) =
      some (if s.mainUp && !s.sec.rightsWithdrawn then (f s).gates else s.gates) := by
  cases h : s.mainUp <;> cases h' : s.sec.rightsWithdrawn <;> simp [State.hostWrite, h, h']

@[simp] theorem outGates_hostRead (s : State) (off : Nat) (f : State → State) :
    outGates (s.hostRead off f) =
      some (if s.mainUp && !s.sec.rightsWithdrawn then (f s).gates else s.gates) := by
  cases h : s.mainUp <;> cases h' : s.sec.rightsWithdrawn <;> simp [State.hostRead, h, h']

@[simp] theorem outGates_runTicket (id : JobId) (type op : Nat) (f : Job → State → State) (s : State)
    (h : ∀ j s, (f j s).gates = s.gates) : outGates (runTicket id type op f s) = some s.gates := by
  unfold runTicket; split <;> simp [h]
@[simp] theorem outGates_bankTicket (id : JobId) (op : Nat) (f : Job → State → State) (s : State)
    (h : ∀ j s, (f j s).gates = s.gates) : outGates (bankTicket id op f s) = some s.gates := by
  simp [bankTicket, runTicket]; split <;> simp [h]
@[simp] theorem outGates_keyTicket (id : JobId) (op : Nat) (b : Bool) (f : Job → State → State) (s : State)
    (h : ∀ j s, (f j s).gates = s.gates) : outGates (keyTicket id op b f s) = some s.gates := by
  simp [keyTicket, runTicket]; split <;> simp [h]
@[simp] theorem outGates_adminTicket (id : JobId) (op : Nat) (f : Job → SlotId → State → State) (s : State)
    (h : ∀ j n s, (f j n s).gates = s.gates) : outGates (adminTicket id op f s) = some s.gates := by
  unfold adminTicket; (repeat' split) <;> simp [h]
@[simp] theorem outGates_galGate (n) (p) (f : Gal → State → State) (s : State)
    (h : ∀ j s, (f j s).gates = s.gates) : outGates (galGate n p f s) = some s.gates := by
  unfold galGate; split <;> simp [h]
@[simp] theorem outGates_sideRead (s : State) (d) (f : State → State)
    (h : ∀ s, (f s).gates = s.gates) : outGates (s.sideRead d f) = some s.gates := by
  simp [State.sideRead, h]
@[simp] theorem outGates_sideWrite (s : State) (a b c d) (f : State → State)
    (h : ∀ s, (f s).gates = s.gates) : outGates (s.sideWrite a b c d f) = some s.gates := by
  simp [State.sideWrite, h]

@[simp] theorem execVstbyRise_gates (straps : BitVec 3) (s : State) :
    outGates (execVstbyRise straps s) = some s.gates := by simp [execVstbyRise]
@[simp] theorem execBankStart_gates (copies : List RppCopy) (s : State) :
    outGates (execBankStart copies s) = some s.gates := by simp [execBankStart]
@[simp] theorem execDmaHold_gates (d3hot : Bool) (s : State) :
    outGates (execDmaHold d3hot s) = some s.gates := by simp [execDmaHold]
@[simp] theorem execDmaResumed_gates (s : State) :
    outGates (execDmaResumed s) = some s.gates := by simp [execDmaResumed]
@[simp] theorem execMsixUnmask_gates (vec : Fin 32) (s : State) :
    outGates (execMsixUnmask vec s) = some s.gates := by simp [execMsixUnmask]
@[simp] theorem execBarAccessRefused_gates (r : BarRefusal) (s : State) :
    outGates (execBarAccessRefused r s) = some s.gates := by simp only [execBarAccessRefused]; split <;> simp
@[simp] theorem execDeviceCheck_gates (s : State) :
    outGates (execDeviceCheck s) = some s.gates := by simp [execDeviceCheck]
@[simp] theorem execGctrlPause_gates (pause : Bool) (s : State) :
    outGates (execGctrlPause pause s) = some s.gates := by simp [execGctrlPause]
@[simp] theorem execSlotEnable_gates (s : State) :
    outGates (execSlotEnable s) = some s.gates := by simp [execSlotEnable]
@[simp] theorem execSlotCheckEnd_gates (failed : Option (CompId × Nat)) (s : State) :
    outGates (execSlotCheckEnd failed s) = some s.gates := by simp only [execSlotCheckEnd]; split <;> simp
@[simp] theorem execSlotDisable_gates (s : State) :
    outGates (execSlotDisable s) = some s.gates := by simp [execSlotDisable]
@[simp] theorem execSlotDeactivate_gates (s : State) :
    outGates (execSlotDeactivate s) = some s.gates := by simp [execSlotDeactivate]
@[simp] theorem execSlotClear_gates (s : State) :
    outGates (execSlotClear s) = some s.gates := by simp [execSlotClear]
@[simp] theorem execSlotCfgWrite_gates (regB : Bool) (v : W32) (s : State) :
    outGates (execSlotCfgWrite regB v s) = some s.gates := by simp only [execSlotCfgWrite, outGates_hostWrite]; (repeat' split) <;> simp
@[simp] theorem execSlotSelWrite_gates (v : W32) (s : State) :
    outGates (execSlotSelWrite v s) = some s.gates := by simp only [execSlotSelWrite]; split <;> simp
@[simp] theorem execTbTailWrite_gates (v : W32) (s : State) :
    outGates (execTbTailWrite v s) = some s.gates := by simp [execTbTailWrite]
@[simp] theorem execCqHeadWrite_gates (v : W32) (s : State) :
    outGates (execCqHeadWrite v s) = some s.gates := by simp [execCqHeadWrite]
@[simp] theorem execEqHeadWrite_gates (v : W32) (s : State) :
    outGates (execEqHeadWrite v s) = some s.gates := by simp [execEqHeadWrite]
@[simp] theorem execRingSizeWrite_gates (ring : RingName) (v : W32) (s : State) :
    outGates (execRingSizeWrite ring v s) = some s.gates := by simp only [execRingSizeWrite]; split <;> simp
@[simp] theorem execPowerBudgetWrite_gates (v : W32) (s : State) :
    outGates (execPowerBudgetWrite v s) = some s.gates := by simp [execPowerBudgetWrite]
@[simp] theorem execIrqStatusWrite_gates (v : W32) (s : State) :
    outGates (execIrqStatusWrite v s) = some s.gates := by simp [execIrqStatusWrite]
@[simp] theorem execIrqMaskWrite_gates (v : W32) (s : State) :
    outGates (execIrqMaskWrite v s) = some s.gates := by simp [execIrqMaskWrite]
@[simp] theorem execErrFirstClear_gates (s : State) :
    outGates (execErrFirstClear s) = some s.gates := by simp [execErrFirstClear]
@[simp] theorem execViolClear_gates (s : State) :
    outGates (execViolClear s) = some s.gates := by simp [execViolClear]
@[simp] theorem execMboxToSbWrite_gates (v : W32) (s : State) :
    outGates (execMboxToSbWrite v s) = some s.gates := by simp [execMboxToSbWrite]
@[simp] theorem execMboxFromSbRead_gates (s : State) :
    outGates (execMboxFromSbRead s) = some s.gates := by simp [execMboxFromSbRead]
@[simp] theorem execPairLowRead_gates (p : RegPair) (s : State) :
    outGates (execPairLowRead p s) = some s.gates := by simp only [execPairLowRead]; split <;> simp
@[simp] theorem execRegisterWrite_gates (off : BitVec 12) (v : W32) (s : State) :
    outGates (execRegisterWrite off v s) = some s.gates := by simp only [execRegisterWrite]; split <;> simp
@[simp] theorem execLogicBist_gates (scope : BitVec 4) (s : State) :
    outGates (execLogicBist scope s) = some s.gates := by simp [execLogicBist]
@[simp] theorem execMemoryBist_gates (scope : BitVec 4) (s : State) :
    outGates (execMemoryBist scope s) = some s.gates := by simp [execMemoryBist]
@[simp] theorem execBistRingDrained_gates (s : State) :
    outGates (execBistRingDrained s) = some s.gates := by simp only [execBistRingDrained]; split <;> simp
@[simp] theorem execBistDrainTimeout_gates (s : State) :
    outGates (execBistDrainTimeout s) = some s.gates := by simp [execBistDrainTimeout]
@[simp] theorem execBistPassEnd_gates (fails : List FailAddr) (s : State) :
    outGates (execBistPassEnd fails s) = some s.gates := by simp only [execBistPassEnd]; split <;> simp
@[simp] theorem execBistRunEnd_gates (sig : W64) (ringFail : Option (CompId × Nat)) (slotFails : List (SlotId × CompId × Nat)) (s : State) :
    outGates (execBistRunEnd sig ringFail slotFails s) = some s.gates := by simp only [execBistRunEnd]; (repeat' split) <;> simp
@[simp] theorem execSectorEraseDone_gates (s : State) :
    outGates (execSectorEraseDone s) = some s.gates := by simp [execSectorEraseDone]
@[simp] theorem execSectorEraseAbort_gates (s : State) :
    outGates (execSectorEraseAbort s) = some s.gates := by simp [execSectorEraseAbort]
@[simp] theorem execFwConfirmed_gates (s : State) :
    outGates (execFwConfirmed s) = some s.gates := by simp [execFwConfirmed]
@[simp] theorem execTicketFetch_gates (tickets : List Ticket) (s : State) :
    outGates (execTicketFetch tickets s) = some s.gates := by simp [execTicketFetch]
@[simp] theorem execFetchRetry_gates (s : State) :
    outGates (execFetchRetry s) = some s.gates := by simp [execFetchRetry]
@[simp] theorem execParamReadFail_gates (job : JobId) (got : List Byte) (s : State) :
    outGates (execParamReadFail job got s) = some s.gates := by simp only [execParamReadFail]; split <;> simp
@[simp] theorem execIssue_gates (job : JobId) (param : List Byte) (s : State) :
    outGates (execIssue job param s) = some s.gates := by simp only [execIssue]; split <;> simp
@[simp] theorem execSamOp_gates (job : JobId) (param : List Byte) (s : State) :
    outGates (execSamOp job param s) = some s.gates := by simp only [execSamOp]; split <;> simp
@[simp] theorem execActivate_gates (job : JobId) (s : State) :
    outGates (execActivate job s) = some s.gates := by simp [execActivate]
@[simp] theorem execDeactivate_gates (job : JobId) (s : State) :
    outGates (execDeactivate job s) = some s.gates := by simp [execDeactivate]
@[simp] theorem execWarmReset_gates (job : JobId) (s : State) :
    outGates (execWarmReset job s) = some s.gates := by simp [execWarmReset]
@[simp] theorem execInventory_gates (job : JobId) (param : List Byte) (s : State) :
    outGates (execInventory job param s) = some s.gates := by simp [execInventory]
@[simp] theorem execFormat_gates (job : JobId) (param : FormatParams) (s : State) :
    outGates (execFormat job param s) = some s.gates := by simp [execFormat]
@[simp] theorem execRecordWrite_gates (job : JobId) (param : List Byte) (s : State) :
    outGates (execRecordWrite job param s) = some s.gates := by simp [execRecordWrite]
@[simp] theorem execRecordDelete_gates (job : JobId) (param : List Byte) (s : State) :
    outGates (execRecordDelete job param s) = some s.gates := by simp [execRecordDelete]
@[simp] theorem execProfileWrite_gates (job : JobId) (param : List Byte) (s : State) :
    outGates (execProfileWrite job param s) = some s.gates := by simp [execProfileWrite]
@[simp] theorem execProfileDelete_gates (job : JobId) (s : State) :
    outGates (execProfileDelete job s) = some s.gates := by simp [execProfileDelete]
@[simp] theorem execJournalList_gates (job : JobId) (param : List Byte) (s : State) :
    outGates (execJournalList job param s) = some s.gates := by simp [execJournalList]
@[simp] theorem execJournalClose_gates (job : JobId) (param : List Byte) (s : State) :
    outGates (execJournalClose job param s) = some s.gates := by simp [execJournalClose]
@[simp] theorem execAuditRead_gates (job : JobId) (param : List Byte) (s : State) :
    outGates (execAuditRead job param s) = some s.gates := by simp [execAuditRead]
@[simp] theorem execAuditAttest_gates (job : JobId) (param : List Byte) (s : State) :
    outGates (execAuditAttest job param s) = some s.gates := by simp [execAuditAttest]
@[simp] theorem execAuditTrim_gates (job : JobId) (param : List Byte) (s : State) :
    outGates (execAuditTrim job param s) = some s.gates := by simp [execAuditTrim]
@[simp] theorem execBankStatus_gates (job : JobId) (s : State) :
    outGates (execBankStatus job s) = some s.gates := by simp [execBankStatus]
@[simp] theorem execCounterRelease_gates (job : JobId) (s : State) :
    outGates (execCounterRelease job s) = some s.gates := by simp [execCounterRelease]
@[simp] theorem execOwnerSet_gates (job : JobId) (param : List Byte) (s : State) :
    outGates (execOwnerSet job param s) = some s.gates := by simp [execOwnerSet]
@[simp] theorem execMgmtSet_gates (job : JobId) (param : List Byte) (s : State) :
    outGates (execMgmtSet job param s) = some s.gates := by simp [execMgmtSet]
@[simp] theorem execCeremonyOpen_gates (job : JobId) (s : State) :
    outGates (execCeremonyOpen job s) = some s.gates := by simp [execCeremonyOpen]
@[simp] theorem execKeyImport_gates (job : JobId) (param : List Byte) (s : State) :
    outGates (execKeyImport job param s) = some s.gates := by simp [execKeyImport]
@[simp] theorem execKeyDelete_gates (job : JobId) (s : State) :
    outGates (execKeyDelete job s) = some s.gates := by simp only [execKeyDelete, runTicket, keyTicket]; (repeat' split) <;> simp
@[simp] theorem execKeyList_gates (job : JobId) (s : State) :
    outGates (execKeyList job s) = some s.gates := by simp only [execKeyList, runTicket, keyTicket]; (repeat' split) <;> simp
@[simp] theorem execCeremonyClose_gates (job : JobId) (s : State) :
    outGates (execCeremonyClose job s) = some s.gates := by simp [execCeremonyClose]
@[simp] theorem execLcChange_gates (job : JobId) (param : List Byte) (s : State) :
    outGates (execLcChange job param s) = some s.gates := by simp [execLcChange]
@[simp] theorem execAttestId_gates (job : JobId) (s : State) :
    outGates (execAttestId job s) = some s.gates := by simp [execAttestId]
@[simp] theorem execCancel_gates (job : JobId) (s : State) :
    outGates (execCancel job s) = some s.gates := by simp [execCancel]
@[simp] theorem execSbusConfig_gates (job : JobId) (param : List Byte) (s : State) :
    outGates (execSbusConfig job param s) = some s.gates := by simp [execSbusConfig]
@[simp] theorem execSbusStatus_gates (job : JobId) (s : State) :
    outGates (execSbusStatus job s) = some s.gates := by simp [execSbusStatus]
@[simp] theorem execUnitClear_gates (job : JobId) (failed : Option W16) (s : State) :
    outGates (execUnitClear job failed s) = some s.gates := by simp [execUnitClear]
@[simp] theorem execFaultStatus_gates (job : JobId) (s : State) :
    outGates (execFaultStatus job s) = some s.gates := by simp [execFaultStatus]
@[simp] theorem execMarginRead_gates (job : JobId) (s : State) :
    outGates (execMarginRead job s) = some s.gates := by simp [execMarginRead]
@[simp] theorem execBistReport_gates (job : JobId) (s : State) :
    outGates (execBistReport job s) = some s.gates := by simp [execBistReport]
@[simp] theorem execFwWrite_gates (job : JobId) (param : List Byte) (s : State) :
    outGates (execFwWrite job param s) = some s.gates := by simp [execFwWrite]
@[simp] theorem execPlacementPass_gates (s : State) :
    outGates (execPlacementPass s) = some s.gates := by simp [execPlacementPass]
@[simp] theorem execSweepYield_gates (slot : SlotId) (s : State) :
    outGates (execSweepYield slot s) = some s.gates := by simp [execSweepYield]
@[simp] theorem execJobDeadline_gates (job : JobId) (s : State) :
    outGates (execJobDeadline job s) = some s.gates := by simp only [execJobDeadline]; split <;> simp
@[simp] theorem execFeedTimeout_gates (slot : SlotId) (s : State) :
    outGates (execFeedTimeout slot s) = some s.gates := by simp only [execFeedTimeout]; split <;> simp
@[simp] theorem execJobSettled_gates (job : JobId) (s : State) :
    outGates (execJobSettled job s) = some s.gates := by simp only [execJobSettled]; (repeat' split) <;> simp
@[simp] theorem execStaleResult_gates (job : JobId) (gen : W16) (s : State) :
    outGates (execStaleResult job gen s) = some s.gates := by simp [execStaleResult]
@[simp] theorem execCompletionWrite_gates (s : State) :
    outGates (execCompletionWrite s) = some s.gates := by simp [execCompletionWrite]
@[simp] theorem execEventWrite_gates (s : State) :
    outGates (execEventWrite s) = some s.gates := by simp [execEventWrite]
@[simp] theorem execPrecompute_gates (job : JobId) (s : State) :
    outGates (execPrecompute job s) = some s.gates := by simp only [execPrecompute]; split <;> simp
@[simp] theorem execPrecomputeRelease_gates (job : JobId) (s : State) :
    outGates (execPrecomputeRelease job s) = some s.gates := by simp only [execPrecomputeRelease]; (repeat' split) <;> simp
@[simp] theorem execScOpen_gates (job : JobId) (resp : List Byte) (sw : W16) (s : State) :
    outGates (execScOpen job resp sw s) = some s.gates := by simp only [execScOpen]; (repeat' split) <;> simp
@[simp] theorem execPrefetchDone_gates (job : JobId) (gen : W16) (rd : PrefetchRead) (s : State) :
    outGates (execPrefetchDone job gen rd s) = some s.gates := by simp only [execPrefetchDone, outGates_gate]; (repeat' split) <;> simp
@[simp] theorem execTokenGrant_gates (s : State) :
    outGates (execTokenGrant s) = some s.gates := by simp only [execTokenGrant, outGates_gate]; (repeat' split) <;> simp
@[simp] theorem execAdmitWait_gates (slot : SlotId) (s : State) :
    outGates (execAdmitWait slot s) = some s.gates := by simp only [execAdmitWait]; split <;> simp
@[simp] theorem execVccQualified_gates (slot : SlotId) (s : State) :
    outGates (execVccQualified slot s) = some s.gates := by simp [execVccQualified]
@[simp] theorem execClkStart_gates (slot : SlotId) (s : State) :
    outGates (execClkStart slot s) = some s.gates := by simp [execClkStart]
@[simp] theorem execRstRise_gates (slot : SlotId) (s : State) :
    outGates (execRstRise slot s) = some s.gates := by simp [execRstRise]
@[simp] theorem execVccFail_gates (slot : SlotId) (s : State) :
    outGates (execVccFail slot s) = some s.gates := by simp [execVccFail]
@[simp] theorem execOcBlankingEnd_gates (slot : SlotId) (s : State) :
    outGates (execOcBlankingEnd slot s) = some s.gates := by simp [execOcBlankingEnd]
@[simp] theorem execAtrReceived_gates (slot : SlotId) (raw : List Byte) (faults : CharFaults) (s : State) :
    outGates (execAtrReceived slot raw faults s) = some s.gates := by simp only [execAtrReceived, outGates_gate]; (repeat' split) <;> simp
@[simp] theorem execNoAtr_gates (slot : SlotId) (s : State) :
    outGates (execNoAtr slot s) = some s.gates := by simp [execNoAtr]
@[simp] theorem execAtrGapTimeout_gates (slot : SlotId) (s : State) :
    outGates (execAtrGapTimeout slot s) = some s.gates := by simp [execAtrGapTimeout]
@[simp] theorem execPpsResponse_gates (slot : SlotId) (raw : List Byte) (faults : CharFaults) (s : State) :
    outGates (execPpsResponse slot raw faults s) = some s.gates := by simp only [execPpsResponse]; (repeat' split) <;> simp
@[simp] theorem execPpsTimeout_gates (slot : SlotId) (s : State) :
    outGates (execPpsTimeout slot s) = some s.gates := by simp [execPpsTimeout]
@[simp] theorem execRateApply_gates (slot : SlotId) (s : State) :
    outGates (execRateApply slot s) = some s.gates := by simp [execRateApply]
@[simp] theorem execIBlock_gates (slot : SlotId) (blk : RawT1) (s : State) :
    outGates (execIBlock slot blk s) = some s.gates := by simp only [execIBlock, outGates_gate]; (repeat' split) <;> simp
@[simp] theorem execRBlock_gates (slot : SlotId) (blk : RawT1) (s : State) :
    outGates (execRBlock slot blk s) = some s.gates := by simp only [execRBlock, outGates_gate]; (repeat' split) <;> simp
@[simp] theorem execSIfsRequest_gates (slot : SlotId) (ifsc : Byte) (s : State) :
    outGates (execSIfsRequest slot ifsc s) = some s.gates := by simp [execSIfsRequest]
@[simp] theorem execSIfsResponse_gates (slot : SlotId) (ifsd : Byte) (s : State) :
    outGates (execSIfsResponse slot ifsd s) = some s.gates := by simp [execSIfsResponse]
@[simp] theorem execSWtxRequest_gates (slot : SlotId) (m : Byte) (s : State) :
    outGates (execSWtxRequest slot m s) = some s.gates := by simp [execSWtxRequest]
@[simp] theorem execSAbortRequest_gates (slot : SlotId) (s : State) :
    outGates (execSAbortRequest slot s) = some s.gates := by simp [execSAbortRequest]
@[simp] theorem execSAbortResponse_gates (slot : SlotId) (s : State) :
    outGates (execSAbortResponse slot s) = some s.gates := by simp [execSAbortResponse]
@[simp] theorem execSResynchResponse_gates (slot : SlotId) (s : State) :
    outGates (execSResynchResponse slot s) = some s.gates := by simp [execSResynchResponse]
@[simp] theorem execBwtTimeout_gates (slot : SlotId) (s : State) :
    outGates (execBwtTimeout slot s) = some s.gates := by simp [execBwtTimeout]
@[simp] theorem execCwtOverrun_gates (slot : SlotId) (s : State) :
    outGates (execCwtOverrun slot s) = some s.gates := by simp [execCwtOverrun]
@[simp] theorem execWtTimeout_gates (slot : SlotId) (s : State) :
    outGates (execWtTimeout slot s) = some s.gates := by simp [execWtTimeout]
@[simp] theorem execExchLimit_gates (slot : SlotId) (s : State) :
    outGates (execExchLimit slot s) = some s.gates := by simp only [execExchLimit]; split <;> simp
@[simp] theorem execLineStuck_gates (slot : SlotId) (s : State) :
    outGates (execLineStuck slot s) = some s.gates := by simp [execLineStuck]
@[simp] theorem execT0Character_gates (slot : SlotId) (b : Byte) (bad overrun : Bool) (s : State) :
    outGates (execT0Character slot b bad overrun s) = some s.gates := by simp [execT0Character]
@[simp] theorem execErrorSignalSeen_gates (slot : SlotId) (idx : Nat) (s : State) :
    outGates (execErrorSignalSeen slot idx s) = some s.gates := by simp only [execErrorSignalSeen]; split <;> simp
@[simp] theorem execProcedureByte_gates (slot : SlotId) (b b2 : Byte) (s : State) :
    outGates (execProcedureByte slot b b2 s) = some s.gates := by simp only [execProcedureByte]; split <;> simp
@[simp] theorem execExchangeEnd_gates (slot : SlotId) (noise chars : Nat) (s : State) :
    outGates (execExchangeEnd slot noise chars s) = some s.gates := by simp only [execExchangeEnd]; split <;> simp
@[simp] theorem execClockStop_gates (slot : SlotId) (s : State) :
    outGates (execClockStop slot s) = some s.gates := by simp [execClockStop]
@[simp] theorem execClockRestart_gates (slot : SlotId) (s : State) :
    outGates (execClockRestart slot s) = some s.gates := by simp [execClockRestart]
@[simp] theorem execModeSwitchAnswer_gates (slot : SlotId) (ok : Bool) (data : List Byte) (sw : W16) (s : State) :
    outGates (execModeSwitchAnswer slot ok data sw s) = some s.gates := by simp only [execModeSwitchAnswer]; split <;> simp
@[simp] theorem execGalloperClockApply_gates (slot : SlotId) (s : State) :
    outGates (execGalloperClockApply slot s) = some s.gates := by simp [execGalloperClockApply]
@[simp] theorem execQuietEnd_gates (slot : SlotId) (s : State) :
    outGates (execQuietEnd slot s) = some s.gates := by simp [execQuietEnd]
@[simp] theorem execRcvToken_gates (slot : SlotId) (tok : W64) (s : State) :
    outGates (execRcvToken slot tok s) = some s.gates := by simp only [execRcvToken, galGate]; (repeat' split) <;> simp
@[simp] theorem execReadBlock_gates (slot : SlotId) (blk : RawBlock) (s : State) :
    outGates (execReadBlock slot blk s) = some s.gates := by simp only [execReadBlock, galGate]; (repeat' split) <;> simp
@[simp] theorem execLtsRecord_gates (slot : SlotId) (blk : RawBlock) (s : State) :
    outGates (execLtsRecord slot blk s) = some s.gates := by simp [execLtsRecord]
@[simp] theorem execBusyEnd_gates (slot : SlotId) (s : State) :
    outGates (execBusyEnd slot s) = some s.gates := by simp only [execBusyEnd, galGate]; (repeat' split) <;> simp
@[simp] theorem execBusyLimitIdle_gates (slot : SlotId) (s : State) :
    outGates (execBusyLimitIdle slot s) = some s.gates := by simp [execBusyLimitIdle]
@[simp] theorem execC7Stuck_gates (slot : SlotId) (s : State) :
    outGates (execC7Stuck slot s) = some s.gates := by simp [execC7Stuck]
@[simp] theorem execGalloperClockStop_gates (slot : SlotId) (s : State) :
    outGates (execGalloperClockStop slot s) = some s.gates := by simp [execGalloperClockStop]
@[simp] theorem execGalloperClockRestart_gates (slot : SlotId) (s : State) :
    outGates (execGalloperClockRestart slot s) = some s.gates := by simp [execGalloperClockRestart]
@[simp] theorem execGalloperCodeApply_gates (slot : SlotId) (s : State) :
    outGates (execGalloperCodeApply slot s) = some s.gates := by simp [execGalloperCodeApply]
@[simp] theorem execLtsApdu_gates (slot : SlotId) (ok : Bool) (data : List Byte) (sw : W16) (s : State) :
    outGates (execLtsApdu slot ok data sw s) = some s.gates := by simp only [execLtsApdu]; split <;> simp
@[simp] theorem execEyeSweep_gates (slot : SlotId) (s : State) :
    outGates (execEyeSweep slot s) = some s.gates := by simp [execEyeSweep]
@[simp] theorem execTrainPattern_gates (slot : SlotId) (blk : RawBlock) (tokenOk : Bool) (s : State) :
    outGates (execTrainPattern slot blk tokenOk s) = some s.gates := by simp only [execTrainPattern, galGate]; (repeat' split) <;> simp
@[simp] theorem execDeactClkStop_gates (slot : SlotId) (s : State) :
    outGates (execDeactClkStop slot s) = some s.gates := by simp [execDeactClkStop]
@[simp] theorem execMeasurementWindowEnd_gates (slot : SlotId) (r : WindowReading) (s : State) :
    outGates (execMeasurementWindowEnd slot r s) = some s.gates := by simp [execMeasurementWindowEnd]
@[simp] theorem execDeactLdoOff_gates (slot : SlotId) (s : State) :
    outGates (execDeactLdoOff slot s) = some s.gates := by simp [execDeactLdoOff]
@[simp] theorem execEmergencyStep_gates (slot : SlotId) (s : State) :
    outGates (execEmergencyStep slot s) = some s.gates := by simp only [execEmergencyStep]; (repeat' split) <;> simp
@[simp] theorem execTOffEnd_gates (slot : SlotId) (s : State) :
    outGates (execTOffEnd slot s) = some s.gates := by simp only [execTOffEnd, outGates_gate]; (repeat' split) <;> simp
@[simp] theorem execVoffAbove_gates (slot : SlotId) (s : State) :
    outGates (execVoffAbove slot s) = some s.gates := by simp [execVoffAbove]
@[simp] theorem execOvercurrent_gates (slot : SlotId) (s : State) :
    outGates (execOvercurrent slot s) = some s.gates := by simp [execOvercurrent]
@[simp] theorem execShort_gates (slot : SlotId) (at_ : ShortAt) (s : State) :
    outGates (execShort slot at_ s) = some s.gates := by simp [execShort]
@[simp] theorem execVccWindow_gates (slot : SlotId) (s : State) :
    outGates (execVccWindow slot s) = some s.gates := by simp [execVccWindow]
@[simp] theorem execRemoval_gates (slot : SlotId) (s : State) :
    outGates (execRemoval slot s) = some s.gates := by simp [execRemoval]
@[simp] theorem execRefClockLost_gates (s : State) :
    outGates (execRefClockLost s) = some s.gates := by simp [execRefClockLost]
@[simp] theorem execPresencePresent_gates (slot : SlotId) (s : State) :
    outGates (execPresencePresent slot s) = some s.gates := by simp [execPresencePresent]
@[simp] theorem execPresenceAbsent_gates (slot : SlotId) (s : State) :
    outGates (execPresenceAbsent slot s) = some s.gates := by simp [execPresenceAbsent]
@[simp] theorem execPresBand_gates (slot : SlotId) (s : State) :
    outGates (execPresBand slot s) = some s.gates := by simp [execPresBand]
@[simp] theorem execUnstable_gates (slot : SlotId) (transitions broken : Nat) (s : State) :
    outGates (execUnstable slot transitions broken s) = some s.gates := by simp only [execUnstable, outGates_gate]; (repeat' split) <;> simp
@[simp] theorem execResolutionActivation_gates (slot : SlotId) (s : State) :
    outGates (execResolutionActivation slot s) = some s.gates := by simp [execResolutionActivation]
@[simp] theorem execComparatorCheck_gates (obj : CheckObj) (c : CompId) (s : State) :
    outGates (execComparatorCheck obj c s) = some s.gates := by simp only [execComparatorCheck]; split <;> simp
@[simp] theorem execComparatorCheckEnd_gates (obj : CheckObj) (c : CompId) (failStep : Option (Fin 3)) (s : State) :
    outGates (execComparatorCheckEnd obj c failStep s) = some s.gates := by simp only [execComparatorCheckEnd]; (repeat' split) <;> simp
@[simp] theorem execRotationCheck_gates (ring : RingId) (slot : Fin 8) (c : CompId) (s : State) :
    outGates (execRotationCheck ring slot c s) = some s.gates := by simp [execRotationCheck]
@[simp] theorem execHandoverEnd_gates (ring : RingId) (agree : Bool) (s : State) :
    outGates (execHandoverEnd ring agree s) = some s.gates := by simp only [execHandoverEnd]; split <;> simp
@[simp] theorem execPresCheck_gates (slot : SlotId) (s : State) :
    outGates (execPresCheck slot s) = some s.gates := by simp [execPresCheck]
@[simp] theorem execTwinCheck_gates (ring : RingId) (s : State) :
    outGates (execTwinCheck ring s) = some s.gates := by simp [execTwinCheck]
@[simp] theorem execRingParked_gates (ring : RingId) (s : State) :
    outGates (execRingParked ring s) = some s.gates := by simp [execRingParked]
@[simp] theorem execRailRetarget_gates (ring : RingId) (s : State) :
    outGates (execRailRetarget ring s) = some s.gates := by simp only [execRailRetarget, outGates_gate]; (repeat' split) <;> simp
@[simp] theorem execRailSettled_gates (ring : RingId) (s : State) :
    outGates (execRailSettled ring s) = some s.gates := by simp [execRailSettled]
@[simp] theorem execDownHoldEnd_gates (ring : RingId) (s : State) :
    outGates (execDownHoldEnd ring s) = some s.gates := by simp [execDownHoldEnd]
@[simp] theorem execRingUv_gates (ring : RingId) (s : State) :
    outGates (execRingUv ring s) = some s.gates := by simp [execRingUv]
@[simp] theorem execRingOv_gates (ring : RingId) (s : State) :
    outGates (execRingOv ring s) = some s.gates := by simp [execRingOv]
@[simp] theorem execRingOc_gates (ring : RingId) (s : State) :
    outGates (execRingOc ring s) = some s.gates := by simp [execRingOc]
@[simp] theorem execRingOt_gates (ring : RingId) (s : State) :
    outGates (execRingOt ring s) = some s.gates := by simp [execRingOt]
@[simp] theorem execRingStart_gates (ring : RingId) (s : State) :
    outGates (execRingStart ring s) = some s.gates := by simp [execRingStart]
@[simp] theorem execRingSettle_gates (ring : RingId) (s : State) :
    outGates (execRingSettle ring s) = some s.gates := by simp [execRingSettle]
@[simp] theorem execJournalGroupCommit_gates (s : State) :
    outGates (execJournalGroupCommit s) = some s.gates := by simp [execJournalGroupCommit]
@[simp] theorem execJournalCopy_gates (chan : ChanId) (s : State) :
    outGates (execJournalCopy chan s) = some s.gates := by simp [execJournalCopy]
@[simp] theorem execJournalBlockErase_gates (upTo : W64) (s : State) :
    outGates (execJournalBlockErase upTo s) = some s.gates := by simp [execJournalBlockErase]
@[simp] theorem execRppWrite_gates (s : State) :
    outGates (execRppWrite s) = some s.gates := by simp [execRppWrite]
@[simp] theorem execAnchorUpdate_gates (s : State) :
    outGates (execAnchorUpdate s) = some s.gates := by simp [execAnchorUpdate]
@[simp] theorem execPagePad_gates (t : TargetId) (i : Nat) (s : State) :
    outGates (execPagePad t i s) = some s.gates := by simp [execPagePad]
@[simp] theorem execBlockRelocate_gates (t : TargetId) (i : Nat) (s : State) :
    outGates (execBlockRelocate t i s) = some s.gates := by simp [execBlockRelocate]
@[simp] theorem execWearLevel_gates (t : TargetId) (s : State) :
    outGates (execWearLevel t s) = some s.gates := by simp only [execWearLevel]; split <;> simp
@[simp] theorem execMediaProgramDone_gates (t : TargetId) (i : Nat) (erase passed : Bool) (s : State) :
    outGates (execMediaProgramDone t i erase passed s) = some s.gates := by simp [execMediaProgramDone]
@[simp] theorem execLcWaitTimeout_gates (s : State) :
    outGates (execLcWaitTimeout s) = some s.gates := by simp only [execLcWaitTimeout]; split <;> simp
@[simp] theorem execDebugToken_gates (req : SignedReq) (s : State) :
    outGates (execDebugToken req s) = some s.gates := by simp [execDebugToken]
@[simp] theorem execDebugClose_gates (s : State) :
    outGates (execDebugClose s) = some s.gates := by simp [execDebugClose]
@[simp] theorem execDebugExpiry_gates (s : State) :
    outGates (execDebugExpiry s) = some s.gates := by simp [execDebugExpiry]
@[simp] theorem execCeremonyTimeout_gates (s : State) :
    outGates (execCeremonyTimeout s) = some s.gates := by simp [execCeremonyTimeout]
@[simp] theorem execRuleBarrier_gates (cause : RuleCause) (s : State) :
    outGates (execRuleBarrier cause s) = some s.gates := by simp [execRuleBarrier]
@[simp] theorem execRuleBarrierDrained_gates (s : State) :
    outGates (execRuleBarrierDrained s) = some s.gates := by simp [execRuleBarrierDrained]
@[simp] theorem execProbationEnd_gates (u : UnitRef) (s : State) :
    outGates (execProbationEnd u s) = some s.gates := by simp [execProbationEnd]
@[simp] theorem execSiliconMonitor_gates (core slot bank link : Int) (s : State) :
    outGates (execSiliconMonitor core slot bank link s) = some s.gates := by simp [execSiliconMonitor]
@[simp] theorem execEfficiencySample_gates (ring : RingId) (percent railMilliwatt : Nat) (s : State) :
    outGates (execEfficiencySample ring percent railMilliwatt s) = some s.gates := by simp [execEfficiencySample]
@[simp] theorem execRetentionCheck_gates (bankA bankB option : Option Nat) (s : State) :
    outGates (execRetentionCheck bankA bankB option s) = some s.gates := by simp only [execRetentionCheck]; split <;> simp
@[simp] theorem execEyeSweepRequest_gates (slot : SlotId) (s : State) :
    outGates (execEyeSweepRequest slot s) = some s.gates := by simp [execEyeSweepRequest]
@[simp] theorem execPlanEvaluation_gates (s : State) :
    outGates (execPlanEvaluation s) = some s.gates := by simp [execPlanEvaluation]
@[simp] theorem execGuardSwitch_gates (s : State) :
    outGates (execGuardSwitch s) = some s.gates := by simp [execGuardSwitch]
@[simp] theorem execGuardForce_gates (s : State) :
    outGates (execGuardForce s) = some s.gates := by simp [execGuardForce]
@[simp] theorem execSbCommandFrame_gates (port : PortId) (s : State) :
    outGates (execSbCommandFrame port s) = some s.gates := by simp only [execSbCommandFrame]; split <;> simp
@[simp] theorem execPollResponse_gates (port : PortId) (mu : MuId) (f : SbFrame) (s : State) :
    outGates (execPollResponse port mu f s) = some s.gates := by simp [execPollResponse]
@[simp] theorem execPollPeriod_gates (port : PortId) (mu : MuId) (s : State) :
    outGates (execPollPeriod port mu s) = some s.gates := by simp [execPollPeriod]
@[simp] theorem execRespTimeout_gates (port : PortId) (mu : MuId) (s : State) :
    outGates (execRespTimeout port mu s) = some s.gates := by simp [execRespTimeout]
@[simp] theorem execAnnounce_gates (port : PortId) (mu : MuId) (f : SbFrame) (s : State) :
    outGates (execAnnounce port mu f s) = some s.gates := by simp [execAnnounce]
@[simp] theorem execCollision_gates (port : PortId) (s : State) :
    outGates (execCollision port s) = some s.gates := by simp only [execCollision]; (repeat' split) <;> simp
@[simp] theorem execListen_gates (port : PortId) (s : State) :
    outGates (execListen port s) = some s.gates := by simp [execListen]
@[simp] theorem execWake_gates (port : PortId) (s : State) :
    outGates (execWake port s) = some s.gates := by simp [execWake]
@[simp] theorem execSbStuckLow_gates (port : PortId) (s : State) :
    outGates (execSbStuckLow port s) = some s.gates := by simp [execSbStuckLow]
@[simp] theorem execSbRecovered_gates (port : PortId) (s : State) :
    outGates (execSbRecovered port s) = some s.gates := by simp [execSbRecovered]
@[simp] theorem execRtsCtsMessage_gates (port : PortId) (s : State) :
    outGates (execRtsCtsMessage port s) = some s.gates := by simp only [execRtsCtsMessage]; split <;> simp
@[simp] theorem execCtsTimeout_gates (port : PortId) (s : State) :
    outGates (execCtsTimeout port s) = some s.gates := by simp only [execCtsTimeout]; split <;> simp
@[simp] theorem execRtsCtsAnswer_gates (port : PortId) (b : Byte) (s : State) :
    outGates (execRtsCtsAnswer port b s) = some s.gates := by simp only [execRtsCtsAnswer]; split <;> simp
@[simp] theorem execAckTimeout_gates (port : PortId) (s : State) :
    outGates (execAckTimeout port s) = some s.gates := by simp only [execAckTimeout]; split <;> simp
@[simp] theorem execBusStartStop_gates (cut : SbCut) (s : State) :
    outGates (execBusStartStop cut s) = some s.gates := by simp only [execBusStartStop]; split <;> simp
@[simp] theorem execIdent_gates (s : State) :
    outGates (execIdent s) = some s.gates := by simp [execIdent]
@[simp] theorem execStatus_gates (s : State) :
    outGates (execStatus s) = some s.gates := by simp [execStatus]
@[simp] theorem execHealth_gates (s : State) :
    outGates (execHealth s) = some s.gates := by simp [execHealth]
@[simp] theorem execPresence_gates (s : State) :
    outGates (execPresence s) = some s.gates := by simp [execPresence]
@[simp] theorem execLogSel_gates (w : SbWrite) (s : State) :
    outGates (execLogSel w s) = some s.gates := by simp [execLogSel]
@[simp] theorem execLogRead_gates (s : State) :
    outGates (execLogRead s) = some s.gates := by simp [execLogRead]
@[simp] theorem execMboxRead_gates (s : State) :
    outGates (execMboxRead s) = some s.gates := by simp [execMboxRead]
@[simp] theorem execMboxWrite_gates (w : SbWrite) (s : State) :
    outGates (execMboxWrite w s) = some s.gates := by simp [execMboxWrite]
@[simp] theorem execNonce_gates (s : State) :
    outGates (execNonce s) = some s.gates := by simp [execNonce]
@[simp] theorem execBistResult_gates (s : State) :
    outGates (execBistResult s) = some s.gates := by simp [execBistResult]
@[simp] theorem execFwStatus_gates (s : State) :
    outGates (execFwStatus s) = some s.gates := by simp [execFwStatus]
@[simp] theorem execLockoutEnd_gates (s : State) :
    outGates (execLockoutEnd s) = some s.gates := by simp [execLockoutEnd]
@[simp] theorem execSideshowAnswer_gates (s : State) :
    outGates (execSideshowAnswer s) = some s.gates := by simp only [execSideshowAnswer]; split <;> simp
@[simp] theorem execHealthSnapshot_gates (tempEighths : W16) (s : State) :
    outGates (execHealthSnapshot tempEighths s) = some s.gates := by simp [execHealthSnapshot]
@[simp] theorem execVstbyFall_gates (s : State) :
    outGates (execVstbyFall s) = some s.gates := by simp [execVstbyFall]
@[simp] theorem execVinRingRestored_gates (s : State) :
    outGates (execVinRingRestored s) = some s.gates := by simp [execVinRingRestored]
@[simp] theorem execTapInstructionLoad_gates (i : TapInstr) (s : State) :
    outGates (execTapInstructionLoad i s) = some s.gates := by simp [execTapInstructionLoad]
@[simp] theorem execDebugHalt_gates (p : PairId) (s : State) :
    outGates (execDebugHalt p s) = some s.gates := by simp [execDebugHalt]
@[simp] theorem execDebugResume_gates (p : PairId) (s : State) :
    outGates (execDebugResume p s) = some s.gates := by simp [execDebugResume]

@[simp] theorem execNoResponseToken_gates (slot : SlotId) (s : State) : outGates (execNoResponseToken slot s) = some s.gates :=
  outGates_galGate _ _ _ _ fun _ _ => by simp

@[simp] theorem execBusyLimit_gates (slot : SlotId) (s : State) : outGates (execBusyLimit slot s) = some s.gates := by
  refine outGates_galGate _ _ _ _ fun g s => ?_
  simp only [busyDown_gates]
  split
  · exact (State.updJob_gates _ _ _).trans (forEach_gates _ _ _ fun _ _ => by split <;> simp)
  · exact forEach_gates _ _ _ fun _ _ => by split <;> simp

@[simp] theorem execRspToken_gates (slot : SlotId) (tok : W64) (s : State) :
    outGates (execRspToken slot tok s) = some s.gates :=
  outGates_galGate _ _ _ _ fun _ _ => by (repeat' split) <;> simp

/-- Every state that an outcome answers has its gate bits in order. -/
def OutOk (o : Out) : Prop := ∀ t, o = .next t → t.gates.Ok

theorem OutOk.next {s : State} (h : s.gates.Ok) : OutOk (.next s) := by
  rintro t ⟨⟩; exact h

theorem OutOk.of_gates {o : Out} {s : State} (h : s.gates.Ok) (e : outGates o = some s.gates) : OutOk o := by
  rintro t rfl
  simp only [outGates_next, Option.some.injEq] at e
  rwa [e]

theorem OutOk.gate {s : State} {c : Bool} {f : State → State} (h : s.gates.Ok) (hf : c = true → (f s).gates.Ok) :
    OutOk (s.gate c f) := by
  refine .next ?_
  split
  · next hc => exact hf hc
  · exact h

theorem OutOk.hostWrite {s : State} {off : Nat} {f : State → State} (h : s.gates.Ok) (hf : (f s).gates.Ok) :
    OutOk (s.hostWrite off f) :=
  .gate h fun _ => gatesOk_ite (by simpa using h) hf

theorem OutOk.sideWrite {s : State} {code : Byte} {lo hi : Nat} {w : SbWrite} {f : State → State} (h : s.gates.Ok)
    (hf : (f s).gates.Ok) : OutOk (s.sideWrite code lo hi w f) :=
  .gate h fun _ => gatesOk_ite (by simpa using h) (gatesOk_ite (by simpa using h) (gatesOk_ite (by simpa using h) hf))

/-! The commands that may move the gate bits. -/

theorem execMainSideReset_ok (src : ResetSource) (board : Board) {s : State} (h : s.gates.Ok) :
    OutOk (execMainSideReset src board s) := .gate h fun _ => mainReset_ok _ _ _

theorem execBooted_ok {s : State} (h : s.gates.Ok) : OutOk (execBooted s) :=
  .gate h fun _ => ⟨fun hr => ⟨(h.1 hr).1, rfl⟩, h.2⟩

theorem execReadyRise_ok {s : State} (h : s.gates.Ok) : OutOk (execReadyRise s) := by
  refine .gate h fun hc => ?_
  simp only [State.booted, Bool.and_eq_true] at hc
  rw [fireIrq_gates]
  exact ⟨fun _ => ⟨hc.1.1.1.1.2, hc.1.1.1.1.1.1.2⟩, h.2⟩

theorem execPcieReset_ok (k : LinkReset) {s : State} (h : s.gates.Ok) : OutOk (execPcieReset k s) :=
  .gate h fun _ => resetBy_ok _ _

theorem execFlr_ok {s : State} (h : s.gates.Ok) : OutOk (execFlr s) := .gate h fun _ => resetBy_ok _ _

theorem execDeviceCheckEnd_ok {s : State} (h : s.gates.Ok) : OutOk (execDeviceCheckEnd s) := by
  refine .gate h fun _ => ?_
  split
  · simpa using h
  · simp only [forEach_gates _ _ _ startConverter_gates, flushHeld_gates, fireIrq_gates]
    exact ⟨fun hr => ⟨rfl, (h.1 hr).2⟩, fun _ => rfl⟩

theorem execWindDown_ok {s : State} (h : s.gates.Ok) : OutOk (execWindDown s) := by
  refine .hostWrite h ?_
  split
  · next he => exact beginWindDown_ok h (Bool.and_eq_true_iff.1 he).1
  · exact h

theorem dropReady_ready (s : State) : (dropReady s).gates.ready = false := by
  unfold dropReady; split
  · rw [fireIrq_gates]; rfl
  · next h => exact Bool.not_eq_true _ ▸ h

/-- The end of a wind-down clears READY with ENABLE (R316). -/
theorem execWindDownEnd_ok {s : State} (h : s.gates.Ok) : OutOk (execWindDownEnd s) := by
  refine .gate h fun _ => ?_
  rw [fireIrq_gates]
  exact ⟨fun hr => (nomatch (dropReady_ready (stopAllConverters s)).symm.trans hr), nofun⟩

theorem execRegParity_ok (off : BitVec 12) (both : Bool) {s : State} (h : s.gates.Ok) : OutOk (execRegParity off both s) :=
  .gate h fun _ => gatesOk_ite (openFatal_ok _ _ _ h) (by simpa using h)

theorem execBistDomainEnd_ok (sig : W64) {s : State} (h : s.gates.Ok) : OutOk (execBistDomainEnd sig s) := by
  unfold execBistDomainEnd; split
  · exact .next h
  · next b hb =>
    refine .gate h fun _ => ?_
    have h1 : (restoreScope b sig s).gates.Ok := restoreScope_ok b sig h
    have h2 := gatesOk_ite (c := (b.scope == 0xA) = true) h1 (b := askBarrier .bist (writeResult b sig (restoreScope b sig s)))
      (by simpa using h1)
    exact gatesOk_ite h2 (failDomainRun_ok b h2)

theorem execFwPrepare_ok (key : Byte) {s : State} (h : s.gates.Ok) : OutOk (execFwPrepare key s) :=
  .gate h fun _ => hostFw_ok _ _ h

theorem execFwCommit_ok (key : Byte) {s : State} (h : s.gates.Ok) : OutOk (execFwCommit key s) :=
  .gate h fun _ => hostFw_ok _ _ h

theorem execFwSwitch_ok (key : Byte) {s : State} (h : s.gates.Ok) : OutOk (execFwSwitch key s) :=
  .gate h fun _ => hostFw_ok _ _ h

theorem execFwAbort_ok (key : Byte) {s : State} (h : s.gates.Ok) : OutOk (execFwAbort key s) :=
  .gate h fun _ => hostFw_ok _ _ h

theorem execDeactivationEnd_ok (slot : SlotId) {s : State} (h : s.gates.Ok) : OutOk (execDeactivationEnd slot s) := by
  unfold execDeactivationEnd; split
  · exact .next h
  · exact .gate h fun _ => endDeactivation_ok slot h

theorem execSupplyTrigger_ok (vcore : Bool) {s : State} (h : s.gates.Ok) : OutOk (execSupplyTrigger vcore s) :=
  .gate h fun _ => gatesOk_ite (by simpa using h) (resetBy_ok _ _)

theorem execRefClockRestored_ok {s : State} (h : s.gates.Ok) : OutOk (execRefClockRestored s) :=
  .gate h fun _ => resetBy_ok _ _

theorem execJournalDurable_ok {s : State} (h : s.gates.Ok) : OutOk (execJournalDurable s) :=
  .gate h fun _ => fatalProgress_ok (by simpa using h)

theorem execLcDrained_ok {s : State} (h : s.gates.Ok) : OutOk (execLcDrained s) := by
  unfold execLcDrained; split
  · exact .next h
  · exact .gate h fun _ => finishChange_ok _ h

theorem execDebugLcChange_ok (req : SignedReq) {s : State} (h : s.gates.Ok) : OutOk (execDebugLcChange req s) := by
  have h' : (renewDebugNonce s).gates.Ok := by simpa using h
  refine .gate h fun _ => ?_
  dsimp only
  split
  · exact gatesOk_ite (finishChange_ok _ h') h'
  · exact h'

theorem execAccessViolation_ok (v : Violation) {s : State} (h : s.gates.Ok) : OutOk (execAccessViolation v s) :=
  .gate h fun _ => by
    rw [refusalJob_gates]
    exact refusalError_ok v (by simpa using h)

theorem execTamperL1_ok (x : Sensor) {s : State} (h : s.gates.Ok) : OutOk (execTamperL1 x s) :=
  .gate h fun _ => tamperLevel1_ok x h

theorem execTamperL2_ok (x : Sensor) {s : State} (h : s.gates.Ok) : OutOk (execTamperL2 x s) :=
  .gate h fun _ => tamperLevel2_ok x h

theorem execTamperSelfTest_ok (failed : Bool) {s : State} (h : s.gates.Ok) : OutOk (execTamperSelfTest failed s) :=
  .gate h fun _ => gatesOk_ite (tamperLevel1_ok _ h) h

theorem execUnitError_ok (u : UnitRef) (code : W16) {s : State} (h : s.gates.Ok) : OutOk (execUnitError u code s) :=
  .gate h fun _ => unitFails_ok u code h

theorem execLockstep_ok (p : PairId) {s : State} (h : s.gates.Ok) : OutOk (execLockstep p s) :=
  .gate h fun _ => unitFails_ok _ _ h

theorem execPairWatchdog_ok (p : PairId) {s : State} (h : s.gates.Ok) : OutOk (execPairWatchdog p s) :=
  .gate h fun _ => unitFails_ok _ _ h

theorem execDeviceWatchdog_ok {s : State} (h : s.gates.Ok) : OutOk (execDeviceWatchdog s) :=
  .gate h fun _ => openFatal_ok _ _ _ h

theorem execRecoveryDone_ok (u : UnitRef) (ok : Bool) {s : State} (h : s.gates.Ok) : OutOk (execRecoveryDone u ok s) := by
  refine .gate h fun _ => ?_
  cases ok
  · exact recoveryFails_ok u h
  · simpa using h

theorem execFatalError_ok (code : W16) {s : State} (h : s.gates.Ok) : OutOk (execFatalError code s) :=
  .gate h fun _ => openFatal_ok _ _ _ h

theorem execFatalNested_ok (code : W16) {s : State} (h : s.gates.Ok) : OutOk (execFatalNested code s) :=
  .gate h fun _ => openFatal_ok _ _ _ h

theorem execFatalWindowTimeout_ok {s : State} (h : s.gates.Ok) : OutOk (execFatalWindowTimeout s) :=
  .gate h fun _ => resetBy_ok _ _

theorem execSlotOff_ok (w : SbWrite) {s : State} (h : s.gates.Ok) : OutOk (execSlotOff w s) :=
  .sideWrite h (privileged_ok _ _ _ h fun _ _ h => by simpa using h)

theorem execMainReset_ok (w : SbWrite) {s : State} (h : s.gates.Ok) : OutOk (execMainReset w s) :=
  .sideWrite h (privileged_ok _ _ _ h fun _ _ _ => resetBy_ok _ _)

theorem execBistStart_ok (w : SbWrite) {s : State} (h : s.gates.Ok) : OutOk (execBistStart w s) :=
  .sideWrite h (privileged_ok _ _ _ h fun _ _ h => by simpa using h)

theorem execFwOp_ok (w : SbWrite) {s : State} (h : s.gates.Ok) : OutOk (execFwOp w s) :=
  .sideWrite h (privileged_ok _ _ _ h fun d _ h => sideFw_ok d h)

theorem execFwData_ok (w : SbWrite) {s : State} (h : s.gates.Ok) : OutOk (execFwData w s) :=
  .sideWrite h (privileged_ok _ _ _ h fun d _ h => sideFwData_ok d h)

/-- Every command keeps the order of the gate bits. -/
theorem exec_ok (c : Instr) {s : State} (h : s.gates.Ok) : OutOk (exec c s) := by
  cases c with
  | mainSideReset src board => exact execMainSideReset_ok src board h
  | booted => exact execBooted_ok h
  | readyRise => exact execReadyRise_ok h
  | pcieReset kind => exact execPcieReset_ok kind h
  | flr => exact execFlr_ok h
  | deviceCheckEnd => exact execDeviceCheckEnd_ok h
  | windDown => exact execWindDown_ok h
  | windDownEnd => exact execWindDownEnd_ok h
  | regParity off both => exact execRegParity_ok off both h
  | bistDomainEnd sig => exact execBistDomainEnd_ok sig h
  | fwPrepare key => exact execFwPrepare_ok key h
  | fwCommit key => exact execFwCommit_ok key h
  | fwSwitch key => exact execFwSwitch_ok key h
  | fwAbort key => exact execFwAbort_ok key h
  | deactivationEnd slot => exact execDeactivationEnd_ok slot h
  | supplyTrigger vcore => exact execSupplyTrigger_ok vcore h
  | refClockRestored => exact execRefClockRestored_ok h
  | journalDurable => exact execJournalDurable_ok h
  | lcDrained => exact execLcDrained_ok h
  | debugLcChange req => exact execDebugLcChange_ok req h
  | accessViolation v => exact execAccessViolation_ok v h
  | tamperL1 sensor => exact execTamperL1_ok sensor h
  | tamperL2 sensor => exact execTamperL2_ok sensor h
  | tamperSelfTest failed => exact execTamperSelfTest_ok failed h
  | unitError u code => exact execUnitError_ok u code h
  | lockstep p => exact execLockstep_ok p h
  | pairWatchdog p => exact execPairWatchdog_ok p h
  | deviceWatchdog => exact execDeviceWatchdog_ok h
  | recoveryDone u ok => exact execRecoveryDone_ok u ok h
  | fatalError code => exact execFatalError_ok code h
  | fatalWindowTimeout => exact execFatalWindowTimeout_ok h
  | fatalNested code => exact execFatalNested_ok code h
  | slotOff w => exact execSlotOff_ok w h
  | mainReset w => exact execMainReset_ok w h
  | bistStart w => exact execBistStart_ok w h
  | fwOp w => exact execFwOp_ok w h
  | fwData w => exact execFwData_ok w h
  | _ => exact .of_gates h (by simp [exec])

theorem tick_gates (s : State) : (tick s).gates = s.gates := by
  simp [tick]

@[simp] theorem withPending_gates (s : State) (l : List Instr) : (withPending s l).gates = s.gates := by
  simp [withPending]

/-- Settles O6: every command keeps the order of the gate bits, and so does a microsecond. -/
theorem readyOnlyWhileEnabled : Obligations.ReadyOnlyWhileEnabled := by
  intro s t h hs
  rw [gateBits_iff] at h ⊢
  unfold step at hs
  split at hs
  · exact exec_ok _ (by simpa using h) t hs
  · cases hs
    rwa [tick_gates]

/-! # Fetched tickets (R163, R171, R323) -/

theorem takeTicket_passed {tk : Ticket} {s : State} (h : s.ticketFault tk = none) :
    takeTicket tk s = { s with place.seqNext := s.place.seqNext + 1,
                               regs.tbHead := nextIndex s.regs.tbHead s.regs.tbSize,
                               jobs := s.jobs ++ [newJob tk s.regs.time s.place.seqNext] } := by
  have h' : ({ s with place.seqNext := s.place.seqNext + 1,
                      regs.tbHead := nextIndex s.regs.tbHead s.regs.tbSize } : State).ticketFault tk = none := h
  simp only [takeTicket, h']

theorem takeTicket_failed {tk : Ticket} {s : State} {st : CStatus} {err : W16} (h : s.ticketFault tk = some (st, err)) :
    takeTicket tk s = pushClosing (closingOf (newJob tk s.regs.time s.place.seqNext) st err 0)
      { s with place.seqNext := s.place.seqNext + 1, regs.tbHead := nextIndex s.regs.tbHead s.regs.tbSize } := by
  have h' : ({ s with place.seqNext := s.place.seqNext + 1,
                      regs.tbHead := nextIndex s.regs.tbHead s.regs.tbSize } : State).ticketFault tk = some (st, err) := h
  simp only [takeTicket, h']

/-- The state as the read of one ticket leaves it. -/
def State.fetchedOne (s : State) : State :=
  emit (.fetchRead s.regs.tbHead.toNat 1) { s with regs.fetchFails := 0 }

theorem ticketFault_fetchedOne (tk : Ticket) (s : State) : s.fetchedOne.ticketFault tk = s.ticketFault tk := rfl

/-- A fetch that may run takes at least one ticket. -/
theorem exec_ticketFetch_one (tk : Ticket) {s : State} (h : s.canFetch = true) :
    exec (.ticketFetch [tk]) s = .next (takeTicket tk s.fetchedOne) := by
  have hn : s.fetchable ≠ 0 := by
    simp only [State.canFetch, Bool.and_eq_true, bne_iff_ne] at h
    exact h.2
  have hl : [tk].take s.fetchable = [tk] := List.take_of_length_le (Nat.one_le_iff_ne_zero.2 hn)
  simp only [exec, execTicketFetch, State.gate_open h, hl, forEach, List.foldl, List.length_singleton, State.fetchedOne]

theorem exec_fetchRetry_again {s : State} (h : s.canFetch = true) (hk : s.regs.fetchFails < 2) :
    exec .fetchRetry s = .next { s with regs.fetchFails := s.regs.fetchFails + 1 } :=
  show execFetchRetry s = _ from (State.gate_open h).trans (by rw [if_pos (by omega)])

theorem exec_fetchRetry_stall {s : State} (h : s.canFetch = true) (hk : 2 ≤ s.regs.fetchFails) :
    exec .fetchRetry s = .next (raise 0x0A01 none s.regs.tbHead.toNat
      (latchError 0x0A01 .device none false { s with regs.fetchFails := 0, regs.fetchStalled := true })) :=
  show execFetchRetry s = _ from (State.gate_open h).trans (by rw [if_neg (by omega)])

/-- Settles O21: `takeTicket` queues a ticket that passes R172 and closes one that does not; the third failed read in
a row stalls the fetch. -/
theorem ticketFetchQueuesOrRejects : Obligations.TicketFetchQueuesOrRejects := by
  refine ⟨fun tk s hs => ⟨fun hf => ?_, fun st err hf hst => ?_⟩, fun s hs => ?_⟩
  · refine ⟨_, exec_ticketFetch_one tk hs, ?_⟩
    rw [takeTicket_passed ((ticketFault_fetchedOne tk s).trans hf)]
    exact ⟨rfl, rfl, rfl, _, rfl, rfl, rfl, rfl, rfl, rfl, rfl⟩
  · refine ⟨_, exec_ticketFetch_one tk hs, ?_⟩
    rw [takeTicket_failed ((ticketFault_fetchedOne tk s).trans hf)]
    exact ⟨rfl, rfl, rfl, _, rfl, rfl, rfl, by simp [closingOf, hst], rfl⟩
  · have running : s.regs.fetchStalled = false := by
      simp only [State.canFetch, Bool.and_eq_true, Bool.not_eq_true'] at hs
      exact hs.1.1.2
    rcases Nat.lt_or_ge s.regs.fetchFails 2 with hk | hk
    · exact ⟨_, exec_fetchRetry_again hs hk, rfl, rfl, fun _ => ⟨rfl, running⟩, fun h => absurd hk (Nat.not_lt.2 h)⟩
    · refine ⟨_, exec_fetchRetry_stall hs hk, ?_, by simp, fun h => absurd hk (Nat.not_le.2 h), fun _ => ⟨?_, ?_⟩⟩
      · rw [raise_regs, latchError, latchAt_frame]
      · rw [raise_regs, latchError, latchAt_frame]
      · exact ⟨_, by rw [raise_queue]; exact List.mem_append_right _ (List.mem_singleton_self _), rfl⟩

/-! # Ring entries (R16, R165, R166, R177, R178, R517) -/

theorem sendVector_out (n : Nat) (s : State) : ∃ l, (sendVector n s).out = s.out ++ l := by
  unfold sendVector; split
  · exact ⟨[], (List.append_nil _).symm⟩
  · exact ⟨_, rfl⟩

/-- An interrupt source appends at most its message to what leaves the device (R320). -/
theorem fireIrq_out (n : Nat) (s : State) : ∃ l, (fireIrq n s).out = s.out ++ l := by
  simp only [fireIrq]; split
  · exact ⟨[], (List.append_nil _).symm⟩
  · exact sendVector_out n _

/-! ## Completions -/

theorem writeCompletion_waits {c : Closing} {rest : List Closing} {s : State} (hc : s.closing = c :: rest)
    (h : s.completionReady c = false) : writeCompletion s = s := by
  simp [writeCompletion, hc, h]

/-- What a completion sends before its interrupt, in the order of R16. -/
def State.completionOut (s : State) (c : Closing) : List Emission :=
  s.out ++ (if c.result = [] then [] else [.result c.resultAddr c.result]) ++
    [.completion s.regs.cqTail.toNat c, .cqTail (nextIndex s.regs.cqTail s.regs.cqSize).toNat]

theorem writeCompletion_writes {c : Closing} {rest : List Closing} {s : State} (hc : s.closing = c :: rest)
    (h : s.completionReady c = true) :
    writeCompletion s = fireIrq 0 { s with closing := rest, regs.cqTail := nextIndex s.regs.cqTail s.regs.cqSize,
                                           out := s.completionOut c } := by
  by_cases hr : c.result = []
  · simp [writeCompletion, hc, h, hr, emit, State.completionOut]
  · simp [writeCompletion, hc, h, hr, emit, State.completionOut]

/-! ## Events -/

section Event
variable {e : Event} {rest : List Event} {s : State}

theorem writeEvent_limited (hq : s.barker.queue = e :: rest) (hl : s.barker.limited e = true) :
    writeEvent s = { s with barker := Barker.drop { s.barker with queue := rest } e } := by
  have hl' : Barker.limited { s.barker with queue := rest } e = true := hl
  simp only [writeEvent, hq, hl', ↓reduceIte]

theorem writeEvent_hold_full (hq : s.barker.queue = e :: rest) (hl : s.barker.limited e = false)
    (he : s.regs.enable = false) (hh : 64 ≤ s.barker.held.length) :
    writeEvent s = { s with barker.queue := rest, barker.overflow := s.barker.overflow + 1 } := by
  have hl' : Barker.limited { s.barker with queue := rest } e = false := hl
  simp [writeEvent, hq, hl', he, hh]

theorem writeEvent_held (hq : s.barker.queue = e :: rest) (hl : s.barker.limited e = false)
    (he : s.regs.enable = false) (hh : s.barker.held.length < 64) :
    writeEvent s = { s with barker := { Barker.note { s.barker with queue := rest } e with
      held := s.barker.held ++ [(e, s.barker.droppedOf e)] } } := by
  have hl' : Barker.limited { s.barker with queue := rest } e = false := hl
  have hh' : ¬ s.barker.held.length ≥ 64 := Nat.not_le.2 hh
  simp only [writeEvent, hq, hl', he, hh']
  rfl

theorem writeEvent_dmaHeld (hq : s.barker.queue = e :: rest) (hl : s.barker.limited e = false)
    (he : s.regs.enable = true) (ho : s.ringsOpen = false) : writeEvent s = s := by
  have hl' : Barker.limited { s.barker with queue := rest } e = false := hl
  simp [writeEvent, hq, hl', he, ho]

theorem ringsOpen_enable (ho : s.ringsOpen = true) : s.regs.enable = true := by
  simp only [State.ringsOpen, Bool.and_eq_true] at ho
  exact ho.1.1

/-- EQ_OVERFLOW waits for a free entry, and arises only when something was counted (R166). -/
theorem writeOverflow_idle {s : State} (h : s.eqFull = true ∨ s.barker.overflow = 0) : writeOverflow s = s := by
  rcases h with h | h <;> simp [writeOverflow, h]

theorem writeEvent_ring_full (hq : s.barker.queue = e :: rest) (hl : s.barker.limited e = false)
    (ho : s.ringsOpen = true) (hf : s.eqFull = true) :
    writeEvent s = { s with barker.queue := rest, barker.overflow := s.barker.overflow + 1 } := by
  have hl' : Barker.limited { s.barker with queue := rest } e = false := hl
  have hf' : State.eqFull { s with barker := { s.barker with queue := rest } } = true := hf
  simp [writeEvent, hq, hl', ringsOpen_enable ho, ho, writeOverflow_idle (.inl hf'), hf']

theorem writeEvent_writes (hq : s.barker.queue = e :: rest) (hl : s.barker.limited e = false)
    (ho : s.ringsOpen = true) (hf : s.eqFull = false) (hov : s.barker.overflow = 0) :
    writeEvent s = writeEntry e (s.barker.droppedOf e)
      { s with barker := Barker.note { s.barker with queue := rest } e } := by
  have hl' : Barker.limited { s.barker with queue := rest } e = false := hl
  have hf' : State.eqFull { s with barker := { s.barker with queue := rest } } = false := hf
  have hw : writeOverflow { s with barker := { s.barker with queue := rest } } = _ := writeOverflow_idle (.inr hov)
  simp only [writeEvent, hq, hl', ringsOpen_enable ho, ho, hw, hf']
  rfl

end Event

@[simp] theorem Barker.note_queue (b : Barker) (e : Event) : (b.note e).queue = b.queue := by
  unfold Barker.note; split <;> rfl

@[simp] theorem Barker.note_overflow (b : Barker) (e : Event) : (b.note e).overflow = b.overflow := by
  unfold Barker.note; split <;> rfl

@[simp] theorem Barker.drop_queue (b : Barker) (e : Event) : (b.drop e).queue = b.queue := by
  unfold Barker.drop; split <;> rfl

@[simp] theorem Barker.drop_held (b : Barker) (e : Event) : (b.drop e).held = b.held := by
  unfold Barker.drop; split <;> rfl

theorem Barker.drop_dropped {b : Barker} {e : Event} {n : SlotId} (h : e.slot = some n) :
    (b.drop e).dropped[n.val] = min 255 (b.dropped[n.val] + 1) := by
  simp [Barker.drop, h]

theorem exec_completionWrite {s : State} (h : s.mainUp = true) : exec .completionWrite s = .next (writeCompletion s) :=
  show execCompletionWrite s = _ from State.gate_open h

theorem exec_eventWrite {s : State} (h : s.mainUp = true) : exec .eventWrite s = .next (writeEvent s) :=
  show execEventWrite s = _ from State.gate_open h

/-- Settles O34, from what `writeCompletion` and `writeEvent` do with the oldest entry. -/
theorem ringEntriesAreWrittenInOrder : Obligations.RingEntriesAreWrittenInOrder := by
  refine ⟨fun c rest s hu hc => ⟨fun hr => ?_, fun hr => ?_⟩, fun e rest s hu hq => ⟨fun hl => ?_, fun hl he => ?_,
    fun hl he ho => ?_, fun hl ho hf => ?_, fun hl ho hf hov => ?_⟩⟩
  · obtain ⟨l, hout⟩ := fireIrq_out 0
      { s with closing := rest, regs.cqTail := nextIndex s.regs.cqTail s.regs.cqSize, out := s.completionOut c }
    refine ⟨_, l, exec_completionWrite hu, ?_⟩
    rw [writeCompletion_writes hc hr]
    exact ⟨fireIrq_frame _ _, hout, fireIrq_bit _ _ (by decide)⟩
  · rw [exec_completionWrite hu, writeCompletion_waits hc hr]
  · refine ⟨_, exec_eventWrite hu, ?_⟩
    rw [writeEvent_limited hq hl]
    exact ⟨rfl, Barker.drop_queue _ _, Barker.drop_held _ _, fun n hn => Barker.drop_dropped hn⟩
  · refine ⟨_, exec_eventWrite hu, ?_⟩
    rcases Nat.lt_or_ge s.barker.held.length 64 with hh | hh
    · rw [writeEvent_held hq hl he hh]
      exact ⟨rfl, Barker.note_queue _ _, fun _ => ⟨rfl, Barker.note_overflow _ _⟩, fun h => absurd hh (Nat.not_lt.2 h)⟩
    · rw [writeEvent_hold_full hq hl he hh]
      exact ⟨rfl, rfl, fun h => absurd hh (Nat.not_le.2 h), fun _ => ⟨rfl, rfl⟩⟩
  · rw [exec_eventWrite hu, writeEvent_dmaHeld hq hl he ho]
  · rw [exec_eventWrite hu, writeEvent_ring_full hq hl ho hf]
  · obtain ⟨l, hout⟩ := fireIrq_out 1 (emit (.eqTail (nextIndex s.regs.eqTail s.regs.eqSize).toNat)
      { emit (.event s.regs.eqTail.toNat e (s.barker.droppedOf e))
          { s with barker := Barker.note { s.barker with queue := rest } e } with
        regs.eqTail := nextIndex s.regs.eqTail s.regs.eqSize })
    refine ⟨_, l, exec_eventWrite hu, ?_⟩
    rw [writeEvent_writes hq hl ho hf hov, writeEntry]
    refine ⟨?_, ?_, fireIrq_bit _ _ (by decide), ?_⟩
    · rw [fireIrq_frame]; rfl
    · rw [fireIrq_barker]; exact Barker.note_queue _ _
    · simpa [emit] using hout

/-! # What the bank's bookkeeping leaves alone (R244, R248, R256, R260) -/

/-- The state without what the bank, the option area, the event queue, the Jugglers and the plan hold. -/
def State.offBooks (s : State) : State :=
  { s with bank := Bank.reset, nv := OptionArea.factory, barker := Barker.reset,
           jugs := Vector.replicate 8 { ctxs := [], cache := [] }, tight := Tight.factoryPlan }

section OffBooks
variable {s t : State} (h : t.offBooks = s.offBooks)
include h

theorem State.offBooks_slots : t.slots = s.slots := by
  have := congrArg State.slots h
  exact this

theorem State.offBooks_slot (n : SlotId) : t.slot n = s.slot n := congrArg (·[n.val]) (State.offBooks_slots h)

theorem State.offBooks_jobs : t.jobs = s.jobs := by
  have := congrArg State.jobs h
  exact this

theorem State.offBooks_closing : t.closing = s.closing := by
  have := congrArg State.closing h
  exact this

theorem State.offBooks_regs : t.regs = s.regs := by
  have := congrArg State.regs h
  exact this

theorem State.offBooks_power : t.power = s.power := by
  have := congrArg State.power h
  exact this

theorem State.offBooks_standby : t.standby = s.standby := by
  have := congrArg State.standby h
  exact this

end OffBooks

theorem raise_offBooks (c : W16) (o : Option SlotId) (a : Nat) (s : State) :
    (raise c o a s).offBooks = s.offBooks := rfl

theorem audit_offBooks (a o : Byte) (i : Nat) (j : W32) (c d : W64) (s : State) :
    (audit a o i j c d s).offBooks = s.offBooks := by
  simp only [audit, onlyIf]
  (repeat' split) <;> rfl

theorem rppWrite_offBooks (s : State) : (rppWrite s).offBooks = s.offBooks := by
  unfold rppWrite; split <;> rfl

theorem issueResult_offBooks (i : IssueEnd) (s : State) : (issueResult i s).offBooks = s.offBooks := by
  simp only [issueResult]; split
  · rw [audit_offBooks]; rfl
  · rfl

theorem issueResults_offBooks (s : State) : (issueResults s).offBooks = s.offBooks :=
  fe_frame State.offBooks _ _ _ issueResult_offBooks

theorem noteJournal_offBooks (s : State) : (noteJournal s).offBooks = s.offBooks := by
  simp only [noteJournal]
  (repeat' split) <;> rfl

theorem noteLeft_offBooks (j : Job) (s : State) : (noteLeft j s).offBooks = s.offBooks := by
  unfold noteLeft; split
  · exact noteJournal_offBooks s
  · rfl

theorem settle_offBooks (q : W64) (r : JResult) (sw : W16) (how : Nat) (o : Option SlotId) (s : State) :
    (settle q r sw how o s).offBooks = s.offBooks := rfl

theorem settleUnsent_offBooks (j : Job) (s : State) : (settleUnsent j s).offBooks = s.offBooks := by
  unfold settleUnsent; split
  · rfl
  · refine fe_frame State.offBooks _ _ _ fun t s => ?_
    split
    · exact settle_offBooks _ _ _ _ _ s
    · rfl

theorem noteNoise_offBooks (j : Job) (s : State) : (noteNoise j s).offBooks = s.offBooks := by
  rw [noteNoise_frame]; rfl

theorem noteIssueEnd_offBooks (j : Job) (st : CStatus) (s : State) : (noteIssueEnd j st s).offBooks = s.offBooks := by
  unfold noteIssueEnd; split
  · rfl
  · rw [issueResult_offBooks]; rfl

theorem releaseContext_offBooks (j : Job) (s : State) : (releaseContext j s).offBooks = s.offBooks := by
  unfold releaseContext; split <;> rfl

theorem cryptoErase_offBooks (keep newKey : Bool) (s : State) : (cryptoErase keep newKey s).offBooks = s.offBooks := by
  simp only [cryptoErase]; split
  · rw [rppWrite_offBooks]; rfl
  · rfl

theorem restoreCounter_offBooks (i : Fin 256) (h : W32) (top : W64) (s : State) :
    (restoreCounter i h top s).offBooks = s.offBooks := by
  simp only [restoreCounter]; split
  · rfl
  · rw [raise_offBooks, audit_offBooks]; rfl

theorem reserveAll_offBooks (s : State) : (reserveAll s).offBooks = s.offBooks := rfl

theorem startRpp_offBooks (l : List RppCopy) (s : State) : (startRpp l s).offBooks = s.offBooks := by
  simp only [startRpp]; split
  · rfl
  next c =>
    rw [rppWrite_offBooks, reserveAll_offBooks]
    refine (fe_frame State.offBooks _ _ _ fun i s => ?_).trans ?_
    · split
      · exact restoreCounter_offBooks _ _ _ s
      · rfl
    · split <;> rfl

theorem scanJournal_offBooks (s : State) : (scanJournal s).offBooks = s.offBooks := by
  simp only [scanJournal]; rw [noteJournal_offBooks, raise_offBooks]; rfl

/-! ## What adds to the books without closing an intent -/

/-- The journal, BOOT and the format stand, and every raised event still waits. -/
structure State.AddsTo (s t : State) : Prop where
  journal : t.bank.journal = s.bank.journal
  boot : t.bank.boot = s.bank.boot
  formatted : t.bank.formatted = s.bank.formatted
  queue : s.barker.queue ⊆ t.barker.queue

theorem State.AddsTo.openIntents {s t : State} (h : s.AddsTo t) : t.openIntents = s.openIntents := by
  simp only [State.openIntents, h.journal]

section AddsTo
variable {s t : State}

theorem State.AddsTo.refl (s : State) : s.AddsTo s := ⟨rfl, rfl, rfl, List.Subset.refl _⟩

theorem State.AddsTo.raise (h : s.AddsTo t) (c : W16) (o : Option SlotId) (a : Nat) : s.AddsTo (raise c o a t) where
  __ := h
  queue := by rw [raise_queue]; exact List.subset_append_of_subset_left _ h.queue

theorem State.AddsTo.audit (h : s.AddsTo t) (a o : Byte) (i : Nat) (j : W32) (c d : W64) :
    s.AddsTo (audit a o i j c d t) := by
  simp only [Machine.audit, onlyIf]; split
  · exact h
  · split
    · apply State.AddsTo.raise
      exact { h with }
    · exact { h with }

theorem State.AddsTo.rppWrite (h : s.AddsTo t) : s.AddsTo (rppWrite t) := by
  unfold Machine.rppWrite; split
  · exact h
  · exact { h with }

theorem State.AddsTo.issueResult (h : s.AddsTo t) (i : IssueEnd) : s.AddsTo (issueResult i t) := by
  simp only [Machine.issueResult]; split
  · apply State.AddsTo.audit
    exact { h with }
  · exact h

theorem State.AddsTo.issueResults (h : s.AddsTo t) : s.AddsTo (issueResults t) :=
  fe_inv s.AddsTo _ _ _ h fun i _ hu => hu.issueResult i

theorem State.AddsTo.noteJournal (h : s.AddsTo t) : s.AddsTo (noteJournal t) := by
  simp only [Machine.noteJournal]; split
  · exact { h with }
  · split
    · exact h
    · apply State.AddsTo.raise
      exact { h with }

theorem State.AddsTo.restoreCounter (h : s.AddsTo t) (i : Fin 256) (k : W32) (top : W64) :
    s.AddsTo (restoreCounter i k top t) := by
  simp only [Machine.restoreCounter]; split
  · exact { h with }
  · apply State.AddsTo.raise
    apply State.AddsTo.audit
    exact { h with }

theorem State.AddsTo.reserveAll (h : s.AddsTo t) : s.AddsTo (reserveAll t) := { h with }

theorem State.AddsTo.startRpp (h : s.AddsTo t) (l : List RppCopy) : s.AddsTo (startRpp l t) := by
  simp only [Machine.startRpp]; split
  · apply State.AddsTo.raise
    exact { h with }
  · refine (State.AddsTo.reserveAll (fe_inv s.AddsTo _ _ _ ?_ fun i _ hu => ?_)).rppWrite
    · split <;> exact { h with }
    · split
      · exact hu.restoreCounter _ _ _
      · exact hu

end AddsTo

/-! # The main-side reset (R24, R334, R479, R480) -/

/-- A slot as a start leaves it: no VCC, disabled, without a job, off or fenced (R73, R305, R425). -/
structure Slot.AtStart (x : Slot) : Prop where
  vcc : x.vcc = .off
  enable : x.enable = false
  job : x.job = none
  phase : x.phase = .off ∨ x.phase = .fenced

/-- What holds of the state from the wipe of a main-side reset to its end (R334, R480). -/
structure State.StartsOver (board : Board) (s : State) : Prop where
  time : s.regs.time = 0
  gates : s.gates = Gates.clear
  irqMask : s.regs.irqMask = 0xFFFFFFFF
  epoch : s.regs.epoch = 1
  main : s.power.main = .up
  board : s.power.board = board
  jobs : s.jobs = []
  closing : s.closing = []
  requests : s.requests = []
  started : s.bank.started = false
  slots : ∀ n, (s.slot n).AtStart
  rings : ∀ r, (s.ring r).phase = .off

section StartsOver
variable {board : Board} {s : State}

theorem State.StartsOver.updSlot (h : s.StartsOver board) (n : SlotId) (f : Slot → Slot)
    (hf : (s.slot n).AtStart → (f (s.slot n)).AtStart) : (s.updSlot n f).StartsOver board where
  __ := h
  slots m := by
    rw [State.updSlot_slot]; split
    · exact hf (h.slots n)
    · exact h.slots m

theorem State.StartsOver.raise (h : s.StartsOver board) (c : W16) (o : Option SlotId) (a : Nat) :
    (raise c o a s).StartsOver board := { h with }

theorem State.StartsOver.logStandby (h : s.StartsOver board) (c : W16) (k i : Nat) (r : Byte) :
    (logStandby c k i r s).StartsOver board := { h with }

theorem State.StartsOver.fireIrq (h : s.StartsOver board) (n : Nat) : (fireIrq n s).StartsOver board := by
  rw [fireIrq_frame]; exact { h with }

theorem State.StartsOver.latchAt (h : s.StartsOver board) (c : W16) (k i : Nat) (o : Option SlotId) (j : Option JobId)
    (e : Bool) : (latchAt c k i o j e s).StartsOver board := by
  rw [latchAt_frame]; exact { h with }

theorem State.StartsOver.latchError (h : s.StartsOver board) (c : W16) (u : UnitRef) (j : Option JobId) (e : Bool) :
    (latchError c u j e s).StartsOver board := h.latchAt _ _ _ _ _ _

theorem State.StartsOver.rppWrite (h : s.StartsOver board) : (rppWrite s).StartsOver board := by
  unfold Machine.rppWrite; split
  · exact h
  · exact { h with }

theorem State.StartsOver.audit (h : s.StartsOver board) (a o : Byte) (i : Nat) (j : W32) (c d : W64) :
    (audit a o i j c d s).StartsOver board := by
  simp only [Machine.audit, onlyIf]
  split
  · exact h
  · split
    · apply State.StartsOver.raise
      exact { h with }
    · exact { h with }

theorem State.StartsOver.cryptoErase (h : s.StartsOver board) (keep newKey : Bool) :
    (cryptoErase keep newKey s).StartsOver board := by
  simp only [Machine.cryptoErase]
  split
  · apply State.StartsOver.rppWrite
    exact { h with }
  · exact { h with }

theorem State.StartsOver.tamperWipe (h : s.StartsOver board) : (tamperWipe s).StartsOver board := by
  unfold Machine.tamperWipe; split
  · exact h
  · exact h
  · exact { ((h.audit _ _ _ _ _ _).rppWrite).cryptoErase false true with }

theorem State.StartsOver.handleTamper (h : s.StartsOver board) : (handleTamper s).StartsOver board := by
  unfold Machine.handleTamper; split
  · exact h
  · have h' : ({ s with standby.tamper := none } : State).StartsOver board := { h with }
    dsimp only
    split
    · exact ((h'.raise _ _ _).logStandby _ _ _ _).tamperWipe
    · exact (h'.raise _ _ _).logStandby _ _ _ _

theorem State.StartsOver.priorReset (h : s.StartsOver board) : (priorReset s).StartsOver board := by
  unfold Machine.priorReset; split <;> exact h.raise _ _ _

theorem State.StartsOver.reportSupply (h : s.StartsOver board) (b : Board) : (reportSupply b s).StartsOver board := by
  unfold Machine.reportSupply; split
  · exact h
  · exact (h.latchAt _ _ _ _ _ _).raise _ _ _

/-- Bank selection writes the loader's flag, the firmware registers, the option area and events. -/
theorem selectBank_frame (s : State) : selectBank s =
    { s with nv := (selectBank s).nv, power.loader := (selectBank s).power.loader, fw := (selectBank s).fw,
             barker := (selectBank s).barker } := by
  simp only [selectBank]
  (repeat' split) <;> rfl

theorem State.StartsOver.selectBank (h : s.StartsOver board) : (selectBank s).StartsOver board := by
  rw [selectBank_frame]; exact { h with }

theorem State.StartsOver.restoreCoreBist (h : s.StartsOver board) : (restoreCoreBist s).StartsOver board := by
  unfold Machine.restoreCoreBist; split
  · exact h
  · apply State.StartsOver.fireIrq
    exact { h with }

end StartsOver

/-- The state of a main-side reset right after its wipe (R480). -/
def wiped (src : ResetSource) (board : Board) (s : State) : State :=
  { State.reset with
    pending := s.pending, draws := s.draws + 32, out := s.out, nv := s.nv,
    power := { s.power with main := .up, board := board, vinOk := board.vinOk, vcoreOk := true, refClock := true,
                            loader := false },
    regs := regsAfterReset src s.regs, bank := bankAfterReset s.bank s.jobs,
    standby := { s.standby with recov := recovAfterReset s.faults.units s.aonSeconds s.standby.recov, presFail := [] },
    side := sideAfterReset (s.random 16) s.side,
    sec := { Security.reset with cidNext := s.sec.cidNext, debugNonce := (s.drew 16).random 16 },
    tight := tightAfterReset s.bank.planStored s.tight }

/-- The state with its slots at the start; those with residual voltage wait for t_OFF (R47, R73). -/
def slotsAtStart (s t : State) : State :=
  let hot := s.slots.map (fun x => x.tOff || x.vcc != .off)
  { t with slots := hot.map (fun b => { slotAtStart t.nv.lc with tOff := b }) }

theorem mainReset_eq (src : ResetSource) (board : Board) (s : State) :
    mainReset src board s = restoreCoreBist (selectBank (reportSupply board (priorReset
      (slotsAtStart s (handleTamper (wiped src board s)))))) := rfl

theorem slotsAtStart_slot (s t : State) (n : SlotId) : (slotsAtStart s t).slot n =
    { slotAtStart t.nv.lc with tOff := (s.slot n).tOff || (s.slot n).vcc != .off } := by
  simp [slotsAtStart, State.slot]

theorem slotAtStart_atStart (lc : LcState) (b : Bool) : ({ slotAtStart lc with tOff := b } : Slot).AtStart := by
  unfold slotAtStart; split
  · exact ⟨rfl, rfl, rfl, .inr rfl⟩
  · exact ⟨rfl, rfl, rfl, .inl rfl⟩

theorem wiped_startsOver (src : ResetSource) (board : Board) (s : State) : (wiped src board s).StartsOver board where
  time := by unfold wiped regsAfterReset; split <;> rfl
  gates := regsAfterReset_gates src s.regs
  irqMask := by unfold wiped regsAfterReset; split <;> rfl
  epoch := by unfold wiped regsAfterReset; split <;> rfl
  main := rfl
  board := rfl
  jobs := rfl
  closing := rfl
  requests := rfl
  started := rfl
  slots n := by simpa [wiped, State.slot, State.reset] using ⟨rfl, rfl, rfl, .inl rfl⟩
  rings r := by simp [wiped, State.ring, State.reset, Ring.reset]

theorem slotsAtStart_startsOver (s : State) {t : State} {board : Board} (h : t.StartsOver board) :
    (slotsAtStart s t).StartsOver board where
  __ := h
  slots n := by rw [slotsAtStart_slot]; exact slotAtStart_atStart _ _

theorem mainReset_startsOver (src : ResetSource) (board : Board) (s : State) :
    (mainReset src board s).StartsOver board := by
  rw [mainReset_eq]
  have h := slotsAtStart_startsOver s (wiped_startsOver src board s).handleTamper
  exact ((h.priorReset.reportSupply board).selectBank).restoreCoreBist

theorem exec_mainSideReset {src : ResetSource} (board : Board) {s : State} (hv : s.power.vstby = true)
    (h : src = .vcoreRise ∨ s.power.main ≠ .off) :
    exec (.mainSideReset src board) s = .next (mainReset src board (logSource src s)) :=
  show execMainSideReset src board s = _ from State.gate_open (by
    simpa [hv] using h)

/-- Settles O8: `mainReset` starts over whatever asked for it, and the link's resets are main-side resets. -/
theorem mainSideResetStartsOver : Obligations.MainSideResetStartsOver := by
  refine ⟨fun src board s hv hm => ?_, fun k s hv hm => ?_, fun s hu => ?_⟩
  · have h := mainReset_startsOver src board (logSource src s)
    have hg := h.gates
    refine ⟨_, exec_mainSideReset board hv hm, h.time, congrArg Gates.enable hg, congrArg Gates.ready hg,
      congrArg Gates.booted hg, h.irqMask, h.epoch, h.main, h.board, h.jobs, h.closing, h.requests, h.started,
      fun n => ⟨(h.slots n).vcc, (h.slots n).enable, (h.slots n).job⟩, h.rings⟩
  · cases k <;> exact ⟨_, State.gate_open (by simp [hv, hm]), exec_mainSideReset _ hv (.inr hm)⟩
  · obtain ⟨hv, hm⟩ : s.power.vstby = true ∧ s.power.main ≠ .off := by
      simp only [State.mainUp, Bool.and_eq_true, beq_iff_eq] at hu
      exact ⟨hu.1, by simp [hu.2]⟩
    exact ⟨_, State.gate_open hu, exec_mainSideReset _ hv (.inr hm)⟩

/-! # The start (R28, R34, R249, R334, R480) -/

/-- The event of a journal scan (R249). -/
def State.ScanEvent (s : State) (e : Event) : Prop :=
  e.code = 0x0701 ∧ e.slot = none ∧ e.arg = BitVec.ofNat 32 s.openIntents.length

theorem scanJournal_reports (s : State) :
    (scanJournal s).bank.boot = s.bank.boot + 1 ∧ ∃ e ∈ (scanJournal s).barker.queue, (scanJournal s).ScanEvent e := by
  simp only [scanJournal]
  generalize hu : ({ s with bank := _ } : State) = u
  have hb : u.bank.boot = s.bank.boot + 1 := by rw [← hu]
  have h := (State.AddsTo.refl (raise 0x0701 none u.openIntents.length u)).noteJournal
  refine ⟨h.boot.trans hb, _, h.queue (List.mem_append_right _ (List.mem_singleton_self _)), rfl, rfl, ?_⟩
  rw [h.openIntents]; rfl

/-- The seal of an erase that a power loss cut is made good first (R266). -/
def unsealed (s : State) : State := if s.bank.sealed then cryptoErase true true s else s

theorem unsealed_offBooks (s : State) : (unsealed s).offBooks = s.offBooks := by
  unfold unsealed; split
  · exact cryptoErase_offBooks _ _ s
  · rfl

theorem cryptoErase_formatted (keep newKey : Bool) (s : State) :
    (cryptoErase keep newKey s).bank.formatted = s.bank.formatted ∧
    (cryptoErase keep newKey s).bank.boot = s.bank.boot := by
  simp only [cryptoErase]; split
  · simp only [rppWrite]; split <;> exact ⟨rfl, rfl⟩
  · exact ⟨rfl, rfl⟩

theorem unsealed_formatted (s : State) :
    (unsealed s).bank.formatted = s.bank.formatted ∧ (unsealed s).bank.boot = s.bank.boot := by
  unfold unsealed; split
  · exact cryptoErase_formatted _ _ s
  · exact ⟨rfl, rfl⟩

/-- What the start does with the bank: the RPP, the scan and the results that were due (R249, R258, R262). -/
def bankRead (copies : List RppCopy) (s : State) : State :=
  if s.bank.formatted then issueResults (scanJournal (startRpp copies s)) else s

theorem bankRead_offBooks (copies : List RppCopy) (s : State) : (bankRead copies s).offBooks = s.offBooks := by
  unfold bankRead; split
  · rw [issueResults_offBooks, scanJournal_offBooks, startRpp_offBooks]
  · rfl

theorem bankRead_reports (copies : List RppCopy) {s : State} (hf : s.bank.formatted = true) :
    (bankRead copies s).bank.boot = s.bank.boot + 1 ∧
    ∃ e ∈ (bankRead copies s).barker.queue, (bankRead copies s).ScanEvent e := by
  have hr := (State.AddsTo.refl s).startRpp copies
  obtain ⟨hb, e, he, hc, hs, ha⟩ := scanJournal_reports (startRpp copies s)
  have hi := (State.AddsTo.refl (scanJournal (startRpp copies s))).issueResults
  simp only [bankRead, hf, if_true]
  exact ⟨by rw [hi.boot, hb, hr.boot], e, hi.queue he, hc, hs, by rw [ha, hi.openIntents]⟩

theorem exec_bankStart (copies : List RppCopy) {s : State} (hb : s.booted = true) (hs : s.bank.started = false) :
    exec (.bankStart copies) s =
      .next { bankRead copies (unsealed s) with bank.started := true } :=
  show execBankStart copies s = _ from State.gate_open (by simp [hb, hs])

/-- What READY_RISE waits for (R34). -/
def State.mayBeReady (s : State) : Bool :=
  s.booted && s.regs.enable && !s.regs.windDown && !s.regs.ready && s.bank.started && s.admissionArmed

theorem exec_readyRise_early {s : State} (h : s.mayBeReady = false) : exec .readyRise s = .next s :=
  show execReadyRise s = _ from State.gate_shut h

theorem mayBeReady_armed {s : State} (h : s.mayBeReady = true) : s.bank.started = true ∧ s.admissionArmed = true := by
  simp only [State.mayBeReady, Bool.and_eq_true] at h
  exact ⟨h.1.2, h.2⟩

/-- Settles O9: each command of the start order does its step, and READY_RISE waits for the bank and admission. -/
theorem theStartRunsInOrder : Obligations.TheStartRunsInOrder := by
  refine ⟨fun straps s hv => ?_, fun s hu hb hl => ?_, fun copies s hb hs => ?_, fun s hb he hw hr hs ha => ?_,
    fun s t hr ht htr => ?_⟩
  · refine ⟨_, show execVstbyRise straps s = _ from State.gate_open (by simp [hv]), ?_⟩
    exact ⟨rfl, rfl, rfl, rfl, rfl, rfl, rfl, rfl, fun n => by simp [State.slot, Slot.reset]⟩
  · exact show execBooted s = _ from State.gate_open (by simp [hu, hb, hl])
  · have hk := (bankRead_offBooks copies (unsealed s)).trans (unsealed_offBooks s)
    obtain ⟨hf, hboot⟩ := unsealed_formatted s
    refine ⟨_, exec_bankStart copies hb hs, rfl, State.offBooks_slots hk, State.offBooks_jobs hk, fun h => ?_⟩
    obtain ⟨hb', e, he, hc, hs, ha⟩ := bankRead_reports copies (hf.trans h)
    exact ⟨hb'.trans (by rw [hboot]), e, he, hc, hs, ha⟩
  · refine ⟨_, show execReadyRise s = _ from State.gate_open (by simp [hb, he, hw, hr, hs, ha]), ?_⟩
    rw [fireIrq_frame]; simp
  · cases hg : s.mayBeReady with
    | true => exact mayBeReady_armed hg
    | false =>
      obtain rfl : s = t := Host.Outcome.next.inj ((exec_readyRise_early hg).symm.trans ht)
      exact absurd htr (by simp [hr])

/-! # Slots taken from their jobs and taken down (R53, R57, R165, R180, R193) -/

/-- Only one slot is acted on, which is neither powered nor given a job; registers, jobs and completions stand. -/
structure State.ActsOn (s : State) (n : SlotId) (t : State) : Prop where
  regs : t.regs = s.regs
  jobs : t.jobs = s.jobs
  closing : t.closing = s.closing
  others : s.othersKeep t n
  live : (s.slot n).phase.live = false → (t.slot n).phase.live = false
  job : (s.slot n).job = none → (t.slot n).job = none

section ActsOn
variable {s t : State} {n : SlotId}

theorem State.ActsOn.refl (s : State) (n : SlotId) : s.ActsOn n s := ⟨rfl, rfl, rfl, fun _ _ => rfl, id, id⟩

theorem State.ActsOn.trans {u : State} (h : s.ActsOn n t) (h' : t.ActsOn n u) : s.ActsOn n u where
  regs := h'.regs.trans h.regs
  jobs := h'.jobs.trans h.jobs
  closing := h'.closing.trans h.closing
  others m hm := (h'.others m hm).trans (h.others m hm)
  live := h'.live ∘ h.live
  job := h'.job ∘ h.job

theorem State.ActsOn.updSlot (h : s.ActsOn n t) (f : Slot → Slot)
    (hl : (t.slot n).phase.live = false → (f (t.slot n)).phase.live = false)
    (hj : (t.slot n).job = none → (f (t.slot n)).job = none) : s.ActsOn n (t.updSlot n f) where
  __ := h
  others m hm := (State.updSlot_slot_other _ _ _ _ hm).trans (h.others m hm)
  live := by rw [State.updSlot_slot_self]; exact hl ∘ h.live
  job := by rw [State.updSlot_slot_self]; exact hj ∘ h.job

theorem startNormal_job (n : SlotId) (c : Cause) (b : Bool) (s : State) :
    ((startNormal n c b s).slot n).job = (s.slot n).job := by
  by_cases h : (s.slot n).phase.live = true
  · exact (startNormal_self n c b s h).2.2.2.2
  · simp [startNormal, h]

theorem startNormal_live (n : SlotId) (c : Cause) (b : Bool) (s : State) :
    ((startNormal n c b s).slot n).phase.live = false := by
  by_cases h : (s.slot n).phase.live = true
  · rw [(startNormal_self n c b s h).1]; rfl
  · simp [startNormal, h]

theorem startNormal_actsOn (n : SlotId) (c : Cause) (b : Bool) (s : State) : s.ActsOn n (startNormal n c b s) where
  regs := by rw [startNormal_frame]
  jobs := by rw [startNormal_frame]
  closing := by rw [startNormal_frame]
  others m hm := startNormal_other n m c b s hm
  live _ := startNormal_live n c b s
  job h := (startNormal_job n c b s).trans h

theorem leaveQueue_actsOn (n : SlotId) (s : State) : s.ActsOn n (leaveQueue n s) := by
  simp only [leaveQueue]; split
  · refine State.ActsOn.updSlot ?_ _ (fun _ => rfl) id
    exact ⟨rfl, rfl, rfl, fun _ _ => rfl, id, id⟩
  · exact ⟨rfl, rfl, rfl, fun _ _ => rfl, id, id⟩

theorem stationCommand_actsOn (n : SlotId) (e : Bool) (bin : Byte) (id : JobId) (s : State) :
    s.ActsOn n (stationCommand n e bin id s) := by
  simp only [stationCommand]; split
  · exact .refl s n
  · exact ⟨rfl, rfl, rfl, fun _ _ => rfl, fun h => h, fun h => h⟩

theorem slotFreed_actsOn (n : SlotId) (s : State) : s.ActsOn n (slotFreed n s) := by
  simp only [slotFreed]; split
  · exact startNormal_actsOn _ _ _ s
  · split
    · exact startNormal_actsOn _ _ _ s
    · split
      · exact startNormal_actsOn _ _ _ s
      · exact .refl s n

/-- The slot of an ended job, as it is right after it lost the job. -/
def Slot.withoutJob (x : Slot) (j : Job) (st : CStatus) : Slot :=
  { x with job := none, issued := x.issued || (j.ticket.isIssue && st == .done) }

theorem freeSlot_none {j : Job} (h : j.slot = none) (st : CStatus) (s : State) : freeSlot j st s = s := by
  simp only [freeSlot, h]

theorem freeSlot_actsOn {j : Job} (h : j.slot = some n) (st : CStatus) (s : State) :
    (s.updSlot n (·.withoutJob j st)).ActsOn n (freeSlot j st s) := by
  simp only [freeSlot, h]
  refine State.ActsOn.trans ?_ (slotFreed_actsOn n _)
  have h0 := State.ActsOn.refl (s.updSlot n (·.withoutJob j st)) n
  generalize (!(j.ticket.feed || _) : Bool) = keeps
  split
  · exact h0
  · split
    · refine State.ActsOn.trans (State.ActsOn.updSlot h0 _ ?_ ?_) (startNormal_actsOn _ _ _ _) <;> exact id
    · split
      · split
        · exact h0
        · refine h0.updSlot _ ?_ ?_ <;> exact id
      · split
        · exact (leaveQueue_actsOn n _).trans (stationCommand_actsOn _ _ _ _ _)
        · exact leaveQueue_actsOn n _

end ActsOn

/-! ## The end of a job -/

/-- A job that ends leaves the jobs, and its completion joins those that wait. -/
def State.closed (s : State) (id : JobId) (c : Closing) : State :=
  { s with jobs := s.jobs.filter (fun k => k.ticket.jobId != id), closing := s.closing ++ [c] }

theorem closed_offBooks (id : JobId) (c : Closing) {s t : State} (h : t.offBooks = s.offBooks) :
    (t.closed id c).offBooks = (s.closed id c).offBooks :=
  show (t.offBooks.closed id c) = (s.offBooks.closed id c) by rw [h]

/-- An ended job is closed, the books change, and its slot is freed. -/
theorem endJobAfter_frees (b : Nat) (st : CStatus) (err : W16) {id : JobId} {j : Job} {s : State}
    (h : s.findJob id = some j) : ∃ u : State, endJobAfter b id st err s = freeSlot j st u ∧
      u.offBooks = (s.closed id (closingOf j st err b)).offBooks := by
  have hk := (releaseContext_offBooks j _).trans <| (noteIssueEnd_offBooks j st _).trans <|
    (noteNoise_offBooks j _).trans (settleUnsent_offBooks j s)
  simp only [endJobAfter, h]
  exact ⟨_, rfl, (noteLeft_offBooks j _).trans (closed_offBooks id _ hk)⟩

/-- What the end of a job does to the jobs, the completions and the registers. -/
theorem endJobAfter_closes (b : Nat) (st : CStatus) (err : W16) {id : JobId} {j : Job} {s : State}
    (h : s.findJob id = some j) :
    (endJobAfter b id st err s).jobs = s.jobs.filter (fun k => k.ticket.jobId != id) ∧
    (endJobAfter b id st err s).closing = s.closing ++ [closingOf j st err b] ∧
    (endJobAfter b id st err s).regs = s.regs := by
  obtain ⟨u, hu, hk⟩ := endJobAfter_frees b st err h
  rw [hu]
  have hj : u.jobs = _ := State.offBooks_jobs hk
  have hc : u.closing = _ := State.offBooks_closing hk
  have hr : u.regs = _ := State.offBooks_regs hk
  cases hs : j.slot with
  | none => rw [freeSlot_none hs]; exact ⟨hj, hc, hr⟩
  | some n =>
    have ha := freeSlot_actsOn hs st u
    exact ⟨ha.jobs.trans hj, ha.closing.trans hc, ha.regs.trans hr⟩

/-- The end of a job acts on its slot alone, and takes the job from it. -/
theorem endJobAfter_slots (b : Nat) (st : CStatus) (err : W16) {id : JobId} {j : Job} {s : State}
    (h : s.findJob id = some j) :
    (∀ n, j.slot = some n → ((endJobAfter b id st err s).slot n).job = none) ∧
    (∀ m, j.slot ≠ some m → (endJobAfter b id st err s).slot m = s.slot m) ∧
    (∀ m, (s.slot m).phase.live = false → ((endJobAfter b id st err s).slot m).phase.live = false) := by
  obtain ⟨u, hu, hk⟩ := endJobAfter_frees b st err h
  rw [hu]
  have hn : ∀ m, u.slot m = s.slot m := fun m => (State.offBooks_slot hk m).trans rfl
  cases hs : j.slot with
  | none => rw [freeSlot_none hs]; exact ⟨by simp, fun m _ => hn m, fun m hm => by rwa [hn]⟩
  | some n =>
    have ha := freeSlot_actsOn hs st u
    have other : ∀ m, m ≠ n → (freeSlot j st u).slot m = s.slot m := fun m hm => by
      rw [ha.others m hm, State.updSlot_slot_other _ _ _ _ hm, hn]
    refine ⟨fun k hk => ?_, fun m hm => ?_, fun m hm => ?_⟩
    · obtain rfl : n = k := Option.some.inj hk
      exact ha.job (by rw [State.updSlot_slot_self]; rfl)
    · exact other m fun e => hm (by rw [e])
    · by_cases e : m = n
      · subst e
        exact ha.live (by rw [State.updSlot_slot_self, hn]; exact hm)
      · rw [other m e]; exact hm

theorem endJobAfter_jobEnds (b : Nat) (st : CStatus) (err : W16) {id : JobId} {j : Job} {s : State}
    (h : s.findJob id = some j) (he : st ≠ .done ∨ err = 0) :
    s.jobEnds (endJobAfter b id st err s) j st err j.result := by
  obtain ⟨hj, hc, _⟩ := endJobAfter_closes b st err h
  refine ⟨?_, _, hc, rfl, rfl, ?_, rfl⟩
  · rw [State.findJob, hj, find_id h]; exact find_filter_none _ _
  · rcases he with he | he <;> simp [closingOf, he]

/-! ## What only takes slots down -/

/-- The registers stand, and no slot that was not powered up comes up. -/
structure State.TakesDown (s t : State) : Prop where
  regs : t.regs = s.regs
  live : ∀ n, (s.slot n).phase.live = false → (t.slot n).phase.live = false

theorem State.TakesDown.refl (s : State) : s.TakesDown s := ⟨rfl, fun _ => id⟩

theorem State.TakesDown.trans {s t u : State} (h : s.TakesDown t) (h' : t.TakesDown u) : s.TakesDown u :=
  ⟨h'.regs.trans h.regs, fun n => h'.live n ∘ h.live n⟩

theorem State.TakesDown.of_slots {s t : State} (hr : t.regs = s.regs) (hs : t.slots = s.slots) : s.TakesDown t :=
  ⟨hr, fun n => by simp only [State.slot, hs]; exact id⟩

theorem State.TakesDown.of_offBooks {s t : State} (h : t.offBooks = s.offBooks) : s.TakesDown t :=
  .of_slots (State.offBooks_regs h) (State.offBooks_slots h)

theorem State.ActsOn.takesDown {s t : State} {n : SlotId} (h : s.ActsOn n t) : s.TakesDown t where
  regs := h.regs
  live m hm := by
    by_cases e : m = n
    · subst e; exact h.live hm
    · rw [h.others m e]; exact hm

theorem endJob_takesDown (id : JobId) (st : CStatus) (err : W16) (s : State) : s.TakesDown (endJob id st err s) := by
  cases h : s.findJob id with
  | none => simp only [endJob, endJobAfter, h]; exact .refl s
  | some j => exact ⟨(endJobAfter_closes 0 st err h).2.2, (endJobAfter_slots 0 st err h).2.2⟩

/-- The job as it goes back to the queue under its next generation (R192). -/
def Job.requeued (j : Job) : Job :=
  { j with phase := .queued, slot := none, gen := j.gen + 1, replaced := j.replaced + 1, pair := none,
           jug := none, activated := false, run := none, result := [], resultTrunc := false }

theorem replaceJob_requeues {id : JobId} {j : Job} {s : State} (h : s.findJob id = some j)
    (hw : s.regs.windDown = false) (hr : j.replaced < s.regs.maxReplace) (hd : s.deadlinePassed j = false) :
    replaceJob id s =
      match j.slot with
      | none => (releaseContext j (settleUnsent j s)).updJob id Job.requeued
      | some n => slotFreed n (((releaseContext j (settleUnsent j s)).updJob id Job.requeued).updSlot n
          (fun x => { x with job := none })) := by
  simp only [replaceJob, h, hw, hd, Nat.not_le.2 hr]
  rfl

theorem replaceJob_takesDown (id : JobId) (s : State) : s.TakesDown (replaceJob id s) := by
  unfold replaceJob
  split
  · exact .refl s
  next j hj =>
    split
    · exact endJob_takesDown _ _ _ s
    · split
      · exact endJob_takesDown _ _ _ s
      · split
        · exact endJob_takesDown _ _ _ s
        · have hk := State.TakesDown.of_offBooks ((releaseContext_offBooks j _).trans (settleUnsent_offBooks j s))
          dsimp only
          split
          · exact { hk with }
          next n _ =>
            refine .trans ?_ (slotFreed_actsOn n _).takesDown
            refine .trans ?_ (State.ActsOn.updSlot (State.ActsOn.refl _ n) _ ?_ ?_).takesDown
            · exact { hk with }
            · exact fun h => h
            · exact fun _ => rfl

theorem updJob_takesDown (id : JobId) (f : Job → Job) (s : State) : s.TakesDown (s.updJob id f) :=
  .of_slots rfl rfl

theorem markCut_takesDown (n : SlotId) (s : State) : s.TakesDown (markCut n s) := by
  cases hj : (s.slot n).job with
  | none => rw [markCut_nojob n s hj]; exact .refl s
  | some id =>
    simp only [markCut, hj]
    generalize ((s.slot n).exch.isSome || _ : Bool) = cut
    split
    · exact updJob_takesDown _ _ s
    · exact .refl s

theorem lostJob_takesDown (n : SlotId) (c : Cause) (s : State) : s.TakesDown (lostJob n c s) := by
  unfold lostJob
  split
  · exact .refl s
  · dsimp only
    split
    · exact .refl s
    · exact replaceJob_takesDown _ s
    · split
      · exact .refl s
      · split
        · exact replaceJob_takesDown _ s
        · split
          · exact endJob_takesDown _ _ _ s
          · split
            · exact endJob_takesDown _ _ _ s
            · exact updJob_takesDown _ _ s
    · split
      · exact endJob_takesDown _ _ _ s
      · split
        · exact endJob_takesDown _ _ _ s
        · exact .refl s

/-! ## The emergency order (R57, R58, R60) -/

/-- A powered slot at the start of an emergency order (R57). -/
def Slot.cutOff (x : Slot) (c : Cause) : Slot :=
  { x.endLink with
    phase := .deactivating, cause := c, rst := false, stepTo := none,
    deact := some { emergency := true, step := .rstLow, window := false, reading := none,
                    counted := x.phase == .powering || x.phase == .atrWait } }

theorem startEmergency_powered (n : SlotId) (c : Cause) {s : State} (h : (s.slot n).phase.live = true) :
    startEmergency n c s = (endRotation n (endGalSession n s)).updSlot n (·.cutOff c) := by
  simp only [startEmergency, h]; rfl

theorem endRotation_actsOn (n : SlotId) (s : State) : s.ActsOn n (endRotation n s) where
  regs := by rw [endRot_frame]
  jobs := by rw [endRot_frame]
  closing := by rw [endRot_frame]
  others m hm := endRot_other n m s hm
  live := by rw [endRot_phase]; exact fun h => h
  job := by rw [endRot_keep (·.job) (fun _ _ => rfl)]; exact fun h => h

theorem endGalSession_actsOn (n : SlotId) (s : State) : s.ActsOn n (endGalSession n s) := by
  rw [endGal_frame]; exact ⟨rfl, rfl, rfl, fun _ _ => rfl, fun h => h, fun h => h⟩

/-- A normal order that an emergency trigger meets becomes an emergency one (R60). -/
def Slot.hurried (x : Slot) (c : Cause) (d : Deact) : Slot :=
  { x with cause := c, stepTo := none, token := false,
           deact := some { d with emergency := true, window := false, reading := none,
                                  counted := x.cause == .classStep,
                                  step := if d.step == .window then .clkLow else d.step } }

theorem startEmergency_meets (n : SlotId) (c : Cause) {s : State} {d : Deact} (hp : (s.slot n).phase = .deactivating)
    (hd : (s.slot n).deact = some d) (he : d.emergency = false) :
    startEmergency n c s = s.updSlot n (·.hurried c d) := by
  simp only [startEmergency, hp, hd, he]; rfl

theorem startEmergency_actsOn (n : SlotId) (c : Cause) (s : State) : s.ActsOn n (startEmergency n c s) := by
  have h0 := State.ActsOn.refl s n
  cases hl : (s.slot n).phase.live with
  | true =>
    rw [startEmergency_powered n c hl]
    have h := (endGalSession_actsOn n s).trans (endRotation_actsOn n _)
    exact h.updSlot _ (fun _ => rfl) fun h => h
  | false =>
    simp only [startEmergency, hl, Bool.false_eq_true, if_false]
    split
    · split
      · exact h0
      next d _ =>
        cases he : d.emergency with
        | true =>
          simp only [if_true]; split
          · exact h0.updSlot _ (fun h => h) (fun h => h)
          · exact h0
        | false => exact h0.updSlot (·.hurried c d) (fun h => h) (fun h => h)
    · exact h0

/-- An emergency order leaves its slot not powered up (R57). -/
theorem startEmergency_live (n : SlotId) (c : Cause) (s : State) :
    ((startEmergency n c s).slot n).phase.live = false := by
  cases hl : (s.slot n).phase.live with
  | true => rw [startEmergency_powered n c hl, State.updSlot_slot_self]; rfl
  | false => exact (startEmergency_actsOn n c s).live hl

theorem loseEmergency_takesDown (n : SlotId) (c : Cause) (s : State) : s.TakesDown (loseEmergency n c s) :=
  ((markCut_takesDown n s).trans (startEmergency_actsOn n c _).takesDown).trans (lostJob_takesDown n c _)

theorem loseEmergency_live (n : SlotId) (c : Cause) (s : State) :
    ((loseEmergency n c s).slot n).phase.live = false :=
  (lostJob_takesDown n c _).live n (startEmergency_live n c _)

theorem powered_of_live {p : SlotPhase} (h : p.powered = false) : p.live = false := by
  revert h; cases p <;> decide

/-- The emergency order of a single slot, where it is powered. -/
def cutIfPowered (c : Cause) (n : SlotId) (s : State) : State :=
  if (s.slot n).phase.powered then loseEmergency n c s else s

theorem cutIfPowered_takesDown (c : Cause) (n : SlotId) (s : State) : s.TakesDown (cutIfPowered c n s) := by
  unfold cutIfPowered; split
  · exact loseEmergency_takesDown n c s
  · exact .refl s

theorem cutIfPowered_live (c : Cause) (n : SlotId) (s : State) : ((cutIfPowered c n s).slot n).phase.live = false := by
  unfold cutIfPowered; split
  · exact loseEmergency_live n c s
  next h => exact powered_of_live (by simpa using h)

theorem emergencyAll_regs (c : Cause) (s : State) : (emergencyAll c s).regs = s.regs :=
  fe_frame State.regs _ (cutIfPowered c) s fun n s => (cutIfPowered_takesDown c n s).regs

/-- No slot stays powered up (R25, R29, R425). -/
theorem emergencyAll_live (c : Cause) (s : State) (n : SlotId) : ((emergencyAll c s).slot n).phase.live = false :=
  fe_all (fun n s => (s.slot n).phase.live = false) _ (cutIfPowered c) s (cutIfPowered_live c)
    (fun a b s h => (cutIfPowered_takesDown c b s).live a h) n (List.mem_finRange n)

/-! # What the last steps of a main-side reset keep (R480) -/

/-- Bank, slots, supplies, life cycle, keystore key and what the standby domain has logged stand. -/
structure State.Lasts (s t : State) : Prop where
  bank : t.bank = s.bank
  slots : t.slots = s.slots
  refClock : t.power.refClock = s.power.refClock
  vinOk : t.power.vinOk = s.power.vinOk
  lc : t.nv.lc = s.nv.lc
  keystoreKey : t.nv.keystoreKey = s.nv.keystoreKey
  log : t.standby.log = s.standby.log
  tamperL1 : t.standby.tamperL1 = s.standby.tamperL1

section Lasts
variable {s t : State}

theorem State.Lasts.refl (s : State) : s.Lasts s := ⟨rfl, rfl, rfl, rfl, rfl, rfl, rfl, rfl⟩

theorem State.Lasts.raise (h : s.Lasts t) (c : W16) (o : Option SlotId) (a : Nat) : s.Lasts (raise c o a t) :=
  { h with }

theorem State.Lasts.fireIrq (h : s.Lasts t) (n : Nat) : s.Lasts (fireIrq n t) := by
  rw [fireIrq_frame]; exact { h with }

theorem State.Lasts.latchAt (h : s.Lasts t) (c : W16) (k i : Nat) (o : Option SlotId) (j : Option JobId) (e : Bool) :
    s.Lasts (latchAt c k i o j e t) := by
  rw [latchAt_frame]; exact { h with }

theorem State.Lasts.priorReset (h : s.Lasts t) : s.Lasts (priorReset t) := by
  unfold Machine.priorReset; split <;> exact h.raise _ _ _

theorem State.Lasts.reportSupply (h : s.Lasts t) (b : Board) : s.Lasts (reportSupply b t) := by
  unfold Machine.reportSupply; split
  · exact h
  · exact (h.latchAt _ _ _ _ _ _).raise _ _ _

theorem State.Lasts.restoreCoreBist (h : s.Lasts t) : s.Lasts (restoreCoreBist t) := by
  unfold Machine.restoreCoreBist; split
  · exact h
  · apply State.Lasts.fireIrq
    exact { h with }

/-- Bank selection writes NEXT, TRIAL and CONFIRMED of the option area. -/
theorem selectBank_nv (s : State) : (selectBank s).nv.lc = s.nv.lc ∧
    (selectBank s).nv.keystoreKey = s.nv.keystoreKey := by
  simp only [selectBank]
  (repeat' split) <;> exact ⟨rfl, rfl⟩

theorem State.Lasts.selectBank (h : s.Lasts t) : s.Lasts (selectBank t) := by
  obtain ⟨hl, hk⟩ := selectBank_nv t
  rw [selectBank_frame]
  exact { h with lc := hl.trans h.lc, keystoreKey := hk.trans h.keystoreKey }

theorem mainReset_lasts (src : ResetSource) (board : Board) (s : State) :
    (slotsAtStart s (handleTamper (wiped src board s))).Lasts (mainReset src board s) := by
  rw [mainReset_eq]
  exact (((State.Lasts.refl _).priorReset.reportSupply board).selectBank).restoreCoreBist

end Lasts

theorem tamperWipe_offBooks (s : State) : (tamperWipe s).offBooks = s.offBooks := by
  unfold tamperWipe; split
  · rfl
  · rfl
  · exact (cryptoErase_offBooks false true _).trans <| (rppWrite_offBooks _).trans (audit_offBooks _ _ _ _ _ _ s)

theorem handleTamper_power (s : State) : (handleTamper s).power = s.power := by
  unfold handleTamper; split
  · rfl
  · dsimp only; split
    · exact (State.offBooks_power (tamperWipe_offBooks _)).trans (by rfl)
    · rfl

/-! # Emergency triggers, the supplies and the clock (R25, R26, R29, R57 to R62, R284) -/

/-! ## One powered slot that no job holds -/

theorem loseEmergency_nojob {n : SlotId} (c : Cause) {s : State} (h : (s.slot n).job = none) :
    loseEmergency n c s = startEmergency n c s := by
  rw [loseEmergency, markCut_nojob n s h, lostJob_nojob _ _ _ ((startEmergency_actsOn n c s).job h)]

/-- What the emergency order leaves of a powered slot (R57). -/
theorem startEmergency_keep {β : Type} (p : Slot → β) (hc : ∀ x k, p { x with check := k } = p x)
    (hp : ∀ x c, p (Slot.cutOff x c) = p x) (n : SlotId) (c : Cause) {s : State}
    (h : (s.slot n).phase.live = true) : p ((startEmergency n c s).slot n) = p (s.slot n) := by
  rw [startEmergency_powered n c h, State.updSlot_slot_self, hp, endRot_keep p hc, endGal_slot]

theorem startEmergency_barker (n : SlotId) (c : Cause) {s : State} (h : (s.slot n).phase.live = true) :
    (startEmergency n c s).barker = s.barker := by
  rw [startEmergency_powered n c h, State.updSlot_barker, endRot_frame, endGal_frame]

/-- A slot that an emergency order of this cause has just cut off, and what the order leaves alone (R57, R58). -/
structure State.CutOff (s t : State) (n : SlotId) (c : Cause) : Prop where
  phase : (t.slot n).phase = .deactivating
  cause : (t.slot n).cause = c
  rst : (t.slot n).rst = false
  token : (t.slot n).token = false
  exch : (t.slot n).exch = none
  gal : (t.slot n).gal = none
  deact : (t.slot n).deact.map (fun d => (d.emergency, d.step)) = some (true, .rstLow)
  others : s.othersKeep t n
  jobs : t.jobs = s.jobs
  regs : t.regs = s.regs

theorem startEmergency_cutOff (n : SlotId) (c : Cause) {s : State} (h : (s.slot n).phase.live = true) :
    s.CutOff (startEmergency n c s) n c := by
  have ha := startEmergency_actsOn n c s
  have hs : (startEmergency n c s).slot n = ((endRotation n (endGalSession n s)).slot n).cutOff c := by
    rw [startEmergency_powered n c h, State.updSlot_slot_self]
  refine ⟨?_, ?_, ?_, ?_, ?_, ?_, ?_, ha.others, ha.jobs, ha.regs⟩ <;> rw [hs] <;> rfl

theorem State.CutOff.all {s t : State} {n : SlotId} {c : Cause} (h : s.CutOff t n c) :
    (t.slot n).phase = .deactivating ∧ (t.slot n).cause = c ∧ (t.slot n).rst = false ∧
    (t.slot n).token = false ∧ (t.slot n).exch = none ∧ (t.slot n).gal = none ∧
    (t.slot n).deact.map (fun d => (d.emergency, d.step)) = some (true, .rstLow) ∧
    s.othersKeep t n ∧ t.jobs = s.jobs ∧ t.regs = s.regs :=
  ⟨h.phase, h.cause, h.rst, h.token, h.exch, h.gal, h.deact, h.others, h.jobs, h.regs⟩

theorem loseEmergency_cutOff {n : SlotId} (c : Cause) {s : State} (hj : (s.slot n).job = none)
    (h : (s.slot n).phase.live = true) : s.CutOff (loseEmergency n c s) n c := by
  rw [loseEmergency_nojob c hj]; exact startEmergency_cutOff n c h

theorem exec_overcurrent {n : SlotId} {s : State} (hu : s.mainUp = true) (hl : (s.slot n).ldo = true)
    (hb : (s.slot n).blanked = false) : exec (.overcurrent n) s = .next (loseEmergency n .overcurrent s) :=
  show execOvercurrent n s = _ from State.gate_open (by simp [hu, hl, hb])

theorem exec_vccWindow {n : SlotId} {s : State} (hu : s.mainUp = true) (hl : (s.slot n).ldo = true)
    (hq : (s.slot n).qualified = true) : exec (.vccWindow n) s = .next (loseEmergency n .vccWindow s) :=
  show execVccWindow n s = _ from State.gate_open (by simp [hu, hl, hq])

theorem exec_short {n : SlotId} {a : ShortAt} {s : State} (hu : s.mainUp = true)
    (hd : (s.slot n).shortDecides a = true) : exec (.short n a) s = .next (loseEmergency n .short s) :=
  show execShort n a s = _ from State.gate_open (by simp [hu, hd])

theorem live_powered {p : SlotPhase} (h : p.live = true) : p.powered = true := by
  revert h; cases p <;> decide

theorem exec_removal {n : SlotId} {s : State} (hu : s.mainUp = true) (hp : (s.slot n).present = true)
    (hl : (s.slot n).phase.live = true) :
    exec (.removal n) s = .next (loseEmergency n .removal (decideAbsent n s)) :=
  show execRemoval n s = _ from State.gate_open (by simp [hu, hp, live_powered hl])

theorem decideAbsent_up {n : SlotId} {s : State} (hu : s.mainUp = true) :
    decideAbsent n s = raise 0x0101 (some n) 0 (s.updSlot n Slot.cardGone) := by
  simp [decideAbsent, onlyIf, hu]

/-- A removal loses the card, with its CARD event, before the order starts (R58, R62). -/
theorem removal_cutsOff {n : SlotId} {s : State} (hu : s.mainUp = true) (hj : (s.slot n).job = none)
    (h : (s.slot n).phase.live = true) {t : State} (ht : t = loseEmergency n .removal (decideAbsent n s)) :
    s.CutOff t n .removal ∧ (t.slot n).present = false ∧ (t.slot n).failCount = 0 ∧ (t.slot n).digest = none ∧
      ∃ e ∈ t.barker.queue, e.code = 0x0101 ∧ e.slot = some n ∧ e.arg = 0 := by
  have hs : (decideAbsent n s).slot n = (s.slot n).cardGone := by
    rw [decideAbsent_up hu, raise_slot, State.updSlot_slot_self]
  have hj' : ((decideAbsent n s).slot n).job = none := by rw [hs]; exact hj
  have h' : ((decideAbsent n s).slot n).phase.live = true := by rw [hs]; exact h
  rw [loseEmergency_nojob _ hj'] at ht
  subst ht
  have hc := startEmergency_cutOff n .removal h'
  refine ⟨{ hc with others := fun m hm => (hc.others m hm).trans ?_, jobs := ?_, regs := ?_ }, ?_, ?_, ?_, ?_⟩
  · rw [decideAbsent_up hu, raise_slot, State.updSlot_slot_other _ _ _ _ hm]
  · rw [hc.jobs, decideAbsent_up hu]; rfl
  · rw [hc.regs, decideAbsent_up hu]; rfl
  · rw [startEmergency_keep (·.present) (fun _ _ => rfl) (fun _ _ => rfl) n _ h', hs]; rfl
  · rw [startEmergency_keep (·.failCount) (fun _ _ => rfl) (fun _ _ => rfl) n _ h', hs]; rfl
  · rw [startEmergency_keep (·.digest) (fun _ _ => rfl) (fun _ _ => rfl) n _ h', hs]; rfl
  · rw [startEmergency_barker n _ h', decideAbsent_up hu, raise_queue]
    exact ⟨_, List.mem_append_right _ (List.mem_singleton_self _), rfl, rfl, rfl⟩

/-! ## The supplies and the clock -/

/-- The newest entry of the standby log is its last; the oldest of 16 goes (R374). -/
theorem logStandby_log (c : W16) (k i : Nat) (r : Byte) (s : State) : ∃ e, e.code = c ∧
    (logStandby c k i r s).standby.log = s.standby.log.drop (s.standby.log.length - 15) ++ [e] := by
  refine ⟨{ seq := s.standby.logSeq, code := c, kindIndex := BitVec.ofNat 16 (kindIndex k i),
            severity := BitVec.ofNat 8 (severityOf c), reason := r, seconds := BitVec.ofNat 32 s.aonSeconds }, rfl, ?_⟩
  simp only [logStandby, List.length_append, List.length_singleton]
  rw [List.drop_append_of_le_length (by omega), Nat.add_sub_add_right _ 1 15]

theorem logStandby_has (c : W16) (k i : Nat) (r : Byte) (s : State) :
    ∃ e ∈ (logStandby c k i r s).standby.log, e.code = c := by
  obtain ⟨e, hc, hl⟩ := logStandby_log c k i r s
  exact ⟨e, by rw [hl]; exact List.mem_append_right _ (List.mem_singleton_self _), hc⟩

theorem mainReset_refClock (src : ResetSource) (board : Board) (s : State) :
    (mainReset src board s).power.refClock = true ∧ (mainReset src board s).power.vinOk = board.vinOk := by
  have h := mainReset_lasts src board s
  have hp : (handleTamper (wiped src board s)).power = (wiped src board s).power := handleTamper_power _
  exact ⟨h.refClock.trans (congrArg Power.refClock hp), h.vinOk.trans (congrArg Power.vinOk hp)⟩

/-- A supply or clock fault takes every slot down and is latched and logged (R25, R29, R436). -/
def supplyDown (code : W16) (s : State) : State :=
  logStandby code 0 0 0 (latchAt code 0 0 none none false (emergencyAll .supplyOrClock s))

theorem supplyDown_live (code : W16) (s : State) (n : SlotId) :
    ((supplyDown code s).slot n).phase.live = false := by
  have h : (supplyDown code s).slots = (emergencyAll .supplyOrClock s).slots := by
    rw [supplyDown, logStandby_slots, latchAt_slots]
  rw [State.slot, h]; exact emergencyAll_live _ s n

theorem supplyDown_logged (code : W16) (s : State) : ∃ e ∈ (supplyDown code s).standby.log, e.code = code :=
  logStandby_has _ _ _ _ _

theorem exec_supplyTrigger_off {s : State} (h : s.mainUp = true) : exec (.supplyTrigger true) s =
    .next (sideLost { supplyDown 0x0F02 s with
      power := { (supplyDown 0x0F02 s).power with main := .off, vcoreOk := false } }) :=
  show execSupplyTrigger true s = _ from State.gate_open h

/-- The board after a fall of VIN_RING (R284). -/
def State.vinLost (s : State) : State :=
  { s with power := { s.power with vinOk := false, board := { s.power.board with vinOk := false } } }

theorem exec_supplyTrigger_reset {s : State} (h : s.mainUp = true) : exec (.supplyTrigger false) s =
    .next (resetBy .supply (supplyDown 0x0F02 s).vinLost) := by
  simp only [exec, execSupplyTrigger, State.gate_open h, supplyDown, State.vinLost, Bool.false_eq_true, if_false]

theorem exec_refClockLost {s : State} (h : s.mainUp = true) (hr : s.power.refClock = true) : exec .refClockLost s =
    .next (sideLost { supplyDown 0x0F01 s with
      power := { (supplyDown 0x0F01 s).power with main := .reset .refClock, refClock := false } }) :=
  show execRefClockLost s = _ from State.gate_open (by simp [h, hr])

theorem exec_refClockRestored {s : State} (hv : s.power.vstby = true) (hm : s.power.main = .reset .refClock) :
    exec .refClockRestored s = .next (resetBy .refClock s) :=
  show execRefClockRestored s = _ from State.gate_open (by simp [hv, hm])

/-- Settles O40: the triggers through `startEmergency`, the supplies through `emergencyAll` and the main-side reset. -/
theorem emergenciesAndSuppliesAct : Obligations.EmergenciesAndSuppliesAct := by
  refine ⟨fun n s hu hj => ⟨fun h => ?_, fun d hp hd he hl hb => ?_⟩, fun s hu => ⟨?_, ?_, fun hr => ?_⟩,
    fun s hv hm => ?_, fun s hv => ⟨?_, ?_⟩⟩
  · refine ⟨fun hl hb => ⟨_, exec_overcurrent hu hl hb, (loseEmergency_cutOff _ hj h).all⟩,
      fun hl hq => ⟨_, exec_vccWindow hu hl hq, (loseEmergency_cutOff _ hj h).all⟩,
      fun a ha => ⟨_, exec_short hu ha, (loseEmergency_cutOff _ hj h).all⟩,
      fun hp => ⟨_, exec_removal hu hp h, ?_⟩⟩
    obtain ⟨hc, hrest⟩ := removal_cutsOff hu hj h rfl
    exact ⟨hc.all, hrest⟩
  · have ha := startEmergency_actsOn n .overcurrent s
    refine ⟨_, exec_overcurrent hu hl hb, ?_⟩
    rw [loseEmergency_nojob _ hj]
    have hs : (startEmergency n .overcurrent s).slot n = (s.slot n).hurried .overcurrent d := by
      rw [startEmergency_meets n _ hp hd he, State.updSlot_slot_self]
    exact ⟨by rw [hs]; exact hp, by rw [hs]; rfl, by rw [hs]; rfl, by rw [hs]; rfl, ha.others, ha.jobs⟩
  · have hl := supplyDown_live 0x0F02 s
    have hg := supplyDown_logged 0x0F02 s
    rw [exec_supplyTrigger_off hu]
    generalize supplyDown 0x0F02 s = u at hl hg
    exact ⟨_, rfl, rfl, rfl, hl, hg⟩
  · rw [exec_supplyTrigger_reset hu]
    generalize supplyDown 0x0F02 s = u
    have h := mainReset_startsOver .supply u.vinLost.power.board u.vinLost
    exact ⟨_, rfl, h.main, (mainReset_refClock _ _ _).2, h.time, congrArg Gates.enable h.gates, h.jobs,
      fun n => (h.slots n).vcc⟩
  · have hl := supplyDown_live 0x0F01 s
    have hg := supplyDown_logged 0x0F01 s
    rw [exec_refClockLost hu hr]
    generalize supplyDown 0x0F01 s = u at hl hg
    exact ⟨_, rfl, rfl, rfl, hl, hg⟩
  · have h := mainReset_startsOver .refClock s.power.board s
    exact ⟨_, exec_refClockRestored hv hm, h.main, (mainReset_refClock _ _ _).1, h.time,
      congrArg Gates.enable h.gates, congrArg Gates.booted h.gates⟩
  · refine ⟨_, show execVstbyFall s = _ from State.gate_open hv, rfl, rfl, rfl, rfl, rfl, rfl, fun n => ?_⟩
    simp [State.slot, Slot.reset]
  · exact show execVinRingRestored s = _ from State.gate_open hv

/-! # The tamper response (R423 to R427) -/

/-! ## What a level 2 detection closes (R425) -/

theorem closeCeremony_frame (s : State) : closeCeremony s =
    { s with sec := (closeCeremony s).sec, barker := (closeCeremony s).barker } := by
  unfold closeCeremony; split <;> rfl

theorem endDebug_frame (why : Nat) (s : State) : endDebug why s =
    { s with sec := (endDebug why s).sec, barker := (endDebug why s).barker,
             regs := { s.regs with barrier := (endDebug why s).regs.barrier } } := by
  unfold endDebug; split <;> rfl

/-- Slots down, keys of the Jugglers gone, rights withdrawn; TIME and the option area stand (R425). -/
structure State.Closed (s t : State) : Prop where
  nv : t.nv = s.nv
  time : t.regs.time = s.regs.time
  live : ∀ n, (t.slot n).phase.live = false
  jugs : ∀ g : Fin 8, t.jugs[g.val].ctxs = [] ∧ t.jugs[g.val].cache = []
  rights : t.sec.rightsWithdrawn = true

theorem tamperClose_closed (s : State) : s.Closed (tamperClose s) where
  nv := by rw [nv_kept, tamperClose_kept, ← nv_kept]
  time := by
    simp only [tamperClose, askBarrier]
    rw [endDebug_frame, closeCeremony_frame, emergencyAll_regs]
  live n := by
    have h : (tamperClose s).slots = (emergencyAll .fenceTamper s).slots := by
      simp only [tamperClose, askBarrier]
      rw [endDebug_frame, closeCeremony_frame]
    rw [State.slot, h]; exact emergencyAll_live _ s n
  jugs g := by
    have h : (tamperClose s).jugs = Vector.replicate 8 { ctxs := [], cache := [] } := by
      simp only [tamperClose, askBarrier]
      rw [endDebug_frame]
    simp [h]
  rights := rfl

/-- The state in which a level 2 detection stands closed and logged. -/
def tamperClosed (x : Sensor) (s : State) : State :=
  logStandby 0x0B21 0 0 0 (tamperClose (raise 0x0B06 none (2 + sensorCode x * 2 ^ 8) s))

theorem State.Closed.logStandby {s t : State} (h : s.Closed t) (c : W16) (k i : Nat) (r : Byte) :
    s.Closed (logStandby c k i r t) := { h with }

theorem tamperClosed_closed (x : Sensor) (s : State) : s.Closed (tamperClosed x s) := by
  have h := tamperClose_closed (raise 0x0B06 none (2 + sensorCode x * 2 ^ 8) s)
  apply State.Closed.logStandby
  exact ⟨h.nv, h.time, h.live, h.jugs, h.rights⟩

theorem logStandby_last (c : W16) (k i : Nat) (r : Byte) (s : State) :
    ∃ e, (logStandby c k i r s).standby.log.getLast? = some e ∧ e.code = c := by
  obtain ⟨e, hc, hl⟩ := logStandby_log c k i r s
  exact ⟨e, by rw [hl, List.getLast?_concat], hc⟩

/-- The newest entry outlives the next one. -/
theorem logStandby_keeps_last (c : W16) (k i : Nat) (r : Byte) {s : State} {e : LogEntry}
    (h : s.standby.log.getLast? = some e) : e ∈ (logStandby c k i r s).standby.log := by
  obtain ⟨f, -, hl⟩ := logStandby_log c k i r s
  obtain ⟨l, hl'⟩ := List.getLast?_eq_some_iff.1 h
  rw [hl, hl', List.drop_append_of_le_length (by simp)]
  simp

/-! ## The reset that follows -/

theorem handleTamper_none {s : State} (h : s.standby.tamper = none) : handleTamper s = s := by
  simp only [handleTamper, h]

theorem tamperWipe_fenced {s : State} (h : s.nv.lc = .fencedSecure) : tamperWipe s = s := by
  simp only [tamperWipe, h]

/-- In FENCED_SECURE the start only logs what was latched (R426). -/
theorem handleTamper_fenced {s : State} (h : s.nv.lc = .fencedSecure) :
    (handleTamper s).nv = s.nv ∧ (handleTamper s).bank = s.bank ∧
    ∀ e, s.standby.log.getLast? = some e → e ∈ (handleTamper s).standby.log := by
  unfold handleTamper; split
  · exact ⟨rfl, rfl, fun e he => List.mem_of_getLast? he⟩
  next level x _ =>
    simp only
    generalize hu : raise _ _ _ _ = u
    have hn : u.nv = s.nv := by rw [← hu, raise_nv]
    have hb : u.bank = s.bank := by rw [← hu, raise_bank]
    have hl : u.standby.log = s.standby.log := by rw [← hu, raise_standby]
    rw [← hn, ← hb, ← hl]
    split
    · rw [tamperWipe_fenced (by rw [logStandby_nv, hn, h])]
      exact ⟨logStandby_nv .., logStandby_bank .., fun e he => logStandby_keeps_last _ _ _ _ he⟩
    · exact ⟨logStandby_nv .., logStandby_bank .., fun e he => logStandby_keeps_last _ _ _ _ he⟩

/-- A part that level 2 has fenced (R405, R425). -/
structure State.FencedSecure (t : State) : Prop where
  lc : t.nv.lc = .fencedSecure
  key : t.nv.keystoreKey = none
  records : t.bank.records = []
  keys : t.bank.keys = []
  profiles : t.bank.profiles = []

/-- The states from which a detection leads to FENCED_SECURE (R402, R425). -/
def LcState.unfenced (l : LcState) : Prop := l = .manufacturing ∨ l = .provisioning ∨ l = .operational

theorem cryptoErase_empties (keep newKey : Bool) (s : State) : (cryptoErase keep newKey s).bank.records = [] ∧
    (cryptoErase keep newKey s).bank.keys = [] ∧ (cryptoErase keep newKey s).bank.profiles = [] := by
  simp only [cryptoErase]; split
  · simp only [rppWrite]; split <;> exact ⟨rfl, rfl, rfl⟩
  · exact ⟨rfl, rfl, rfl⟩

theorem tamperWipe_eq {s : State} (h : s.nv.lc.unfenced) :
    tamperWipe s = { cryptoErase false true (auditLcChange s.nv.lc .fencedSecure s) with
      nv := { (cryptoErase false true (auditLcChange s.nv.lc .fencedSecure s)).nv with
        lc := .fencedSecure, keystoreKey := none } } := by
  rcases h with h | h | h <;> simp only [tamperWipe, h]

theorem tamperWipe_fences {s : State} (h : s.nv.lc.unfenced) : (tamperWipe s).FencedSecure := by
  rw [tamperWipe_eq h]
  obtain ⟨hr, hk, hp⟩ := cryptoErase_empties false true (auditLcChange s.nv.lc .fencedSecure s)
  exact ⟨rfl, rfl, hr, hk, hp⟩

/-- A reset of a part that level 2 has fenced keeps it so, fences every slot and keeps the newest log entry. -/
theorem mainReset_fencedSecure (src : ResetSource) (board : Board) {s : State} (h : s.FencedSecure) :
    (mainReset src board s).FencedSecure ∧
    (∀ n, ((mainReset src board s).slot n).phase = .fenced ∧ ((mainReset src board s).slot n).fenceSrc = .tamper ∧
      ((mainReset src board s).slot n).vcc = .off) ∧
    ∀ e, s.standby.log.getLast? = some e → e ∈ (mainReset src board s).standby.log := by
  have hl := mainReset_lasts src board s
  have hw : (wiped src board s).nv.lc = .fencedSecure := h.lc
  obtain ⟨hn, hb, hlog⟩ := handleTamper_fenced hw
  have hlc : (handleTamper (wiped src board s)).nv.lc = .fencedSecure := by rw [hn]; exact hw
  refine ⟨⟨hl.lc.trans hlc, ?_, ?_, ?_, ?_⟩, fun n => ?_, fun e he => ?_⟩
  · exact hl.keystoreKey.trans ((congrArg OptionArea.keystoreKey hn).trans h.key)
  · exact (congrArg Bank.records hl.bank).trans ((congrArg Bank.records hb).trans h.records)
  · exact (congrArg Bank.keys hl.bank).trans ((congrArg Bank.keys hb).trans h.keys)
  · exact (congrArg Bank.profiles hl.bank).trans ((congrArg Bank.profiles hb).trans h.profiles)
  · have hs : (mainReset src board s).slot n = (slotsAtStart s (handleTamper (wiped src board s))).slot n := by
      rw [State.slot, hl.slots, State.slot]
    rw [hs, slotsAtStart_slot, hlc]
    exact ⟨rfl, rfl, rfl⟩
  · rw [hl.log]; exact hlog e he

/-- A reset with nothing latched keeps the life cycle, the keys, the records and the log (R424). -/
theorem mainReset_untampered (src : ResetSource) (board : Board) {s : State} (h : s.standby.tamper = none) :
    (mainReset src board s).nv.lc = s.nv.lc ∧ (mainReset src board s).nv.keystoreKey = s.nv.keystoreKey ∧
    (mainReset src board s).bank.records = s.bank.records ∧
    (mainReset src board s).standby.log = s.standby.log ∧
    (mainReset src board s).standby.tamperL1 = s.standby.tamperL1 := by
  have hl := mainReset_lasts src board s
  rw [handleTamper_none (s := wiped src board s) h] at hl
  exact ⟨hl.lc, hl.keystoreKey, (congrArg Bank.records hl.bank).trans rfl, hl.log, hl.tamperL1⟩

/-! ## The levels -/

theorem tamperLevel2_open (x : Sensor) {s : State} (hu : s.mainUp = true) (h : s.nv.lc.unfenced) :
    tamperLevel2 x s = resetBy .tamperL2 (tamperWipe (tamperClosed x s)) := by
  have hn : (tamperClose (raise 0x0B06 none (2 + sensorCode x * 2 ^ 8) s)).nv = s.nv :=
    (tamperClose_closed _).nv
  have ht : (s.nv.lc == .terminated) = false := by rcases h with h | h | h <;> rw [h] <;> rfl
  simp only [tamperLevel2, hu, hn, ht, tamperClosed, Bool.not_true, Bool.false_eq_true, if_false]

theorem tamperLevel2_terminated (x : Sensor) {s : State} (hu : s.mainUp = true) (h : s.nv.lc = .terminated) :
    tamperLevel2 x s = tamperClosed x s := by
  have hn : (tamperClose (raise 0x0B06 none (2 + sensorCode x * 2 ^ 8) s)).nv = s.nv :=
    (tamperClose_closed _).nv
  simp only [tamperLevel2, hu, hn, h, tamperClosed, Bool.not_true, Bool.false_eq_true, if_false, beq_self_eq_true,
    if_true]

theorem exec_tamperL2 {x : Sensor} {s : State} (hv : s.power.vstby = true) (hx : sensorLevel x = 2) :
    exec (.tamperL2 x) s = .next (tamperLevel2 x s) := by
  have hw : s.watches x = true := by
    revert hx; cases x <;> simp [State.watches, sensorLevel, hv]
  exact show execTamperL2 x s = _ from State.gate_open (by simp [hw, hx])

theorem exec_tamperL1 {x : Sensor} {s : State} (hw : s.watches x = true) (hx : sensorLevel x = 1) :
    exec (.tamperL1 x) s = .next (tamperLevel1 x s) :=
  show execTamperL1 x s = _ from State.gate_open (by simp [hw, hx])

/-- What a level 2 detection makes of a part that was not fenced yet (R425). -/
theorem tamperLevel2_fences (x : Sensor) {s : State} (hu : s.mainUp = true) (h : s.nv.lc.unfenced) :
    (tamperLevel2 x s).FencedSecure ∧ (tamperLevel2 x s).regs.enable = false ∧ (tamperLevel2 x s).jobs = [] ∧
    (∀ n, ((tamperLevel2 x s).slot n).phase = .fenced ∧ ((tamperLevel2 x s).slot n).fenceSrc = .tamper ∧
      ((tamperLevel2 x s).slot n).vcc = .off) ∧
    ∃ e ∈ (tamperLevel2 x s).standby.log, e.code = 0x0B21 := by
  rw [tamperLevel2_open x hu h]
  have hn := (tamperClosed_closed x s).nv
  have hf := tamperWipe_fences (s := tamperClosed x s) (by rw [hn]; exact h)
  obtain ⟨e, he, hc⟩ : ∃ e, (tamperClosed x s).standby.log.getLast? = some e ∧ e.code = 0x0B21 := logStandby_last ..
  have hw := State.offBooks_standby (tamperWipe_offBooks (tamperClosed x s))
  generalize tamperWipe (tamperClosed x s) = u at hf hw
  rw [← hw] at he
  obtain ⟨hf', hs, hl⟩ := mainReset_fencedSecure .tamperL2 u.power.board hf
  have ho := mainReset_startsOver .tamperL2 u.power.board u
  exact ⟨hf', congrArg Gates.enable ho.gates, ho.jobs, hs, e, hl e he, hc⟩

/-- A first level 1 detection (R424). -/
def firstLevel1 (x : Sensor) (s : State) : State :=
  logStandby 0x0B20 0 0 0 (raise 0x0B06 none (1 + sensorCode x * 2 ^ 8)
    { s with standby.tamperL1 := [s.aonSeconds] })

theorem tamperLevel1_first (x : Sensor) {s : State} (hu : s.mainUp = true) (ht : s.standby.tamper = none)
    (hl : s.standby.tamperL1 = []) : tamperLevel1 x s = resetBy .tamperL1 (firstLevel1 x s) := by
  have hu' : ({ s with standby.tamperL1 := [s.aonSeconds] } : State).mainUp = true := hu
  have hc : (decide (3 ≤ [s.aonSeconds].length) || s.standby.tamper.isSome) = false := by rw [ht]; rfl
  simp only [tamperLevel1, firstLevel1, hl, List.filter_nil, hc, hu', Bool.not_true, Bool.false_eq_true, if_false]

theorem tamperLevel1_third (x : Sensor) {s : State} {a b : Nat} (hl : s.standby.tamperL1 = [a, b])
    (ha : s.aonSeconds < a + 86400) (hb : s.aonSeconds < b + 86400) :
    tamperLevel1 x s = tamperLevel2 x { s with standby.tamperL1 := [s.aonSeconds, a, b] } := by
  simp [tamperLevel1, hl, ha, hb]

/-- What a first level 1 detection leaves (R424). -/
theorem tamperLevel1_resets (x : Sensor) {s : State} (hu : s.mainUp = true) (ht : s.standby.tamper = none)
    (hl : s.standby.tamperL1 = []) :
    (tamperLevel1 x s).regs.time = 0 ∧ (tamperLevel1 x s).regs.enable = false ∧ (tamperLevel1 x s).jobs = [] ∧
    (tamperLevel1 x s).nv.lc = s.nv.lc ∧ (tamperLevel1 x s).nv.keystoreKey = s.nv.keystoreKey ∧
    (tamperLevel1 x s).bank.records = s.bank.records ∧ (tamperLevel1 x s).standby.tamperL1 = [s.aonSeconds] ∧
    ∃ e ∈ (tamperLevel1 x s).standby.log, e.code = 0x0B20 := by
  rw [tamperLevel1_first x hu ht hl]
  have hb : (firstLevel1 x s).bank = s.bank := by rw [firstLevel1, logStandby_bank, raise_bank]
  have hn : (firstLevel1 x s).nv = s.nv := by rw [firstLevel1, logStandby_nv, raise_nv]
  have ht' : (firstLevel1 x s).standby.tamper = none := ht
  have hl' : (firstLevel1 x s).standby.tamperL1 = [s.aonSeconds] := rfl
  have hg : ∃ e ∈ (firstLevel1 x s).standby.log, e.code = 0x0B20 := logStandby_has ..
  generalize firstLevel1 x s = u at hb hn ht' hl' hg
  obtain ⟨hlc, hkey, hrec, hlog, hl1⟩ := mainReset_untampered .tamperL1 u.power.board ht'
  have ho := mainReset_startsOver .tamperL1 u.power.board u
  rw [← hn, ← hb, ← hl']
  exact ⟨ho.time, congrArg Gates.enable ho.gates, ho.jobs, hlc, hkey, hrec, hl1, by rw [resetBy, hlog]; exact hg⟩

/-- Settles O54: level 2 by what it closes, wipes and resets, level 1 by its count. -/
theorem tamperDestroysByLevel : Obligations.TamperDestroysByLevel := by
  refine ⟨fun x s hv hx => ⟨fun hu ho => ?_, fun hu ht => ?_, fun hm ht => ?_⟩,
    fun x s hw hx hu => ⟨fun ht hl => ?_, fun a b ho hl ha hb => ?_⟩, fun s hv => ⟨?_, fun hu ht hl => ?_⟩⟩
  · obtain ⟨hf, he, hj, hs, hg⟩ := tamperLevel2_fences x hu ho
    exact ⟨_, exec_tamperL2 hv hx, hf.lc, hf.key, hf.records, hf.keys, hf.profiles, he, hj, hs, hg⟩
  · have hc := tamperClosed_closed x s
    have hg : ∃ e ∈ (tamperClosed x s).standby.log, e.code = 0x0B21 := logStandby_has ..
    refine ⟨_, exec_tamperL2 hv hx, ?_⟩
    rw [tamperLevel2_terminated x hu ht]
    exact ⟨hc.nv, hc.rights, hc.time, hc.live, hc.jugs, hg⟩
  · rw [exec_tamperL2 hv hx]
    simp [tamperLevel2, latchTamper, State.mainUp, hm, ht]
  · exact ⟨_, exec_tamperL1 hw hx, tamperLevel1_resets x hu ht hl⟩
  · obtain ⟨hf, -, -, hs, -⟩ := tamperLevel2_fences x
      (s := { s with standby.tamperL1 := [s.aonSeconds, a, b] }) hu (.inr (.inr ho))
    refine ⟨_, exec_tamperL1 hw hx, ?_⟩
    rw [tamperLevel1_third x hl ha hb]
    exact ⟨hf.lc, hf.key, fun n => (hs n).1⟩
  · exact show execTamperSelfTest false s = _ from State.gate_open (by simp [State.watches, hv])
  · obtain ⟨htime, -, -, hlc, -, -, -, hg⟩ := tamperLevel1_resets .selfTest (s := emit .sensorStimulus s) hu ht hl
    exact ⟨_, show execTamperSelfTest true s = _ from State.gate_open (by simp [State.watches, hv]), htime, hlc, hg⟩

/-! # Other ends and returns of a job (R32, R180, R190, R192, R194) -/

/-! ## A job that goes back to the queue -/

theorem startNormal_feed (n : SlotId) (c : Cause) (b : Bool) (s : State) :
    ((startNormal n c b s).slot n).feed = (s.slot n).feed := by
  unfold startNormal; split
  · rw [State.updSlot_slot_self]
    show ((endRotation n (endGalSession n s)).slot n).feed = _
    rw [endRot_keep (·.feed) (fun _ _ => rfl), endGal_slot]
  · rfl

theorem slotFreed_feed (n : SlotId) (s : State) : ((slotFreed n s).slot n).feed = (s.slot n).feed := by
  simp only [slotFreed]; split
  · exact startNormal_feed _ _ _ s
  · split
    · exact startNormal_feed _ _ _ s
    · split
      · exact startNormal_feed _ _ _ s
      · rfl

/-- A job on a slot that may be placed once more is QUEUED again under its next generation, and its slot is free
(R192). -/
theorem replaceJob_returns {id : JobId} {j : Job} {n : SlotId} {s : State} (h : s.findJob id = some j)
    (hs : j.slot = some n) (hw : s.regs.windDown = false) (hr : j.replaced < s.regs.maxReplace)
    (hd : s.deadlinePassed j = false) :
    (replaceJob id s).findJob id = some j.requeued ∧ (replaceJob id s).closing = s.closing ∧
    ((replaceJob id s).slot n).job = none ∧ ((replaceJob id s).slot n).feed = (s.slot n).feed ∧
    ∀ m, m ≠ n → (replaceJob id s).slot m = s.slot m := by
  have hk := (releaseContext_offBooks j _).trans (settleUnsent_offBooks j s)
  rw [replaceJob_requeues h hw hr hd, hs]
  simp only
  generalize releaseContext j (settleUnsent j s) = u at hk
  have hu : u.findJob id = some j := by rw [State.findJob, State.offBooks_jobs hk]; exact h
  have hslot := State.offBooks_slot hk
  have ha := slotFreed_actsOn n ((u.updJob id Job.requeued).updSlot n (fun x => { x with job := none }))
  refine ⟨?_, ha.closing.trans ?_, ha.job ?_, (slotFreed_feed n _).trans ?_, fun m hm => ?_⟩
  · rw [State.findJob, ha.jobs]; exact find_updJob u id Job.requeued (fun _ => rfl) j hu
  · rw [← State.offBooks_closing hk]; rfl
  · rw [State.updSlot_slot_self]
  · rw [State.updSlot_slot_self, ← hslot n]; rfl
  · rw [ha.others m hm, State.updSlot_slot_other _ _ _ _ hm, ← hslot m]; rfl

/-! ## JOB_DEADLINE, FEED_TIMEOUT, STALE_RESULT -/

theorem exec_jobDeadline {id : JobId} {j : Job} {s : State} (hb : s.booted = true) (h : s.findJob id = some j)
    (hp : j.phase = .queued ∨ j.phase = .placed) (hd : s.deadlinePassed j = true) :
    exec (.jobDeadline id) s = .next (endJob id .cancelled 0x0209 s) := by
  have hf : (s.findJob id).filter (fun j => j.phase == .queued || j.phase == .placed) = some j := by
    rw [h, Option.filter_some, if_pos (by simpa using hp)]
  simp only [exec, execJobDeadline, hf]
  exact State.gate_open (by simp [hb, hd])

/-- The slot's feed is given up, with its event (R190). -/
def feedDropped (n : SlotId) (id : JobId) (s : State) : State :=
  raise 0x0206 (some n) id.toNat (s.updSlot n (fun x => { x with feed := none, feedBlocked := true }))

theorem exec_feedTimeout {n : SlotId} {id : JobId} {a : W64} {s : State} (hb : s.booted = true)
    (hp : (s.slot n).present = false) (hf : (s.slot n).feed = some (id, a)) :
    exec (.feedTimeout n) s = .next (lostJob n .none (feedDropped n id s)) := by
  simp only [exec, execFeedTimeout, hf]
  exact State.gate_open (by simp [hb, hp])

theorem lostJob_placed {n : SlotId} {c : Cause} {id : JobId} {j : Job} {s : State} (hj : (s.slot n).job = some id)
    (h : s.findJob id = some j) (hp : j.phase = .placed) : lostJob n c s = replaceJob id s := by
  have hh : s.holder n = some j := by simp [State.holder, hj, h]
  simp only [lostJob, hh, hp, find_id h]

theorem exec_staleResult {id : JobId} {gen : W16} {s : State} (hb : s.booted = true)
    (h : ∀ j, s.findJob id = some j → j.gen ≠ gen) : exec (.staleResult id gen) s = .next (noteStale id s) := by
  refine show execStaleResult id gen s = _ from State.gate_open ?_
  cases hf : s.findJob id with
  | none => simp [hb]
  | some j => simp [hb, h j hf]

/-! ## SWEEP_YIELD -/

/-- The state without what its slots hold and what left the device. -/
def State.offLink (s : State) : State := { s with slots := Vector.replicate 64 Slot.reset, out := [] }

/-- The link of a slot acts: its sweep, its job and everything but it and what is sent stand. -/
structure State.LinkActs (s : State) (n : SlotId) (t : State) : Prop where
  frame : t.offLink = s.offLink
  others : s.othersKeep t n
  job : (t.slot n).job = (s.slot n).job
  sweep : (t.slot n).gal.map (·.sweep) = (s.slot n).gal.map (·.sweep)

theorem State.offLink_eq {s t : State} (h : t.offLink = s.offLink) :
    t = { s with slots := t.slots, out := t.out } :=
  calc t = { t.offLink with slots := t.slots, out := t.out } := rfl
    _ = { s.offLink with slots := t.slots, out := t.out } := by rw [h]
    _ = { s with slots := t.slots, out := t.out } := rfl

section LinkActs
variable {s t : State} {n : SlotId}

theorem State.LinkActs.refl (s : State) (n : SlotId) : s.LinkActs n s := ⟨rfl, fun _ _ => rfl, rfl, rfl⟩

theorem State.LinkActs.emit (h : s.LinkActs n t) (e : Emission) : s.LinkActs n (emit e t) :=
  ⟨h.frame, h.others, h.job, h.sweep⟩

theorem State.LinkActs.updSlot (h : s.LinkActs n t) (f : Slot → Slot) (hj : ∀ x, (f x).job = x.job)
    (hg : ∀ x, (f x).gal.map (·.sweep) = x.gal.map (·.sweep)) : s.LinkActs n (t.updSlot n f) where
  frame := h.frame
  others m hm := (State.updSlot_slot_other _ _ _ _ hm).trans (h.others m hm)
  job := by rw [State.updSlot_slot_self, hj, h.job]
  sweep := by rw [State.updSlot_slot_self, hg, h.sweep]

theorem State.LinkActs.updGal (h : s.LinkActs n t) (f : Gal → Gal) (hf : ∀ g, (f g).sweep = g.sweep) :
    s.LinkActs n (updGal n f t) :=
  h.updSlot _ (fun _ => rfl) fun x => by cases x.gal <;> simp [hf]

theorem State.LinkActs.sendToken (h : s.LinkActs n t) (op : BitVec 6) (csn : W16) (len : Nat) (aux : W16)
    (want : GalExpect) : s.LinkActs n (sendToken n op csn len aux want t) :=
  (h.updGal _ (by intro _; rfl)).emit _

theorem State.LinkActs.sendCmd (h : s.LinkActs n t) (w : WCmd) : s.LinkActs n (sendCmd n w t) :=
  ((h.updGal _ (by intro _; rfl)).sendToken _ _ _ _ _).emit _

theorem State.LinkActs.sendFetch (h : s.LinkActs n t) (w : WCmd) : s.LinkActs n (sendFetch n w t) :=
  (h.updGal _ (by intro _; rfl)).sendToken _ _ _ _ _

theorem State.LinkActs.sendLts (h : s.LinkActs n t) : s.LinkActs n (sendLts n t) :=
  (h.updGal _ (by intro _; rfl)).sendToken _ _ _ _ _

theorem State.LinkActs.galPhase (h : s.LinkActs n t) : s.LinkActs n (galPhase n t) := by
  refine h.updSlot _ (fun x => ?_) (fun x => ?_)
  · split
    · rfl
    · split <;> rfl
  · split
    · rfl
    · split <;> rfl

/-- A link that does not give up only sends (R130, R147). -/
theorem pump_linkActs {g : Gal} (n : SlotId) {s : State} (hg : (s.slot n).gal = some g) (hu : g.giveUp = none) :
    s.LinkActs n (pump n s) := by
  have h := State.LinkActs.refl s n
  simp only [pump, hg, hu]
  apply State.LinkActs.galPhase
  split
  · exact h
  · simp only [Option.isSome_none, Bool.false_eq_true, if_false]
    split
    · split
      · exact h.sendFetch _
      · split
        · exact h.sendLts
        · split
          · exact h.sendCmd _
          · exact h
    · split
      · exact h.sendLts
      · exact h

end LinkActs

/-- The sweep in progress is dropped (R32). -/
def sweepDropped (n : SlotId) (s : State) : State := updGal n (fun g => { g with sweep := none, expect := .none }) s

theorem exec_sweepYield {n : SlotId} {g : Gal} {s : State} (hu : s.mainUp = true)
    (hj : (s.slot n).job.isSome = true) (hg : (s.slot n).gal = some g) (hs : g.sweep.isSome = true) :
    exec (.sweepYield n) s = .next (pump n (sweepDropped n s)) :=
  show execSweepYield n s = _ from State.gate_open (by simp [hu, hj, hg, hs])

/-! ## JOB_SETTLED -/

theorem exec_jobSettled {id : JobId} {j : Job} {n : SlotId} {s : State} (hb : s.booted = true)
    (h : s.findJob id = some j) (hp : j.phase = .resolving) (hn : j.slot = some n) (hs : s.slotSettled n = true) :
    exec (.jobSettled id) s = .next (settleResolving j n s) := by
  have hf : (s.findJob id).filter (fun j => j.phase == .resolving) = some j := by
    rw [h, Option.filter_some, if_pos (by simp [hp])]
  simp only [exec, execJobSettled, hf, hn]
  exact State.gate_open (by simp [hb, hs])

theorem settleUnsent_nothing {j : Job} (s : State) (h : ∀ r, j.run = some r → r.staged = []) :
    settleUnsent j s = s := by
  unfold settleUnsent
  cases hr : j.run with
  | none => rfl
  | some r => simp only [h r hr, List.filter_nil, forEach, List.foldl_nil]

/-- The entries of a job's generation (R194). -/
def State.mine (s : State) (j : Job) : List Intent :=
  s.bank.journal.filter (fun e => e.jobId == j.ticket.jobId && e.gen == j.gen)

/-- What was read of them from the card's record (R246, R251). -/
def State.read (s : State) (j : Job) : List JOutcome :=
  ((s.mine j).filterMap (·.outcome)).filter (fun o => o.how == 3)

section Settled
variable {j : Job} {s : State} (n : SlotId) (h : ∀ r, j.run = some r → r.staged = [])
include h

theorem settleResolving_open (ho : (s.mine j).any (fun e => e.outcome.isNone) = true) :
    settleResolving j n s = endJob j.ticket.jobId .indeterminate 0x020D s := by
  simp only [settleResolving, settleUnsent_nothing s h]
  exact if_pos ho

theorem settleResolving_done {o : JOutcome} (ho : (s.mine j).any (fun e => e.outcome.isNone) = false)
    (hl : ((s.read j).filter (fun o => o.result == .done)).getLast? = some o) (hw : o.sw = 0x9000) :
    settleResolving j n s = endJob j.ticket.jobId .done 0
      (s.updJob j.ticket.jobId (fun j => { j with resultLost := true })) := by
  simp only [State.mine, State.read] at ho hl
  simp only [settleResolving, settleUnsent_nothing s h, ho, hl, hw]
  rfl

theorem settleResolving_again (ho : (s.mine j).any (fun e => e.outcome.isNone) = false) (hr : s.read j = [])
    (hx : j.exch.mayHaveExecuted = true) : settleResolving j n s = replaceJob j.ticket.jobId s := by
  have hc : (!(j.exch == .ok || j.exch == .cancelled)) = true := by
    revert hx; cases j.exch <;> decide
  simp only [State.mine, State.read] at ho hr
  simp only [settleResolving, settleUnsent_nothing s h, ho, hr, hc, List.filter_nil, List.getLast?_nil, Bool.true_or,
    if_true, Bool.false_eq_true, if_false]
  cases hrun : j.run with
  | none => rfl
  | some r => simp only [h r hrun]; rfl

end Settled

theorem mine_closed {j : Job} {s : State}
    (h : ∀ e ∈ s.bank.journal, e.jobId = j.ticket.jobId → e.gen = j.gen → e.outcome.isSome = true) :
    (s.mine j).any (fun e => e.outcome.isNone) = false := by
  rw [List.any_eq_false]
  intro e he
  simp only [State.mine, List.mem_filter, Bool.and_eq_true, beq_iff_eq] at he
  obtain ⟨hm, hid, hgen⟩ := he
  simp [Option.isNone_iff_eq_none, Option.isSome_iff_ne_none.1 (h e hm hid hgen)]

theorem mine_open {j : Job} {s : State} {e : Intent} (hm : e ∈ s.bank.journal) (hid : e.jobId = j.ticket.jobId)
    (hgen : e.gen = j.gen) (ho : e.outcome = none) : (s.mine j).any (fun e => e.outcome.isNone) = true :=
  List.any_eq_true.2 ⟨e, List.mem_filter.2 ⟨hm, by simp [hid, hgen]⟩, by simp [ho]⟩

theorem read_nothing {j : Job} {s : State}
    (h : ∀ e ∈ s.bank.journal, e.jobId = j.ticket.jobId → e.gen = j.gen → ∀ o, e.outcome = some o → o.how ≠ 3) :
    s.read j = [] := by
  rw [State.read, List.filter_eq_nil_iff]
  intro o ho
  obtain ⟨e, he, heo⟩ := List.mem_filterMap.1 ho
  simp only [State.mine, List.mem_filter, Bool.and_eq_true, beq_iff_eq] at he
  obtain ⟨hm, hid, hgen⟩ := he
  simpa using h e hm hid hgen o heo

/-- RESULT_LOST is bit 4 of a completion's flags (R173). -/
theorem closingOf_resultLost {j : Job} (h : j.resultLost = true) (st : CStatus) (err : W16) (b : Nat) :
    bit (closingOf j st err b).cflags 4 = true := by
  simp only [closingOf, h]
  generalize j.late = late, (j.replaced != 0) = again, (_ || j.resultTrunc) = cut, j.galloper = gal
  revert late again cut gal
  decide

/-- Settles O33: each end through `endJobAfter`, each return through `replaceJob_returns`, the sweep through `pump`. -/
theorem jobsSettleOrGoBack : Obligations.JobsSettleOrGoBack := by
  refine ⟨⟨fun id j s hb hf hp hd => ?_, fun n id a s hb hp hfeed => ⟨fun hj => ?_, fun j hf hj hph hn hw hr hd => ?_⟩,
    fun id gen s hb h => exec_staleResult hb h, fun n g s hu hj hg hs hgu => ?_⟩,
    fun id j n s hb hf hp hn hs hrun => ⟨fun ho => ?_, fun hc => ⟨fun o hl hw => ?_, fun hr hx hw hrep hd => ?_⟩⟩⟩
  · obtain ⟨hown, hother, -⟩ := endJobAfter_slots 0 .cancelled 0x0209 hf
    exact ⟨_, exec_jobDeadline hb hf hp hd, endJobAfter_jobEnds 0 _ _ hf (.inl (by decide)), hown, hother⟩
  · refine ⟨_, exec_feedTimeout hb hp hfeed, ?_⟩
    have hj' : ((feedDropped n id s).slot n).job = none := by
      rw [feedDropped, raise_slot, State.updSlot_slot_self]; exact hj
    rw [lostJob_nojob n _ _ hj', feedDropped]
    refine ⟨rfl, ?_, fun m hm => ?_, _, List.mem_append_right _ (List.mem_singleton_self _), rfl, rfl⟩
    · rw [raise_slot, State.updSlot_slot_self]
    · rw [raise_slot, State.updSlot_slot_other _ _ _ _ hm]
  · have hself : (feedDropped n id s).slot n = { s.slot n with feed := none, feedBlocked := true } := by
      rw [feedDropped, raise_slot, State.updSlot_slot_self]
    have hf' : (feedDropped n id s).findJob id = some j := hf
    obtain ⟨hk, hc, hjob, hfd, ho⟩ := replaceJob_returns hf' hn hw hr hd
    refine ⟨_, j.requeued, exec_feedTimeout hb hp hfeed, ?_⟩
    rw [lostJob_placed (by rw [hself]; exact hj) hf' hph]
    refine ⟨hk, rfl, rfl, rfl, rfl, rfl, hjob, hfd.trans (by rw [hself]), fun m hm => (ho m hm).trans ?_, hc⟩
    rw [feedDropped, raise_slot, State.updSlot_slot_other _ _ _ _ hm]
  · have hself : (sweepDropped n s).slot n =
        { s.slot n with gal := (s.slot n).gal.map (fun g => { g with sweep := none, expect := .none }) } := by
      rw [sweepDropped, updGal, State.updSlot_slot_self]
    have hl := pump_linkActs (g := { g with sweep := none, expect := .none }) n (s := sweepDropped n s)
      (by rw [hself, hg]; rfl) hgu
    refine ⟨_, exec_sweepYield hu hj hg hs, State.offLink_eq (hl.frame.trans rfl), ?_, ?_, fun m hm => ?_⟩
    · rw [hl.sweep, hself, hg]; rfl
    · rw [hl.job, hself]
    · rw [hl.others m hm, sweepDropped, updGal, State.updSlot_slot_other _ _ _ _ hm]
  all_goals
    rw [exec_jobSettled hb hf hp hn hs]
    obtain rfl := find_id hf
  · obtain ⟨e, hm, hid, hgen, ho⟩ := ho
    rw [settleResolving_open n hrun (mine_open hm hid hgen ho)]
    exact ⟨_, rfl, endJobAfter_jobEnds 0 _ _ hf (.inl (by decide))⟩
  · rw [settleResolving_done n hrun (mine_closed hc) hl hw]
    have hf' := find_updJob s j.ticket.jobId (fun j => { j with resultLost := true }) (fun _ => rfl) j hf
    obtain ⟨-, hcl, -⟩ := endJobAfter_closes 0 .done 0 hf'
    have he := endJobAfter_jobEnds 0 .done 0 hf' (.inr rfl)
    refine ⟨_, rfl, he, ?_⟩
    rw [endJob, hcl, List.getLast?_concat, Option.map_some, closingOf_resultLost rfl]
  · rw [settleResolving_again n hrun (mine_closed hc) (read_nothing hr) hx]
    obtain ⟨hk, hcl, hjob, -, -⟩ := replaceJob_returns hf hn hw hrep hd
    exact ⟨_, j.requeued, rfl, hk, rfl, rfl, rfl, hjob, hcl⟩

/-! # The release of staged commands (R31, R88, R91, R176, R180, R222) -/

/-- An exchange of a job has just started on a slot, its first characters on C7 (R72, R88, R91). -/
structure State.Starts (s : State) (n : SlotId) (kind : ExchKind) (job : JobId) (gen : W16) (step : Nat)
    (apdu : List Byte) (e : Exch) (bs : List Byte) (t : State) : Prop where
  frame : t.offLink = s.offLink
  out : t.out = s.out ++ [.chars n bs]
  phase : (t.slot n).phase = .busy
  exch : (t.slot n).exch = some e
  job : e.job = job
  gen : e.gen = gen
  step : e.step = step
  kind : e.kind = kind
  cmd : e.cmd = apdu
  holder : (t.slot n).job = (s.slot n).job
  others : s.othersKeep t n

theorem sendIBlock_sends {n : SlotId} {e : Exch} {s : State} (h : (s.slot n).exch = some e) :
    ∃ bs f rest, sendIBlock n s =
      emit (.chars n bs) (updT1 n f (updExch n (fun e => { e with rest := rest }) s)) := by
  simp only [sendIBlock, h, sendChars]
  exact ⟨_, _, _, rfl⟩

/-- The exchange as it starts: nothing sent or received yet (R88, R91). -/
def newExch (kind : ExchKind) (job : JobId) (gen : W16) (step : Nat) (apdu : List Byte) (respMax : Nat) : Exch :=
  { kind := kind, job := job, gen := gen, step := step, cmd := apdu, rest := apdu, resp := [],
    respMax := respMax, t0Sent := 0, t0Expect := 0, t0Errors := 0, t0ErrAt := 0, t0Follow := none, overruns := 0 }

/-- The slot is BUSY with its new exchange, and nothing went out yet (R72). -/
def exchBegun (n : SlotId) (e : Exch) (s : State) : State :=
  s.updSlot n (fun x => { x with exch := some e, phase := .busy })

theorem exchBegun_slot (n : SlotId) (e : Exch) (s : State) :
    (exchBegun n e s).slot n = { s.slot n with exch := some e, phase := .busy } := State.updSlot_slot_self _ _ _

theorem startExch_eq (n : SlotId) (kind : ExchKind) (job : JobId) (gen : W16) (step : Nat) (apdu : List Byte)
    (respMax : Nat) (s : State) : startExch n kind job gen step apdu respMax s =
      let u := exchBegun n (newExch kind job gen step apdu respMax) s
      if (u.slot n).proto == .t1 then sendIBlock n u
      else if extendedApdu apdu then endExch n .extOnT0 0 [] u
      else sendChars n (t0Header apdu) u := rfl

section StartExch
variable (n : SlotId) (kind : ExchKind) (job : JobId) (gen : W16) (step : Nat) (apdu : List Byte) (respMax : Nat)
  {s : State}

/-- Under T=1 the first I-block goes out (R91). -/
theorem startExch_t1 (h : (s.slot n).proto = .t1) :
    ∃ e bs, s.Starts n kind job gen step apdu e bs (startExch n kind job gen step apdu respMax s) := by
  let e := newExch kind job gen step apdu respMax
  have hu := exchBegun_slot n e s
  obtain ⟨bs, f, rest, hb⟩ := sendIBlock_sends (n := n) (e := e) (s := exchBegun n e s) (by rw [hu])
  have hs : startExch n kind job gen step apdu respMax s = _ :=
    (startExch_eq ..).trans ((if_pos (by rw [hu, h]; rfl)).trans hb)
  have hself : (startExch n kind job gen step apdu respMax s).slot n =
      { s.slot n with exch := some { e with rest := rest }, phase := .busy, t1 := f (s.slot n).t1 } := by
    rw [hs, emit_slot, updT1, State.updSlot_slot_self, updExch, State.updSlot_slot_self, hu]; rfl
  refine ⟨{ e with rest := rest }, bs, by rw [hs]; rfl, by rw [hs]; rfl, by rw [hself], by rw [hself], rfl, rfl, rfl,
    rfl, rfl, by rw [hself], fun m hm => ?_⟩
  rw [hs, emit_slot, updT1, State.updSlot_slot_other _ _ _ _ hm, updExch, State.updSlot_slot_other _ _ _ _ hm,
    exchBegun, State.updSlot_slot_other _ _ _ _ hm]

/-- Under T=0 the header goes out (R88). -/
theorem startExch_t0 (h : (s.slot n).proto ≠ .t1) (hx : extendedApdu apdu = false) :
    ∃ e bs, s.Starts n kind job gen step apdu e bs (startExch n kind job gen step apdu respMax s) := by
  let e := newExch kind job gen step apdu respMax
  have hu := exchBegun_slot n e s
  have hs : startExch n kind job gen step apdu respMax s = sendChars n (t0Header apdu) (exchBegun n e s) :=
    (startExch_eq ..).trans ((if_neg (by rw [hu]; simpa using h)).trans (if_neg (by simp [hx])))
  have hself : (startExch n kind job gen step apdu respMax s).slot n =
      { s.slot n with exch := some e, phase := .busy } := by rw [hs, sendChars, emit_slot, hu]
  refine ⟨e, _, by rw [hs]; rfl, by rw [hs]; rfl, by rw [hself], by rw [hself], rfl, rfl, rfl, rfl, rfl, by rw [hself],
    fun m hm => ?_⟩
  rw [hs, sendChars, emit_slot, exchBegun, State.updSlot_slot_other _ _ _ _ hm]

theorem startExch_starts (h : (s.slot n).proto = .t1 ∨ extendedApdu apdu = false) :
    ∃ e bs, s.Starts n kind job gen step apdu e bs (startExch n kind job gen step apdu respMax s) := by
  by_cases hp : (s.slot n).proto = .t1
  · exact startExch_t1 n kind job gen step apdu respMax hp
  · exact startExch_t0 n kind job gen step apdu respMax hp (h.resolve_left hp)

end StartExch

/-! ## PRECOMPUTE_RELEASE -/

theorem working_some {id : JobId} {j : Job} {n : SlotId} {r : Run} {s : State} (h : s.working id = some (j, n, r)) :
    s.findJob id = some j ∧ (j.phase = .placed ∨ j.phase = .started) ∧ j.run = some r := by
  unfold State.working at h
  split at h
  · simp at h
  next k hk =>
    obtain ⟨hf, hp⟩ := Option.filter_eq_some_iff.1 hk
    split at h
    next m q hm hq =>
      obtain ⟨-, hjnr⟩ := Option.ite_none_right_eq_some.1 h
      obtain ⟨rfl, rfl, rfl⟩ : k = j ∧ m = n ∧ q = r := by simpa using hjnr
      simp only [Bool.and_eq_true, Bool.or_eq_true, beq_iff_eq] at hp
      exact ⟨hf, hp.1.1, hq⟩
    · simp at h

section Release
variable {id : JobId} {j : Job} {n : SlotId} {r : Run} {c : Staged} {s : State}
  (hw : s.working id = some (j, n, r)) (hd : s.switchDue n j = false) (hc : r.nextToSend = some c)
include hw hd hc

theorem exec_release_waits (hi : s.intentDurable c = false) : exec (.precomputeRelease id) s = .next s := by
  simp only [exec, execPrecomputeRelease, hw, State.gate_open, hd, hc, hi, Bool.false_and, Bool.false_eq_true, if_false]

theorem exec_release (hi : s.intentDurable c = true) (hg : (s.slot n).gal = none)
    (ht : (s.slot n).takesApdu = true) (hh : r.staged.head? = some c) :
    exec (.precomputeRelease id) s = .next (firstByte j c.step (sendStaged j n r c) s) := by
  have hb : (r.staged.head? == some c) = true := by rw [hh]; exact beq_self_eq_true _
  simp only [exec, execPrecomputeRelease, hw, State.gate_open, hd, hc, hi, hg, ht, hb, Bool.and_self,
    Bool.false_eq_true, if_false, if_true]

end Release

/-- The run with one of its staged commands marked as sent. -/
def Run.sentOne (r : Run) (c : Staged) : Run :=
  { r with staged := r.staged.map (fun u => if u == c then { u with sent := true } else u) }

/-- What a state may hold right before a command of a job goes out: only the jobs changed, and the job has its run. -/
structure State.ReadyToSend (s : State) (id : JobId) (r : Run) (p : JobPhase) (u : State) : Prop where
  frame : u = { s with jobs := u.jobs }
  found : ∃ k, u.findJob id = some k ∧ k.run = some r ∧ k.phase = p

theorem markSent_readyToSend {s u : State} {id : JobId} {r : Run} {p : JobPhase} (h : s.ReadyToSend id r p u)
    (c : Staged) : s.ReadyToSend id (r.sentOne c) p (markSent id c u) where
  frame := congrArg (fun v : State => { v with jobs := (markSent id c u).jobs }) h.frame
  found := by
    obtain ⟨k, hk, hr, hp⟩ := h.found
    refine ⟨_, find_updJob u id _ ?_ k hk, ?_, hp⟩
    · intro _; rfl
    · rw [hr]; rfl

theorem sendStaged_sends {id : JobId} {j : Job} {n : SlotId} {r : Run} {p : JobPhase} {c : Staged} {s u : State}
    (hid : j.ticket.jobId = id) (h : s.ReadyToSend id r p u) (hg : (s.slot n).gal = none)
    (hx : (s.slot n).proto = .t1 ∨ extendedApdu c.apdu = false) :
    ∃ e bs v, s.ReadyToSend id (r.sentOne c) p v ∧
      v.Starts n c.kind id j.gen c.step c.apdu e bs (sendStaged j n r c u) := by
  have hv := markSent_readyToSend h c
  have hslot : ∀ v : State, v = { s with jobs := v.jobs } → v.slot n = s.slot n := fun v hv => by rw [hv]; rfl
  have hs : sendStaged j n r c u = startExch n c.kind id j.gen c.step c.apdu (respArea r c) (markSent id c u) := by
    simp only [sendStaged, hslot u h.frame, hg, hid, Option.isSome_none, Bool.false_eq_true, if_false]
  obtain ⟨e, bs, he⟩ := startExch_starts n c.kind id j.gen c.step c.apdu (respArea r c) (s := markSent id c u)
    (by rw [hslot _ hv.frame]; exact hx)
  exact ⟨e, bs, _, hv, by rw [hs]; exact he⟩

/-- The first byte of a job that may start starts it (R176, R180). -/
theorem firstByte_starts {id : JobId} {j : Job} {r : Run} {s : State} (hid : j.ticket.jobId = id)
    (hf : s.findJob id = some j) (hr : j.run = some r) (k : Nat) (go : State → State)
    (h : k = 0 ∨ j.phase = .started ∨ s.deadlinePassed j = false) :
    ∃ u p, firstByte j k go s = go u ∧ s.ReadyToSend id r p u ∧ (k ≠ 0 → p = .started) := by
  by_cases hk : k = 0 ∨ j.phase = .started
  · refine ⟨s, j.phase, if_pos (by simpa using hk), ⟨rfl, j, hf, hr, rfl⟩, fun h0 => hk.resolve_left h0⟩
  · have hd : s.deadlinePassed j = false := by tauto
    refine ⟨startJob id s, .started, ?_, ⟨rfl, _, find_updJob s id _ ?_ j hf, hr, rfl⟩, fun _ => rfl⟩
    · rw [firstByte, if_neg (by simpa using hk), hd, hid]; rfl
    · intro _; rfl

theorem firstByte_late {j : Job} {k : Nat} (go : State → State) {s : State} (h0 : k ≠ 0) (hp : j.phase = .placed)
    (hd : s.deadlinePassed j = true) : firstByte j k go s = endJob j.ticket.jobId .cancelled 0x0209 s := by
  rw [firstByte, if_neg (by simp [h0, hp]), if_pos hd]

/-- Settles O36: the release goes through `firstByte` and `startExch`, and only when the intent is durable. -/
theorem releaseSendsOnlyDurableCommands : Obligations.ReleaseSendsOnlyDurableCommands := by
  intro id j n r c s hw hd hc
  obtain ⟨hf, -, hr⟩ := working_some hw
  have hid := find_id hf
  refine ⟨exec_release_waits hw hd hc, fun hi hg ht hh hs hx => ?_, fun hi hg ht hh h0 hp hdl => ?_⟩
  · obtain ⟨u, p, hu, hready, hph⟩ := firstByte_starts hid hf hr c.step (sendStaged j n r c) hs
    obtain ⟨e, bs, v, hv, h⟩ := sendStaged_sends (c := c) hid hready hg hx
    refine ⟨_, e, bs, exec_release hw hd hc hi hg ht hh, ?_⟩
    rw [hu]
    generalize sendStaged j n r c u = t at h
    obtain ⟨k, hk, hkr, hkp⟩ := hv.found
    have hslot : ∀ m, v.slot m = s.slot m := fun m => by rw [hv.frame]; rfl
    have hj : t.jobs = v.jobs := by rw [State.offLink_eq h.frame]
    have hfind : t.findJob id = some k := by rw [State.findJob, hj]; exact hk
    refine ⟨?_, h.phase, h.exch, h.job, h.gen, h.step, h.kind, h.cmd, h.holder.trans (by rw [hslot]),
      fun m hm => (h.others m hm).trans (hslot m), fun h0 => ?_, ?_⟩
    · have hout : t.out = s.out ++ [.chars n bs] := by rw [h.out, hv.frame]
      rw [← hout, hj]
      calc t = { v with slots := t.slots, out := t.out } := State.offLink_eq h.frame
        _ = { s with slots := t.slots, jobs := v.jobs, out := t.out } := by rw [hv.frame]
    · rw [hfind, Option.map_some, hkp, hph h0]
    · rw [hfind, Option.bind_some, hkr]
      simp [Run.sentOne]
  · refine ⟨_, exec_release hw hd hc hi hg ht hh, ?_⟩
    rw [firstByte_late _ h0 hp hdl, hid]
    exact endJobAfter_jobEnds 0 _ _ hf (.inl (by decide))

end Sys2Proof.Machine

namespace Sys2Proof.Machine
open Sys2Proof

/-! # The normal order of a slot that no job holds (R53, R55, R72, R303) -/

/-- A powered slot at the start of a normal order (R53, R72). -/
def Slot.wentDown (x : Slot) (c : Cause) (b : Bool) : Slot :=
  { x.endLink with
    phase := .deactivating, cause := c, rst := false,
    deact := some { emergency := false, step := .rstLow, window := x.qualified && c != .vccFail && !b,
                    reading := none, counted := false } }

/-- Ending a rotation leaves at most the slot's comparator check idle (R303). -/
theorem endRotation_slot (n : SlotId) (s : State) : ∃ k, (endRotation n s).slot n = { s.slot n with check := k } := by
  unfold endRotation
  split
  · split
    · exact ⟨_, State.updSlot_slot_self _ _ _⟩
    · exact ⟨_, rfl⟩
  · exact ⟨_, rfl⟩

theorem startNormal_powered (n : SlotId) (c : Cause) (b : Bool) {s : State} (h : (s.slot n).phase.live = true) :
    startNormal n c b s = (endRotation n (endGalSession n s)).updSlot n (·.wentDown c b) := by
  simp only [startNormal, h]; rfl

theorem startNormal_slot (n : SlotId) (c : Cause) (b : Bool) {s : State} (h : (s.slot n).phase.live = true) :
    ∃ k, (startNormal n c b s).slot n = Slot.wentDown { s.slot n with check := k } c b := by
  obtain ⟨k, hk⟩ := endRotation_slot n (endGalSession n s)
  rw [startNormal_powered n c b h, State.updSlot_slot_self, hk, endGal_slot]
  exact ⟨k, rfl⟩

theorem leaveQueue_not_waiting {n : SlotId} {s : State} (h : (s.slot n).phase ≠ .powerWait) :
    leaveQueue n s = { s with requests := s.requests.filter (fun q => q.slot != n) } := by
  have h' : (State.slot { s with requests := s.requests.filter (fun q => q.slot != n) } n).phase ≠ .powerWait := h
  exact if_neg (by simpa using h')

theorem State.updSlot_updSlot (s : State) (n : SlotId) (f g : Slot → Slot) :
    (s.updSlot n f).updSlot n g = s.updSlot n (fun x => g (f x)) := by
  simp [State.updSlot]

/-! # SLOT_CTRL: disable, DEACTIVATE and CLEAR (R47, R52, R55, R72, R74, R347) -/

/-- The slot as clearing ENABLE leaves it at first (R347). -/
def Slot.disabled (x : Slot) : Slot := { x with enable := false, actWait := false }

@[simp] theorem Slot.disabled_phase (x : Slot) : x.disabled.phase = x.phase := rfl
@[simp] theorem Slot.disabled_job (x : Slot) : x.disabled.job = x.job := rfl
@[simp] theorem Slot.disabled_enable (x : Slot) : x.disabled.enable = false := rfl

theorem stopUnused_frame (r : RingId) (s : State) : stopUnused r s = { s with rings := (stopUnused r s).rings } := by
  unfold stopUnused; split <;> rfl

theorem stopUnused_slot (r : RingId) (s : State) (m : SlotId) : (stopUnused r s).slot m = s.slot m := by
  rw [stopUnused_frame]; rfl

theorem exec_slotDisable {s : State} (h : s.hostReach) (he : (s.slot s.regs.slotSel).enable = true) :
    exec .slotDisable s = .next (disableSlot s.regs.slotSel s) :=
  show execSlotDisable s = _ from (State.hostWrite_open h).trans (by rw [if_pos he])

section Disable
variable {n : SlotId} {s : State} (hj : (s.slot n).job = none)
include hj

/-- A powered slot is taken down normally (R55, R347). -/
theorem disableSlot_live (h : (s.slot n).phase.live = true) : disableSlot n s =
    stopUnused (ringOf n) (startNormal n .disable false (s.updSlot n Slot.disabled)) := by
  have h' : ((s.updSlot n Slot.disabled).slot n).phase.live = true := by simpa using h
  rw [← loseNormal_nojob n _ _ (by simpa using hj)]
  exact congrArg (stopUnused (ringOf n)) (if_pos h')

/-- A waiting slot leaves the admission queue (R47, R347). -/
theorem disableSlot_waiting (h : (s.slot n).phase = .powerWait) : disableSlot n s =
    stopUnused (ringOf n) (leaveQueue n (s.updSlot n Slot.disabled)) := by
  have h' : ((s.updSlot n Slot.disabled).slot n).phase = .powerWait := by simpa using h
  have hq := (leaveQueue_actsOn n (s.updSlot n Slot.disabled)).job (by simpa using hj)
  have h0 : ¬ ((s.updSlot n Slot.disabled).slot n).phase.live = true := by rw [h']; decide
  rw [← lostJob_nojob n .disable _ hq]
  exact congrArg (stopUnused (ringOf n)) ((if_neg h0).trans (if_pos (beq_iff_eq.2 h')))

/-- In any other state only the slot's own bits change. -/
theorem disableSlot_idle (h : (s.slot n).phase.live = false) (hw : (s.slot n).phase ≠ .powerWait) :
    ∃ f : Slot → Slot, (f (s.slot n)).enable = false ∧ disableSlot n s = stopUnused (ringOf n) (s.updSlot n f) := by
  have h0 : ¬ ((s.updSlot n Slot.disabled).slot n).phase.live = true := by simpa using h
  have h1 : ¬ (((s.updSlot n Slot.disabled).slot n).phase == .powerWait) = true := by simpa using hw
  by_cases ho : (s.slot n).phase = .off
  · have h2 : (((s.updSlot n Slot.disabled).slot n).phase == .off) = true := by simpa using ho
    have hl := lostJob_nojob n .disable ((s.updSlot n Slot.disabled).updSlot n (fun x => { x with stepTo := none }))
      (by simpa using hj)
    refine ⟨fun x => { x.disabled with stepTo := none }, rfl, ?_⟩
    rw [← State.updSlot_updSlot s n Slot.disabled (fun x => { x with stepTo := none }), ← hl]
    exact congrArg (stopUnused (ringOf n)) ((if_neg h0).trans ((if_neg h1).trans (if_pos h2)))
  · have h2 : ¬ (((s.updSlot n Slot.disabled).slot n).phase == .off) = true := by simpa using ho
    exact ⟨Slot.disabled, rfl, congrArg (stopUnused (ringOf n)) ((if_neg h0).trans ((if_neg h1).trans (if_neg h2)))⟩

end Disable

/-- No other slot acts when a slot that no job holds is disabled. -/
theorem disableSlot_acts {n : SlotId} {s : State} (hj : (s.slot n).job = none) :
    ((disableSlot n s).slot n).enable = false ∧ s.othersKeep (disableSlot n s) n ∧
    ((s.slot n).phase.live = true → ((disableSlot n s).slot n).phase = .deactivating ∧
      ((disableSlot n s).slot n).cause = .disable ∧ ((disableSlot n s).slot n).rst = false) ∧
    ((s.slot n).phase = .powerWait → ((disableSlot n s).slot n).phase = .off ∧
      ∀ q ∈ (disableSlot n s).requests, q.slot ≠ n) := by
  have hs := State.updSlot_slot_self s n Slot.disabled
  have ho : s.othersKeep (s.updSlot n Slot.disabled) n := fun m hm => State.updSlot_slot_other _ _ _ _ hm
  by_cases hl : (s.slot n).phase.live = true
  · have hl' : ((s.updSlot n Slot.disabled).slot n).phase.live = true := by rw [hs]; exact hl
    obtain ⟨hp, hc, hr, he, -⟩ := startNormal_self n .disable false _ hl'
    simp only [disableSlot_live hj hl, stopUnused_slot]
    refine ⟨by rw [he, hs]; rfl, fun m hm => ?_, fun _ => ⟨hp, hc, hr⟩, fun hw => by simp [hw, SlotPhase.live] at hl⟩
    rw [stopUnused_slot, startNormal_other n m _ _ _ hm, ho m hm]
  · by_cases hw : (s.slot n).phase = .powerWait
    · have hw' : ((s.updSlot n Slot.disabled).slot n).phase = .powerWait := by rw [hs]; exact hw
      simp only [disableSlot_waiting hj hw, stopUnused_slot, leaveQueue_pw n _ hw', hs]
      refine ⟨rfl, fun m hm => ?_, fun h => absurd h hl, fun _ => ⟨trivial, ?_⟩⟩
      · rw [stopUnused_slot, leaveQueue_other n m _ hm, ho m hm]
      · rw [stopUnused_frame, leaveQueue_frame]; simp
    · obtain ⟨f, hf, hd⟩ := disableSlot_idle hj (Bool.not_eq_true _ ▸ hl) hw
      simp only [hd, stopUnused_slot, State.updSlot_slot_self]
      refine ⟨hf, fun m hm => ?_, fun h => absurd h hl, fun h => absurd h hw⟩
      rw [stopUnused_slot, State.updSlot_slot_other _ _ _ _ hm]

section Deactivate
variable {n : SlotId} {s : State} (hn : s.regs.slotSel = n) (hr : s.hostReach)
include hn hr

theorem exec_slotDeactivate_live (h : (s.slot n).phase.live = true) : exec .slotDeactivate s =
    .next ((loseNormal n .host s).updSlot n (fun x => { x with deactReq := true })) := by
  subst hn
  exact show execSlotDeactivate s = _ from (State.hostWrite_open hr).trans (by simp only [h]; rfl)

theorem exec_slotDeactivate_waiting (h : (s.slot n).phase = .powerWait) :
    exec .slotDeactivate s = .next (lostJob n .host (leaveQueue n s)) := by
  subst hn
  exact show execSlotDeactivate s = _ from (State.hostWrite_open hr).trans (by simp only [h]; rfl)

theorem exec_slotDeactivate_unpowered (h : (s.slot n).phase.powered = false) (hw : (s.slot n).phase ≠ .powerWait) :
    exec .slotDeactivate s = .next s := by
  subst hn
  refine show execSlotDeactivate s = _ from (State.hostWrite_open hr).trans ?_
  have hd : (s.slot s.regs.slotSel).phase ≠ .deactivating := fun e => by simp [e, SlotPhase.powered] at h
  have hl : ¬ (s.slot s.regs.slotSel).phase.live = true := fun e => by simp [live_powered e] at h
  simp only [hl, hd, hw, beq_iff_eq, Bool.false_eq_true, if_false]

end Deactivate

theorem exec_slotClear {s : State} (h : s.hostReach) : exec .slotClear s = .next (clearSlot s.regs.slotSel s) :=
  show execSlotClear s = _ from State.hostWrite_open h

/-- A slot that CLEAR lifts (R52, R72, R74). -/
def Slot.cleared (x : Slot) : Slot := { x with phase := .off, failCount := 0, activations := 0 }

/-- The presence filter starts afresh (R66, R72). -/
def Slot.steady (x : Slot) : Slot := { x with transitions := 0, brokenRuns := 0, unstablePending := false }

theorem clearSlot_quarantined {n : SlotId} {s : State} (h : (s.slot n).phase = .quarantined) :
    clearSlot n s = s.updSlot n Slot.cleared := by
  simp only [clearSlot, h]; rfl

theorem clearSlot_unstable {n : SlotId} {s : State} (h : (s.slot n).phase = .unstable) :
    clearSlot n s = (if (s.slot n).present then decideAbsent n (s.updSlot n Slot.cleared)
      else s.updSlot n Slot.cleared).updSlot n Slot.steady := by
  simp only [clearSlot, h]; rfl

theorem clearSlot_contact {n : SlotId} {s : State} (h : (s.slot n).phase = .fenced)
    (hc : (s.slot n).fenceSrc = .contact) : ∃ p, clearSlot n s =
      (setPlan n p s).updSlot n (fun x => { x.cleared with fenceSrc := .none, fenceCode := 0 }) := by
  simp only [clearSlot, h, hc, beq_self_eq_true, if_true, State.updSlot_updSlot]
  exact ⟨_, rfl⟩

/-- CLEAR lifts no other fence (R72, R74). -/
theorem clearSlot_fenced {n : SlotId} {s : State} (h : (s.slot n).phase = .fenced)
    (hc : (s.slot n).fenceSrc ≠ .contact) : clearSlot n s = s := by
  simp only [clearSlot, h, beq_iff_eq, hc, if_false]

/-- A lifted slot is OFF without failed attempts, and as enabled as before. -/
theorem clearSlot_lifts {n : SlotId} {s : State} (hu : s.mainUp = true)
    (h : (s.slot n).phase = .quarantined ∨ (s.slot n).phase = .unstable ∨
      ((s.slot n).phase = .fenced ∧ (s.slot n).fenceSrc = .contact)) :
    clearSlot n s = { s with slots := (clearSlot n s).slots, barker := (clearSlot n s).barker,
                             tight := (clearSlot n s).tight } ∧
    ((clearSlot n s).slot n).phase = .off ∧ ((clearSlot n s).slot n).failCount = 0 ∧
    ((clearSlot n s).slot n).enable = (s.slot n).enable ∧ s.othersKeep (clearSlot n s) n := by
  rcases h with h | h | ⟨h, hc⟩
  · rw [clearSlot_quarantined h, State.updSlot_slot_self]
    exact ⟨rfl, rfl, rfl, rfl, fun m hm => State.updSlot_slot_other _ _ _ _ hm⟩
  · rw [clearSlot_unstable h, decideAbsent_up (s := s.updSlot n Slot.cleared) hu, State.updSlot_slot_self]
    cases (s.slot n).present
    · simp only [Bool.false_eq_true, if_false, State.updSlot_slot_self]
      refine ⟨rfl, rfl, rfl, rfl, fun m hm => ?_⟩
      rw [State.updSlot_slot_other _ _ _ _ hm, State.updSlot_slot_other _ _ _ _ hm]
    · simp only [if_true, raise_slot, State.updSlot_slot_self]
      refine ⟨rfl, rfl, rfl, rfl, fun m hm => ?_⟩
      rw [State.updSlot_slot_other _ _ _ _ hm, raise_slot, State.updSlot_slot_other _ _ _ _ hm,
        State.updSlot_slot_other _ _ _ _ hm]
  · obtain ⟨p, hp⟩ := clearSlot_contact h hc
    rw [hp, State.updSlot_slot_self]
    exact ⟨rfl, rfl, rfl, rfl, fun m hm => State.updSlot_slot_other _ _ _ _ hm⟩

/-- Settles O15: each write acts by the slot's phase. -/
theorem slotControlActsByState : Obligations.SlotControlActsByState := by
  refine ⟨fun s hr he hj => ⟨_, exec_slotDisable hr he, disableSlot_acts hj⟩, fun s hr hj => ?_, fun s hr => ?_⟩
  · generalize hn : s.regs.slotSel = n at hj ⊢
    refine ⟨fun hl => ⟨_, exec_slotDeactivate_live hn hr hl, ?_⟩,
      fun hw => ⟨_, exec_slotDeactivate_waiting hn hr hw, ?_⟩,
      exec_slotDeactivate_unpowered hn hr⟩
    · obtain ⟨hp, hc, hrst, -, -⟩ := startNormal_self n .host false s hl
      rw [loseNormal_nojob n _ _ hj, State.updSlot_slot_self]
      refine ⟨by rw [startNormal_frame]; rfl, hp, hc, hrst, rfl, fun m hm => ?_⟩
      rw [State.updSlot_slot_other _ _ _ _ hm, startNormal_other n m _ _ s hm]
    · rw [lostJob_nojob n _ _ ((leaveQueue_actsOn n s).job hj), leaveQueue_pw n s hw]
      exact ⟨by rw [leaveQueue_frame], rfl, by rw [leaveQueue_frame], fun m hm => leaveQueue_other n m s hm⟩
  · exact ⟨fun h => ⟨_, exec_slotClear hr, clearSlot_lifts hr.1 h⟩,
      fun hp hc => (exec_slotClear hr).trans (congrArg _ (clearSlot_fenced hp hc))⟩

/-! # Requests for power (R47, R72, R278, R280) -/

/-- A slot has just asked for power at a class: it waits in the admission queue, and no other slot or job acts. -/
structure State.Joins (s : State) (n : SlotId) (k : CardClass) (t : State) : Prop where
  slot : ∃ a, t.slot n =
    { s.slot n with activations := a, phase := .powerWait, cls := some k, actWait := false, stepTo := none }
  request : ∃ q ∈ t.requests, q.slot = n ∧ q.cls = k ∧ q.since = s.regs.time
  others : s.othersKeep t n
  jobs : t.jobs = s.jobs

/-- The request as it joins the queue (R280). -/
def State.newRequest (s : State) (n : SlotId) (k : CardClass) : Request :=
  { slot := n, cls := k, since := s.regs.time, wmax := s.waitBound n k s.requests, warned := false }

theorem joinQueue_joins {n : SlotId} (k : CardClass) {s : State} (h : (s.slot n).check = .idle) :
    s.Joins n k (joinQueue n k s) := by
  have hc : ¬ ((s.slot n).check != .idle) = true := by simp [h]
  have hj : joinQueue n k s = State.updSlot (State.updRing { s with requests := s.requests ++ [s.newRequest n k] }
      (ringOf n) (fun r => if r.downHold && r.railCls == k then { r with downHold := false } else r)) n
      (fun x => { x with phase := .powerWait, cls := some k, actWait := false, stepTo := none }) := if_neg hc
  refine ⟨⟨(s.slot n).activations, ?_⟩, ⟨s.newRequest n k, ?_, rfl, rfl, rfl⟩, fun m hm => ?_, ?_⟩
  · rw [hj, State.updSlot_slot_self]; rfl
  · rw [hj]; exact List.mem_append_right _ (List.mem_singleton_self _)
  · rw [hj, State.updSlot_slot_other _ _ _ _ hm]; rfl
  · rw [hj]; rfl

theorem requestActivation_joins {n : SlotId} {k : CardClass} {s : State} (hk : (s.slot n).firstClass = some k)
    (ha : s.canActivate n = true) (h : (s.slot n).check = .idle) : s.Joins n k (requestActivation n s) := by
  have hu := State.updSlot_slot_self s n (fun x => { x with activations := x.activations + 1 })
  obtain ⟨⟨a, hs⟩, hq, ho, hj⟩ := joinQueue_joins k
    (s := s.updSlot n (fun x => { x with activations := x.activations + 1 })) (by rw [hu]; exact h)
  simp only [requestActivation, hk, ha, if_true]
  exact ⟨⟨a, by rw [hs, hu]⟩, hq, fun m hm => (ho m hm).trans (State.updSlot_slot_other _ _ _ _ hm), hj⟩

/-! # Placed tickets are taken up (R47, R55, R168, R172, R187, R206) -/

theorem untaken_some {id : JobId} {j : Job} {s : State} (h : s.untaken id = some j) :
    s.findJob id = some j ∧ j.phase = .placed ∧ ∃ r, j.run = some r := by
  obtain ⟨hf, hp⟩ := Option.filter_eq_some_iff.1 h
  simp only [Bool.and_eq_true, beq_iff_eq] at hp
  obtain ⟨hp, hr⟩ := hp
  cases hrun : j.run with
  | none => simp [hrun] at hr
  | some r => exact ⟨hf, hp, r, rfl⟩

/-- The job as the profile engine takes it up (R206). -/
def Job.takenUp (j : Job) (param : List Byte) : Job :=
  { j with run := j.run.map (fun r => { r with taken := true, param := (j.data param).take 4096 }) }

theorem takeUp_found {id : JobId} {j : Job} {s : State} (h : s.findJob id = some j) (param : List Byte) :
    (takeUp id param s).findJob id = some (j.takenUp param) :=
  find_updJob s id (·.takenUp param) (fun _ => rfl) j h

theorem exec_issue {id : JobId} {j : Job} {s : State} (param : List Byte) (hb : s.booted = true)
    (h : s.untaken id = some j) (hi : j.ticket.isIssue = true) :
    exec (.issue id param) s = .next (takeUp id param s) := by
  simp only [exec, execIssue, h, hb, hi]
  exact State.gate_open rfl

theorem exec_samOp {id : JobId} {j : Job} {s : State} (param : List Byte) (hb : s.booted = true)
    (h : s.untaken id = some j) (hi : j.ticket.isSam = true) :
    exec (.samOp id param) s = .next (takeUp id param s) := by
  simp only [exec, execSamOp, h, hb, hi]
  exact State.gate_open rfl

/-- A SLOT_ADMIN job placed on a slot in time, which may act on it (R168, R176). -/
structure State.AdminDue (s : State) (id : JobId) (j : Job) (n : SlotId) : Prop where
  booted : s.booted = true
  window : s.faults.fatalWindow = none
  found : s.findJob id = some j
  admin : j.ticket.isSlotAdmin = true
  placed : j.phase = .placed
  slot : j.slot = some n
  inTime : s.deadlinePassed j = false

theorem adminTicket_runs {id : JobId} {j : Job} {n : SlotId} {s : State} (h : s.AdminDue id j n) {op : Nat}
    (hop : j.ticket.op.toNat = op) (f : Job → SlotId → State → State) : adminTicket id op f s = .next (f j n s) := by
  have hf : (s.findJob id).filter (fun j => j.ticket.isSlotAdmin && j.ticket.op.toNat == op && j.phase == .placed) =
      some j := by
    rw [h.found, Option.filter_some, if_pos (by simp [h.admin, h.placed, hop])]
  simp only [adminTicket, hf, h.slot]
  refine (State.gate_open (by simp [h.booted, h.window])).trans ?_
  simp only [h.inTime, Bool.false_eq_true, if_false]

/-- A job that passed its first byte is STARTED (R176, R180). -/
theorem startJob_found {id : JobId} {j : Job} {s : State} (h : s.findJob id = some j) :
    ∃ late, (startJob id s).findJob id = some { j with phase := .started, late := late } :=
  ⟨_, find_updJob s id (fun j => { j with phase := .started, late := j.late ||
    (j.ticket.deadline != 0 && decide (j.ticket.deadline.toNat < s.regs.time.toNat)) }) (fun _ => rfl) j h⟩

theorem adminActivate_asks {id : JobId} {j : Job} {n : SlotId} {k : CardClass} {s : State}
    (h : s.findJob id = some j) (hc : s.canActivate n = true) (hi : (s.slot n).check = .idle)
    (hk : (s.slot n).firstClass = some k) :
    ∃ u : State, u = { s with jobs := u.jobs } ∧ (u.findJob id).map (·.phase) = some .started ∧
      u.Joins n k (adminActivate j n s) := by
  obtain ⟨late, hst⟩ := startJob_found h
  have hact := find_updJob (startJob id s) id (fun j => { j with activated := true }) (fun _ => rfl) _ hst
  refine ⟨(startJob id s).updJob id (fun j => { j with activated := true }), rfl, by rw [hact]; rfl, ?_⟩
  simp only [adminActivate, hc, hk, Option.isSome_some, Bool.and_self, if_true, find_id h]
  exact requestActivation_joins (s := (startJob id s).updJob id (fun j => { j with activated := true })) hk hc hi

theorem adminActivate_refused {j : Job} {n : SlotId} {s : State} (hc : s.canActivate n = false) :
    adminActivate j n s = endJob j.ticket.jobId .failed 0x020E s := by
  simp only [adminActivate, hc, Bool.false_and, Bool.false_eq_true, if_false]; rfl

theorem adminDeactivate_live {j : Job} {n : SlotId} {s : State} (h : (s.slot n).phase.live = true) :
    adminDeactivate j n s = startNormal n .host false (startJob j.ticket.jobId s) := by
  simp only [adminDeactivate]
  split
  next hp => simp [hp, SlotPhase.live] at h
  next hp => simp [hp, SlotPhase.live] at h
  next => exact if_pos h

/-! ## What the end of a job leaves of the slot's key-set list (R187) -/

theorem startNormal_inventory (n : SlotId) (c : Cause) (b : Bool) (s : State) :
    ((startNormal n c b s).slot n).inventory = (s.slot n).inventory := by
  by_cases h : (s.slot n).phase.live = true
  · obtain ⟨k, hk⟩ := startNormal_slot n c b h
    rw [hk]; rfl
  · simp [startNormal, h]

theorem slotFreed_inventory (n : SlotId) (s : State) :
    ((slotFreed n s).slot n).inventory = (s.slot n).inventory := by
  simp only [slotFreed]
  split
  · exact startNormal_inventory _ _ _ _
  · split
    · exact startNormal_inventory _ _ _ _
    · split
      · exact startNormal_inventory _ _ _ _
      · rfl

theorem leaveQueue_inventory (n : SlotId) (s : State) :
    ((leaveQueue n s).slot n).inventory = (s.slot n).inventory := by
  by_cases h : (s.slot n).phase = .powerWait
  · rw [leaveQueue_pw n s h]
  · rw [leaveQueue_not_waiting h]; rfl

theorem stationCommand_slot (n m : SlotId) (e : Bool) (bin : Byte) (id : JobId) (s : State) :
    (stationCommand n e bin id s).slot m = s.slot m := by
  simp only [stationCommand]; split <;> rfl

theorem freeSlot_inventory {j : Job} {n : SlotId} (h : j.slot = some n) (st : CStatus) (s : State) :
    ((freeSlot j st s).slot n).inventory = (s.slot n).inventory := by
  have h0 : ((s.updSlot n (·.withoutJob j st)).slot n).inventory = (s.slot n).inventory := by
    rw [State.updSlot_slot_self]; rfl
  simp only [freeSlot, h]
  rw [slotFreed_inventory]
  generalize (!(j.ticket.feed || _) : Bool) = keeps
  split
  · exact h0
  · split
    · rw [startNormal_inventory, State.updSlot_slot_self]; exact h0
    · split
      · split
        · exact h0
        · rw [State.updSlot_slot_self]; exact h0
      · split
        · rw [stationCommand_slot, leaveQueue_inventory]; exact h0
        · rw [leaveQueue_inventory]; exact h0

theorem endJobAfter_inventory (b : Nat) (st : CStatus) (err : W16) {id : JobId} {j : Job} {n : SlotId} {s : State}
    (h : s.findJob id = some j) (hs : j.slot = some n) :
    ((endJobAfter b id st err s).slot n).inventory = (s.slot n).inventory := by
  obtain ⟨u, hu, hk⟩ := endJobAfter_frees b st err h
  rw [hu, freeSlot_inventory hs, State.offBooks_slot hk]; rfl

/-- An INVENTORY of whole values stores the list and ends the job DONE (R187). -/
theorem adminInventory_stores {id : JobId} {j : Job} {n : SlotId} {param : List Byte} {s : State}
    (h : s.findJob id = some j) (hs : j.slot = some n) (h4 : j.paramLen % 4 = 0) (hlo : 4 ≤ j.paramLen)
    (hhi : j.paramLen ≤ 256) :
    s.jobEnds (adminInventory param j n s) j .done 0 [] ∧
    ((adminInventory param j n s).slot n).inventory = keysetIds (j.data param) := by
  let u := s.updSlot n (fun x => { x with inventory := keysetIds (j.data param) })
  have hu : adminInventory param j n s = endJob id .done 0 (u.updJob id (fun j => { j with result := [] })) := by
    simp only [adminInventory, h4, hlo, hhi, beq_self_eq_true, decide_true, Bool.and_self, if_true, find_id h]; rfl
  have hf := find_updJob u id (fun j => { j with result := [] }) (fun _ => rfl) j h
  rw [hu]
  refine ⟨endJobAfter_jobEnds 0 .done 0 hf (.inr rfl), (endJobAfter_inventory 0 .done 0 hf hs).trans ?_⟩
  rw [State.updJob_slot, State.updSlot_slot_self]

/-- Settles O22: ISSUE and SAM_OP through `takeUp`, each SLOT_ADMIN action through what it does to its slot. -/
theorem slotTicketsAreTakenUp : Obligations.SlotTicketsAreTakenUp := by
  refine ⟨fun id param j s hb h => ?_, fun id j n s hb hw hf ha hp hs hd hj => ?_⟩
  · obtain ⟨hf, hp, r, hr⟩ := untaken_some h
    have ht := takeUp_found hf param
    exact ⟨fun hi => ⟨_, exec_issue param hb h hi, rfl, _, ht, by rw [Job.takenUp, hr]; rfl,
        by rw [Job.takenUp, hr]; rfl, rfl, rfl, hp, rfl⟩,
      fun hi => ⟨_, exec_samOp param hb h hi, rfl, _, ht, by rw [Job.takenUp, hr]; rfl,
        by rw [Job.takenUp, hr]; rfl, rfl, hp⟩⟩
  · have due : s.AdminDue id j n := ⟨hb, hw, hf, ha, hp, hs, hd⟩
    refine ⟨fun ho hc hi k hk => ?_, fun ho hc => ?_, fun ho hl => ?_, fun param ho h4 hlo hhi => ?_⟩
    · obtain ⟨u, hu, hph, ⟨a, hslot⟩, hq, hother, hjobs⟩ := adminActivate_asks hf hc hi hk
      refine ⟨_, adminTicket_runs due (by rw [ho]; rfl) adminActivate, by rw [hslot], by rw [hslot], ?_, ?_, ?_⟩
      · rw [hu] at hq; exact hq
      · rw [State.findJob, hjobs]; exact hph
      · intro m hm; rw [hother m hm, hu]; rfl
    · refine ⟨_, adminTicket_runs due (by rw [ho]; rfl) adminActivate, ?_⟩
      rw [adminActivate_refused hc, find_id hf]
      exact endJobAfter_jobEnds 0 _ _ hf (.inl (by decide))
    · obtain ⟨late, hst⟩ := startJob_found hf
      obtain ⟨hph, hc, -⟩ := startNormal_self n .host false (startJob id s) hl
      refine ⟨_, adminTicket_runs due (by rw [ho]; rfl) adminDeactivate, ?_⟩
      rw [adminDeactivate_live hl, find_id hf]
      refine ⟨hph, hc, ?_, by rw [startNormal_frame]; rfl, fun m hm => startNormal_other n m _ _ _ hm⟩
      rw [startNormal_frame]; exact congrArg (Option.map (·.phase)) hst
    · exact ⟨_, adminTicket_runs due (by rw [ho]; rfl) (adminInventory param), adminInventory_stores hf hs h4 hlo hhi⟩

/-! # Activation, step by step (R47, R48, R50, R52, R278, R279, R281) -/

theorem State.updSlot_changesSlot (s : State) (n : SlotId) (f : Slot → Slot) :
    s.changesSlot (s.updSlot n f) n (f (s.slot n)) :=
  ⟨rfl, State.updSlot_slot_self _ _ _, fun _ hm => State.updSlot_slot_other _ _ _ _ hm⟩

/-- A failed attempt is counted at once, and its slot goes down normally (R52, R55). -/
structure State.AttemptFails (s : State) (n : SlotId) (c : Cause) (t : State) : Prop where
  slot : ∃ k, t.slot n =
    Slot.wentDown { s.slot n with failCount := min 3 ((s.slot n).failCount + 1), check := k } c false
  others : s.othersKeep t n
  jobs : t.jobs = s.jobs

theorem failAttempt_fails {n : SlotId} (c : Cause) {s : State} (hj : (s.slot n).job = none)
    (hl : (s.slot n).phase.live = true) : s.AttemptFails n c (failAttempt n c s) := by
  have hu := State.updSlot_slot_self s n (fun x => { x with failCount := min 3 (x.failCount + 1) })
  obtain ⟨k, hk⟩ := startNormal_slot n c false
    (s := s.updSlot n (fun x => { x with failCount := min 3 (x.failCount + 1) })) (by rw [hu]; exact hl)
  rw [failAttempt, loseNormal_nojob n c _ (by rw [hu]; exact hj)]
  refine ⟨⟨k, by rw [hk, hu]⟩, fun m hm => ?_, by rw [startNormal_frame]; rfl⟩
  rw [startNormal_other n m _ _ _ hm, State.updSlot_slot_other _ _ _ _ hm]

/-! ## Admission -/

/-- A token may be taken: the main side and both supplies stand, and the global budget holds (R278). -/
structure State.MayGrant (s : State) : Prop where
  up : s.mainUp = true
  vin : s.power.vinOk = true
  vcore : s.power.vcoreOk = true
  budget : s.tokensUsed < s.regs.globalTokens

theorem exec_tokenGrant {s : State} (h : s.MayGrant) :
    exec .tokenGrant s = .next (match s.nextGrant with | some q => grant q s | none => s) :=
  show execTokenGrant s = _ from State.gate_open (by simp [h.up, h.vin, h.vcore, h.budget])

theorem exec_tokenGrant_some {s : State} {q : Request} (h : s.MayGrant) (hq : s.nextGrant = some q) :
    exec .tokenGrant s = .next (grant q s) := by
  rw [exec_tokenGrant h, hq]

theorem exec_tokenGrant_none {s : State} (h : s.MayGrant) (hq : s.nextGrant = none) :
    exec .tokenGrant s = .next s := by
  rw [exec_tokenGrant h, hq]

/-- The granted slot is powered with both tokens, under blanking, its link fresh (R45, R48, R278). -/
theorem grant_slot (q : Request) (s : State) : (grant q s).slot q.slot =
    { (s.slot q.slot).freshLink with phase := .powering, cls := some q.cls, token := true, ldo := true, vcc := .ramp,
                                     blanked := true, qualified := false, warm := false } :=
  State.updSlot_slot_self _ _ _

/-- The queue with the requests of a slot marked as reported (R281). -/
def warnedQueue (n : SlotId) (l : List Request) : List Request :=
  l.map (fun p => if p.slot == n then { p with warned := true } else p)

theorem warnedQueue_warned {n : SlotId} {l : List Request} {p : Request} (hp : p ∈ warnedQueue n l)
    (hn : p.slot = n) : p.warned = true := by
  obtain ⟨q, -, rfl⟩ := List.mem_map.1 hp
  by_cases h : q.slot = n
  · simp [h]
  · simp [h] at hn

theorem warnedQueue_keeps (n : SlotId) (l : List Request) :
    (warnedQueue n l).map (fun q => (q.slot, q.cls, q.since)) = l.map (fun q => (q.slot, q.cls, q.since)) := by
  rw [warnedQueue, List.map_map]
  refine List.map_congr_left fun q _ => ?_
  simp only [Function.comp]; split <;> rfl

theorem exec_admitWait {n : SlotId} {q : Request} {s : State} (hu : s.mainUp = true)
    (hq : s.requests.find? (fun q => q.slot == n) = some q) (hw : q.warned = false) (h0 : s.regs.waitWarn ≠ 0)
    (hl : s.regs.waitWarn < s.regs.time.toNat - q.since.toNat) :
    ∃ k, exec (.admitWait n) s = .next (raise 0x0801 (some n) k { s with requests := warnedQueue n s.requests }) := by
  simp only [exec, execAdmitWait, hq]
  exact ⟨_, State.gate_open (by simp [hu, hw, h0, hl])⟩

/-! ## The steps of one activation -/

section Steps
variable {n : SlotId} {s : State} (hu : s.mainUp = true)
include hu

theorem exec_vccQualified (hp : (s.slot n).phase = .powering) (hq : (s.slot n).qualified = false) :
    exec (.vccQualified n) s =
      .next (s.updSlot n (fun x => { x with qualified := true, vcc := .on, token := false, io := .pullUp })) :=
  show execVccQualified n s = _ from State.gate_open (by simp [State.inPhase, hu, hp, hq])

theorem exec_clkStart (hp : (s.slot n).phase = .powering) (hq : (s.slot n).qualified = true)
    (hc : (s.slot n).clk ≠ .run) : exec (.clkStart n) s = .next (s.updSlot n (fun x => { x with clk := .run })) :=
  show execClkStart n s = _ from State.gate_open (by simp [State.inPhase, hu, hp, hq, hc])

theorem exec_rstRise (hr : (s.slot n).rst = false) (hc : (s.slot n).clk = .run)
    (hp : ((s.slot n).phase = .powering ∧ (s.slot n).qualified = true) ∨
      ((s.slot n).phase = .atrWait ∧ (s.slot n).warm = true)) :
    exec (.rstRise n) s = .next (s.updSlot n (fun x => { x with rst := true, phase := .atrWait })) := by
  simp only [exec, execRstRise]
  exact State.gate_open (by simp [hu, hr, hc, hp])

theorem exec_ocBlankingEnd (hb : (s.slot n).blanked = true) :
    exec (.ocBlankingEnd n) s = .next (s.updSlot n (fun x => { x with blanked := false })) :=
  show execOcBlankingEnd n s = _ from State.gate_open (by simp [hu, hb])

theorem exec_vccFail (hp : (s.slot n).phase = .powering) (hq : (s.slot n).qualified = false) :
    exec (.vccFail n) s = .next (failAttempt n .vccFail s) :=
  show execVccFail n s = _ from State.gate_open (by simp [State.inPhase, hu, hp, hq])

end Steps

/-- Settles O38: the grant and each step write their slot alone; a failed qualification is a failed attempt. -/
theorem activationRunsInOrder : Obligations.ActivationRunsInOrder := by
  refine ⟨fun s hu hv hc ht => ?_, fun n q s hu hq hw h0 hl => ?_, fun n s hu =>
    ⟨fun hp hq => ⟨_, exec_vccQualified hu hp hq, s.updSlot_changesSlot n _⟩,
      fun hp hq hc => ⟨_, exec_clkStart hu hp hq hc, s.updSlot_changesSlot n _⟩,
      fun hr hc hp => ⟨_, exec_rstRise hu hr hc hp, s.updSlot_changesSlot n _⟩,
      fun hb => ⟨_, exec_ocBlankingEnd hu hb, s.updSlot_changesSlot n _⟩, fun hp hq hj => ?_⟩⟩
  · have hg : s.MayGrant := ⟨hu, hv, hc, ht⟩
    refine ⟨fun q hq => ⟨_, exec_tokenGrant_some hg hq, ?_⟩, exec_tokenGrant_none hg⟩
    rw [grant_slot]
    exact ⟨rfl, rfl, rfl, rfl, rfl, rfl, rfl, rfl, rfl, rfl, rfl, fun m hm => State.updSlot_slot_other _ _ _ _ hm⟩
  · obtain ⟨k, hk⟩ := exec_admitWait hu hq hw h0 hl
    exact ⟨_, hk, rfl, fun p hp hn => warnedQueue_warned hp hn, warnedQueue_keeps n s.requests, _,
      List.mem_append_right _ (List.mem_singleton_self _), rfl, rfl⟩
  · obtain ⟨⟨k, hk⟩, hother, hjobs⟩ := failAttempt_fails .vccFail hj (by rw [hp]; rfl)
    have hd := congrArg Slot.deact hk
    refine ⟨_, _, exec_vccFail hu hp hq, ?_, ?_, ?_, ?_, hd, rfl, by simp, ?_, hother, hjobs⟩ <;>
      rw [hk] <;> rfl

/-! # Deactivation, step by step (R53, R56, R57, R457) -/

theorem State.changesSlot_of_eq {s : State} {n : SlotId} {f : Slot → Slot} {x : Slot} (h : f (s.slot n) = x) :
    s.changesSlot (s.updSlot n f) n x := h ▸ s.updSlot_changesSlot n f

/-- The slot with its order at the next step. -/
def Slot.deactAt (x : Slot) (st : DeactStep) : Slot := { x with deact := x.deact.map (fun d => { d with step := st }) }

/-- The lines fall (R53 step 4). -/
def Slot.linesFallen (x : Slot) : Slot := { x.deactAt .linesLow with io := .low, d0PullUp := false }

/-- The LDO is off and VCC discharges (R53 step 5). -/
def Slot.discharging (x : Slot) : Slot :=
  { x.deactAt .ldoOff with ldo := false, vcc := .discharge, blanked := false }

theorem linesLow_eq (n : SlotId) (s : State) : linesLow n s = s.updSlot n Slot.linesFallen :=
  State.updSlot_updSlot s n _ _

theorem ldoOff_eq (n : SlotId) (s : State) : ldoOff n s = s.updSlot n Slot.discharging :=
  State.updSlot_updSlot s n _ _

/-- A step of the order moves the record alone. -/
theorem Slot.deactAt_some {x : Slot} {d : Deact} (h : x.deact = some d) (st : DeactStep) :
    x.deactAt st = { x with deact := some { d with step := st } } := by
  rw [Slot.deactAt, h]; rfl

theorem Slot.linesFallen_some {x : Slot} {d : Deact} (h : x.deact = some d) :
    x.linesFallen = { x with io := .low, d0PullUp := false, deact := some { d with step := .linesLow } } := by
  rw [Slot.linesFallen, Slot.deactAt_some h]

theorem Slot.discharging_some {x : Slot} {d : Deact} (h : x.deact = some d) :
    x.discharging =
      { x with ldo := false, vcc := .discharge, blanked := false, deact := some { d with step := .ldoOff } } := by
  rw [Slot.discharging, Slot.deactAt_some h]

/-- A window's reading is kept with the order and joins the slot's history (R56, R457). -/
def windowRead (n : SlotId) (r : WindowReading) (s : State) : State :=
  setPlan n ((s.planOf n).take r) (setDeact n (fun d => { d with reading := some r }) s)

theorem windowRead_planOf (n : SlotId) (r : WindowReading) (s : State) :
    (windowRead n r s).planOf n = (s.planOf n).take r := by
  simp [State.planOf, windowRead, setPlan]

theorem windowRead_slot {n : SlotId} {r : WindowReading} {d : Deact} {s : State} (hd : (s.slot n).deact = some d) :
    (windowRead n r s).slot n = { s.slot n with deact := some { d with reading := some r } } := by
  rw [windowRead, setPlan_slot, setDeact, State.updSlot_slot_self, hd]; rfl

theorem windowRead_other (n : SlotId) (r : WindowReading) (s : State) {m : SlotId} (hm : m ≠ n) :
    (windowRead n r s).slot m = s.slot m := by
  rw [windowRead, setPlan_slot]; exact State.updSlot_slot_other _ _ _ _ hm

/-! ## The steps of the normal order -/

section NormalSteps
variable {n : SlotId} {d : Deact} {s : State} (hu : s.mainUp = true) (hp : (s.slot n).phase = .deactivating)
  (hd : (s.slot n).deact = some d) (he : d.emergency = false)
include hu hp hd he

theorem atDeact_gate {st : DeactStep} (hs : d.step = st) : (s.mainUp && s.atDeact n st) = true := by
  simp [State.atDeact, hu, hp, hd, he, hs]

theorem exec_deactClkStop (hs : d.step = .rstLow) : exec (.deactClkStop n) s = .next
    (if d.window then s.updSlot n (fun x => Slot.deactAt { x with clk := .low } .window)
     else s.updSlot n (fun x => Slot.linesFallen { x with clk := .low })) := by
  refine (show execDeactClkStop n s = _ from State.gate_open (atDeact_gate hu hp hd he hs)).trans ?_
  simp only [hd, linesLow_eq, setDeact, State.updSlot_updSlot]
  rfl

/-- The order keeps the reading, which joins the slot's history. -/
theorem exec_measurementWindowEnd (hs : d.step = .window) (r : WindowReading) :
    exec (.measurementWindowEnd n r) s = .next ((judgeContact n (windowRead n r s)).updSlot n Slot.linesFallen) :=
  show execMeasurementWindowEnd n r s = _ from
    (State.gate_open (atDeact_gate hu hp hd he hs)).trans (congrArg _ (linesLow_eq n _))

theorem exec_deactLdoOff (hs : d.step = .linesLow) :
    exec (.deactLdoOff n) s = .next (s.updSlot n Slot.discharging) :=
  show execDeactLdoOff n s = _ from
    (State.gate_open (atDeact_gate hu hp hd he hs)).trans (congrArg _ (ldoOff_eq n s))

end NormalSteps

/-! ## What a reading means (R56, R457) -/

/-- A latched error leaves every waiting event in the queue (R436). -/
theorem latchAt_queue (c : W16) (k i : Nat) (o : Option SlotId) (j : Option JobId) (e : Bool) (s : State) :
    s.barker.queue ⊆ (latchAt c k i o j e s).barker.queue := by
  simp only [latchAt]
  split
  · exact List.Subset.refl _
  · rw [raise_queue]
    refine List.subset_append_of_subset_left _ ?_
    split
    · exact List.Subset.refl _
    · rw [fireIrq_barker]; exact List.Subset.refl _

theorem judgeContact_fine {n : SlotId} {s : State} (h : (s.planOf n).worst < 500) : judgeContact n s = s := by
  have h1 : ¬ 1500 ≤ (s.planOf n).worst := by omega
  simp [judgeContact, onlyIf, h1, Nat.not_le.2 h]

/-- A judged contact: its fence fields at most, a report from 0.5 Ω, and a pending fence from 1.5 Ω. -/
structure State.Judges (s : State) (n : SlotId) (t : State) : Prop where
  slot : ∃ pending src code,
    t.slot n = { s.slot n with fencePending := pending, fenceSrc := src, fenceCode := code } ∧
    (1500 ≤ (s.planOf n).worst → pending = true)
  others : s.othersKeep t n
  jobs : t.jobs = s.jobs
  bank : t.bank = s.bank
  rings : t.rings = s.rings
  tight : t.tight = s.tight
  warned : 500 ≤ (s.planOf n).worst → ∃ e ∈ t.barker.queue, e.code = 0x0106 ∧ e.slot = some n

theorem markFence_slot (n : SlotId) (src : FenceSrc) (code : W16) (s : State) : ∃ a b,
    (markFence n src code s).slot n = { s.slot n with fencePending := true, fenceSrc := a, fenceCode := b } := by
  rw [markFence, State.updSlot_slot_self]
  cases hf : (s.slot n).fencePending with
  | false => exact ⟨_, _, by rw [Bool.false_and]; rfl⟩
  | true =>
    split
    · exact ⟨(s.slot n).fenceSrc, (s.slot n).fenceCode, by rw [← hf]⟩
    · exact ⟨_, _, rfl⟩

theorem judgeContact_judges (n : SlotId) (s : State) : s.Judges n (judgeContact n s) := by
  rcases Nat.lt_or_ge (s.planOf n).worst 500 with h | h
  · rw [judgeContact_fine h]
    exact ⟨⟨_, _, _, rfl, fun h' => absurd h (by omega)⟩, fun _ _ => rfl, rfl, rfl, rfl, rfl,
      fun h' => absurd h (by omega)⟩
  · let u := raise 0x0106 (some n) (s.planOf n).worst s
    have he : ∃ e ∈ u.barker.queue, e.code = 0x0106 ∧ e.slot = some n :=
      ⟨_, List.mem_append_right _ (List.mem_singleton_self _), rfl, rfl⟩
    by_cases h' : 1500 ≤ (s.planOf n).worst
    · have hj : judgeContact n s = latchError 0x0101 (.slot n) none true (markFence n .contact 0x0101 u) := by
        simp [judgeContact, onlyIf, h, h', u]
      obtain ⟨a, b, hm⟩ := markFence_slot n .contact 0x0101 u
      rw [hj]
      refine ⟨⟨true, a, b, by rw [latchError_slot, hm]; rfl, fun _ => rfl⟩, fun m hm => ?_, ?_, ?_, ?_, ?_, fun _ => ?_⟩
      · rw [latchError_slot, markFence, State.updSlot_slot_other _ _ _ _ hm]; rfl
      · rw [latchError_jobs]; rfl
      · rw [latchError_bank]; rfl
      · rw [latchError_rings]; rfl
      · rw [latchError_tight]; rfl
      · obtain ⟨e, hq, hc⟩ := he
        exact ⟨e, latchAt_queue _ _ _ _ _ _ _ hq, hc⟩
    · have hj : judgeContact n s = u := by simp [judgeContact, onlyIf, h, h', u]
      rw [hj]
      exact ⟨⟨_, _, _, rfl, fun h'' => absurd h'' h'⟩, fun _ _ => rfl, rfl, rfl, rfl, rfl, fun _ => he⟩

/-! ## The emergency order (R57) -/

/-- The slot after one step of the emergency order. -/
def Slot.emergencyStepped (x : Slot) (d : Deact) : Slot :=
  match d.step with
  | .rstLow | .window => { x with clk := .low, deact := some { d with step := .clkLow } }
  | .clkLow => { x with io := .low, d0PullUp := false, deact := some { d with step := .linesLow } }
  | .linesLow => { x with ldo := false, vcc := .discharge, blanked := false, deact := some { d with step := .ldoOff } }
  | .ldoOff => x

/-- Each step of the emergency order writes its slot alone (R57). -/
theorem exec_emergencyStep {n : SlotId} {d : Deact} {s : State} (hv : s.power.vstby = true)
    (hp : (s.slot n).phase = .deactivating) (hd : (s.slot n).deact = some d) (he : d.emergency = true) :
    ∃ t, exec (.emergencyStep n) s = .next t ∧ s.changesSlot t n ((s.slot n).emergencyStepped d) := by
  have hg : (s.power.vstby && d.emergency && (s.slot n).phase == .deactivating) = true := by simp [hv, hp, he]
  have clk : s.changesSlot (s.updSlot n (fun x => Slot.deactAt { x with clk := .low } .clkLow)) n _ :=
    State.changesSlot_of_eq (Slot.deactAt_some (x := { s.slot n with clk := .low }) hd _)
  simp only [exec, execEmergencyStep, hd, State.gate_open hg, Slot.emergencyStepped, setDeact, State.updSlot_updSlot,
    linesLow_eq, ldoOff_eq]
  cases d.step with
  | rstLow => exact ⟨_, rfl, clk⟩
  | window => exact ⟨_, rfl, clk⟩
  | clkLow => exact ⟨_, rfl, State.changesSlot_of_eq (Slot.linesFallen_some hd)⟩
  | linesLow => exact ⟨_, rfl, State.changesSlot_of_eq (Slot.discharging_some hd)⟩
  | ldoOff => exact ⟨_, rfl, rfl, rfl, fun _ _ => rfl⟩

/-! # The end of a deactivation (R52, R53, R72, R516) -/

/-- The contacts of a slot without VCC whose t_OFF runs (R47, R53, R516). -/
structure Slot.ContactsDown (x : Slot) : Prop where
  vcc : x.vcc = .off
  ldo : x.ldo = false
  rst : x.rst = false
  clk : x.clk = .low
  io : x.io = .low
  tOff : x.tOff = true
  deact : x.deact = none
  cls : x.cls = none

theorem Slot.down_contactsDown (x : Slot) (b : Bool) : (x.down b).ContactsDown := by
  constructor <;> rfl

/-- Where a deactivated slot stands (R72). -/
def Slot.settledPhase (x : Slot) : SlotPhase :=
  if x.fencePending then .fenced else if x.unstablePending then .unstable
  else if 3 ≤ x.failCount then .quarantined else .off

/-- A deactivated slot stands in its state, with that state's event (R72, R179). -/
structure State.SettlesIn (s : State) (n : SlotId) (t : State) : Prop where
  frame : t = { s with slots := t.slots, barker := t.barker }
  others : s.othersKeep t n
  down : (t.slot n).ContactsDown
  job : (t.slot n).job = (s.slot n).job
  eject : (t.slot n).eject = (s.slot n).eject
  phase : (t.slot n).phase = (s.slot n).settledPhase
  fenced : (s.slot n).fencePending = true → ∃ e ∈ t.barker.queue, e.code = 0x0105 ∧ e.slot = some n
  unstable : (s.slot n).fencePending = false → (s.slot n).unstablePending = true →
    ∃ e ∈ t.barker.queue, e.code = 0x0104 ∧ e.slot = some n
  quarantined : (s.slot n).fencePending = false → (s.slot n).unstablePending = false → 3 ≤ (s.slot n).failCount →
    ∃ e ∈ t.barker.queue, e.code = 0x0103 ∧ e.slot = some n

theorem State.settlesIn_raise {s : State} {n : SlotId} {f : Slot → Slot} {c : W16} (a : Nat)
    (hd : (f (s.slot n)).ContactsDown) (hj : (f (s.slot n)).job = (s.slot n).job)
    (he : (f (s.slot n)).eject = (s.slot n).eject) (hp : (f (s.slot n)).phase = (s.slot n).settledPhase)
    (h1 : (s.slot n).fencePending = true → c = 0x0105)
    (h2 : (s.slot n).fencePending = false → (s.slot n).unstablePending = true → c = 0x0104)
    (h3 : (s.slot n).fencePending = false → (s.slot n).unstablePending = false → 3 ≤ (s.slot n).failCount →
      c = 0x0103) : s.SettlesIn n (raise c (some n) a (s.updSlot n f)) := by
  have hs : (raise c (some n) a (s.updSlot n f)).slot n = f (s.slot n) := State.updSlot_slot_self _ _ _
  have hq : ∀ k, c = k → ∃ e ∈ (raise c (some n) a (s.updSlot n f)).barker.queue, e.code = k ∧ e.slot = some n :=
    fun k hk => ⟨_, List.mem_append_right _ (List.mem_singleton_self _), hk, rfl⟩
  exact ⟨rfl, fun m hm => State.updSlot_slot_other s n m f hm, hs ▸ hd, hs ▸ hj, hs ▸ he, hs ▸ hp,
    fun h => hq _ (h1 h), fun h h' => hq _ (h2 h h'), fun h h' h'' => hq _ (h3 h h' h'')⟩

theorem settleSlot_settles {n : SlotId} {s : State} (h : (s.slot n).ContactsDown) (hp : (s.slot n).phase = .off) :
    s.SettlesIn n (settleSlot n s) := by
  simp only [settleSlot]
  split
  next hf =>
    exact State.settlesIn_raise (c := 0x0105) _ { h with deact := rfl } rfl rfl (by simp [Slot.settledPhase, hf])
      (fun _ => rfl) (by simp [hf]) (by simp [hf])
  next hf =>
    split
    next hi =>
      exact State.settlesIn_raise (c := 0x0104) _ { h with } rfl rfl (by simp [Slot.settledPhase, hf, hi])
        (fun e => absurd e hf) (fun _ _ => rfl) (by simp [hi])
    next hi =>
      split
      next hc =>
        exact State.settlesIn_raise (c := 0x0103) _ { h with } rfl rfl (by simp [Slot.settledPhase, hf, hi, hc])
          (fun e => absurd e hf) (fun _ e => absurd e hi) (fun _ _ _ => rfl)
      next hc =>
        exact ⟨rfl, fun _ _ => rfl, h, rfl, rfl, by simp [Slot.settledPhase, hf, hi, hc, hp], fun e => absurd e hf,
          fun _ e => absurd e hi, fun _ _ e => absurd e hc⟩

/-! ## What else waits for VCC below 0.4 V -/

theorem railFell_frame (r : RingId) (k : CardClass) (s : State) :
    railFell r k s = { s with rings := (railFell r k s).rings } := by
  simp only [railFell]; split <;> rfl

theorem stopIfDown_frame (r : RingId) (s : State) : stopIfDown r s = { s with rings := (stopIfDown r s).rings } := by
  unfold stopIfDown; split <;> rfl

theorem ejectAtEnd_none {n : SlotId} {s : State} (h : (s.slot n).eject = none) : ejectAtEnd n s = s := by
  simp only [ejectAtEnd, h]

theorem adminDown_nojob {n : SlotId} {s : State} (h : (s.slot n).job = none) : adminDown n s = s := by
  simp [adminDown, State.holder, h]

theorem loseIfExcluded_nojob {n : SlotId} {s : State} (h : (s.slot n).job = none) : loseIfExcluded n s = s := by
  rw [loseIfExcluded, lostJob_nojob n _ s h, ite_self]

theorem slotOffDone_unasked (n : SlotId) {s : State} (h : s.side.slotOffWait = []) : slotOffDone n s = s := by
  simp [slotOffDone, h]

theorem windDownStep6_idle {s : State} (h : s.regs.windDown = false) : windDownStep6 s = s := by
  simp [windDownStep6, h]

theorem fatalProgress_none {s : State} (h : s.faults.fatalWindow = none) : fatalProgress s = s := by
  simp [fatalProgress, h]

/-- What the end of a deactivation does to the slot's ring (R273, R275). -/
theorem ringsAtEnd_frame (r : RingId) (k : CardClass) (s : State) :
    stopUnused r (stopIfDown r (railFell r k s)) =
      { s with rings := (stopUnused r (stopIfDown r (railFell r k s))).rings } := by
  rw [stopUnused_frame, stopIfDown_frame, railFell_frame]

theorem updSlot_down_settles (n : SlotId) (s : State) :
    s.SettlesIn n (settleSlot n (s.updSlot n (·.down false))) := by
  have hs := State.updSlot_slot_self s n (·.down false)
  have h := settleSlot_settles (s := s.updSlot n (·.down false)) (by rw [hs]; exact Slot.down_contactsDown _ _)
    (by rw [hs]; rfl)
  exact ⟨h.frame, fun m hm => (h.others m hm).trans (State.updSlot_slot_other _ _ _ _ hm), h.down,
    by rw [h.job, hs]; rfl, by rw [h.eject, hs]; rfl, by rw [h.phase, hs]; rfl,
    fun a => h.fenced (by rw [hs]; exact a), fun a b => h.unstable (by rw [hs]; exact a) (by rw [hs]; exact b),
    fun a b c => h.quarantined (by rw [hs]; exact a) (by rw [hs]; exact b) (by rw [hs]; exact c)⟩

/-- With no job, no eject, no SLOT_OFF, no wind-down and no fatal window waiting for it, the end of a deactivation
settles the slot and acts on its ring (R72, R273, R275). -/
theorem endDeactivation_quiet {n : SlotId} {s : State} (hj : (s.slot n).job = none) (he : (s.slot n).eject = none)
    (hc : (s.slot n).countsNow = false) (ho : s.side.slotOffWait = []) (hw : s.regs.windDown = false)
    (hf : s.faults.fatalWindow = none) :
    ∃ rings, endDeactivation n s = { settleSlot n (s.updSlot n (·.down false)) with rings := rings } := by
  have h := updSlot_down_settles n s
  simp only [endDeactivation, hc]
  generalize settleSlot n (s.updSlot n (·.down false)) = u at h ⊢
  have huj : (u.slot n).job = none := h.job.trans hj
  have hue : (u.slot n).eject = none := h.eject.trans he
  have huo : u.side.slotOffWait = [] := by rw [h.frame]; exact ho
  have huw : u.regs.windDown = false := by rw [h.frame]; exact hw
  have huf : u.faults.fatalWindow = none := by rw [h.frame]; exact hf
  rw [ejectAtEnd_none hue, adminDown_nojob huj, loseIfExcluded_nojob huj, ringsAtEnd_frame]
  generalize (stopUnused _ _).rings = rings
  refine ⟨rings, ?_⟩
  rw [slotOffDone_unasked (s := { u with rings := rings }) n huo,
    windDownStep6_idle (s := { u with rings := rings }) huw, fatalProgress_none (s := { u with rings := rings }) huf]

theorem exec_deactivationEnd {n : SlotId} {d : Deact} {s : State} (hv : s.power.vstby = true)
    (hp : (s.slot n).phase = .deactivating) (hd : (s.slot n).deact = some d) (hs : d.step = .ldoOff) :
    exec (.deactivationEnd n) s = .next (endDeactivation n s) := by
  simp only [exec, execDeactivationEnd, hd]
  exact State.gate_open (by simp [hv, hp, hs])

/-! ## The end of t_OFF (R47, R72, R296) -/

theorem wantActivation_nojob {n : SlotId} {s : State} (h : (s.slot n).job = none) : wantActivation n s = s := by
  simp [wantActivation, State.holder, h]

section TOff
variable {n : SlotId} {s : State} (hu : s.mainUp = true) (ht : (s.slot n).tOff = true) (hv : (s.slot n).vcc = .off)
  (hp : (s.slot n).phase = .off)
include hu ht hv hp

theorem exec_tOffEnd_idle (hs : (s.slot n).stepTo = none) (hj : (s.slot n).job = none) :
    exec (.tOffEnd n) s = .next (s.updSlot n (fun x => { x with tOff := false })) := by
  refine (show execTOffEnd n s = _ from State.gate_open (by simp [hu, ht, hv])).trans ?_
  simp only [State.updSlot_slot_self, hp, hs]
  exact congrArg _ (wantActivation_nojob (by rw [State.updSlot_slot_self]; exact hj))

/-- A class step that may go on asks for its token (R47, R72). -/
theorem exec_tOffEnd_step {k : CardClass} (hs : (s.slot n).stepTo = some k)
    (ha : (s.updSlot n (fun x => { x with tOff := false, stepTo := none })).canActivate n = true)
    (hw : s.regs.windDown = false) : exec (.tOffEnd n) s =
      .next (joinQueue n k (s.updSlot n (fun x => { x with tOff := false, stepTo := none }))) := by
  refine (show execTOffEnd n s = _ from State.gate_open (by simp [hu, ht, hv])).trans ?_
  simp only [State.updSlot_slot_self, State.updSlot_updSlot, hp, hs, ha, State.updSlot_regs, hw]
  rfl

end TOff

theorem exec_voffAbove {n : SlotId} {s : State} (hu : s.mainUp = true) (hl : (s.slot n).ldo = false)
    (hv : (s.slot n).vcc = .off) :
    exec (.voffAbove n) s = .next (s.updSlot n (fun x => { x with tOff := true })) :=
  show execVoffAbove n s = _ from State.gate_open (by simp [hu, hl, hv])

/-- Settles O39: each step writes its slot; the end goes through `settleSlot`, a class step through `joinQueue`. -/
theorem deactivationRunsInOrder : Obligations.DeactivationRunsInOrder := by
  refine ⟨⟨fun n d s hu hp hd he => ⟨fun hs => ?_, fun r hs => ?_, fun hs => ?_⟩,
    fun n d s hv hp hd he => exec_emergencyStep hv hp hd he⟩, fun n d s hv hp hd hs hc hj he ho hw hf => ?_,
    fun n s hu ht hv hp => ⟨fun hs hj => ⟨_, exec_tOffEnd_idle hu ht hv hp hs hj, s.updSlot_changesSlot n _⟩,
      fun k hs hpr hen hsc hrf hw hch => ?_⟩,
    fun n s hu hl hv => ⟨_, exec_voffAbove hu hl hv, s.updSlot_changesSlot n _⟩⟩
  · refine ⟨_, exec_deactClkStop hu hp hd he hs, ?_⟩
    by_cases hw : d.window = true
    · rw [if_pos hw, if_pos hw]
      exact State.changesSlot_of_eq (Slot.deactAt_some (x := { s.slot n with clk := .low }) hd _)
    · rw [if_neg hw, if_neg hw]
      exact State.changesSlot_of_eq (Slot.linesFallen_some (x := { s.slot n with clk := .low }) hd)
  · obtain ⟨⟨pending, src, code, hslot, hpend⟩, hother, hjobs, hbank, hrings, htight, hwarn⟩ :=
      judgeContact_judges n (windowRead n r s)
    rw [windowRead_planOf] at hpend hwarn
    refine ⟨_, exec_measurementWindowEnd hu hp hd he hs r, ?_⟩
    have hplan : ((judgeContact n (windowRead n r s)).updSlot n Slot.linesFallen).planOf n = (s.planOf n).take r := by
      rw [← windowRead_planOf, State.planOf, State.updSlot_tight, htight]; rfl
    rw [hplan, State.updSlot_slot_self, Slot.linesFallen_some (d := { d with reading := some r })
      (by rw [hslot, windowRead_slot hd]), hslot, windowRead_slot hd]
    refine ⟨fun m hm => ?_, hjobs, hbank, hrings, hp, rfl, rfl, rfl, rfl, rfl, hwarn, hpend, fun hk => ?_⟩
    · rw [State.updSlot_slot_other _ _ _ _ hm, hother m hm, windowRead_other n r s hm]
    · rw [judgeContact_fine (by rw [windowRead_planOf]; exact hk)] at hslot ⊢
      exact ⟨rfl, rfl, by rw [windowRead_slot hd] at hslot; exact (congrArg Slot.fencePending hslot).symm⟩
  · exact ⟨_, exec_deactLdoOff hu hp hd he hs, State.changesSlot_of_eq (Slot.discharging_some hd)⟩
  · obtain ⟨rings, hr⟩ := endDeactivation_quiet hj he (by simp [Slot.countsNow, hd, hc]) ho hw hf
    have h := updSlot_down_settles n s
    refine ⟨_, exec_deactivationEnd hv hp hd hs, ?_⟩
    rw [hr]
    generalize settleSlot n (s.updSlot n (·.down false)) = u at h
    obtain ⟨hvcc, hldo, hrst, hclk, hio, htoff, hdeact, hcls⟩ := h.down
    exact ⟨congrArg (fun v : State => { v with rings := rings }) h.frame, h.others, hvcc, hldo, hrst, hclk, hio, htoff,
      hdeact, hcls, h.phase, h.fenced, h.unstable, h.quarantined⟩
  · have hself := State.updSlot_slot_self s n (fun x => { x with tOff := false, stepTo := none })
    have ha : (s.updSlot n (fun x => { x with tOff := false, stepTo := none })).canActivate n = true := by
      simp only [State.canActivate, hself, hpr, hen, hp, State.updSlot_ring, hrf]
      simp [State.scanLoaded] at hsc ⊢
      exact hsc
    obtain ⟨⟨a, hslot⟩, hq, hother, hjobs⟩ := joinQueue_joins k
      (s := s.updSlot n (fun x => { x with tOff := false, stepTo := none })) (by rw [hself]; exact hch)
    refine ⟨_, exec_tOffEnd_step hu ht hv hp hs ha hw, ?_⟩
    rw [hslot, hself]
    exact ⟨rfl, rfl, rfl, rfl, fun m hm => (hother m hm).trans (State.updSlot_slot_other _ _ _ _ hm), hq, hjobs⟩

/-! # The presence filters (R62, R65, R66, R68, R72, R186, R190) -/

theorem mainUp_vstby {s : State} (h : s.mainUp = true) : s.power.vstby = true := by
  simp only [State.mainUp, Bool.and_eq_true] at h
  exact h.1

/-- An event raised with an update of its slot waits as the newest (R177). -/
theorem raise_mem (c : W16) (o : Option SlotId) (a : Nat) (s : State) :
    ∃ e ∈ (raise c o a s).barker.queue, e.code = c ∧ e.slot = o ∧ e.arg = BitVec.ofNat 32 a :=
  ⟨_, List.mem_append_right _ (List.mem_singleton_self _), rfl, rfl, rfl⟩

theorem raise_updSlot_self (c : W16) (o : Option SlotId) (a : Nat) (s : State) (n : SlotId) (f : Slot → Slot) :
    (raise c o a (s.updSlot n f)).slot n = f (s.slot n) := by
  rw [raise_slot, State.updSlot_slot_self]

theorem raise_updSlot_other (c : W16) (o : Option SlotId) (a : Nat) (s : State) {n m : SlotId} (f : Slot → Slot)
    (hm : m ≠ n) : (raise c o a (s.updSlot n f)).slot m = s.slot m := by
  rw [raise_slot, State.updSlot_slot_other _ _ _ _ hm]

/-! ## PRESENT, ABSENT and PRES_BAND -/

theorem learnFeed_frame (n : SlotId) (s : State) :
    learnFeed n s = { s with slots := (learnFeed n s).slots, place.feeds := (learnFeed n s).place.feeds } := by
  unfold learnFeed; split <;> rfl

theorem learnFeed_slot (n : SlotId) (s : State) : (learnFeed n s).slot n = { s.slot n with feed := none } := by
  unfold learnFeed
  split
  next h => rw [← h]
  next => exact State.updSlot_slot_self s n (fun x => { x with feed := none })

theorem learnFeed_other (n : SlotId) (s : State) {m : SlotId} (hm : m ≠ n) : (learnFeed n s).slot m = s.slot m := by
  unfold learnFeed
  split
  · rfl
  · exact State.updSlot_slot_other s n m (fun x => { x with feed := none }) hm

/-- The filter decides PRESENT: the feed that brought the card is learned, with the CARD event (R62, R68, R190). -/
def decidePresent (n : SlotId) (s : State) : State :=
  raise 0x0101 (some n) 1 ((learnFeed n s).updSlot n (fun x =>
    { x with present := true, presBand := false, feedBlocked := false }))

theorem decidePresent_slot (n : SlotId) (s : State) : (decidePresent n s).slot n =
    { s.slot n with present := true, presBand := false, feedBlocked := false, feed := none } := by
  rw [decidePresent, raise_updSlot_self, learnFeed_slot]

/-- What an unpowered slot knows of its card is gone, and it waits for power no more (R62, R68, R72). -/
theorem cardGone_slot (n : SlotId) (s : State) : ∃ cls wait,
    (leaveQueue n (raise 0x0101 (some n) 0 (s.updSlot n Slot.cardGone))).slot n =
      { (s.slot n).cardGone with phase := if (s.slot n).phase = .powerWait then .off else (s.slot n).phase,
                                 cls := cls, actWait := wait } := by
  have hself := raise_updSlot_self 0x0101 (some n) 0 s n Slot.cardGone
  by_cases hw : (s.slot n).phase = .powerWait
  · rw [leaveQueue_pw n _ (by rw [hself]; exact hw), hself, if_pos hw]
    exact ⟨_, _, rfl⟩
  · rw [leaveQueue_not_waiting (by rw [hself]; exact hw), if_neg hw]
    exact ⟨_, _, hself⟩

section Filters
variable {n : SlotId} {s : State} (hu : s.mainUp = true) (hj : (s.slot n).job = none)
include hu

theorem exec_presBand (hb : (s.slot n).presBand = false) : exec (.presBand n) s =
    .next (raise 0x0102 (some n) 0 (s.updSlot n (fun x => { x with presBand := true }))) :=
  (show execPresBand n s = _ from State.gate_open (by simp [mainUp_vstby hu, hb])).trans
    (congrArg _ (if_pos hu))

include hj

theorem exec_presencePresent (hp : (s.slot n).present = false) (hh : (s.slot n).presHeld = false) :
    exec (.presencePresent n) s = .next (decidePresent n s) := by
  have hup : ((learnFeed n s).updSlot n (fun x =>
      { x with present := true, presBand := false, feedBlocked := false })).mainUp = true := by
    rw [learnFeed_frame]; exact hu
  refine (show execPresencePresent n s = _ from State.gate_open (by simp [mainUp_vstby hu, hp, hh])).trans ?_
  rw [← wantActivation_nojob (n := n) (s := decidePresent n s) (by rw [decidePresent_slot]; exact hj)]
  exact congrArg _ (congrArg (wantActivation n) (if_pos hup))

theorem exec_presenceAbsent (hp : (s.slot n).present = true) (hv : (s.slot n).phase.powered = false) :
    exec (.presenceAbsent n) s = .next (leaveQueue n (raise 0x0101 (some n) 0 (s.updSlot n Slot.cardGone))) := by
  refine (show execPresenceAbsent n s = _ from State.gate_open (by simp [mainUp_vstby hu, hp, hv])).trans ?_
  rw [decideAbsent_up hu]
  refine congrArg _ (lostJob_nojob n _ _ ((leaveQueue_actsOn n _).job ?_))
  rw [raise_updSlot_self]; exact hj

end Filters

/-! ## UNSTABLE -/

/-- The filter's counts in its window (R66). -/
def Slot.counted (x : Slot) (tr br : Nat) : Slot := { x with transitions := tr, brokenRuns := br }

/-- A slot in UNSTABLE (R72). -/
def Slot.madeUnstable (x : Slot) : Slot :=
  { x with phase := .unstable, unstablePending := false, stepTo := none, resolution := none }

theorem enterUnstable_slot (n : SlotId) (s : State) : (enterUnstable n s).slot n = (s.slot n).madeUnstable :=
  raise_updSlot_self _ _ _ s n Slot.madeUnstable

theorem enterUnstable_other (n : SlotId) (s : State) {m : SlotId} (hm : m ≠ n) :
    (enterUnstable n s).slot m = s.slot m := raise_updSlot_other _ _ _ s Slot.madeUnstable hm

section Unstable
variable {n : SlotId} {tr br : Nat} {s : State} (hu : s.mainUp = true) (hl : 8 < tr ∨ 32 < br)
include hu hl

theorem exec_unstable_powered (hp : (s.slot n).phase.powered = true) : exec (.unstable n tr br) s =
    .next (s.updSlot n (fun x => { x.counted tr br with unstablePending := true })) := by
  refine (show execUnstable n tr br s = _ from State.gate_open (by simp [hu, hl])).trans (congrArg _ ?_)
  rw [← State.updSlot_updSlot s n (·.counted tr br) (fun x => { x with unstablePending := true })]
  simp only [State.updSlot_slot_self]
  cases h : (s.slot n).phase <;> simp only [h, SlotPhase.powered, Bool.false_eq_true] at hp <;> rfl

theorem exec_unstable_waiting (hj : (s.slot n).job = none) (hp : (s.slot n).phase = .powerWait) :
    exec (.unstable n tr br) s = .next (enterUnstable n (leaveQueue n (s.updSlot n (·.counted tr br)))) := by
  have hq : ((enterUnstable n (leaveQueue n (s.updSlot n (·.counted tr br)))).slot n).job = none := by
    rw [enterUnstable_slot]
    exact (leaveQueue_actsOn n _).job (by rw [State.updSlot_slot_self]; exact hj)
  refine (show execUnstable n tr br s = _ from State.gate_open (by simp [hu, hl])).trans (congrArg _ ?_)
  rw [← lostJob_nojob n .none _ hq]
  simp only [State.updSlot_slot_self, hp]
  rfl

theorem exec_unstable_off (hj : (s.slot n).job = none)
    (hp : (s.slot n).phase = .off ∨ (s.slot n).phase = .quarantined) :
    exec (.unstable n tr br) s = .next (enterUnstable n (s.updSlot n (·.counted tr br))) := by
  have hq : ((enterUnstable n (s.updSlot n (·.counted tr br))).slot n).job = none := by
    rw [enterUnstable_slot, State.updSlot_slot_self]; exact hj
  refine (show execUnstable n tr br s = _ from State.gate_open (by simp [hu, hl])).trans (congrArg _ ?_)
  rw [← lostJob_nojob n .none _ hq]
  rcases hp with hp | hp
  all_goals
    simp only [State.updSlot_slot_self, hp]
    rfl

/-- An unpowered slot that no job holds is UNSTABLE at once, out of the admission queue, with its event (R66, R72). -/
theorem exec_unstable_unpowered (hj : (s.slot n).job = none)
    (hp : (s.slot n).phase = .off ∨ (s.slot n).phase = .quarantined ∨ (s.slot n).phase = .powerWait) :
    ∃ u : State, exec (.unstable n tr br) s = .next (enterUnstable n u) ∧ s.othersKeep u n ∧
      ∀ q ∈ u.requests, (s.slot n).phase = .powerWait → q.slot ≠ n := by
  have ho : s.othersKeep (s.updSlot n (·.counted tr br)) n := fun m hm => State.updSlot_slot_other _ _ _ _ hm
  by_cases hw : (s.slot n).phase = .powerWait
  · refine ⟨_, exec_unstable_waiting hu hl hj hw, fun m hm => (leaveQueue_other n m _ hm).trans (ho m hm), ?_⟩
    rw [leaveQueue_frame]
    intro q hq _
    simpa using (List.mem_filter.1 hq).2
  · exact ⟨_, exec_unstable_off hu hl hj (by tauto), ho, fun _ _ h => absurd h hw⟩

end Unstable

/-! ## The resolution activation (R47, R253) -/

/-- A slot whose resolution activation has been asked for (R253). -/
def Slot.resolving (x : Slot) (plan : List W16) : Slot := { x with resolved := true, resolution := some plan }

theorem exec_resolutionActivation {n : SlotId} {k : CardClass} {s : State} (hb : s.booted = true)
    (hs : s.bank.started = true) (hr : (s.slot n).resolved = false) (hj : (s.slot n).job = none)
    (ha : s.canActivate n = true) (hk : (s.slot n).firstClass = some k) (hp : s.resolutionPlan n ≠ [])
    (hw : s.regs.windDown = false) (hf : s.faults.fatalWindow = none) : exec (.resolutionActivation n) s =
      .next (requestActivation n (s.updSlot n (·.resolving (s.resolutionPlan n)))) := by
  have hpr : (s.slot n).present = true := by
    simp only [State.canActivate, Bool.and_eq_true] at ha
    exact ha.1.1.1.1.1
  simp only [exec, execResolutionActivation]
  exact State.gate_open (by simp [hb, hs, hpr, hr, hj, ha, hk, hp, hw, hf])

/-- Settles O41: each decision writes its slot and raises its event; the resolution asks for power like any other. -/
theorem presenceFiltersDecide : Obligations.PresenceFiltersDecide := by
  refine ⟨fun n s hu hj => ⟨fun hp hh => ?_, fun hp hv => ?_, fun hb => ?_,
    fun tr br hl => ⟨fun hp => ?_, fun hp => ?_⟩⟩,
    fun n k s hb hs hr hj ha hk hp hw hf hc => ?_⟩
  · refine ⟨_, exec_presencePresent hu hj hp hh, ?_, decidePresent_slot n s, fun m hm => ?_, raise_mem _ _ _ _⟩
    · rw [decidePresent, learnFeed_frame]; rfl
    · rw [decidePresent, raise_updSlot_other _ _ _ _ _ hm, learnFeed_other n s hm]
  · obtain ⟨cls, wait, hslot⟩ := cardGone_slot n s
    refine ⟨_, exec_presenceAbsent hu hj hp hv, ?_⟩
    rw [hslot]
    refine ⟨by rw [leaveQueue_frame]; rfl, rfl, rfl, rfl, rfl, rfl, rfl, fun m hm => ?_, ?_⟩
    · rw [leaveQueue_other n m _ hm, raise_updSlot_other _ _ _ _ _ hm]
    · rw [leaveQueue_frame]; exact raise_mem _ _ _ _
  · obtain ⟨e, he, hc, ho, -⟩ := raise_mem 0x0102 (some n) 0 (s.updSlot n (fun x => { x with presBand := true }))
    exact ⟨_, exec_presBand hu hb, rfl, raise_updSlot_self _ _ _ _ _ _, fun m hm => raise_updSlot_other _ _ _ _ _ hm,
      e, he, hc, ho⟩
  · obtain ⟨u, hx, ho, hq⟩ := exec_unstable_unpowered hu hl hj hp
    exact ⟨_, hx, by rw [enterUnstable_slot]; rfl, fun m hm => (enterUnstable_other n u hm).trans (ho m hm), hq, _,
      List.mem_append_right _ (List.mem_singleton_self _), rfl, rfl⟩
  · exact ⟨_, exec_unstable_powered hu hl hp, s.updSlot_changesSlot n _⟩
  · have hself := State.updSlot_slot_self s n (·.resolving (s.resolutionPlan n))
    obtain ⟨⟨a, hslot⟩, hq, hother, -⟩ := requestActivation_joins (k := k)
      (s := s.updSlot n (·.resolving (s.resolutionPlan n))) (by rw [hself]; exact hk)
      (by simp only [State.canActivate, hself] at ha ⊢; exact ha) (by rw [hself]; exact hc)
    obtain ⟨q, hm, hn, hcls, -⟩ := hq
    refine ⟨_, exec_resolutionActivation hb hs hr hj ha hk hp hw hf, ?_⟩
    rw [hslot, hself]
    exact ⟨rfl, rfl, rfl, rfl, fun m hm => (hother m hm).trans (State.updSlot_slot_other _ _ _ _ hm), q, hm, hn, hcls⟩

/-! # The ATR and PPS lead to READY (R42, R51, R52, R72, R90, R98 to R103) -/

/-! ## Failed attempts and class steps -/

theorem State.AttemptFails.all {s t : State} {n : SlotId} {c : Cause} (h : s.AttemptFails n c t) :
    (t.slot n).phase = .deactivating ∧ (t.slot n).cause = c ∧ (t.slot n).rst = false ∧
    (t.slot n).failCount = min 3 ((s.slot n).failCount + 1) ∧ s.othersKeep t n ∧ t.jobs = s.jobs := by
  obtain ⟨⟨k, hk⟩, ho, hj⟩ := h
  rw [hk]
  exact ⟨rfl, rfl, rfl, rfl, ho, hj⟩

/-- A class step takes the slot down and keeps its count of failed attempts (R42, R72). -/
theorem classStep_steps {n : SlotId} (k : CardClass) {s : State} (h : (s.slot n).phase.live = true) :
    ((classStep n k s).slot n).phase = .deactivating ∧ ((classStep n k s).slot n).cause = .classStep ∧
    ((classStep n k s).slot n).stepTo = some k ∧ ((classStep n k s).slot n).failCount = (s.slot n).failCount ∧
    s.othersKeep (classStep n k s) n := by
  obtain ⟨c, hc⟩ := startNormal_slot n .classStep false h
  rw [classStep, State.updSlot_slot_self, hc]
  exact ⟨rfl, rfl, rfl, rfl, fun m hm =>
    (State.updSlot_slot_other _ _ _ _ hm).trans (startNormal_other n m _ _ s hm)⟩

/-- The class a failed attempt may go on to: none after a warm reset (R42, R108). -/
def Slot.nextAttempt (x : Slot) : Option CardClass := if x.warm then none else x.stepClass

theorem stepOrFail_some {n : SlotId} {k : CardClass} (c : Cause) {s : State} (h : (s.slot n).nextAttempt = some k) :
    stepOrFail n c s = classStep n k s := by
  rw [Slot.nextAttempt] at h
  simp only [stepOrFail, h]

theorem stepOrFail_none {n : SlotId} (c : Cause) {s : State} (h : (s.slot n).nextAttempt = none) :
    stepOrFail n c s = failAttempt n c s := by
  rw [Slot.nextAttempt] at h
  simp only [stepOrFail, h]

/-! ## READY -/

/-- The slot of an accepted card (R52, R77, R100, R108). -/
def Slot.cardAccepted (x : Slot) (fi di : Nat) (p : Proto) (lts : Bool) : Slot :=
  { x with phase := .ready, failCount := 0, proto := p, fiCode := fi, shadow := some (runRate x.clkDivMin fi di),
           pps := none, ppsPlan := none, warm := false, unsettled := if p == .t1 then x.unsettled else [],
           ltsDue := lts }

theorem adminReady_nojob {n : SlotId} {s : State} (h : (s.slot n).job = none) : adminReady n s = s := by
  simp [adminReady, State.holder, h]

theorem whenReady_idle {n : SlotId} {s : State} (hw : (s.slot n).warmDue = false)
    (hr : (s.slot n).resolution = none) : whenReady n s = s := by
  simp [whenReady, hw, hr]

/-- S(IFS) starts an exchange and goes out (R90). -/
theorem startIfs_sends (n : SlotId) (s : State) : ∃ f bs, startIfs n s =
    emit (.chars n bs) (updT1 n f (exchBegun n (newExch .sIfs 0 0 0 [] 0) s)) ∧ ∀ t, (f t).ifsOut = true :=
  ⟨_, _, rfl, fun _ => rfl⟩

section Accept
variable {n : SlotId} (fi di : Nat) {s : State} (hj : (s.slot n).job = none)
include hj

theorem acceptCard_nojob (p : Proto) : ∃ lts, acceptCard n fi di p s =
    if p = .t1 then startIfs n (s.updSlot n (·.cardAccepted fi di p lts))
    else whenReady n (s.updSlot n (·.cardAccepted fi di p lts)) := by
  simp only [acceptCard, State.updSlot_updSlot]
  generalize State.ltsWanted _ n = lts
  refine ⟨lts, ?_⟩
  have hs := State.updSlot_slot_self s n (·.cardAccepted fi di p lts)
  have ha : adminReady n (s.updSlot n (·.cardAccepted fi di p lts)) = _ :=
    adminReady_nojob (by rw [hs]; exact hj)
  have hr : ¬ ((s.updSlot n (·.cardAccepted fi di p lts)).slot n).phase != .ready := by
    rw [hs]; exact Bool.false_ne_true
  refine (congrArg (fun u : State => if (u.slot n).phase != .ready then u
    else if p == .t1 then startIfs n u else whenReady n u) ha).trans ((if_neg hr).trans ?_)
  simp only [beq_iff_eq]

end Accept

/-- A card is accepted: the rates are staged, and it is READY under T=0 and sends S(IFS) under T=1. -/
structure State.Accepts (s : State) (n : SlotId) (fi di : Nat) (p : Proto) (t : State) : Prop where
  proto : (t.slot n).proto = p
  failCount : (t.slot n).failCount = 0
  fiCode : (t.slot n).fiCode = fi
  shadow : (t.slot n).shadow = some (runRate (s.slot n).clkDivMin fi di)
  others : s.othersKeep t n
  jobs : t.jobs = s.jobs
  t0 : p = .t0 → (t.slot n).phase = .ready ∧ t.out = s.out
  t1 : p = .t1 → (t.slot n).phase = .busy ∧ (t.slot n).exch.map (·.kind) = some .sIfs ∧
    (t.slot n).t1.ifsOut = true ∧ ∃ bs, t.out = s.out ++ [.chars n bs]
  pps : (t.slot n).pps = none

theorem acceptCard_accepts {n : SlotId} (fi di : Nat) (p : Proto) {s : State} (hj : (s.slot n).job = none)
    (hw : (s.slot n).warmDue = false) (hr : (s.slot n).resolution = none) :
    s.Accepts n fi di p (acceptCard n fi di p s) := by
  by_cases hp : p = .t1
  · subst hp
    obtain ⟨lts, ha⟩ := acceptCard_nojob fi di hj .t1
    rw [if_pos rfl] at ha
    obtain ⟨f, bs, hs, hf⟩ := startIfs_sends n (s.updSlot n (·.cardAccepted fi di .t1 lts))
    have hslot : (acceptCard n fi di .t1 s).slot n = { (s.slot n).cardAccepted fi di .t1 lts with
        exch := some (newExch .sIfs 0 0 0 [] 0), phase := .busy, t1 := f (s.slot n).t1 } := by
      rw [ha, hs, emit_slot, updT1, State.updSlot_slot_self, exchBegun_slot, State.updSlot_slot_self]; rfl
    refine ⟨by rw [hslot]; rfl, by rw [hslot]; rfl, by rw [hslot]; rfl, by rw [hslot]; rfl, fun m hm => ?_,
      by rw [ha, hs]; rfl, fun h => (nomatch h), fun _ => ⟨by rw [hslot], by rw [hslot]; rfl, by rw [hslot, hf],
        bs, by rw [ha, hs]; rfl⟩, by rw [hslot]; rfl⟩
    rw [ha, hs, emit_slot, updT1, State.updSlot_slot_other _ _ _ _ hm, exchBegun, State.updSlot_slot_other _ _ _ _ hm,
      State.updSlot_slot_other _ _ _ _ hm]
  · obtain ⟨lts, ha⟩ := acceptCard_nojob fi di hj p
    have hself := State.updSlot_slot_self s n (·.cardAccepted fi di p lts)
    rw [if_neg hp, whenReady_idle (by rw [hself]; exact hw) (by rw [hself]; exact hr)] at ha
    have hslot : (acceptCard n fi di p s).slot n = (s.slot n).cardAccepted fi di p lts := by rw [ha, hself]
    refine ⟨by rw [hslot]; rfl, by rw [hslot]; rfl, by rw [hslot]; rfl, by rw [hslot]; rfl, fun m hm => ?_,
      by rw [ha]; rfl, fun _ => ⟨by rw [hslot]; rfl, by rw [ha]; rfl⟩, fun h => absurd h hp, by rw [hslot]; rfl⟩
    rw [ha, State.updSlot_slot_other _ _ _ _ hm]

/-! ## The ATR -/

theorem awaitsAtr_of {n : SlotId} {s : State} (hu : s.mainUp = true) (hp : (s.slot n).phase = .atrWait)
    (hr : (s.slot n).rst = true) (hq : (s.slot n).pps = none) : s.awaitsAtr n = true := by
  simp [State.awaitsAtr, State.inPhase, hu, hp, hr, hq]

section Atr
variable {n : SlotId} {raw : List Byte} {f : CharFaults} {s : State} (h : s.awaitsAtr n = true)
include h

theorem exec_noAtr : exec (.noAtr n) s = .next (stepOrFail n .noAtr s) :=
  show execNoAtr n s = _ from State.gate_open h

theorem exec_atrGapTimeout : exec (.atrGapTimeout n) s = .next (failAttempt n .atrError s) :=
  show execAtrGapTimeout n s = _ from State.gate_open h

theorem exec_atrReceived_torn (hi : atrIntact raw f = false) :
    exec (.atrReceived n raw f) s = .next (failAttempt n .atrError s) := by
  refine (show execAtrReceived n raw f s = _ from State.gate_open h).trans ?_
  simp only [hi, Bool.not_false, if_true]

variable (hi : atrIntact raw f = true)
include hi

theorem exec_atrReceived_excluding (he : (readAtr raw).excludes (s.slot n).cls = true) :
    exec (.atrReceived n raw f) s = .next (stepOrFail n .atrError s) := by
  refine (show execAtrReceived n raw f s = _ from State.gate_open h).trans ?_
  simp only [hi, he, Bool.not_true, Bool.false_eq_true, if_false, if_true]

variable (he : (readAtr raw).excludes (s.slot n).cls = false)
include he

theorem exec_atrReceived_broken (hb : (readAtr raw).broken = true) :
    exec (.atrReceived n raw f) s = .next (failAttempt n .atrError s) := by
  refine (show execAtrReceived n raw f s = _ from State.gate_open h).trans ?_
  simp only [hi, he, hb, Bool.not_true, Bool.false_eq_true, if_false, if_true]

variable (hb : (readAtr raw).broken = false)
include hb

/-- A good ATR is taken over, and a PPS request goes out where the policy asks for one (R100, R101, R102). -/
theorem exec_atrReceived_pps {p : Nat} {ta : Option (Byte × Nat × Nat)}
    (hp : (readAtr raw).proposal (s.slot n).ppsPolicy (s.slot n).ppsFailed = some (p, ta)) :
    ∃ plan, exec (.atrReceived n raw f) s = .next (sendChars n (ppsRequest p (ta.map (·.1)))
      (s.updSlot n (fun x => { x.takeAtr raw (readAtr raw) with
        pps := some (ppsRequest p (ta.map (·.1))), ppsPlan := some plan }))) := by
  have hp' : (readAtr raw).proposal ((s.slot n).takeAtr raw (readAtr raw)).ppsPolicy
      ((s.slot n).takeAtr raw (readAtr raw)).ppsFailed = some (p, ta) := hp
  have hx : exec (.atrReceived n raw f) s = _ := show execAtrReceived n raw f s = _ from State.gate_open h
  simp only [hi, he, hb, State.updSlot_slot_self, State.updSlot_updSlot, hp', Bool.not_true, Bool.false_eq_true,
    if_false] at hx
  exact ⟨_, hx⟩

/-- Without PPS the card is accepted as its ATR says (R100). -/
theorem exec_atrReceived_plain
    (hp : (readAtr raw).proposal (s.slot n).ppsPolicy (s.slot n).ppsFailed = none) :
    exec (.atrReceived n raw f) s = .next (acceptCard n (readAtr raw).plain.2.1 (readAtr raw).plain.2.2
      (protoOf (readAtr raw).plain.1) (s.updSlot n (·.takeAtr raw (readAtr raw)))) := by
  have hp' : (readAtr raw).proposal ((s.slot n).takeAtr raw (readAtr raw)).ppsPolicy
      ((s.slot n).takeAtr raw (readAtr raw)).ppsFailed = none := hp
  refine (show execAtrReceived n raw f s = _ from State.gate_open h).trans ?_
  simp only [hi, he, hb, State.updSlot_slot_self, hp', Bool.not_true, Bool.false_eq_true, if_false]

end Atr

/-- What the ATR brings does not touch what its acceptance is measured against. -/
theorem acceptAtr_accepts {n : SlotId} (raw : List Byte) (fi di : Nat) (p : Proto) {s : State}
    (hj : (s.slot n).job = none) (hw : (s.slot n).warmDue = false) (hr : (s.slot n).resolution = none) :
    s.Accepts n fi di p (acceptCard n fi di p (s.updSlot n (·.takeAtr raw (readAtr raw)))) := by
  have hs := State.updSlot_slot_self s n (·.takeAtr raw (readAtr raw))
  have h := acceptCard_accepts fi di p (s := s.updSlot n (·.takeAtr raw (readAtr raw))) (by rw [hs]; exact hj)
    (by rw [hs]; exact hw) (by rw [hs]; exact hr)
  exact { h with
    shadow := by rw [h.shadow, hs]; rfl
    others := fun m hm => (h.others m hm).trans (State.updSlot_slot_other _ _ _ _ hm) }

/-! ## PPS (R102, R103) -/

/-- The attempt fails, and the card is marked (R103). -/
theorem failPps_fails {n : SlotId} {s : State} (hj : (s.slot n).job = none) (hl : (s.slot n).phase.live = true) :
    (((failPps n s).slot n).phase = .deactivating ∧ ((failPps n s).slot n).cause = .atrError ∧
      ((failPps n s).slot n).rst = false ∧ ((failPps n s).slot n).failCount = min 3 ((s.slot n).failCount + 1) ∧
      s.othersKeep (failPps n s) n ∧ (failPps n s).jobs = s.jobs) ∧
    ((failPps n s).slot n).ppsFailed = true := by
  have hs := State.updSlot_slot_self s n (fun x => { x with ppsFailed := true })
  obtain ⟨⟨k, hk⟩, ho, hjobs⟩ := failAttempt_fails .atrError
    (s := s.updSlot n (fun x => { x with ppsFailed := true })) (by rw [hs]; exact hj) (by rw [hs]; exact hl)
  rw [failPps, hk, hs]
  exact ⟨⟨rfl, rfl, rfl, rfl, fun m hm => (ho m hm).trans (State.updSlot_slot_other _ _ _ _ hm), hjobs⟩, rfl⟩

section Pps
variable {n : SlotId} {req : List Byte} {plan : Nat × Nat × Proto} {s : State} (hu : s.mainUp = true)
  (hp : (s.slot n).phase = .atrWait) (hq : (s.slot n).pps = some req)
include hu hp hq

theorem exec_ppsTimeout : exec (.ppsTimeout n) s = .next (failPps n s) :=
  show execPpsTimeout n s = _ from State.gate_open (by simp [State.inPhase, hu, hp, hq])

variable (hl : (s.slot n).ppsPlan = some plan) {raw : List Byte} {f : CharFaults}
include hl

theorem exec_ppsResponse_failed (ho : ppsOutcome req raw f plan = none) :
    exec (.ppsResponse n raw f) s = .next (failPps n s) := by
  have hg : s.inPhase n .atrWait = true := by simp [State.inPhase, hu, hp]
  simp only [exec, execPpsResponse, hq, hl, State.gate_open hg, ho]

theorem exec_ppsResponse_accepted {fi di : Nat} {p : Proto} (ho : ppsOutcome req raw f plan = some (fi, di, p)) :
    exec (.ppsResponse n raw f) s = .next (acceptCard n fi di p s) := by
  have hg : s.inPhase n .atrWait = true := by simp [State.inPhase, hu, hp]
  simp only [exec, execPpsResponse, hq, hl, State.gate_open hg, ho]

end Pps

/-- Settles O45: every failure through `failAttempt`, every step up through `classStep`, and a good ATR or echo
through `acceptCard`. -/
theorem atrLeadsToReady : Obligations.AtrLeadsToReady := by
  intro n s hu hp hj fails stepped accepted
  have hl : (s.slot n).phase.live = true := by rw [hp]; rfl
  have hfail : ∀ c, fails (failAttempt n c s) c := fun c => (failAttempt_fails c hj hl).all
  have hstep : ∀ c, stepped (stepOrFail n c s) c := by
    intro c
    cases hn : (s.slot n).nextAttempt with
    | some k =>
      rw [stepOrFail_some c hn]
      simp only [stepped]
      rw [Slot.nextAttempt] at hn
      rw [hn]
      exact classStep_steps k hl
    | none =>
      rw [stepOrFail_none c hn]
      simp only [stepped]
      rw [Slot.nextAttempt] at hn
      rw [hn]
      exact hfail c
  have hacc : ∀ t fi di p, s.Accepts n fi di p t → accepted t fi di p := fun t fi di p h =>
    ⟨h.proto, h.failCount, h.fiCode, h.shadow, h.others, h.jobs, h.t0, h.t1⟩
  refine ⟨fun hr hq => ?_, fun req plan hq hl' => ⟨fun raw f ho => ?_, fun raw f fi di p ho hw hres => ?_, ?_⟩⟩
  · have h := awaitsAtr_of hu hp hr hq
    refine ⟨fun raw f hi => ⟨_, exec_atrReceived_torn h hi, hfail _⟩,
      fun raw f hi he => ⟨_, exec_atrReceived_excluding h hi he, hstep _⟩,
      fun raw f hi he hb => ⟨_, exec_atrReceived_broken h hi he hb, hfail _⟩,
      fun raw f hi he hb => ⟨fun p ta hpr => ?_, fun hpr hw hres =>
        ⟨_, exec_atrReceived_plain h hi he hb hpr, hacc _ _ _ _ (acceptAtr_accepts raw _ _ _ hj hw hres)⟩⟩,
      ⟨_, exec_noAtr h, hstep _⟩, ⟨_, exec_atrGapTimeout h, hfail _⟩⟩
    obtain ⟨plan, hx⟩ := exec_atrReceived_pps h hi he hb hpr
    refine ⟨_, hx, ?_⟩
    rw [sendChars, emit_slot, State.updSlot_slot_self]
    exact ⟨hp, rfl, fun m hm => (emit_slot _ _ m).trans (State.updSlot_slot_other _ _ _ _ hm), _, rfl⟩
  · obtain ⟨hf, hm⟩ := failPps_fails hj hl
    exact ⟨_, exec_ppsResponse_failed hu hp hq hl' ho, hf, hm⟩
  · have h := acceptCard_accepts fi di p hj hw hres
    exact ⟨_, exec_ppsResponse_accepted hu hp hq hl' ho, hacc _ _ _ _ h, h.pps⟩
  · obtain ⟨hf, hm⟩ := failPps_fails hj hl
    exact ⟨_, exec_ppsTimeout hu hp hq, hf, hm⟩

end Sys2Proof.Machine

namespace Sys2Proof.Machine
open Sys2Proof

/-! # A slot with a fence pending at the report of an exchange (R97, R193, R305)

The statement's words speak of a slot with no fence pending; its clauses about a started job have no such premise, nor
one that the slot names that job as its holder. Once a NON_IDEMPOTENT job's failed exchange is reported the slot stands
at a step boundary, and a pending fence takes it from the job that it names (`afterReport`, `loseNormal`). Where that is
another job, with no placement left, that job ends and its completion joins those that wait. -/

/-- A ticket of TYPE SAM_OP with given FLAGS. -/
def samTicket (id : JobId) (flags : W16) : Ticket :=
  { jobId := id, type := 2, affinity := 0, pinSlot := 0xFF, op := 0, flags := flags, profileId := 1, keysetId := 0,
    recordId := 0, deadline := 0, paramAddr := 0, resultAddr := 0, paramLen := 0, resultMax := 0, arg := 0,
    reserved := 0 }

/-- A plain APDU step whose only row is 9000. -/
def plainStep : Step :=
  { kind := 1, flags := 0, tmpl := [0x80, 0xCA, 0x00, 0x00, 0x00], subs := [], onFail := 0xFF, expSw := 0x9000,
    expMask := 0xFFFF, altSw := 0, altMask := 0, altTo := 0xFF, respMax := 0, failErr := 0, exchLimit := 0,
    karg := 0, next := 0xFD }

/-- A checkpoint at the start of a run. -/
def firstCheckpoint : Checkpoint :=
  { step := 0, stepsRun := 0, session := none, kslots := [], kslotTypes := [], keepLen := 0, resultLen := 0 }

/-- The command of step 1, sent and not yet matched. -/
def sentCommand : Staged :=
  { step := 1, kind := .step, apdu := plainStep.tmpl, exp := 0x9000, csn := 0, jseq := none, sent := true,
    cp := firstCheckpoint, after := none, afterRe := [] }

/-- A run of two plain steps whose only command is `sentCommand`. -/
def oneCommandRun : Run :=
  { profile := { id := 1, pflags := 0, classes := 7, scp := 0, ahead := 1, busyLimit := 0, exchDefault := 0,
                 minRecord := 0, keys := [], steps := [plainStep, plainStep] },
    taken := true, param := [], next := none, stepsRun := 2, keep := [], staged := [sentCommand],
    base := firstCheckpoint, baseNext := none, baseRe := [], session := none, kslots := [], kslotTypes := [],
    challenge := [], held := none, reentry := [] }

/-- NON_IDEMPOTENT job 1, started on slot 0 with its only command sent. -/
def reportedJob : Job :=
  { newJob (samTicket 1 1) 0 0 with phase := .started, slot := some 0, lastSlot := 0, run := some oneCommandRun }

/-- Job 2, placed on slot 0 as well and with no placement left. -/
def otherHolder : Job :=
  { newJob (samTicket 2 0) 0 1 with phase := .placed, slot := some 0, lastSlot := 0,
                                    replaced := Regs.reset.maxReplace }

/-- The exchange of job 1's command, ended by a timeout. -/
def timedOut : Ended :=
  { kind := .step, job := 1, gen := 0, step := 1, csn := 0, status := .timeout, sw := 0, resp := [], how := 0 }

/-- Slot 0 has job 1's exchange to report, names job 2 as its holder and has a fence pending. -/
def fencedUnderOther : State :=
  { State.reset with regs.booted := true, jobs := [reportedJob, otherHolder] }.updSlot 0 (fun x =>
    { x with phase := .ready, ended := [timedOut], job := some 2, fencePending := true })

/-- The report of job 1's exchange ends job 2: one completion joins. -/
theorem exchangeEnd_fencedUnderOther :
    ∃ t, exec (.exchangeEnd 0 0 0) fencedUnderOther = .next t ∧
      t.closing.map (fun c => (c.jobId, c.status, c.error)) = [(2, .failed, 0x020B)] :=
  ⟨_, rfl, by decide +kernel⟩

/-- Refutes O48, in its clause for a NON_IDEMPOTENT job: on slot 0 of `fencedUnderOther` the report leaves job 1
RESOLVING, and the pending fence ends job 2, so the completions that wait do not stay as they were. -/
theorem not_exchangeReportsMoveTheJob : ¬ Obligations.ExchangeReportsMoveTheJob := by
  intro h
  obtain ⟨-, hjob⟩ := h 0 timedOut [] fencedUnderOther (by decide +kernel) (by decide +kernel) rfl
  obtain ⟨-, -, hresolving, -⟩ := hjob reportedJob oneCommandRun sentCommand plainStep (by decide +kernel)
    rfl rfl rfl rfl rfl rfl rfl rfl rfl rfl rfl (by decide) rfl rfl (by decide) (by decide)
  obtain ⟨t, k, ht, -, -, -, -, hc⟩ := hresolving rfl (by decide)
  obtain ⟨u, hu, hend⟩ := exchangeEnd_fencedUnderOther
  obtain rfl : t = u := by simpa [ht] using hu
  rw [hc] at hend
  exact absurd hend (by decide)

end Sys2Proof.Machine

namespace Sys2Proof.Machine
open Sys2Proof

/-! # A fence pending at the answer to the mode switch (R115, R305)

R115 leads a good answer to GALLOPER, and the statement's first clause has no premise on a fence. R305 lets a powered
slot whose comparator failed run its exchange to the end and then deactivate before the next one: a slot fenced while
its mode switch is on the wire deactivates with cause HOST at the answer, and opens no session (`afterReport`,
`State.fenceNow`). -/

/-- The card's answer to a mode switch: SW 9000, clock code 5 and depth 2. -/
def switchAnswered : Ended :=
  { kind := .modeSwitch, job := 0, gen := 0, step := 0, csn := 0, status := .ok, sw := 0x9000, resp := [5, 2],
    how := 0 }

/-- Slot 0, placed for job 1, has proposed code 14 and depth 4 under SID 0x77 and has its answer to report; the check
of its overcurrent comparator runs. -/
def switching : State :=
  { State.reset with regs.booted := true,
                     jobs := [{ newJob (samTicket 1 0) 0 0 with phase := .placed, slot := some 0, lastSlot := 0 }] }.updSlot
    0 (fun x => { x with phase := .busy, proto := .t1, job := some 1, proposal := some (14, 4, 0x77),
                         ended := [switchAnswered], check := .running .oc })

/-- `switching` once the comparator has failed step 1 of its check. -/
def fencedInSwitch : State := endSlotCheck 0 .oc (some 0) switching

/-- The model itself leads to `fencedInSwitch`: the check ends, and the slot stays BUSY with its fence pending. -/
theorem comparatorCheckEnd_switching :
    exec (.comparatorCheckEnd (.slot 0) .oc (some 0)) switching = .next fencedInSwitch ∧
      (fencedInSwitch.slot 0).phase = .busy ∧ (fencedInSwitch.slot 0).fencePending = true :=
  ⟨State.gate_open (by decide +kernel), by decide +kernel, by decide +kernel⟩

/-- The answer takes the slot of `fencedInSwitch` down with cause HOST (R305). -/
theorem modeSwitchAnswer_fencedInSwitch :
    ∃ t, exec (.modeSwitchAnswer 0 true [5, 2] 0x9000) fencedInSwitch = .next t ∧
      (t.slot 0).phase = .deactivating ∧ (t.slot 0).cause = .host ∧ (t.slot 0).gal = none :=
  ⟨_, rfl, by decide +kernel, by decide +kernel, by decide +kernel⟩

/-- Refutes O49, in its clause for a good answer: on slot 0 of `fencedInSwitch` the answer lies within what was
proposed, and the pending fence takes the slot down, so it does not stand in GALLOPER. -/
theorem not_galloperSessionsOpenAndTune : ¬ Obligations.GalloperSessionsOpenAndTune := by
  intro h
  obtain ⟨⟨hswitch, -⟩, -⟩ := h
  obtain ⟨hgood, -⟩ :=
    hswitch 0 switchAnswered [] fencedInSwitch (by decide +kernel) (by decide +kernel) rfl
  obtain ⟨t, -, ht, hphase, -⟩ := hgood (14, 4, 0x77) 5 2 rfl rfl (by decide +kernel) (by decide)
  obtain ⟨u, hu, hdown, -⟩ := modeSwitchAnswer_fencedInSwitch
  obtain rfl : t = u := by simpa [switchAnswered] using ht.symm.trans hu
  rw [hphase] at hdown
  exact absurd hdown (by decide)

end Sys2Proof.Machine

namespace Sys2Proof.Machine
open Sys2Proof

/-! # The choice of a slot (R185, R186) -/

/-- On lists of one length the placement's order is the lexicographic order of lists. -/
theorem lexLess_iff_lt {a b : List Nat} (h : a.length = b.length) : lexLess a b = true ↔ a < b := by
  induction a generalizing b with
  | nil => cases b with
    | nil => simp [lexLess]
    | cons y ys => simp at h
  | cons x xs ih => cases b with
    | nil => simp at h
    | cons y ys =>
      have ht := ih (Nat.succ.inj h)
      simp [lexLess, List.cons_lt_cons_iff, ht]

theorem lexLess_rankOf (s : State) (j : Job) (m n : SlotId) :
    lexLess (s.rankOf j m) (s.rankOf j n) = true ↔ s.rankOf j m < s.rankOf j n := lexLess_iff_lt rfl

/-- One slot more is considered: it replaces the best one so far when it comes before it (R186). -/
def State.better (s : State) (j : Job) (best : Option SlotId) (n : SlotId) : Option SlotId :=
  match best with
  | none => some n
  | some m => if lexLess (s.rankOf j n) (s.rankOf j m) then some n else some m

theorem chooseSlot_eq (s : State) (j : Job) :
    s.chooseSlot j = ((List.finRange 64).filter (s.eligible j)).foldl (s.better j) none := by
  unfold State.chooseSlot
  congr 1
  funext best n
  cases best with
  | none => rfl
  | some m => rfl

/-- A best slot of a list: one of it that no slot of it comes before, and none only of the empty list. -/
def State.BestOf (s : State) (j : Job) (l : List SlotId) : Option SlotId → Prop
  | none => l = []
  | some n => n ∈ l ∧ ∀ m ∈ l, s.rankOf j n ≤ s.rankOf j m

theorem better_bestOf {s : State} {j : Job} {l : List SlotId} {best : Option SlotId} (h : s.BestOf j l best)
    (n : SlotId) : s.BestOf j (l ++ [n]) (s.better j best n) := by
  cases best with
  | none =>
    obtain rfl : l = [] := h
    exact ⟨by simp, fun m hm => by simp_all⟩
  | some k =>
    obtain ⟨hk, hmin⟩ := h
    by_cases hlt : s.rankOf j n < s.rankOf j k
    · have hb : s.better j (some k) n = some n := if_pos ((lexLess_rankOf s j n k).2 hlt)
      rw [hb]
      refine ⟨by simp, fun m hm => ?_⟩
      rcases List.mem_append.1 hm with hm | hm
      · exact hlt.le.trans (hmin m hm)
      · rw [List.mem_singleton.1 hm]
    · have hb : s.better j (some k) n = some k := if_neg fun h => hlt ((lexLess_rankOf s j n k).1 h)
      rw [hb]
      refine ⟨List.mem_append_left _ hk, fun m hm => ?_⟩
      rcases List.mem_append.1 hm with hm | hm
      · exact hmin m hm
      · rw [List.mem_singleton.1 hm]; exact not_lt.1 hlt

theorem foldl_better_bestOf (s : State) (j : Job) (l : List SlotId) : s.BestOf j l (l.foldl (s.better j) none) := by
  induction l using List.reverseRecOn with
  | nil => rfl
  | append_singleton l n ih => rw [List.foldl_concat]; exact better_bestOf ih n

theorem chooseSlot_bestOf (s : State) (j : Job) :
    s.BestOf j ((List.finRange 64).filter (s.eligible j)) (s.chooseSlot j) := by
  rw [chooseSlot_eq]; exact foldl_better_bestOf s j _

theorem mem_eligible {s : State} {j : Job} {n : SlotId} :
    n ∈ (List.finRange 64).filter (s.eligible j) ↔ s.eligible j n = true := by simp

/-- Settles O31: the fold keeps the best slot of those it has seen. -/
theorem placementChoosesTheBestSlot : Obligations.PlacementChoosesTheBestSlot := by
  intro s j
  have hbest := chooseSlot_bestOf s j
  refine ⟨fun n hn => ?_, fun hn n => ?_⟩
  · rw [hn] at hbest
    obtain ⟨hmem, hmin⟩ := hbest
    refine ⟨mem_eligible.1 hmem, fun m hm => ?_⟩
    rw [← Bool.not_eq_true, lexLess_rankOf]
    exact not_lt.2 (hmin m (mem_eligible.2 hm))
  · rw [hn] at hbest
    rw [← Bool.not_eq_true, ← mem_eligible, show _ = [] from hbest]
    exact List.not_mem_nil

end Sys2Proof.Machine

namespace Sys2Proof.Machine
open Sys2Proof

/-! # A placement pass (R180, R184 to R190, R192) -/

/-! ## Idle windows (R189, R454) -/

/-- Tightrope's wish for a window on a slot is granted: the slot stands idle, and no queued job would choose it. -/
def State.windowDue (s : State) (wanted : List SlotId) (n : SlotId) : Bool :=
  (s.planOf n).asks && ((s.slot n).phase == .ready || (s.slot n).phase == .galloper) && (s.slot n).job.isNone &&
    (s.slot n).enable && !(s.slot n).fencePending && !wanted.contains n

/-- The slot after its wish was considered. -/
def State.windowed (s : State) (wanted : List SlotId) (n : SlotId) : Slot :=
  { s.slot n with window := (s.slot n).window || s.windowDue wanted n }

/-- One slot's wish is considered. -/
def grantWindow (wanted : List SlotId) (n : SlotId) (s : State) : State :=
  if s.windowDue wanted n then s.updSlot n (fun x => { x with window := true }) else s

theorem grantWindows_eq (s : State) :
    grantWindows s = forEach (List.finRange 64) (grantWindow s.firstChoices) s := rfl

theorem grantWindow_frame (wanted : List SlotId) (n : SlotId) (s : State) :
    grantWindow wanted n s = { s with slots := (grantWindow wanted n s).slots } := by
  unfold grantWindow; split <;> rfl

theorem grantWindow_self (wanted : List SlotId) (n : SlotId) (s : State) :
    (grantWindow wanted n s).slot n = s.windowed wanted n := by
  unfold grantWindow State.windowed
  cases hd : s.windowDue wanted n with
  | true => rw [if_pos rfl, State.updSlot_slot_self, Bool.or_true]
  | false => rw [if_neg Bool.false_ne_true, Bool.or_false]

theorem grantWindow_other (wanted : List SlotId) {n m : SlotId} (s : State) (h : m ≠ n) :
    (grantWindow wanted n s).slot m = s.slot m := by
  unfold grantWindow; split
  · exact State.updSlot_slot_other _ _ _ _ h
  · rfl

theorem grantWindow_windowed_other (wanted : List SlotId) {n m : SlotId} (s : State) (h : m ≠ n) :
    (grantWindow wanted n s).windowed wanted m = s.windowed wanted m := by
  have ht : (grantWindow wanted n s).planOf m = s.planOf m := by rw [grantWindow_frame]; rfl
  simp only [State.windowed, State.windowDue, ht, grantWindow_other wanted s h]

theorem forEach_grantWindow_slot (wanted : List SlotId) {l : List SlotId} (hl : l.Nodup) (n : SlotId) (s : State) :
    (forEach l (grantWindow wanted) s).slot n = if n ∈ l then s.windowed wanted n else s.slot n := by
  induction l generalizing s with
  | nil => simp [forEach]
  | cons a l ih =>
    obtain ⟨ha, hl⟩ := List.nodup_cons.1 hl
    refine (ih hl (grantWindow wanted a s)).trans ?_
    by_cases h : n = a
    · subst h
      rw [if_neg ha, if_pos List.mem_cons_self, grantWindow_self]
    · simp only [grantWindow_windowed_other wanted s h, grantWindow_other wanted s h, List.mem_cons, h, false_or]

theorem grantWindows_slot (s : State) (n : SlotId) :
    (grantWindows s).slot n = s.windowed s.firstChoices n := by
  rw [grantWindows_eq, forEach_grantWindow_slot _ (List.nodup_finRange 64), if_pos (List.mem_finRange n)]

/-- The state without its slots. -/
def State.offSlots (s : State) : State := { s with slots := Vector.replicate 64 Slot.reset }

theorem State.offSlots_eq {s t : State} (h : t.offSlots = s.offSlots) : t = { s with slots := t.slots } :=
  calc t = { t.offSlots with slots := t.slots } := rfl
    _ = { s.offSlots with slots := t.slots } := by rw [h]
    _ = { s with slots := t.slots } := rfl

theorem grantWindows_frame (s : State) : grantWindows s = { s with slots := (grantWindows s).slots } := by
  refine State.offSlots_eq ?_
  rw [grantWindows_eq]
  refine fe_frame State.offSlots _ _ _ fun n t => ?_
  rw [grantWindow_frame]; rfl

theorem grantWindows_jobs (s : State) : (grantWindows s).jobs = s.jobs := by rw [grantWindows_frame]

theorem grantWindows_closing (s : State) : (grantWindows s).closing = s.closing := by rw [grantWindows_frame]

theorem grantWindows_jobEnds {s t : State} {j : Job} {st : CStatus} {err : W16} {r : List Byte}
    (h : s.jobEnds t j st err r) : s.jobEnds (grantWindows t) j st err r := by
  rw [State.jobEnds, State.findJob, grantWindows_jobs, grantWindows_closing]; exact h

/-! ## The claim of a slot (R180, R185, R190, R192) -/

/-- A job as the claim of a slot leaves it: PLACED there under its next generation (R180, R192). -/
structure Job.PlacedOn (j : Job) (n : SlotId) (k : Job) : Prop where
  phase : k.phase = .placed
  slot : k.slot = some n
  lastSlot : k.lastSlot = BitVec.ofNat 8 n.val
  ticket : k.ticket = j.ticket
  lastGen : k.lastGen = k.gen
  gen : k.gen = if j.gen = j.lastGen then j.gen + 1 else j.gen

/-- A slot is claimed for a job: it holds the job without an idle window, and no other slot or completion changed. -/
structure State.Claims (s : State) (j : Job) (n : SlotId) (t : State) : Prop where
  found : ∃ k, t.findJob j.ticket.jobId = some k ∧ j.PlacedOn n k
  closing : t.closing = s.closing
  job : (t.slot n).job = some j.ticket.jobId
  window : (t.slot n).window = false
  others : s.othersKeep t n

section Claims
variable {s t : State} {j : Job} {n : SlotId}

theorem State.Claims.updJob (h : s.Claims j n t) (f : Job → Job) (hf : ∀ k, j.PlacedOn n k → j.PlacedOn n (f k))
    (ht : ∀ k, (f k).ticket = k.ticket) : s.Claims j n (t.updJob j.ticket.jobId f) where
  found := by
    obtain ⟨k, hk, hp⟩ := h.found
    exact ⟨f k, find_updJob t _ f ht k hk, hf k hp⟩
  closing := h.closing
  job := h.job
  window := h.window
  others := h.others

/-- What leaves the jobs, the completions and all but the rest of the claimed slot keeps the claim. -/
theorem State.Claims.step {u : State} (h : s.Claims j n t) (hj : u.jobs = t.jobs) (hc : u.closing = t.closing)
    (hs : (u.slot n).job = (t.slot n).job ∧ (u.slot n).window = (t.slot n).window) (ho : t.othersKeep u n) :
    s.Claims j n u where
  found := by rw [State.findJob, hj]; exact h.found
  closing := hc.trans h.closing
  job := hs.1.trans h.job
  window := hs.2.trans h.window
  others m hm := (ho m hm).trans (h.others m hm)

theorem State.Claims.takeContext (h : s.Claims j n t) (g : JugId) (p : Profile) :
    s.Claims j n (takeContext j.ticket.jobId g p t) := by
  unfold Machine.takeContext
  refine State.Claims.updJob ?_ _ (fun _ hk => { hk with }) (fun _ => rfl)
  exact h.step rfl rfl ⟨rfl, rfl⟩ (fun _ _ => rfl)

theorem joinQueue_step (k : CardClass) (t : State) :
    (joinQueue n k t).jobs = t.jobs ∧ (joinQueue n k t).closing = t.closing ∧
    (((joinQueue n k t).slot n).job = (t.slot n).job ∧ ((joinQueue n k t).slot n).window = (t.slot n).window) ∧
    t.othersKeep (joinQueue n k t) n := by
  simp only [joinQueue]
  split <;>
    exact ⟨rfl, rfl, by rw [State.updSlot_slot_self]; exact ⟨rfl, rfl⟩,
      fun m hm => State.updSlot_slot_other _ _ _ _ hm⟩

theorem State.Claims.requestActivation (h : s.Claims j n t) : s.Claims j n (requestActivation n t) := by
  unfold Machine.requestActivation
  split
  next k _ =>
    split
    · obtain ⟨hj, hc, hs, ho⟩ := joinQueue_step (n := n) k
        (t.updSlot n (fun x => { x with activations := x.activations + 1 }))
      refine State.Claims.step (h.step (u := t.updSlot n _) rfl rfl ?_ ?_) hj hc hs ho
      · rw [State.updSlot_slot_self]; exact ⟨rfl, rfl⟩
      · exact fun m hm => State.updSlot_slot_other _ _ _ _ hm
    · exact h
  · exact h

theorem State.Claims.wantActivation (h : s.Claims j n t) : s.Claims j n (wantActivation n t) := by
  obtain ⟨k, hk, hp⟩ := h.found
  have hh : t.holder n = some k := by rw [State.holder, h.job, Option.bind_some, hk]
  simp only [Machine.wantActivation, hh, hp.ticket]
  split
  · exact h.requestActivation.updJob _ (fun _ hk => { hk with }) (fun _ => rfl)
  · exact h

end Claims

/-- The job's profile, for a job that runs one (R197). -/
def State.profileOf (s : State) (j : Job) : Option Profile :=
  if j.ticket.runsProfile then s.profile j.ticket.profileId else none

/-- The job as the claim writes it (R180, R192). -/
def State.placedJob (s : State) (j : Job) (n : SlotId) (k : Job) : Job :=
  let gen := if j.gen == j.lastGen then j.gen + 1 else j.gen
  { k with phase := .placed, slot := some n, lastSlot := BitVec.ofNat 8 n.val, gen := gen, lastGen := gen,
           pair := s.choosePair, run := (s.profileOf j).map newRun }

theorem placedJob_placedOn (s : State) (j : Job) (n : SlotId) : j.PlacedOn n (s.placedJob j n j) :=
  ⟨rfl, rfl, rfl, rfl, rfl, by simp only [State.placedJob, beq_iff_eq]⟩

/-- The job and the slot as the claim writes them (R180, R192, R242). -/
def State.claimed (s : State) (j : Job) (n : SlotId) : State :=
  let keep := s.recordCurrent n j.ticket.recordId || j.ticket.recordId == 0
  (s.updJob j.ticket.jobId (s.placedJob j n)).updSlot n (fun x =>
    { x with job := some j.ticket.jobId, window := false, record := if keep then x.record else none })

/-- A profile that needs a context takes one of a Juggler (R211). -/
def withContext (id : JobId) (prof : Option Profile) (s : State) : State :=
  match prof with
  | some p =>
    if p.needsContext then
      match s.chooseJuggler (p.keys.getD 0 0) with
      | some g => takeContext id g p s
      | none => s
    else s
  | none => s

/-- The claimed slot is fed, or asks for power (R47, R190). -/
def askForCard (j : Job) (n : SlotId) (s : State) : State :=
  if j.ticket.feed then
    stationCommand n false 0 j.ticket.jobId
      (s.updSlot n (fun x => { x with feed := some (j.ticket.jobId, s.regs.time) }))
  else wantActivation n s

theorem placeJob_eq {j : Job} {s : State} (h : s.findJob j.ticket.jobId = some j) (n : SlotId) :
    placeJob j.ticket.jobId n s =
      askForCard j n (withContext j.ticket.jobId (s.profileOf j) (s.claimed j n)) := by
  simp only [placeJob, h]; rfl

theorem claimed_claims {j : Job} {s : State} (h : s.findJob j.ticket.jobId = some j) (n : SlotId) :
    s.Claims j n (s.claimed j n) where
  found := ⟨_, find_updJob s _ (s.placedJob j n) (fun _ => rfl) j h, placedJob_placedOn s j n⟩
  closing := rfl
  job := by rw [State.claimed, State.updSlot_slot_self]
  window := by rw [State.claimed, State.updSlot_slot_self]
  others m hm := State.updSlot_slot_other _ _ _ _ hm

theorem State.Claims.withContext {s t : State} {j : Job} {n : SlotId} (h : s.Claims j n t) (prof : Option Profile) :
    s.Claims j n (withContext j.ticket.jobId prof t) := by
  unfold Machine.withContext
  split
  · split
    · split
      · exact h.takeContext _ _
      · exact h
    · exact h
  · exact h

theorem State.Claims.askForCard {s t : State} {j : Job} {n : SlotId} (h : s.Claims j n t) :
    s.Claims j n (askForCard j n t) := by
  unfold Machine.askForCard
  split
  · have hu : s.Claims j n (t.updSlot n (fun x => { x with feed := some (j.ticket.jobId, t.regs.time) })) :=
      h.step rfl rfl (by rw [State.updSlot_slot_self]; exact ⟨rfl, rfl⟩)
        (fun m hm => State.updSlot_slot_other _ _ _ _ hm)
    have ha := stationCommand_actsOn n false 0 j.ticket.jobId
      (t.updSlot n (fun x => { x with feed := some (j.ticket.jobId, t.regs.time) }))
    exact hu.step ha.jobs ha.closing (by rw [stationCommand_slot]; exact ⟨rfl, rfl⟩) ha.others
  · exact h.wantActivation

theorem placeJob_claims {j : Job} {s : State} (h : s.findJob j.ticket.jobId = some j) (n : SlotId) :
    s.Claims j n (placeJob j.ticket.jobId n s) := by
  rw [placeJob_eq h]
  exact ((claimed_claims h n).withContext _).askForCard

/-- Idle windows leave a claim as it is: a slot that holds a job is granted none. -/
theorem grantWindows_claimed {s t : State} {j : Job} {n : SlotId} (h : s.Claims j n t) :
    ((grantWindows t).slot n).job = some j.ticket.jobId ∧ ((grantWindows t).slot n).window = false ∧
    ∀ m, m ≠ n → (grantWindows t).slot m = { s.slot m with window := ((grantWindows t).slot m).window } := by
  simp only [grantWindows_slot]
  refine ⟨h.job, ?_, fun m hm => ?_⟩
  · simp [State.windowed, State.windowDue, h.window, h.job]
  · rw [State.windowed, h.others m hm]

/-! ## The pass -/

theorem exec_placementPass {s : State} (h : s.placing = true) : exec .placementPass s =
    .next (grantWindows (forEach (s.queuedJobs.map (·.ticket.jobId)) considerJob s)) :=
  show execPlacementPass s = _ from State.gate_open h

theorem exec_placementPass_one {s : State} (h : s.placing = true) {j : Job} (hq : s.queuedJobs = [j]) :
    exec .placementPass s = .next (grantWindows (considerJob j.ticket.jobId s)) := by
  rw [exec_placementPass h, hq]; rfl

section Consider
variable {s : State} {j : Job} (h : s.findJob j.ticket.jobId = some j)
include h

theorem considerJob_late (hd : s.deadlinePassed j = true) :
    considerJob j.ticket.jobId s = endJob j.ticket.jobId .cancelled 0x0209 s := by
  simp only [considerJob, h, hd, if_true]

variable (hd : s.deadlinePassed j = false)
include hd

theorem considerJob_hopeless {e : W16} (he : s.hopeless j = some e) :
    considerJob j.ticket.jobId s = endJob j.ticket.jobId .failed e s := by
  simp only [considerJob, h, hd, he, Bool.false_eq_true, if_false]; rfl

variable (he : s.hopeless j = none)
include he

theorem considerJob_waits (hw : s.mustWait j = true ∨ s.chooseSlot j = none) : considerJob j.ticket.jobId s = s := by
  simp only [considerJob, h, hd, he, Bool.false_eq_true, if_false]
  rcases hw with hw | hw
  · rw [if_pos hw]
  · simp only [hw, ite_self]

theorem considerJob_places (hw : s.mustWait j = false) {n : SlotId} (hn : s.chooseSlot j = some n) :
    considerJob j.ticket.jobId s = placeJob j.ticket.jobId n s := by
  simp only [considerJob, h, hd, he, hw, hn, Bool.false_eq_true, if_false]

end Consider

/-- Settles O32: `considerJob` by its outcomes, the claim through `placeJob_claims`, the windows slot by slot. -/
theorem placementPassesClaimWaitOrEnd : Obligations.PlacementPassesClaimWaitOrEnd := by
  intro s hs
  refine ⟨fun hq => ?_, fun j hq h => ⟨fun hd => ?_, fun e hd he => ?_, fun hd he hw => ?_, fun n hd he hw hn => ?_⟩⟩
  · have hx : exec .placementPass s = .next (grantWindows s) := by rw [exec_placementPass hs, hq]; rfl
    refine ⟨_, hx, grantWindows_frame s, fun n => ?_⟩
    rw [grantWindows_slot]
    simp [State.windowed, State.windowDue, State.firstChoices, hq]
  all_goals rw [exec_placementPass_one hs hq]
  · rw [considerJob_late h hd]
    exact ⟨_, rfl, grantWindows_jobEnds (endJobAfter_jobEnds 0 _ _ h (.inl (by decide)))⟩
  · rw [considerJob_hopeless h hd he]
    exact ⟨_, rfl, grantWindows_jobEnds (endJobAfter_jobEnds 0 _ _ h (.inl (by decide)))⟩
  · rw [considerJob_waits h hd he hw]
    exact ⟨_, rfl, grantWindows_frame s⟩
  · rw [considerJob_places h hd he hw hn]
    have hc := placeJob_claims h n
    obtain ⟨hjob, hwin, hother⟩ := grantWindows_claimed hc
    obtain ⟨⟨k, hk, hp⟩, hclosing, -⟩ := hc
    refine ⟨_, k, rfl, ?_, hp.phase, hp.slot, hp.lastSlot, hp.ticket, hp.lastGen, hp.gen, ?_, hjob, hwin, hother⟩
    · rw [State.findJob, grantWindows_jobs]; exact hk
    · rw [grantWindows_closing]; exact hclosing

end Sys2Proof.Machine

namespace Sys2Proof.Machine
open Sys2Proof

/-! # Register accesses of the host (R164, R282, R313, R341, R343, R351 to R353, R359) -/

/-- What a masked write leaves in the writable bits, and in the others. -/
theorem maskWrite_writes (m old v : W32) : maskWrite m old v &&& m = v &&& m := by
  simp only [maskWrite]
  ext i hi
  simp only [BitVec.getElem_and, BitVec.getElem_or, BitVec.getElem_not]
  cases m[i] <;> simp

theorem maskWrite_keeps (m old v : W32) : maskWrite m old v &&& ~~~m = old &&& ~~~m := by
  simp only [maskWrite]
  ext i hi
  simp only [BitVec.getElem_and, BitVec.getElem_or, BitVec.getElem_not]
  cases m[i] <;> simp

theorem recomputeBounds_go_requests (s : State) (ahead l : List Request) :
    (recomputeBounds.go s ahead l).map (fun q => (q.slot, q.cls)) = l.map (fun q => (q.slot, q.cls)) := by
  induction l generalizing ahead with
  | nil => rfl
  | cons q qs ih => simp only [recomputeBounds.go, List.map_cons, ih]

theorem recomputeBounds_requests (s : State) :
    (recomputeBounds s).requests.map (fun q => (q.slot, q.cls)) = s.requests.map (fun q => (q.slot, q.cls)) :=
  recomputeBounds_go_requests s [] s.requests

theorem sendVector_frame (n : Nat) (s : State) :
    sendVector n s = { s with regs.msixPending := (sendVector n s).regs.msixPending, out := (sendVector n s).out } := by
  unfold sendVector; split <;> rfl

/-- The state without what unmasked interrupts write: the MSI-X pending bits and what leaves the device. -/
def State.offVectors (s : State) : State := { s with regs.msixPending := 0, out := [] }

theorem State.offVectors_eq {s t : State} (h : t.offVectors = s.offVectors) :
    t = { s with regs.msixPending := t.regs.msixPending, out := t.out } :=
  calc t = { t.offVectors with regs.msixPending := t.regs.msixPending, out := t.out } := rfl
    _ = { s.offVectors with regs.msixPending := t.regs.msixPending, out := t.out } := by rw [h]
    _ = { s with regs.msixPending := t.regs.msixPending, out := t.out } := rfl

theorem sendVector_offVectors (n : Nat) (s : State) : (sendVector n s).offVectors = s.offVectors := by
  rw [sendVector_frame]; rfl

section HostAccess
variable {s : State} (h : s.hostReach)
include h

theorem exec_tbTailWrite_stored {v : W32} (hv : v.toNat < s.regs.tbSize.toNat) : exec (.tbTailWrite v) s =
    .next { s with regs.tbTail := v, regs.fetchStalled := false, regs.fetchFails := 0 } :=
  show execTbTailWrite v s = _ from (State.hostWrite_open h).trans (by rw [if_pos hv])

theorem exec_tbTailWrite_bad {v : W32} (hv : s.regs.tbSize.toNat ≤ v.toNat) :
    exec (.tbTailWrite v) s = .next (raise 0x0201 none v.toNat s) :=
  show execTbTailWrite v s = _ from (State.hostWrite_open h).trans (by rw [if_neg (Nat.not_lt.2 hv)])

theorem exec_cqHeadWrite (v : W32) : exec (.cqHeadWrite v) s =
    .next (if headOk v s.regs.cqHead s.regs.cqTail s.regs.cqSize then { s with regs.cqHead := v }
      else raise 0x0202 none v.toNat s) :=
  show execCqHeadWrite v s = _ from State.hostWrite_open h

theorem exec_eqHeadWrite (v : W32) : exec (.eqHeadWrite v) s =
    .next (if headOk v s.regs.eqHead s.regs.eqTail s.regs.eqSize then writeOverflow { s with regs.eqHead := v }
      else raise 0x0203 none v.toNat s) :=
  show execEqHeadWrite v s = _ from State.hostWrite_open h

theorem exec_irqMaskWrite (v : W32) : ∃ t, exec (.irqMaskWrite v) s = .next t ∧
    t = { s with regs.irqMask := v, regs.msixPending := t.regs.msixPending, out := t.out } := by
  refine ⟨_, show execIrqMaskWrite v s = _ from State.hostWrite_open h,
    State.offVectors_eq (s := { s with regs.irqMask := v }) ?_⟩
  refine fe_frame State.offVectors _ _ _ fun n u => ?_
  split
  · exact sendVector_offVectors n u
  · rfl

theorem exec_schedPolicyWrite (v : W32) (hc : s.deviceCheckRuns = false) : exec (.registerWrite 0x088 v) s =
    .next { s with regs.schedPolicy := maskWrite schedPolicyWritable s.regs.schedPolicy v } :=
  show execRegisterWrite 0x088 v s = _ from (State.hostWrite_open h).trans
    (congrArg Host.Outcome.next (if_neg (by rw [hc]; exact Bool.false_ne_true)))

theorem exec_powerBudgetWrite (v : W32) (hc : s.checkRunning = false) (hb : s.regs.enable = false ∨ budgetOk v = true) :
    exec (.powerBudgetWrite v) s = .next (recomputeBounds
      { s with regs.powerBudget := maskWrite powerBudgetWritable s.regs.powerBudget v }) := by
  refine show execPowerBudgetWrite v s = _ from (State.hostWrite_open h).trans ?_
  rw [if_neg (by simp [hc]), if_neg (by rcases hb with hb | hb <;> simp [hb])]

end HostAccess

/-- Settles O13: each access through its register's own rule. -/
theorem registerAccessesAreJudged : Obligations.RegisterAccessesAreJudged := by
  refine ⟨fun v s h => ⟨exec_tbTailWrite_stored h, exec_tbTailWrite_bad h, fun ho => ?_, fun ho => ?_, fun ho => ?_,
    fun ho => ?_⟩, fun s h => ⟨fun p => show execGctrlPause p s = _ from State.hostWrite_open h,
    fun v => show execIrqStatusWrite v s = _ from State.hostWrite_open h, exec_irqMaskWrite h,
    show execErrFirstClear s = _ from State.hostWrite_open h, show execViolClear s = _ from State.hostWrite_open h,
    fun v => show execMboxToSbWrite v s = _ from State.hostWrite_open h,
    show execMboxFromSbRead s = _ from State.hostRead_open h,
    show execPairLowRead .time s = _ from State.hostRead_open h,
    show execPairLowRead .present s = _ from State.hostRead_open h,
    show execPairLowRead .fenced s = _ from State.hostRead_open h, fun v hc => ?_,
    fun v hc hb => ?_⟩⟩
  · rw [exec_cqHeadWrite h, if_pos ho]
  · rw [exec_cqHeadWrite h, if_neg (by simp [ho])]
  · refine ⟨_, (exec_eqHeadWrite h v).trans (by rw [if_pos ho]), ?_, writeOverflow_frame _⟩
    rw [writeOverflow_frame]
  · rw [exec_eqHeadWrite h, if_neg (by simp [ho])]
  · exact ⟨_, exec_schedPolicyWrite h v hc, rfl, maskWrite_writes _ _ v, maskWrite_keeps _ _ v⟩
  · exact ⟨_, exec_powerBudgetWrite h v hc hb, rfl, maskWrite_writes _ _ v, maskWrite_keeps _ _ v,
      recomputeBounds_requests _⟩

end Sys2Proof.Machine

namespace Sys2Proof.Machine
open Sys2Proof

/-! # CANCEL, UNIT_CLEAR and unreadable parameters (R172, R180, R323, R363, R417, R448) -/

/-! ## The end of a job that holds no slot -/

theorem find_filter_other (l : List Job) {a b : JobId} (h : a ≠ b) :
    (l.filter (fun k => k.ticket.jobId != a)).find? (fun j => j.ticket.jobId == b) =
      l.find? (fun j => j.ticket.jobId == b) := by
  rw [List.find?_filter]
  congr 1
  funext k
  by_cases hk : k.ticket.jobId = b <;> simp [hk, h.symm]

/-- The end of one job leaves every other job as it was. -/
theorem endJobAfter_findJob_other (b : Nat) (st : CStatus) (err : W16) {id : JobId} {j : Job} {s : State}
    (h : s.findJob id = some j) {other : JobId} (hne : id ≠ other) :
    (endJobAfter b id st err s).findJob other = s.findJob other := by
  obtain ⟨hj, -, -⟩ := endJobAfter_closes b st err h
  rw [State.findJob, hj]; exact find_filter_other _ hne

theorem endJobAfter_slots_none (b : Nat) (st : CStatus) (err : W16) {id : JobId} {j : Job} {s : State}
    (h : s.findJob id = some j) (hs : j.slot = none) : (endJobAfter b id st err s).slots = s.slots := by
  obtain ⟨u, hu, hk⟩ := endJobAfter_frees b st err h
  rw [hu, freeSlot_none hs, State.offBooks_slots hk]; rfl

/-- What the end of a job says of the state before it depends on the completions there, and on the job's ticket and
result. -/
theorem jobEnds_same {s v t : State} {j k : Job} {st : CStatus} {err : W16} (hc : v.closing = s.closing)
    (ht : k.ticket = j.ticket) (hr : k.result = j.result) (h : v.jobEnds t k st err k.result) :
    s.jobEnds t j st err j.result := by
  simpa only [State.jobEnds, hc, ht, hr] using h

theorem updJob_findJob_none {s : State} {id other : JobId} (f : Job → Job) (hf : ∀ j, (f j).ticket = j.ticket)
    (h : s.findJob other = none) : (s.updJob id f).findJob other = none := by
  simp only [State.findJob, State.updJob, List.find?_eq_none, List.mem_map, forall_exists_index, and_imp,
    forall_apply_eq_imp_iff₂] at h ⊢
  intro j hj
  split
  · rw [hf]; exact h j hj
  · exact h j hj

theorem runnable_slot {s : State} {id : JobId} {type op : Nat} {j : Job} (h : s.runnable id type op j) :
    j.slot = none := by
  obtain ⟨-, -, hs, -⟩ := h; exact hs

/-! ## CANCEL -/

section Cancel
variable {id : JobId} {j k : Job} {s : State} (h : s.runnable id 6 1 j)
include h

theorem exec_cancel : exec (.cancel id) s = .next (cancelTarget j s) :=
  show execCancel id s = _ from runnable_open h

theorem cancelTarget_unknown (hk : s.findJob j.ticket.arg = none) :
    cancelTarget j s = endJob id .failed 0x0210 s := by
  simp only [cancelTarget, hk, jobid_of h, Option.filter_none]; rfl

variable (hne : j.ticket.arg ≠ id) (hk : s.findJob j.ticket.arg = some k)
include hne hk

omit h in
theorem cancelTarget_target :
    (s.findJob j.ticket.arg).filter (fun k => k.ticket.jobId != id) = some k := by
  rw [hk, Option.filter_some, if_pos (by simpa [find_id hk] using hne)]

theorem cancelTarget_queued (hp : k.phase = .queued) :
    cancelTarget j s = doneWith id [] (endJob j.ticket.arg .cancelled 0x020A s) := by
  simp only [cancelTarget, jobid_of h, cancelTarget_target hne hk, hp, find_id hk]

theorem cancelTarget_tooLate (hp : k.phase = .started) (hn : k.ticket.nonIdempotent = true) :
    cancelTarget j s = endJob id .failed 0x020F s := by
  simp only [cancelTarget, jobid_of h, cancelTarget_target hne hk, hp, hn, Bool.true_or, if_true]; rfl

/-- The target's completion is followed by the CANCEL's own. -/
theorem cancelTarget_queued_ends (hp : k.phase = .queued) (hs : k.slot = none) :
    ∃ c d, (cancelTarget j s).closing = s.closing ++ [c, d] ∧ c.jobId = j.ticket.arg ∧
      c.status = .cancelled ∧ c.error = 0x020A ∧ d.jobId = id ∧ d.status = .done ∧
      (cancelTarget j s).findJob id = none ∧ (cancelTarget j s).findJob j.ticket.arg = none ∧
      (cancelTarget j s).slots = s.slots := by
  let u := endJob j.ticket.arg .cancelled 0x020A s
  have hnone : j.slot = none := runnable_slot h
  obtain ⟨-, hcu, -⟩ := endJobAfter_closes 0 .cancelled 0x020A hk
  have hju : u.findJob id = some j :=
    (endJobAfter_findJob_other 0 .cancelled 0x020A hk hne).trans (runnable_find h)
  obtain ⟨hgone, -⟩ := endJobAfter_jobEnds 0 .cancelled 0x020A hk (.inl (by decide))
  have hj' := find_updJob u id (fun j => { j with result := [] }) (fun _ => rfl) j hju
  obtain ⟨-, hc, -⟩ := endJobAfter_closes 0 .done 0 hj'
  obtain ⟨hdone, -⟩ := endJobAfter_jobEnds 0 .done 0 hj' (.inr rfl)
  rw [cancelTarget_queued h hne hk hp]
  refine ⟨_, _, hc.trans ((congrArg (· ++ _) hcu).trans (List.append_assoc _ _ _)), find_id hk, rfl, rfl, find_id hj',
    rfl, ?_, ?_, ?_⟩
  · rw [jobid_of h] at hdone; exact hdone
  · refine (endJobAfter_findJob_other 0 .done 0 hj' hne.symm).trans (updJob_findJob_none _ (fun _ => rfl) ?_)
    rw [find_id hk] at hgone; exact hgone
  · exact (endJobAfter_slots_none 0 .done 0 hj' hnone).trans (endJobAfter_slots_none 0 _ _ hk hs)

end Cancel

/-! ## UNIT_CLEAR -/

/-- The state without its slots, its rings, the leading pair and the event queue. -/
def State.offUnits (s : State) : State :=
  { s with slots := Vector.replicate 64 Slot.reset, rings := Vector.replicate 8 Ring.reset, faults.leader := none,
           barker := Barker.reset }

theorem restoreSlot_offUnits (n : SlotId) (s : State) : (restoreSlot n s).offUnits = s.offUnits := rfl

theorem handOver_offUnits (s : State) : (handOver s).offUnits = s.offUnits := by
  simp only [handOver]; split
  · rfl
  · split <;> rfl

theorem startConverter_offUnits (r : RingId) (s : State) : (startConverter r s).offUnits = s.offUnits :=
  startConverter_rest State.offUnits (fun _ _ => rfl) r s

/-- What belongs to the unit itself comes back with it (R448). -/
def reviveUnit (u : UnitRef) (s : State) : State :=
  match u with
  | .slot n => restoreSlot n s
  | .ring r =>
    startConverter r (forEach (ringSlots r) (fun n s => if (s.slot n).fenceSrc == .ring then restoreSlot n s else s)
      (s.updRing r (fun x => { x with fenced := false, stopWhenOff := false })))
  | .pair _ => handOver s
  | _ => s

theorem reviveUnit_offUnits (u : UnitRef) (s : State) : (reviveUnit u s).offUnits = s.offUnits := by
  unfold reviveUnit
  split
  · exact restoreSlot_offUnits _ s
  · refine (startConverter_offUnits _ _).trans ((fe_frame State.offUnits _ _ _ fun n t => ?_).trans rfl)
    split
    · exact restoreSlot_offUnits n t
    · rfl
  · exact handOver_offUnits s
  · rfl

/-- The unit as it is listed in service, its recoveries forgotten (R439, R448). -/
def State.backInService (s : State) (u : UnitRef) : State :=
  setUnit u .service (s.unitCause u) { s with standby.recov := s.standby.recov.filter (fun e => e.1 != u) }

theorem restoreUnit_eq (u : UnitRef) (s : State) : restoreUnit u s =
    askBarrier .unitRights (raise 0x0F03 none (u.kind + u.index * 2 ^ 4) (reviveUnit u (s.backInService u))) := by
  cases u <;> rfl

/-- A unit returned to service (R363, R417, R437, R448). -/
structure State.Restores (s : State) (u : UnitRef) (t : State) : Prop where
  jobs : t.jobs = s.jobs
  closing : t.closing = s.closing
  barrier : t.regs.barrier = s.regs.barrier ++ [.unitRights]
  phase : t.unitPhase u = .service
  recov : t.recovCount u = 0
  event : ∃ e ∈ t.barker.queue, e.code = 0x0F03

theorem restoreUnit_restores (u : UnitRef) (s : State) : s.Restores u (restoreUnit u s) := by
  have hk := reviveUnit_offUnits u (s.backInService u)
  rw [restoreUnit_eq]
  generalize reviveUnit u (s.backInService u) = v at hk
  have hjobs : v.jobs = s.jobs := by have := congrArg State.jobs hk; exact this
  have hclosing : v.closing = s.closing := by have := congrArg State.closing hk; exact this
  have hregs : v.regs = s.regs := by have := congrArg State.regs hk; exact this
  have hunits : v.faults.units = (s.backInService u).faults.units := by
    have := congrArg (fun t : State => t.faults.units) hk; exact this
  have hrecov : v.standby.recov = s.standby.recov.filter (fun e => e.1 != u) := by
    have := congrArg (fun t : State => t.standby.recov) hk; exact this
  refine ⟨hjobs, hclosing, by rw [← hregs]; rfl, ?_, ?_, _, List.mem_append_right _ (List.mem_singleton_self _), rfl⟩
  · show v.unitPhase u = _
    simp [State.unitPhase, hunits, State.backInService, setUnit]
  · show v.recovCount u = _
    have hnone : v.standby.recov.find? (fun e => e.1 == u) = none := by
      rw [hrecov, List.find?_eq_none]; intro e he; simpa using (List.mem_filter.1 he).2
    simp only [State.recovCount, hnone]

theorem noteNoise_queue (j : Job) (s : State) : s.barker.queue ⊆ (noteNoise j s).barker.queue := by
  simp only [noteNoise, onlyIf]; split
  · exact List.subset_append_left _ _
  · exact List.Subset.refl _

section UnitClear
variable {id : JobId} {j : Job} {u : UnitRef} {s : State} (h : s.runnable id 6 0x20 j)
  (hu : unitOf (field j.ticket.arg 0 4) (field j.ticket.arg 4 8) = some u)
include h hu

theorem exec_unitClear_tamper (f : Option W16) (ht : s.tamperFence u = true) :
    exec (.unitClear id f) s = .next (endJob id .failed 0x0B09 s) := by
  refine show execUnitClear id f s = _ from (runnable_open h).trans ?_
  simp only [unitClear, hu, ht, if_true, jobid_of h]; rfl

variable (ht : s.tamperFence u = false) (hf : s.unitFenced u = true)
include ht hf

theorem exec_unitClear_failed (code : W16) :
    exec (.unitClear id (some code)) s = .next (endJob id .failed code s) := by
  refine show execUnitClear id (some code) s = _ from (runnable_open h).trans ?_
  simp only [unitClear, hu, ht, hf, Bool.not_true, Bool.false_eq_true, if_false, jobid_of h]; rfl

theorem exec_unitClear_passed :
    exec (.unitClear id none) s = .next (finishAfterBarrier id .done 0 (restoreUnit u s)) := by
  refine show execUnitClear id none s = _ from (runnable_open h).trans ?_
  simp only [unitClear, hu, ht, hf, Bool.not_true, Bool.false_eq_true, if_false, jobid_of h]

end UnitClear

/-- A ticket that completes after the barriers: its completion names them, and the rest stands as the rule change
left it (R363). -/
theorem finishAfterBarrier_restored {id : JobId} {j : Job} {u : UnitRef} {type op : Nat} {s w : State}
    (h : s.runnable id type op j) (hw : s.Restores u w) :
    s.jobEnds (finishAfterBarrier id .done 0 w) j .done 0 j.result ∧
    (finishAfterBarrier id .done 0 w).unitPhase u = .service ∧
    (finishAfterBarrier id .done 0 w).recovCount u = 0 ∧
    (finishAfterBarrier id .done 0 w).regs.barrier = s.regs.barrier ++ [.unitRights] ∧
    (∃ e ∈ (finishAfterBarrier id .done 0 w).barker.queue, e.code = 0x0F03) ∧
    ((finishAfterBarrier id .done 0 w).closing.getLast?).map (·.barriers) = some (s.regs.barrier.length + 1) := by
  have hj : w.findJob id = some j := by rw [State.findJob, hw.jobs]; exact runnable_find h
  obtain ⟨-, -, hslot, hrun, hjug, hcounter⟩ := h
  have hends := endJobAfter_jobEnds w.regs.barrier.length .done 0 hj (.inr rfl)
  have hfree : finishAfterBarrier id .done 0 w = _ :=
    endJob_free w.regs.barrier.length id .done 0 w j hj hslot hrun hjug hcounter
  refine ⟨jobEnds_same hw.closing rfl rfl hends, ?_⟩
  rw [hfree]
  obtain ⟨e, he, hcode⟩ := hw.event
  refine ⟨hw.phase, hw.recov, hw.barrier, ⟨e, noteNoise_queue j w he, hcode⟩, ?_⟩
  simp [closingOf, hw.barrier]

/-! ## Parameter data that cannot be read -/

theorem exec_paramReadFail {id : JobId} {j : Job} {s : State} (got : List Byte) (hb : s.booted = true)
    (h : s.findJob id = some j) (hl : j.ticket.paramLen ≠ 0) (hp : j.phase = .queued)
    (ht : ¬ (j.ticket.type = 4 ∧ j.ticket.op = 2)) :
    exec (.paramReadFail id got) s = .next (endJob id .failed 0x0A02 s) := by
  simp only [exec, execParamReadFail, h]
  refine (State.gate_open (by rw [hb, bne_iff_ne.2 hl, hp]; rfl)).trans ?_
  rw [if_neg (by simp only [Bool.and_eq_true, beq_iff_eq]; exact fun hto => ht hto.1)]; rfl

/-- Settles O29: CANCEL by its target's phase, UNIT_CLEAR through `restoreUnit`, the failed read as the end of a job
that holds no slot. -/
theorem toolTicketsActOnJobsAndUnits : Obligations.ToolTicketsActOnJobsAndUnits := by
  refine ⟨fun id j s h hne => ⟨fun k hk hp hs _ => ?_, fun hk => ?_, fun k hk hp hn => ?_⟩,
    fun id j u s h hu => ⟨fun ht hf => ⟨?_, fun code => ?_⟩, fun ht f => ?_⟩,
    fun id got j s hb h hl hp hs hr hg hc ht => ?_⟩
  · obtain ⟨c, d, hcd⟩ := cancelTarget_queued_ends h hne hk hp hs
    exact ⟨_, c, d, exec_cancel h, hcd⟩
  · refine ⟨_, exec_cancel h, ?_⟩
    rw [cancelTarget_unknown h hk]; exact (runnable_fail h _).1
  · refine ⟨_, exec_cancel h, ?_⟩
    rw [cancelTarget_tooLate h hne hk hp hn]
    exact ⟨(runnable_fail h _).1,
      (endJobAfter_findJob_other 0 .failed 0x020F (runnable_find h) hne.symm).trans hk,
      endJobAfter_slots_none 0 .failed 0x020F (runnable_find h) (runnable_slot h)⟩
  · exact ⟨_, exec_unitClear_passed h hu ht hf, finishAfterBarrier_restored h (restoreUnit_restores u s)⟩
  · obtain ⟨hends, hframe⟩ := runnable_fail h code
    refine ⟨_, exec_unitClear_failed h hu ht hf code, hends, ?_⟩
    rw [hframe]
    exact ⟨hf, rfl⟩
  · exact ⟨_, exec_unitClear_tamper h hu f ht, (runnable_fail h _).1,
      endJobAfter_slots_none 0 .failed 0x0B09 (runnable_find h) (runnable_slot h)⟩
  · exact ⟨_, exec_paramReadFail got hb h hl hp ht, fail_free id 0x0A02 s j h hs hr hg hc .failed (.inl (by decide))⟩

end Sys2Proof.Machine

namespace Sys2Proof.Machine
open Sys2Proof

/-! # SC_OPEN and the record prefetch (R192, R215, R241, R242, R244) -/

theorem padTo_length (n : Nat) (bs : List Byte) : (padTo n bs).length = n := by
  simp only [padTo, List.length_take, List.length_append, List.length_replicate]; omega

theorem updRun_found {id : JobId} {k : Job} {s : State} (h : s.findJob id = some k) (f : Run → Run) :
    (updRun id f s).findJob id = some { k with run := k.run.map f } :=
  find_updJob s id (fun j => { j with run := j.run.map f }) (fun _ => rfl) k h

/-! ## The link of a slot that no job holds -/

/-- The jobs and completions stand, and the slot holds no job. -/
structure State.Unheld (s : State) (n : SlotId) (t : State) : Prop where
  jobs : t.jobs = s.jobs
  closing : t.closing = s.closing
  job : (t.slot n).job = none

section Unheld
variable {s t u : State} {n : SlotId}

theorem State.Unheld.actsOn (h : s.Unheld n t) (ha : t.ActsOn n u) : s.Unheld n u :=
  ⟨ha.jobs.trans h.jobs, ha.closing.trans h.closing, ha.job h.job⟩

theorem State.Unheld.linkActs (h : s.Unheld n t) (hl : t.LinkActs n u) : s.Unheld n u := by
  have hf := State.offLink_eq hl.frame
  refine ⟨?_, ?_, hl.job.trans h.job⟩
  · rw [hf]; exact h.jobs
  · rw [hf]; exact h.closing

theorem State.Unheld.updSlot (h : s.Unheld n t) (f : Slot → Slot) (hf : ∀ x, (f x).job = x.job) :
    s.Unheld n (t.updSlot n f) :=
  ⟨h.jobs, h.closing, by rw [State.updSlot_slot_self, hf]; exact h.job⟩

theorem State.Unheld.endExch (h : s.Unheld n t) (st : ExchStatus) (sw : W16) (resp : List Byte) :
    s.Unheld n (endExch n st sw resp t) := by
  unfold Machine.endExch; split
  · exact h
  · exact h.updSlot _ (fun _ => rfl)

theorem State.Unheld.sendChars (h : s.Unheld n t) (bs : List Byte) : s.Unheld n (sendChars n bs t) :=
  ⟨h.jobs, h.closing, h.job⟩

theorem State.Unheld.sendIBlock (h : s.Unheld n t) : s.Unheld n (sendIBlock n t) := by
  simp only [Machine.sendIBlock]; split
  · exact h
  · refine State.Unheld.sendChars (State.Unheld.updSlot (State.Unheld.updSlot h _ ?_) _ ?_) _ <;> exact fun _ => rfl

theorem State.Unheld.startExch (h : s.Unheld n t) (kind : ExchKind) (job : JobId) (gen : W16) (step : Nat)
    (apdu : List Byte) (respMax : Nat) : s.Unheld n (startExch n kind job gen step apdu respMax t) := by
  rw [startExch_eq]
  have hu : s.Unheld n (exchBegun n (newExch kind job gen step apdu respMax) t) := h.updSlot _ (fun _ => rfl)
  dsimp only
  split
  · exact hu.sendIBlock
  · split
    · exact hu.endExch _ _ _
    · exact hu.sendChars _

/-- A resolution's step 0 only draws from the TRNG (R253). -/
theorem resolutionStep_build_unheld (e : Intent) (l : List Sub) (d : List Byte) (h : s.Unheld n t)
    {r : List Byte × State} (hr : resolutionStep.build e l d t = some r) : s.Unheld n r.2 := by
  induction l generalizing d t with
  | nil => obtain rfl : (d, t) = r := Option.some.inj hr; exact h
  | cons v us ih =>
    unfold resolutionStep.build at hr
    dsimp only at hr
    split at hr
    · split at hr
      · split at hr
        · exact ih _ h hr
        · exact absurd hr nofun
      · exact absurd hr nofun
    · have hd : s.Unheld n (t.drew v.len) := ⟨h.jobs, h.closing, h.job⟩
      exact ih _ hd hr
    · exact absurd hr nofun

theorem resolutionStep_unheld (h : s.Unheld n t) {p : W16} {st : Step} {apdu : List Byte}
    (hr : resolutionStep n p t = some (st, apdu, u)) : s.Unheld n u := by
  unfold resolutionStep at hr
  split at hr
  · obtain ⟨r, hb, heq⟩ := Option.map_eq_some_iff.1 hr
    obtain ⟨-, htail⟩ := Prod.mk.inj heq
    obtain ⟨-, rfl⟩ := Prod.mk.inj htail
    exact resolutionStep_build_unheld _ _ _ h hb
  · exact absurd hr nofun

theorem State.Unheld.resolveNext (h : s.Unheld n t) (l : List W16) : s.Unheld n (resolveNext n l t) := by
  induction l generalizing t with
  | nil => exact (h.updSlot _ (by exact fun _ => rfl)).actsOn (startNormal_actsOn n .host false _)
  | cons p ps ih =>
    unfold Machine.resolveNext
    split
    next hr => exact ((resolutionStep_unheld h hr).updSlot _ (by exact fun _ => rfl)).startExch _ _ _ _ _ _
    · exact ih h

theorem endSession_nojob (h : (s.slot n).job = none) : endSession n s = s := by
  simp only [endSession, h]

theorem State.Unheld.startWarm (h : s.Unheld n t) : s.Unheld n (startWarm n t) := by
  have hg := h.actsOn (endGalSession_actsOn n t)
  rw [Machine.startWarm, endSession_nojob hg.job]
  exact hg.updSlot _ (fun _ => rfl)

theorem State.Unheld.tryWarm (h : s.Unheld n t) : s.Unheld n (tryWarm n t) := by
  simp only [Machine.tryWarm]; split
  · exact h.startWarm
  · exact h

theorem State.Unheld.markGalFailed (h : s.Unheld n t) : s.Unheld n (markGalFailed n t) :=
  have hu := h.updSlot (fun x => { x with galFailed := true }) (fun _ => rfl)
  ⟨hu.jobs, hu.closing, hu.job⟩

/-- Giving up without a record ends what the window holds and makes a warm reset due (R148). -/
theorem State.Unheld.abandon (h : s.Unheld n t) (base : ExchStatus) (mark : Bool) :
    s.Unheld n (abandon n base mark none t) := by
  unfold Machine.abandon
  dsimp only
  split
  · exact h
  · refine State.Unheld.tryWarm ?_
    unfold onlyIf
    split
    · exact (h.updSlot _ (by exact fun _ => rfl)).markGalFailed
    · exact h.updSlot _ (by exact fun _ => rfl)

theorem State.Unheld.concludeGiveUp (h : s.Unheld n t) : s.Unheld n (concludeGiveUp n none t) := by
  unfold Machine.concludeGiveUp; split
  · exact h.abandon _ _
  · exact h.abandon _ _

/-- Whatever the link does next, it has no job to end (R130, R147, R148). -/
theorem State.Unheld.pump (h : s.Unheld n t) : s.Unheld n (pump n t) := by
  cases hg : (t.slot n).gal with
  | none =>
    simp only [Machine.pump, hg]
    exact h.linkActs (State.LinkActs.refl t n).galPhase
  | some g =>
    cases hu : g.giveUp with
    | none => exact h.linkActs (pump_linkActs n hg hu)
    | some w =>
      simp only [Machine.pump, hg, hu]
      refine State.Unheld.linkActs ?_ (State.LinkActs.refl _ n).galPhase
      split
      · exact h
      · split
        · split
          · exact h.linkActs (State.LinkActs.refl t n).sendLts
          · exact h.concludeGiveUp
        · contradiction

theorem State.Unheld.whenReady (h : s.Unheld n t) : s.Unheld n (whenReady n t) := by
  simp only [Machine.whenReady]; split
  · exact h
  · split
    · exact h.tryWarm
    · split
      · split
        · exact h.resolveNext _
        · exact h
      · exact h

theorem State.Unheld.afterReport (h : s.Unheld n t) : s.Unheld n (afterReport n t) := by
  simp only [Machine.afterReport]; split
  · exact h
  · split
    · rw [loseNormal_nojob n .host t h.job]
      exact h.actsOn (startNormal_actsOn n .host false t)
    · split
      · exact h.pump.tryWarm
      · refine (h.updSlot _ fun x => ?_).whenReady
        split <;> rfl

end Unheld

/-- The report of a job's failure: the job ends, and its slot's link goes on without it. -/
theorem afterReport_failed {id : JobId} {k : Job} {n : SlotId} {v : State} (hk : v.findJob id = some k)
    (hs : k.slot = some n) (err : W16) :
    v.jobEnds (afterReport n (cancelNow id (endJob id .failed err v))) k .failed err k.result := by
  have hends := endJobAfter_jobEnds 0 .failed err hk (.inl (by decide))
  obtain ⟨hown, -, -⟩ := endJobAfter_slots 0 .failed err hk
  have hgone : (endJob id .failed err v).findJob id = none := by
    obtain ⟨h, -⟩ := hends; rwa [find_id hk] at h
  have hc : cancelNow id (endJob id .failed err v) = endJob id .failed err v := by simp only [cancelNow, hgone]
  have hu : (endJob id .failed err v).Unheld n (afterReport n (endJob id .failed err v)) :=
    State.Unheld.afterReport ⟨rfl, rfl, hown n hs⟩
  rw [hc]
  simp only [State.jobEnds, State.findJob, hu.jobs, hu.closing]
  exact hends

/-- A report on a slot whose link has nothing else due moves at most its phase. -/
theorem afterReport_quiet {n : SlotId} {s : State} (hg : (s.slot n).gal = none) (hf : (s.slot n).fencePending = false)
    (hw : (s.slot n).warmDue = false) (hr : (s.slot n).resolution = none) :
    (afterReport n s).jobs = s.jobs ∧ (afterReport n s).closing = s.closing ∧
    ((afterReport n s).slot n).ended = (s.slot n).ended := by
  have hn : s.fenceNow n = false := by simp [State.fenceNow, hf]
  simp only [afterReport, hn, hg, Option.isSome_none, Bool.false_eq_true, if_false]
  split
  · exact ⟨rfl, rfl, rfl⟩
  · rw [whenReady_idle]
    · refine ⟨rfl, rfl, ?_⟩
      rw [State.updSlot_slot_self]; split <;> rfl
    · rw [State.updSlot_slot_self]; split <;> exact hw
    · rw [State.updSlot_slot_self]; split <;> exact hr

/-! ## SC_OPEN (R215, R244) -/

/-- A started job whose INITIALIZE UPDATE, its only staged command, has ended with a response to report. -/
structure State.AwaitsOpen (s : State) (id : JobId) (resp : List Byte) (sw : W16) (j : Job) (n : SlotId) (r : Run)
    (c : Staged) (st : Step) : Prop where
  found : s.findJob id = some j
  slot : j.slot = some n
  run : j.run = some r
  booted : s.booted = true
  reported : s.initUpdateOf n id resp sw = true
  staged : r.staged = [c]
  kind : c.kind = .initUpdate
  sent : c.sent = true
  step : r.profile.steps[c.step]? = some st
  phase : j.phase = .started
  cancelWith : j.cancelWith = none

/-- The oldest ended exchange of the slot is taken for the job. -/
def State.responseTaken (s : State) (id : JobId) (n : SlotId) : State :=
  (s.updSlot n (fun x => { x with ended := x.ended.drop 1 })).updJob id (fun j => { j with exch := .ok })

theorem responseTaken_slot (s : State) (id : JobId) (n : SlotId) : (s.responseTaken id n).slot n =
    { s.slot n with ended := (s.slot n).ended.drop 1 } := by
  rw [State.responseTaken, State.updJob_slot, State.updSlot_slot_self]

theorem stageExtAuth_slot (id : JobId) (c : Staged) (st : Step) (g : Config.GpIn) (s : State) (n : SlotId) :
    (stageExtAuth id c st g s).slot n = s.slot n := rfl

/-- What the cryptograms of an SC_OPEN step are computed from (R215 steps 4 and 5). -/
def State.openInput (s : State) (r : Run) (st : Step) (resp : List Byte) : Config.GpIn :=
  { scp := r.profile.scp, i := st.scI, sl := st.scSl,
    keys := staticKeys st.method (match s.keyOf r (st.nib 0) with | some (k, _, _) => k | none => 1)
      (s.keyValue r (st.nib 0)) resp,
    ctr := 0, data := [r.challenge, resp] }

section ScOpen
variable {s : State} {id : JobId} {resp : List Byte} {sw : W16} {j : Job} {n : SlotId} {r : Run} {c : Staged}
  {st : Step} (h : s.AwaitsOpen id resp sw j n r c st)
include h

theorem exec_scOpen : exec (.scOpen id resp sw) s = .next (afterReport n (cancelNow id
    (takeInitUpdate id n r c st resp sw (s.responseTaken id n)))) := by
  have hfind : r.staged.find? (fun t => t.kind == .initUpdate && t.sent) = some c := by
    rw [h.staged]; simp [h.kind, h.sent]
  have hjob : (s.findJob id).bind (fun j => j.slot.bind (fun n => j.run.map (fun r => (j, n, r)))) =
      some (j, n, r) := by
    rw [h.found, Option.bind_some, h.slot, Option.bind_some, h.run, Option.map_some]
  simp only [exec, execScOpen, hjob]
  refine (State.gate_open (by rw [h.booted, h.reported]; rfl)).trans ?_
  simp only [hfind, h.step, h.phase]
  rfl

theorem responseTaken_found : (s.responseTaken id n).findJob id = some { j with exch := .ok } :=
  find_updJob (s.updSlot n _) id (fun j => { j with exch := .ok }) (fun _ => rfl) j h.found

omit h in
theorem takeInitUpdate_eq (u : State) : takeInitUpdate id n r c st resp sw u =
    if sw != 0x9000 then scRefused id n c st u
    else if !scParamOk r.profile.scp st.scI resp then endJob id .failed 0x0605 u
    else if !Config.gpCardOk (u.openInput r st resp) then endJob id .failed 0x0604 u
    else stageExtAuth id c st (u.openInput r st resp) u := rfl

omit h in
theorem scRefused_fails {k : Job} {u : State} (hk : u.findJob id = some k) (hf : st.onFail = 0xFF)
    (hc : c.jseq = none) :
    ∃ v k', scRefused id n c st u = endJob id .failed st.failCode v ∧ v.findJob id = some k' ∧
      v.closing = u.closing ∧ k'.slot = k.slot ∧ k'.ticket = k.ticket ∧ k'.result = k.result := by
  have hd : dropStaged id n [c] u =
      updRun id (fun r => { r with staged := r.staged.filter (fun t => !([c].contains t)) }) u := by
    simp only [dropStaged, forEach, List.foldl_cons, List.foldl_nil, hc]
  simp only [scRefused, hd, hf]
  exact ⟨_, _, rfl, updRun_found (updRun_found hk _) _, rfl, rfl, rfl, rfl⟩

theorem scOpen_refused (hw : sw ≠ 0x9000) (hf : st.onFail = 0xFF) (hc : c.jseq = none) :
    ∃ t, exec (.scOpen id resp sw) s = .next t ∧ s.jobEnds t j .failed st.failCode j.result := by
  refine ⟨_, exec_scOpen h, ?_⟩
  obtain ⟨v, k, hv, hk, hcl, hs, ht, hr⟩ := scRefused_fails (n := n) (responseTaken_found h) hf hc
  rw [takeInitUpdate_eq, if_pos (bne_iff_ne.2 hw), hv]
  exact jobEnds_same hcl ht hr (afterReport_failed hk (hs.trans h.slot) _)

theorem scOpen_failed {err : W16}
    (hf : takeInitUpdate id n r c st resp sw (s.responseTaken id n) = endJob id .failed err (s.responseTaken id n)) :
    ∃ t, exec (.scOpen id resp sw) s = .next t ∧ s.jobEnds t j .failed err j.result := by
  refine ⟨_, exec_scOpen h, ?_⟩
  rw [hf]
  exact jobEnds_same (v := s.responseTaken id n) rfl rfl rfl (afterReport_failed (responseTaken_found h) h.slot err)

/-- The card names another protocol than the profile and the step (R215 step 3). -/
theorem scOpen_otherScp (hw : sw = 0x9000) (hp : scParamOk r.profile.scp st.scI resp = false) :
    ∃ t, exec (.scOpen id resp sw) s = .next t ∧ s.jobEnds t j .failed 0x0605 j.result := by
  refine scOpen_failed h ((takeInitUpdate_eq _).trans ?_)
  rw [if_neg (by simp [hw]), if_pos (by simp [hp])]

/-- The run once the card is authenticated: EXTERNAL AUTHENTICATE stands in the place of INITIALIZE UPDATE. -/
theorem stageExtAuth_found (g : Config.GpIn) : ∃ r' u,
    ((stageExtAuth id c st g (s.responseTaken id n)).findJob id).bind (·.run) = some r' ∧
      r'.session.isSome = true ∧ r'.staged = [u] ∧ u.kind = .extAuth ∧ u.sent = false ∧ u.step = c.step ∧
      u.apdu.length = 21 ∧ u.jseq = c.jseq := by
  unfold stageExtAuth
  rw [updRun_found (responseTaken_found h), Option.bind_some, h.run, Option.map_some]
  simp only [h.staged, List.map_cons, List.map_nil, beq_self_eq_true, if_true]
  exact ⟨_, _, rfl, rfl, rfl, rfl, rfl, rfl, padTo_length _ _, rfl⟩

theorem cancelNow_stageExtAuth (g : Config.GpIn) :
    cancelNow id (stageExtAuth id c st g (s.responseTaken id n)) = stageExtAuth id c st g (s.responseTaken id n) := by
  have hf : (stageExtAuth id c st g (s.responseTaken id n)).findJob id = some _ :=
    updRun_found (responseTaken_found h) _
  simp only [cancelNow, hf, h.cancelWith]

variable (hw : sw = 0x9000) (hp : scParamOk r.profile.scp st.scI resp = true)
include hw hp

/-- The card's cryptogram does not verify (R215 step 5). -/
theorem scOpen_forged (hcard : Config.gpCardOk (s.openInput r st resp) = false) :
    ∃ t, exec (.scOpen id resp sw) s = .next t ∧ s.jobEnds t j .failed 0x0604 j.result := by
  refine scOpen_failed h ((takeInitUpdate_eq _).trans ?_)
  rw [if_neg (by simp [hw]), if_neg (by simp [hp]), if_pos (by rw [Bool.not_eq_true']; exact hcard)]

/-- The card is authenticated (R215 step 6). -/
theorem scOpen_genuine (hcard : Config.gpCardOk (s.openInput r st resp) = true) (hg : (s.slot n).gal = none)
    (hfence : (s.slot n).fencePending = false) (hwarm : (s.slot n).warmDue = false)
    (hres : (s.slot n).resolution = none) :
    ∃ t, exec (.scOpen id resp sw) s = .next t ∧
      (∃ r' u, (t.findJob id).bind (·.run) = some r' ∧ r'.session.isSome = true ∧ r'.staged = [u] ∧
        u.kind = .extAuth ∧ u.sent = false ∧ u.step = c.step ∧ u.apdu.length = 21 ∧ u.jseq = c.jseq) ∧
      t.closing = s.closing ∧ (t.slot n).ended = (s.slot n).ended.drop 1 := by
  have ht : takeInitUpdate id n r c st resp sw (s.responseTaken id n) =
      stageExtAuth id c st (s.openInput r st resp) (s.responseTaken id n) := by
    refine (takeInitUpdate_eq _).trans ?_
    rw [if_neg (by simp [hw]), if_neg (by simp [hp]),
      if_neg (by rw [Bool.not_eq_true', Bool.not_eq_false]; exact hcard)]
    rfl
  have hslot : (stageExtAuth id c st (s.openInput r st resp) (s.responseTaken id n)).slot n =
      { s.slot n with ended := (s.slot n).ended.drop 1 } :=
    (stageExtAuth_slot ..).trans (responseTaken_slot s id n)
  obtain ⟨hj, hc, he⟩ := afterReport_quiet (n := n)
    (s := stageExtAuth id c st (s.openInput r st resp) (s.responseTaken id n)) (by rw [hslot]; exact hg)
    (by rw [hslot]; exact hfence) (by rw [hslot]; exact hwarm) (by rw [hslot]; exact hres)
  refine ⟨_, exec_scOpen h, ?_⟩
  rw [ht, cancelNow_stageExtAuth h]
  refine ⟨?_, hc, he.trans (by rw [hslot])⟩
  rw [State.findJob, hj]
  exact stageExtAuth_found h _

end ScOpen

/-! ## PREFETCH_DONE (R192, R241, R242) -/

theorem noteStale_slot (id : JobId) (s : State) (n : SlotId) : (noteStale id s).slot n = s.slot n := rfl

section Prefetch
variable {s : State} {id : JobId} {gen : W16} (rd : PrefetchRead) {j : Job} {n : SlotId} (hb : s.booted = true)
  (hm : s.bank.formatted = true) (hf : s.findJob id = some j) (hs : j.slot = some n)
include hb hm hf hs

theorem exec_prefetchDone : exec (.prefetchDone id gen rd) s = .next (
    if j.gen != gen then noteStale id (s.updSlot n (fun x => { x with record := none }))
    else if j.ticket.recordId == 0 || s.recordHere n j || j.phase != .placed then s
    else takeRecord j n rd s) := by
  refine show execPrefetchDone id gen rd s = _ from (State.gate_open (by rw [hb, hm]; rfl)).trans ?_
  simp only [hf, hs]

theorem exec_prefetchDone_taken (hg : j.gen = gen) (hr : j.ticket.recordId ≠ 0) (hh : s.recordHere n j = false)
    (hp : j.phase = .placed) : exec (.prefetchDone id gen rd) s = .next (takeRecord j n rd s) := by
  rw [exec_prefetchDone rd hb hm hf hs, if_neg (by simp [hg]), if_neg]
  rw [hh, hp, beq_false_of_ne hr]; exact Bool.false_ne_true

end Prefetch

theorem updBlock_offBooks (t : TargetId) (i : Nat) (f : Block → Block) (s : State) :
    (updBlock t i f s).offBooks = s.offBooks := rfl

theorem updTarget_offBooks (t : TargetId) (f : Target → Target) (s : State) :
    (updTarget t f s).offBooks = s.offBooks := rfl

theorem onlyIf_raise_offBooks (b : Bool) (c : W16) (o : Option SlotId) (a : Nat) (s : State) :
    (onlyIf b (raise c o a) s).offBooks = s.offBooks := by
  cases b <;> rfl

theorem growBad_offBooks (t : TargetId) (i : Nat) (s : State) : (growBad t i s).offBooks = s.offBooks := by
  simp only [growBad]
  (repeat' split) <;>
    simp only [onlyIf_raise_offBooks, raise_offBooks, updTarget_offBooks, updBlock_offBooks]

theorem noteRead_offBooks (rd : PrefetchRead) (s : State) : (noteRead rd s).offBooks = s.offBooks := rfl

/-- The least data the job's profile asks of its record (R206). -/
def Job.minRecord (j : Job) : Nat := match j.run with | some r => r.profile.minRecord | none => 0

section TakeRecord
variable {j : Job} (n : SlotId) (rd : PrefetchRead) {s : State} {v : Nat} {d : List Byte}
  (h : s.record j.ticket.recordId = some (v, d))
include h

theorem takeRecord_eq : takeRecord j n rd s =
    if rd.stage == 5 then
      endJob j.ticket.jobId .failed 0x0705 (growBad rd.target rd.block
        (raise 0x0708 none (rd.target.val + rd.block * 2 ^ 8) (noteRead rd s)))
    else if d.length < j.minRecord then endJob j.ticket.jobId .failed 0x0602 (noteRead rd s)
    else (noteRead rd s).updSlot n (fun x => { x with record := some (j.ticket.recordId, v, d) }) := by
  simp only [takeRecord, h]; rfl

theorem takeRecord_stored (h5 : rd.stage ≠ 5) (hl : j.minRecord ≤ d.length) : takeRecord j n rd s =
    (noteRead rd s).updSlot n (fun x => { x with record := some (j.ticket.recordId, v, d) }) := by
  rw [takeRecord_eq n rd h, if_neg (by simpa using h5), if_neg (Nat.not_lt.2 hl)]

theorem takeRecord_unreadable (h5 : rd.stage = 5) (hf : s.findJob j.ticket.jobId = some j) :
    s.jobEnds (takeRecord j n rd s) j .failed 0x0705 j.result := by
  rw [takeRecord_eq n rd h, if_pos (by simp [h5])]
  have hk : (growBad rd.target rd.block
      (raise 0x0708 none (rd.target.val + rd.block * 2 ^ 8) (noteRead rd s))).offBooks = s.offBooks :=
    (growBad_offBooks _ _ _).trans ((raise_offBooks _ _ _ _).trans (noteRead_offBooks rd s))
  generalize growBad _ _ _ = w at hk ⊢
  refine jobEnds_same (State.offBooks_closing hk) rfl rfl (endJobAfter_jobEnds 0 _ _ ?_ (.inl (by decide)))
  rw [State.findJob, State.offBooks_jobs hk]; exact hf

end TakeRecord

/-- Settles O37: SC_OPEN by what its response says, PREFETCH_DONE by its generation and its read. -/
theorem cardsAreAuthenticatedAndFed : Obligations.CardsAreAuthenticatedAndFed := by
  refine ⟨fun id resp sw j n r c st s hf hs hr hb hi hst hk hsent hstep hp hc => ?_,
    fun id gen rd j n s hb hm hf hs => ⟨fun hg => ?_, fun v d hg hr hh hp hrec => ⟨fun h5 hl => ?_, fun h5 => ?_⟩,
      fun hg hh => ?_⟩⟩
  · have h : s.AwaitsOpen id resp sw j n r c st := ⟨hf, hs, hr, hb, hi, hst, hk, hsent, hstep, hp, hc⟩
    refine ⟨scOpen_refused h, scOpen_otherScp h, fun hw hp hg hfence hwarm hres => ?_⟩
    cases hcard : Config.gpCardOk (s.openInput r st resp) with
    | false =>
      obtain ⟨t, ht, hends⟩ := scOpen_forged h hw hp hcard
      exact ⟨t, ht, (if_neg (Bool.not_eq_true _ ▸ hcard)).mpr hends⟩
    | true =>
      obtain ⟨t, ht, hopen⟩ := scOpen_genuine h hw hp hcard hg hfence hwarm hres
      exact ⟨t, ht, (if_pos hcard).mpr hopen⟩
  · refine ⟨_, (exec_prefetchDone rd hb hm hf hs).trans (by rw [if_pos (bne_iff_ne.2 hg)]), rfl, ?_, fun m hm => ?_⟩
    · rw [noteStale_slot, State.updSlot_slot_self]
    · rw [noteStale_slot, State.updSlot_slot_other _ _ _ _ hm]
  · refine ⟨_, exec_prefetchDone_taken rd hb hm hf hs hg hr hh hp, ?_⟩
    rw [takeRecord_stored n rd hrec h5 hl]
    exact ⟨rfl, State.updSlot_slot_self _ _ _, fun m hm => State.updSlot_slot_other _ _ _ _ hm⟩
  · refine ⟨_, exec_prefetchDone_taken rd hb hm hf hs hg hr hh hp, ?_⟩
    exact takeRecord_unreadable n rd hrec h5 (by rw [find_id hf]; exact hf)
  · rw [exec_prefetchDone rd hb hm hf hs, if_neg (by simp [hg]), if_pos (by simp [hh])]

end Sys2Proof.Machine

namespace Sys2Proof.Machine
open Sys2Proof

/-! # Records and profiles (R197, R236, R243, R268) -/

/-! ## Values stored under a key, one to a key -/

theorem find_filter_key_self {α β : Type} [DecidableEq α] (a : α) (l : List (α × β)) :
    (l.filter (fun e => e.1 != a)).find? (fun e => e.1 == a) = none := by
  simp [List.find?_eq_none]

theorem find_replaced_key_other {α β : Type} [DecidableEq α] {a b : α} (h : b ≠ a) (x : β) (l : List (α × β)) :
    ((a, x) :: l.filter (fun e => e.1 != a)).find? (fun e => e.1 == b) = l.find? (fun e => e.1 == b) := by
  have hp : (fun e : α × β => decide ((e.1 != a) = true ∧ (e.1 == b) = true)) = (fun e => e.1 == b) := by
    funext e
    by_cases he : e.1 = b
    · simp [he, h]
    · simp [he]
  rw [List.find?_cons_of_neg (by simpa using h.symm), List.find?_filter, hp]

/-! ## Records -/

theorem record_of_bank {s t : State} (h : t.bank = s.bank) (r : W64) : t.record r = s.record r := by
  rw [State.record, h, State.record]

/-- The version that a record's next write gives it (R236). -/
def State.nextVersion (s : State) (id : W64) : Nat :=
  match s.bank.records.find? (fun e => e.1 == id) with | some (_, v, _) => v + 1 | none => 1

theorem storeRecord_eq (id : W64) (d : List Byte) (s : State) : storeRecord id d s =
    { s with bank.records := (id, s.nextVersion id, d) :: s.bank.records.filter (fun e => e.1 != id) } := rfl

theorem nextVersion_of_record {s : State} {id : W64} {v : Nat} {d : List Byte} (h : s.record id = some (v, d)) :
    s.nextVersion id = v + 1 := by
  simp only [State.record] at h
  simp only [State.nextVersion]
  split at h
  next w e hf => simp_all
  next => cases h

theorem storeRecord_record_self (id : W64) (d : List Byte) (s : State) :
    (storeRecord id d s).record id = if d.isEmpty then none else some (s.nextVersion id, d) := by
  simp [storeRecord_eq, State.record]

theorem storeRecord_record_other {id r : W64} (h : r ≠ id) (d : List Byte) (s : State) :
    (storeRecord id d s).record r = s.record r := by
  simp only [storeRecord_eq, State.record, find_replaced_key_other h]

theorem deleteRecord_record_self (id : W64) (a : State × Nat) : (deleteRecord id a).1.record id = none := by
  unfold deleteRecord
  split
  · exact storeRecord_record_self id [] a.1
  next h => simpa using h

theorem deleteRecord_record_other {id r : W64} (h : r ≠ id) (a : State × Nat) :
    (deleteRecord id a).1.record r = a.1.record r := by
  unfold deleteRecord
  split
  · exact storeRecord_record_other h [] a.1
  · rfl

theorem deleteRecord_jobs (id : W64) (a : State × Nat) : (deleteRecord id a).1.jobs = a.1.jobs := by
  unfold deleteRecord; split <;> rfl

theorem deleteRecord_closing (id : W64) (a : State × Nat) : (deleteRecord id a).1.closing = a.1.closing := by
  unfold deleteRecord; split <;> rfl

/-! ## Profile images -/

/-- The state with a profile image stored under its PROFILE_ID (R197). -/
def State.withImage (s : State) (id : W16) (img : List Byte) : State :=
  { s with bank.profiles := (id, img) :: s.bank.profiles.filter (fun e => e.1 != id) }

/-- The state without the image of a profile (R243). -/
def State.withoutImage (s : State) (id : W16) : State :=
  { s with bank.profiles := s.bank.profiles.filter (fun e => e.1 != id) }

theorem image_of_bank {s t : State} (h : t.bank = s.bank) (q : W16) : t.image q = s.image q := by
  rw [State.image, h, State.image]

theorem withImage_image_self (s : State) (id : W16) (img : List Byte) : (s.withImage id img).image id = some img := by
  simp [State.image, State.withImage]

theorem withImage_image_other (s : State) {id q : W16} (h : q ≠ id) (img : List Byte) :
    (s.withImage id img).image q = s.image q := by
  simp only [State.image, State.withImage, find_replaced_key_other h]

theorem withoutImage_image_self (s : State) (id : W16) : (s.withoutImage id).image id = none := by
  simp only [State.image, State.withoutImage, find_filter_key_self, Option.map_none]

/-! ## The tickets of the bank -/

section BankTicket
variable {s : State} {id : JobId} {op : Nat} {j : Job} (h : s.runnable id 4 op j)
include h

theorem bankTicket_runs (hm : s.bank.formatted = true) (f : Job → State → State) :
    bankTicket id op f s = .next (f j s) := by
  rw [bankTicket, runnable_open h, if_pos hm]

/-- A bank ticket that ends DONE leaves the bank as its work made it. -/
theorem doneWith_ends {u : State} (hj : u.jobs = s.jobs) (hc : u.closing = s.closing) (result : List Byte) :
    s.jobEnds (doneWith id result u) j .done 0 result ∧ (doneWith id result u).bank = u.bank := by
  obtain ⟨hends, hframe⟩ := runnable_finish h u hj hc result .done 0 (.inr rfl)
  exact ⟨hends, (congrArg State.bank hframe :)⟩

theorem failJob_ends (err : W16) :
    s.jobEnds (failJob id err s) j .failed err j.result ∧ (failJob id err s).bank = s.bank := by
  obtain ⟨hends, hframe⟩ := runnable_fail h err
  exact ⟨hends, (congrArg State.bank hframe :)⟩

end BankTicket

theorem recordWrite_one {param d : List Byte} {rid : W64} {j : Job} {s : State} (ha : j.ticket.arg = 1)
    (hl : j.paramLen ≤ 16777216) (hb : readBatch 1 (j.data param) = ([(rid, d)], true, true))
    (hr : s.hasRoom (unitsOf d.length) = true) :
    recordWrite param j s = doneWith j.ticket.jobId [1, 0, 0, 0] (storeRecord rid d s) := by
  have hn : j.ticket.arg.toNat = 1 := by rw [ha]; rfl
  have hw : writeBatch [(rid, d)] 0 s = (storeRecord rid d s, 1, true) := by simp [writeBatch, hr]
  simp [recordWrite, hn, hb, hw, Nat.not_lt.2 hl, leBytes]

theorem recordDelete_one (param : List Byte) {j : Job} (hl : j.paramLen = 8) (s : State) :
    recordDelete param j s =
      doneWith j.ticket.jobId (leBytes 4 (deleteRecord (BitVec.ofNat 64 (leAt (j.data param) 0 8)) (s, 0)).2)
        (deleteRecord (BitVec.ofNat 64 (leAt (j.data param) 0 8)) (s, 0)).1 := by
  simp [recordDelete, hl]

/-- PROFILE_WRITE by what the image parses to: nothing stored, no room, or the image stored (R197, R268). -/
theorem profileWrite_eq (param : List Byte) (j : Job) (s : State) : profileWrite param j s =
    (parseProfile (j.data param)).elim (failJob j.ticket.jobId 0x060A s) (fun p =>
      if !s.hasRoom (unitsOf (j.data param).length) then failJob j.ticket.jobId 0x0704 s
      else doneWith j.ticket.jobId [] (s.withImage p.id (j.data param))) := by
  unfold profileWrite
  extract_lets id img
  generalize parseProfile img = q
  cases q with
  | none => rfl
  | some p => rfl

theorem profileWrite_stored {param : List Byte} {j : Job} {p : Profile} {s : State}
    (hp : parseProfile (j.data param) = some p) (hr : s.hasRoom (unitsOf (j.data param).length) = true) :
    profileWrite param j s = doneWith j.ticket.jobId [] (s.withImage p.id (j.data param)) := by
  rw [profileWrite_eq, hp, Option.elim_some, if_neg (by simp [hr])]

theorem profileWrite_bad {param : List Byte} {j : Job} (hp : parseProfile (j.data param) = none) (s : State) :
    profileWrite param j s = failJob j.ticket.jobId 0x060A s := by
  rw [profileWrite_eq, hp, Option.elim_none]

section ProfileDelete
variable {j : Job} {s : State} (hl : j.paramLen = 0) (ha : j.ticket.arg.toNat < 65536)
include hl ha

theorem profileDelete_used (hu : s.profileInUse (BitVec.ofNat 16 j.ticket.arg.toNat) = true) :
    noParam profileDelete j s = failJob j.ticket.jobId 0x0706 s := by
  simp only [noParam, profileDelete, hl, ha, hu]; rfl

theorem profileDelete_unused (hu : s.profileInUse (BitVec.ofNat 16 j.ticket.arg.toNat) = false)
    (hi : (s.image (BitVec.ofNat 16 j.ticket.arg.toNat)).isSome = true) :
    noParam profileDelete j s =
      doneWith j.ticket.jobId [] (s.withoutImage (BitVec.ofNat 16 j.ticket.arg.toNat)) := by
  have hn : (s.image (BitVec.ofNat 16 j.ticket.arg.toNat)).isNone = false := Option.isNone_eq_false_iff.2 hi
  simp only [noParam, profileDelete, hl, ha, hu, hn]; rfl

end ProfileDelete

/-- Settles O24: each ticket by the one update of the bank it ends DONE with, or by its failure. -/
theorem recordsAndProfilesAreStored : Obligations.RecordsAndProfilesAreStored := by
  refine ⟨fun id param d rid j s h hm ha hl hb hd hr => ?_, fun id param j s h hm hl => ?_,
    fun id param j s h hm => ⟨fun p hp hr => ?_, fun hp => ?_⟩,
    fun id j s h hm hl ha => ⟨fun hu => ?_, fun hu hi => ?_⟩⟩
  · refine ⟨_, bankTicket_runs h hm _, ?_⟩
    rw [recordWrite_one ha hl hb hr, jobid_of h]
    obtain ⟨hends, hbank⟩ := doneWith_ends h (u := storeRecord rid d s) rfl rfl [1, 0, 0, 0]
    refine ⟨hends, ⟨s.nextVersion rid, ?_, fun w e hw => nextVersion_of_record hw⟩, fun r hne => ?_, ?_, ?_⟩
    · rw [record_of_bank hbank, storeRecord_record_self, if_neg (by simpa using hd)]
    · rw [record_of_bank hbank, storeRecord_record_other hne]
    · rw [hbank]; rfl
    · rw [hbank]; rfl
  · refine ⟨_, bankTicket_runs h hm _, ?_⟩
    rw [recordDelete_one param hl, jobid_of h]
    generalize BitVec.ofNat 64 (leAt (j.data param) 0 8) = rid
    have hcount : leBytes 4 (deleteRecord rid (s, 0)).2 =
        if (s.record rid).isSome then [1, 0, 0, 0] else [0, 0, 0, 0] := by
      simp only [deleteRecord]; split <;> simp [leBytes]
    obtain ⟨hends, hbank⟩ := doneWith_ends h (deleteRecord_jobs rid (s, 0)) (deleteRecord_closing rid (s, 0))
      (leBytes 4 (deleteRecord rid (s, 0)).2)
    refine ⟨hcount ▸ hends, ?_, fun r hne => ?_⟩
    · rw [record_of_bank hbank, deleteRecord_record_self]
    · rw [record_of_bank hbank, deleteRecord_record_other hne]
  · refine ⟨_, bankTicket_runs h hm _, ?_⟩
    rw [profileWrite_stored hp hr, jobid_of h]
    obtain ⟨hends, hbank⟩ := doneWith_ends h (u := s.withImage p.id (j.data param)) rfl rfl []
    refine ⟨hends, ?_, fun q hne => ?_, ?_⟩
    · rw [image_of_bank hbank, withImage_image_self]
    · rw [image_of_bank hbank, withImage_image_other s hne]
    · rw [hbank]; rfl
  · refine ⟨_, bankTicket_runs h hm _, ?_⟩
    rw [profileWrite_bad hp, jobid_of h]
    exact failJob_ends h 0x060A
  · refine ⟨_, bankTicket_runs h hm _, ?_⟩
    rw [profileDelete_used hl ha hu, jobid_of h]
    exact failJob_ends h 0x0706
  · refine ⟨_, bankTicket_runs h hm _, ?_⟩
    rw [profileDelete_unused hl ha hu hi, jobid_of h]
    obtain ⟨hends, hbank⟩ := doneWith_ends h
      (u := s.withoutImage (BitVec.ofNat 16 j.ticket.arg.toNat)) rfl rfl []
    exact ⟨hends, by rw [image_of_bank hbank, withoutImage_image_self]⟩

end Sys2Proof.Machine

namespace Sys2Proof.Machine
open Sys2Proof

/-! # PRECOMPUTE of a command step without substitutions or wrapping (R206, R209, R222, R244, R255) -/

/-! ## Intents (R244, R255) -/

/-- The intent entry of a step as it joins the journal, on a card in standard mode (R244). -/
def State.newIntent (s : State) (j : Job) (n : SlotId) (k : Nat) (st : Step) (first : Bool)
    (ctr : Option (Nat × W64)) : Intent :=
  { slot := n, step := k, galloper := (s.slot n).proto == .galloper, first := first, write := st.cardChanging,
    jobId := j.ticket.jobId, jseq := s.bank.jseqNext, digest := (s.slot n).digest.getD 0,
    recordId := j.ticket.recordId, counter := (ctr.map (·.2)).getD 0, ctrIdx := (ctr.map (·.1)).getD 0,
    profileId := j.ticket.profileId, gen := j.gen, sid := 0, csn := 0, boot := s.bank.boot, timeMs := s.timeMs,
    queued := true, durable := false, outcome := none }

theorem writeIntent_found {id : JobId} {j : Job} {n : SlotId} {s : State} (h : s.findJob id = some j)
    (hg : (s.slot n).gal = none) (k : Nat) (st : Step) (first : Bool) :
    writeIntent id n k st first 0 s =
      { s with bank.journal := s.bank.journal ++ [s.newIntent j n k st first j.counter],
               bank.jseqNext := s.bank.jseqNext + 1 } := by
  simp only [writeIntent, h, hg, Option.map_none, Option.getD_none, ite_self, State.newIntent, find_id h]

/-- A counter after its next value is taken (R255). -/
def Counter.advanced (c : Counter) : Counter := { c with next := c.next + 1 }

/-- The state after a job takes the next value of a counter within its reservation (R255, R259). -/
def State.tookValue (s : State) (id : JobId) (i : Fin 256) : State :=
  State.updJob { s with bank.counters := s.bank.counters.set i.val s.bank.counters[i.val].advanced i.isLt }
    id (fun j => { j with counter := some (i.val, s.bank.counters[i.val].next) })

theorem Counter.bindTo_bound {c : Counter} (h : c.bound = true) (key : W32) : c.bindTo key = c := by
  obtain ⟨handle, next, top, bound⟩ := c
  obtain rfl : bound = true := h
  rfl

theorem consumeCounter_reserved {i : Fin 256} {s : State} (hb : s.bank.counters[i.val].bound = true)
    (ht : s.bank.counters[i.val].next.toNat ≤ s.bank.counters[i.val].top.toNat) (id : JobId) (key : W32) :
    consumeCounter id i key s = s.tookValue id i := by
  simp only [consumeCounter, Counter.bindTo_bound hb, onlyIf, Nat.not_lt.2 ht, decide_false, Bool.false_eq_true,
    if_false]
  rfl

theorem intentFor_unjournalled {id : JobId} {j : Job} {k : Nat} {st : Step} {s : State} (h : s.findJob id = some j)
    (hj : journalled j k st = false) (n : SlotId) (csn : W16) : intentFor id n k st csn s = (none, s) := by
  simp [intentFor, h, hj]

section Journalled
variable {id : JobId} {j : Job} {k : Nat} {st : Step} {s : State} (h : s.findJob id = some j)
  (hj : journalled j k st = true)
include h hj

theorem intentFor_later {v : Nat × W64} (hc : j.counter = some v) (n : SlotId) (csn : W16) :
    intentFor id n k st csn s = (some s.bank.jseqNext, writeIntent id n k st false csn s) := by
  simp [intentFor, h, hj, hc]

theorem intentFor_first {r : Run} {i : Fin 256} (hr : j.run = some r) (hc : j.counter = none)
    (hi : s.counterIndex (r.profile.keys.getD 0 0) = some i) (hb : s.bank.counters[i.val].bound = true)
    (ht : s.bank.counters[i.val].next.toNat ≤ s.bank.counters[i.val].top.toNat) (n : SlotId) (csn : W16) :
    intentFor id n k st csn s = (some s.bank.jseqNext, writeIntent id n k st true csn (s.tookValue id i)) := by
  have hkey : (j.run.bind (fun r => r.profile.keys.head?)).getD 0 = r.profile.keys.getD 0 0 := by
    rw [hr, Option.bind_some, List.getD_eq_getElem?_getD, List.head?_eq_getElem?]
  simp only [intentFor, h, hj, hc, hkey, hi, Option.isNone_none, Bool.not_true, Bool.false_eq_true, if_false,
    consumeCounter_reserved hb ht]
  rfl

end Journalled

theorem tookValue_found {id : JobId} {j : Job} {s : State} (h : s.findJob id = some j) (i : Fin 256) :
    (s.tookValue id i).findJob id = some { j with counter := some (i.val, s.bank.counters[i.val].next) } :=
  find_updJob _ id (fun j => { j with counter := some (i.val, s.bank.counters[i.val].next) }) (fun _ => rfl) j h

theorem tookValue_counter_self (s : State) (id : JobId) (i : Fin 256) :
    (s.tookValue id i).bank.counters[i.val] = s.bank.counters[i.val].advanced := by
  simp [State.tookValue]

theorem tookValue_counter_other (s : State) (id : JobId) {i m : Fin 256} (h : m ≠ i) :
    (s.tookValue id i).bank.counters[m.val] = s.bank.counters[m.val] := by
  simp [State.tookValue, Fin.val_inj, h.symm]

/-! ## The command in staging (R209, R222) -/

/-- The run after step k is staged: at a sync point, or on its primary path (R204, R222). -/
def Run.pastStep (r : Run) (k : Nat) (st : Step) : Run :=
  if st.sync then { r with next := none } else r.follow k st

theorem Run.follow_keeps (r : Run) (k : Nat) (st : Step) :
    (r.follow k st).staged = r.staged ∧ (r.follow k st).stepsRun = r.stepsRun := by
  unfold Run.follow
  split
  · exact ⟨rfl, rfl⟩
  · dsimp only
    repeat' split
    all_goals exact ⟨rfl, rfl⟩

theorem Run.pastStep_keeps (r : Run) (k : Nat) (st : Step) :
    (r.pastStep k st).staged = r.staged ∧ (r.pastStep k st).stepsRun = r.stepsRun := by
  unfold Run.pastStep
  split
  · exact ⟨rfl, rfl⟩
  · exact r.follow_keeps k st

/-- The run with one more step counted (R205). -/
def Run.counted (r : Run) : Run := { r with stepsRun := r.stepsRun + 1 }

/-- The state with one more step of the job counted (R205). -/
def State.counted (s : State) (id : JobId) : State := updRun id Run.counted s

/-- The command of a step without substitutions or wrapping, as it joins staging (R209, R223). -/
def Run.plainCommand (r : Run) (j : Job) (k : Nat) (st : Step) (jseq : Option W64) : Staged :=
  { step := k, kind := .step, apdu := st.tmpl, exp := st.exp, csn := 0, jseq := jseq, sent := false,
    cp := r.checkpoint k j.result.length, after := (r.follow k st).next, afterRe := (r.follow k st).reentry }

/-- The run with a command in staging, gone on past its step. -/
def Run.staging (r : Run) (k : Nat) (st : Step) (c : Staged) : Run :=
  { r with staged := r.staged ++ [c] }.pastStep k st

theorem Run.staging_staged (r : Run) (k : Nat) (st : Step) (c : Staged) :
    (r.staging k st c).staged = r.staged ++ [c] := (Run.pastStep_keeps _ k st).1

theorem Run.staging_stepsRun (r : Run) (k : Nat) (st : Step) (c : Staged) :
    (r.staging k st c).stepsRun = r.stepsRun := (Run.pastStep_keeps _ k st).2

/-- A state whose intent is made, with the command in staging. -/
def stagePlain (id : JobId) (j : Job) (r : Run) (k : Nat) (st : Step) (p : Option W64 × State) : State :=
  updRun id (fun q => { q with session := r.session }.staging k st (r.plainCommand j k st p.1)) p.2

theorem updRun_updRun (id : JobId) (f g : Run → Run) (s : State) :
    updRun id g (updRun id f s) = updRun id (g ∘ f) s := by
  simp only [updRun, State.updJob, List.map_map]
  congr 1
  refine List.map_congr_left fun j _ => ?_
  by_cases h : j.ticket.jobId = id <;> simp [h]

theorem settleIdle_staged {id : JobId} {j : Job} {r : Run} {s : State} (h : s.findJob id = some j)
    (hr : j.run = some r) (hs : r.staged ≠ []) : settleIdle id s = s := by
  have he : r.staged.isEmpty = false := by simpa using hs
  simp only [settleIdle, h, hr, he, Bool.not_false, Bool.true_or, if_true]

/-- A step whose command goes to staging as its template stands, on a card in standard mode. -/
structure Step.Plain (st : Step) : Prop where
  apdu : st.isApdu = true
  unwrapped : st.wrap = false
  subs : st.subs = []
  not61 : st.is61 = false
  fits : st.tmpl.length ≤ 8192

theorem stageApdu_plain {st : Step} (hp : st.Plain) {n : SlotId} {s : State} (hg : (s.slot n).gal = none) (id : JobId)
    (j : Job) (r : Run) (k : Nat) :
    stageApdu id n j r k st s = stagePlain id j r k st (intentFor id n k st 0 s) := by
  have hlen : ¬ 18432 < st.tmpl.length := by have := hp.fits; omega
  cases hs : r.session <;>
    simp only [stageApdu, takeCsn, hg, hp.subs, substitute, hs, hp.unwrapped, hp.not61, Bool.false_and,
      Bool.false_eq_true, if_false, hlen, queueStaged, updRun_updRun, stagePlain, Run.plainCommand,
      Run.checkpoint] <;> rfl

theorem stagePlain_found {id : JobId} {j' : Job} {q : Run} {p : Option W64 × State} (h : p.2.findJob id = some j')
    (hq : j'.run = some q) (j : Job) (k : Nat) (st : Step) :
    (stagePlain id j q k st p).findJob id =
      some { j' with run := some (q.staging k st (q.plainCommand j k st p.1)) } := by
  rw [stagePlain, updRun_found h, hq]; rfl

/-! ## PRECOMPUTE of a run that has begun -/

/-- PRECOMPUTE may go on with a run that has begun: at step k of its profile (R206, R222, R242). -/
structure State.Precomputes (s : State) (id : JobId) (j : Job) (n : SlotId) (r : Run) (k : Nat) (st : Step) : Prop where
  working : s.working id = some (j, n, r)
  record : s.recordHere n j = true
  card : (s.slot n).cardFree = true
  stays : s.switchDue n j = false
  begun : r.stepsRun ≠ 0
  next : r.next = some k
  step : r.profile.steps[k]? = some st

section Precompute
variable {s : State} {id : JobId} {j : Job} {n : SlotId} {r : Run} {k : Nat} {st : Step}
  (h : s.Precomputes id j n r k st)
include h

theorem exec_precompute : exec (.precompute id) s = .next (precompute stepBound id n s) := by
  have hb : beginRun id n r s = s := by
    have h0 : (r.stepsRun == 0) = false := by simpa using h.begun
    simp only [beginRun, h0, Bool.false_and, Bool.false_eq_true, if_false]
  simp only [exec, execPrecompute, h.working]
  rw [State.gate_open (by rw [h.record, h.card, h.stays]; rfl), hb]

theorem precompute_stops (hs : r.stops st = true) (fuel : Nat) : precompute (fuel + 1) id n s = s := by
  obtain ⟨hf, -, hr⟩ := working_some h.working
  simp only [precompute, hf, hr, Option.bind_some, h.next, h.step, hs, if_true]

theorem counted_found : (s.counted id).findJob id = some { j with run := some r.counted } := by
  obtain ⟨hf, -, hr⟩ := working_some h.working
  rw [State.counted, updRun_found hf, hr]; rfl

omit h in
/-- The checks of R209 step 1 find nothing in a plain step whose intent may be made. -/
theorem stepFault_plain (hp : st.Plain) (hi : s.intentFault j r k st = none) : s.stepFault n j r k st = none := by
  have hkind : st.kind = 1 := by simpa [Step.isApdu] using hp.apdu
  have hkey : s.keyFault r st = none := by simp [State.keyFault, keyNeed, hkind]
  simp only [State.stepFault, hkey, hp.unwrapped, hp.subs, State.subFault, List.findSome?_nil, hi, Bool.false_and,
    Bool.false_eq_true, if_false]

/-- A plain step goes to staging with its intent. -/
theorem precompute_plain (hs : r.stops st = false) (hl : r.stepsRun < 1024) (hp : st.Plain)
    (hg : (s.slot n).gal = none) (hi : (s.counted id).intentFault j r.counted k st = none) {j' : Job}
    (hj' : (intentFor id n k st 0 (s.counted id)).2.findJob id = some j') (hr' : j'.run = some r.counted) (fuel : Nat) :
    precompute (fuel + 1) id n s = stagePlain id j r.counted k st (intentFor id n k st 0 (s.counted id)) := by
  obtain ⟨hf, -, hr⟩ := working_some h.working
  have hsc : st.isScOpen = false := by
    have hkind : st.kind = 1 := by simpa [Step.isApdu] using hp.apdu
    simp [Step.isScOpen, hkind]
  have hn : (some r).bind (·.next) = some k := h.next
  have hfault : (updRun id (fun r => { r with stepsRun := r.stepsRun + 1 }) s).stepFault n j
      { r with stepsRun := r.stepsRun + 1 } k st = none := stepFault_plain hp hi
  simp only [precompute, hf, hr, hn, h.step, hs, Nat.not_le.2 hl, hfault, hsc, hp.apdu,
    Bool.false_eq_true, if_false, if_true]
  refine (congrArg (settleIdle id) (stageApdu_plain (s := s.counted id) hp hg id j r.counted k)).trans ?_
  exact settleIdle_staged (stagePlain_found hj' hr' j k st) rfl (by simp [Run.staging_staged])

end Precompute

section PlainStep
variable {s : State} {id : JobId} {j : Job} {n : SlotId} {r : Run} {k : Nat} {st : Step}
  (h : s.Precomputes id j n r k st) (hs : r.stops st = false) (hl : r.stepsRun < 1024) (hp : st.Plain)
  (hg : (s.slot n).gal = none)
include h hs hl hp hg

/-- What PRECOMPUTE makes of a plain step, once its intent is known. -/
theorem exec_precompute_plain (hi : (s.counted id).intentFault j r.counted k st = none) {q : Option W64} {u : State}
    {j' : Job} (hq : intentFor id n k st 0 (s.counted id) = (q, u)) (hj' : u.findJob id = some j')
    (hr' : j'.run = some r.counted) :
    exec (.precompute id) s = .next (stagePlain id j r.counted k st (q, u)) := by
  rw [exec_precompute h, stepBound, precompute_plain h hs hl hp hg hi (by rw [hq]; exact hj') hr', hq]

theorem precompute_unjournalled (hj : journalled j k st = false) :
    exec (.precompute id) s = .next (stagePlain id j r.counted k st (none, s.counted id)) := by
  refine exec_precompute_plain h hs hl hp hg ?_ (intentFor_unjournalled (counted_found h) hj n 0) (counted_found h) rfl
  simp [State.intentFault, hj]

theorem precompute_later {v : Nat × W64} (hj : journalled j k st = true) (hc : j.counter = some v) :
    exec (.precompute id) s = .next (stagePlain id j r.counted k st (some s.bank.jseqNext,
      { s.counted id with
        bank.journal := s.bank.journal ++ [(s.counted id).newIntent j n k st false (some v)],
        bank.jseqNext := s.bank.jseqNext + 1 })) := by
  have hq := intentFor_later (counted_found h) hj hc n 0
  rw [writeIntent_found (counted_found h) hg] at hq
  simp only [hc] at hq
  refine exec_precompute_plain h hs hl hp hg ?_ hq (counted_found h) rfl
  simp [State.intentFault, hc]

theorem precompute_first {i : Fin 256} (hj : journalled j k st = true) (hc : j.counter = none)
    (ha : s.auditFull = false) (hi : s.counterIndex (r.profile.keys.getD 0 0) = some i)
    (hb : s.bank.counters[i.val].bound = true)
    (ht : s.bank.counters[i.val].next.toNat ≤ s.bank.counters[i.val].top.toNat) :
    exec (.precompute id) s = .next (stagePlain id j r.counted k st (some s.bank.jseqNext,
      { (s.counted id).tookValue id i with
        bank.journal := s.bank.journal ++
          [(s.counted id).newIntent j n k st true (some (i.val, s.bank.counters[i.val].next))],
        bank.jseqNext := s.bank.jseqNext + 1 })) := by
  have hf := counted_found h
  have hq := intentFor_first (s := s.counted id) hf hj rfl hc hi hb ht n 0
  rw [writeIntent_found (tookValue_found hf i) hg] at hq
  refine exec_precompute_plain h hs hl hp hg ?_ hq (tookValue_found hf i) rfl
  have ha' : (s.counted id).auditFull = false := ha
  have hi' : (s.counted id).counterIndex (r.counted.profile.keys.getD 0 0) = some i := hi
  simp only [State.intentFault, ha', hi', Bool.and_false, Bool.false_eq_true, if_false, Option.isNone_some, ite_self]

end PlainStep

/-- Settles O35: a step it waits for through `Run.stops`, a plain one by what `intentFor` makes of its intent. -/
theorem precomputeStagesTheNextCommand : Obligations.PrecomputeStagesTheNextCommand := by
  intro id j n r k st s hw hrec hcard hsw hb hnext hstep
  have h : s.Precomputes id j n r k st := ⟨hw, hrec, hcard, hsw, hb, hnext, hstep⟩
  refine ⟨fun hs => by rw [exec_precompute h, stepBound, precompute_stops h hs],
    fun hs hl happ hwrap hsubs h61 hlen hg => ?_⟩
  have hp : st.Plain := ⟨happ, hwrap, hsubs, h61, hlen⟩
  have hf := counted_found h
  refine ⟨fun hj => ?_, fun v hj hc => ?_, fun i hj hc ha hi hbound ht => ?_⟩
  · refine ⟨_, r.counted.staging k st (r.counted.plainCommand j k st none),
      precompute_unjournalled h hs hl hp hg hj, rfl, ?_, Run.staging_stepsRun _ _ _ _, _,
      Run.staging_staged _ _ _ _, rfl, rfl, rfl, rfl, rfl⟩
    rw [stagePlain_found hf rfl]; rfl
  · refine ⟨_, r.counted.staging k st (r.counted.plainCommand j k st (some s.bank.jseqNext)), _,
      precompute_later h hs hl hp hg hj hc, rfl, find_id (working_some hw).1, rfl, rfl, rfl, rfl, rfl, rfl, rfl, rfl,
      rfl, ?_, _, Run.staging_staged _ _ _ _, rfl, rfl, rfl⟩
    rw [stagePlain_found hf rfl]; rfl
  · refine ⟨_, _, precompute_first h hs hl hp hg hj hc ha hi hbound ht, rfl, rfl, rfl, rfl,
      tookValue_counter_self _ id i, fun m hm => tookValue_counter_other _ id hm, ?_⟩
    rw [stagePlain_found (tookValue_found hf i) rfl]; rfl

end Sys2Proof.Machine

namespace Sys2Proof.Machine
open Sys2Proof

/-! # No step takes a one-way cell back (R257, R399, R402, R403, R487)

Nearly every operation leaves the one-way cells and the life-cycle change in progress as they are; an RPP write raises
WCNT; a handful of operations move the life cycle, the SVN floor or the change, each only to where it may go on to. -/

/-- The one-way cells of the option area and the life-cycle change in progress (R257, R399, R403, R487). -/
structure Cells where
  lc : LcState
  wcnt : W64
  svnFloor : W16
  changing : Option LcChange

/-- The one-way cells as an option area and a security state hold them. -/
def OptionArea.cells (o : OptionArea) (x : Security) : Cells := ⟨o.lc, o.wcnt, o.svnFloor, x.changing⟩

/-- The one-way cells of a state. -/
def State.cells (s : State) : Cells := s.nv.cells s.sec

@[simp] theorem nv_cells (s : State) : s.nv.cells s.sec = s.cells := rfl

@[simp] theorem State.cells_mk (pending power regs slots rings requests jobs closing barker place jugs bank nv sec
    faults standby side ports sbMap tight bist fw draws out) :
    State.cells ⟨pending, power, regs, slots, rings, requests, jobs, closing, barker, place, jugs, bank, nv, sec,
      faults, standby, side, ports, sbMap, tight, bist, fw, draws, out⟩ = nv.cells sec := by
  simp only [State.cells]

/-- The other fields of the option area do not count. -/
@[simp] theorem OptionArea.cells_update (o : OptionArea) (bankA bankB nextB trial confirmed keystoreKey attestKey
    ownerKey mgmtKey repairs) (x : Security) :
    OptionArea.cells ⟨o.lc, o.wcnt, o.svnFloor, bankA, bankB, nextB, trial, confirmed, keystoreKey, attestKey,
      ownerKey, mgmtKey, repairs⟩ x = o.cells x := rfl

/-- The other fields of the security state do not count. -/
@[simp] theorem Security.cells_update (o : OptionArea) (x : Security) (ceremony cidNext debugNonce debugToken tokenFails
    tap halted rightsWithdrawn) :
    o.cells ⟨x.changing, ceremony, cidNext, debugNonce, debugToken, tokenFails, tap, halted, rightsWithdrawn⟩ =
      o.cells x := rfl

@[simp] theorem OptionArea.setBank_cells (o : OptionArea) (isB f) (x : Security) :
    (o.setBank isB f).cells x = o.cells x := by
  unfold OptionArea.setBank; split <;> rfl

@[simp] theorem cells_ite (c : Prop) [Decidable c] (a b : State) :
    (if c then a else b).cells = if c then a.cells else b.cells := by
  split <;> rfl

/-! ## One lemma per shared operation, in the order of the model: it leaves the one-way cells -/

@[simp] theorem State.updSlot_cells (s : State) (n f) : (s.updSlot n f).cells = s.cells := by simp [State.updSlot]
@[simp] theorem State.updRing_cells (s : State) (n f) : (s.updRing n f).cells = s.cells := by simp [State.updRing]
@[simp] theorem forEach_cells {α : Type} (l : List α) (f : α → State → State) (s : State)
    (h : ∀ a s, (f a s).cells = s.cells) : (forEach l f s).cells = s.cells := fe_frame State.cells l f s h
@[simp] theorem fireIrq_cells (n) (s : State) : (fireIrq n s).cells = s.cells := by
  rw [fireIrq_frame]; simp
@[simp] theorem raise_cells (c o a) (s : State) : (raise c o a s).cells = s.cells := by simp [raise]
@[simp] theorem latchAt_cells (code kind index slot job esc) (s : State) :
    (latchAt code kind index slot job esc s).cells = s.cells := by simp [latchAt]
@[simp] theorem onlyIf_cells (c : Bool) (f : State → State) (s : State) (h : ∀ s, (f s).cells = s.cells) :
    (onlyIf c f s).cells = s.cells := by
  unfold onlyIf; split
  · exact h s
  · rfl

/-! ### Machine/Ops -/

@[simp] theorem State.updJob_cells (s : State) (id f) : (State.updJob s id f).cells = s.cells := by simp [State.updJob]
@[simp] theorem emit_cells (e) (s : State) : (emit e s).cells = s.cells := by simp [emit]
@[simp] theorem sendVector_cells (n) (s : State) : (sendVector n s).cells = s.cells := by simp [sendVector]
@[simp] theorem State.drew_cells (s : State) (n) : (State.drew s n).cells = s.cells := by simp [State.drew]
@[simp] theorem latchError_cells (code u job esc) (s : State) : (latchError code u job esc s).cells = s.cells := by
  simp [latchError]
@[simp] theorem logStandby_cells (code kind index reason) (s : State) :
    (logStandby code kind index reason s).cells = s.cells := by simp [logStandby]
@[simp] theorem recordViolation_cells (master access region addr slot) (s : State) :
    (recordViolation master access region addr slot s).cells = s.cells := by simp [recordViolation]
@[simp] theorem refuseHostWrite_cells (off) (s : State) : (refuseHostWrite off s).cells = s.cells := by
  simp [refuseHostWrite]
@[simp] theorem askBarrier_cells (c) (s : State) : (askBarrier c s).cells = s.cells := by simp [askBarrier]
@[simp] theorem setUnit_cells (u p code) (s : State) : (setUnit u p code s).cells = s.cells := by simp [setUnit]
@[simp] theorem leaveQueue_cells (n) (s : State) : (leaveQueue n s).cells = s.cells := by simp [leaveQueue]
@[simp] theorem recomputeBounds_cells (s : State) : (recomputeBounds s).cells = s.cells := by simp [recomputeBounds]
@[simp] theorem joinQueue_cells (n k) (s : State) : (joinQueue n k s).cells = s.cells := by simp [joinQueue]
@[simp] theorem requestActivation_cells (n) (s : State) : (requestActivation n s).cells = s.cells := by
  simp only [requestActivation]; split <;> simp
@[simp] theorem setPlan_cells (n p) (s : State) : (setPlan n p s).cells = s.cells := by simp [setPlan]
@[simp] theorem endGalSession_cells (n) (s : State) : (endGalSession n s).cells = s.cells := by
  simp only [endGalSession]; split <;> simp
@[simp] theorem endRotation_cells (n) (s : State) : (endRotation n s).cells = s.cells := by
  simp only [endRotation]; split <;> simp
@[simp] theorem startNormal_cells (n c forBist) (s : State) : (startNormal n c forBist s).cells = s.cells := by
  simp [startNormal]
@[simp] theorem startEmergency_cells (n c) (s : State) : (startEmergency n c s).cells = s.cells := by
  simp only [startEmergency]; (repeat' split) <;> simp
@[simp] theorem settle_cells (jseq r sw how slot) (s : State) : (settle jseq r sw how slot s).cells = s.cells := by
  simp [settle]
@[simp] theorem settleUnsent_cells (j) (s : State) : (settleUnsent j s).cells = s.cells := by
  unfold settleUnsent; split
  · rfl
  · exact forEach_cells _ _ _ fun t s => by split <;> simp
@[simp] theorem audit_cells (atype outcome ctrIdx job counter digest) (s : State) :
    (audit atype outcome ctrIdx job counter digest s).cells = s.cells := by
  simp only [audit, onlyIf]; (repeat' split) <;> simp
@[simp] theorem issueResult_cells (i) (s : State) : (issueResult i s).cells = s.cells := by simp [issueResult]
@[simp] theorem issueResults_cells (s : State) : (issueResults s).cells = s.cells := by simp [issueResults]
@[simp] theorem stationCommand_cells (n eject bin job) (s : State) :
    (stationCommand n eject bin job s).cells = s.cells := by simp only [stationCommand]; split <;> simp
@[simp] theorem releaseContext_cells (j) (s : State) : (releaseContext j s).cells = s.cells := by
  simp only [releaseContext]; split <;> simp
@[simp] theorem pushClosing_cells (c) (s : State) : (pushClosing c s).cells = s.cells := by simp [pushClosing]
@[simp] theorem slotFreed_cells (n) (s : State) : (slotFreed n s).cells = s.cells := by simp [slotFreed]
@[simp] theorem freeSlot_cells (j st) (s : State) : (freeSlot j st s).cells = s.cells := by
  simp only [freeSlot]; split <;> simp
@[simp] theorem noteIssueEnd_cells (j st) (s : State) : (noteIssueEnd j st s).cells = s.cells := by
  simp only [noteIssueEnd]; split <;> simp
@[simp] theorem noteNoise_cells (j) (s : State) : (noteNoise j s).cells = s.cells := by
  simp only [noteNoise, onlyIf]; (repeat' split) <;> simp
@[simp] theorem noteJournal_cells (s : State) : (noteJournal s).cells = s.cells := by simp [noteJournal]
@[simp] theorem noteLeft_cells (j) (s : State) : (noteLeft j s).cells = s.cells := by simp [noteLeft]
@[simp] theorem endJobAfter_cells (barriers id st err) (s : State) :
    (endJobAfter barriers id st err s).cells = s.cells := by simp only [endJobAfter]; split <;> simp
@[simp] theorem endJob_cells (id st err) (s : State) : (endJob id st err s).cells = s.cells := by simp [endJob]
@[simp] theorem replaceJob_cells (id) (s : State) : (replaceJob id s).cells = s.cells := by
  simp only [replaceJob]; (repeat' split) <;> simp
@[simp] theorem markCut_cells (n) (s : State) : (markCut n s).cells = s.cells := by simp only [markCut]; split <;> simp
@[simp] theorem lostJob_cells (n c) (s : State) : (lostJob n c s).cells = s.cells := by
  simp only [lostJob]; (repeat' split) <;> simp
@[simp] theorem loseNormal_cells (n c) (s : State) : (loseNormal n c s).cells = s.cells := by simp [loseNormal]
@[simp] theorem loseEmergency_cells (n c) (s : State) : (loseEmergency n c s).cells = s.cells := by simp [loseEmergency]
@[simp] theorem emergencyAll_cells (c) (s : State) : (emergencyAll c s).cells = s.cells := by simp [emergencyAll]
@[simp] theorem enterFenced_cells (n src code) (s : State) : (enterFenced n src code s).cells = s.cells := by
  simp [enterFenced]
@[simp] theorem markFence_cells (n src code) (s : State) : (markFence n src code s).cells = s.cells := by
  simp [markFence]
@[simp] theorem fenceSlotBy_cells (down : SlotId → State → State) (n : SlotId) (src : FenceSrc) (code : W16) (s : State)
    (hf : ∀ a0 s, (down a0 s).cells = s.cells) : (fenceSlotBy down n src code s).cells = s.cells := by
  simp only [fenceSlotBy]; (repeat' split) <;> simp [hf]
@[simp] theorem fenceSlot_cells (n src code) (s : State) : (fenceSlot n src code s).cells = s.cells := by
  simp [fenceSlot]
@[simp] theorem losePairJobs_cells (p) (s : State) : (losePairJobs p s).cells = s.cells := by
  exact forEach_cells _ _ _ fun j s => by (repeat' split) <;> simp
@[simp] theorem handOver_cells (s : State) : (handOver s).cells = s.cells := by
  simp only [handOver]; (repeat' split) <;> simp
@[simp] theorem loseJuggler_cells (g) (s : State) : (loseJuggler g s).cells = s.cells := by
  simp only [loseJuggler]
  refine (forEach_cells _ _ _ fun id s => ?_).trans rfl
  (repeat' split) <;> simp
@[simp] theorem fenceRing_cells (stopNow : Bool) (down : SlotId → State → State) (r : RingId) (code : W16) (s : State)
    (hf : ∀ a0 s, (down a0 s).cells = s.cells) : (fenceRing stopNow down r code s).cells = s.cells := by
  simp [fenceRing, hf]
@[simp] theorem noteFence_cells (u code) (s : State) : (noteFence u code s).cells = s.cells := by simp [noteFence]
@[simp] theorem fenceUnit_cells (u code) (s : State) : (fenceUnit u code s).cells = s.cells := by
  simp only [fenceUnit]; split <;> simp
@[simp] theorem slotOffDone_cells (n) (s : State) : (slotOffDone n s).cells = s.cells := by simp [slotOffDone]
@[simp] theorem monFailEvent_cells (code slot c step ring) (s : State) :
    (monFailEvent code slot c step ring s).cells = s.cells := by simp [monFailEvent]
@[simp] theorem decideAbsent_cells (n) (s : State) : (decideAbsent n s).cells = s.cells := by
  simp only [decideAbsent, onlyIf]; (repeat' split) <;> simp
@[simp] theorem failSlotComp_cells (n c step) (s : State) : (failSlotComp n c step s).cells = s.cells := by
  simp [failSlotComp]
@[simp] theorem startConverter_cells (r) (s : State) : (startConverter r s).cells = s.cells := by simp [startConverter]
@[simp] theorem finish_cells (id st err result) (s : State) : (finish id st err result s).cells = s.cells := by
  simp [finish]
@[simp] theorem failJob_cells (id err) (s : State) : (failJob id err s).cells = s.cells := by simp [failJob]
@[simp] theorem finishAfterBarrier_cells (id st err) (s : State) :
    (finishAfterBarrier id st err s).cells = s.cells := by simp [finishAfterBarrier]

/-! ### Machine/Reset -/

@[simp] theorem latchedPresence_cells (e) (s : State) : (latchedPresence e s).cells = s.cells := by
  simp [latchedPresence]
@[simp] theorem reportSupply_cells (b) (s : State) : (reportSupply b s).cells = s.cells := by
  simp only [reportSupply]; split <;> simp
@[simp] theorem priorReset_cells (s : State) : (priorReset s).cells = s.cells := by
  simp only [priorReset]; split <;> simp
@[simp] theorem captureBist_cells (s : State) : (captureBist s).cells = s.cells := by simp [captureBist]
@[simp] theorem restoreCoreBist_cells (s : State) : (restoreCoreBist s).cells = s.cells := by
  simp only [restoreCoreBist]; split <;> simp
@[simp] theorem logSource_cells (src) (s : State) : (logSource src s).cells = s.cells := by
  simp only [logSource]; split <;> simp
@[simp] theorem restoreCounter_cells (i h top) (s : State) : (restoreCounter i h top s).cells = s.cells := by
  simp [restoreCounter]
@[simp] theorem reserveAll_cells (s : State) : (reserveAll s).cells = s.cells := by simp [reserveAll]
@[simp] theorem scanJournal_cells (s : State) : (scanJournal s).cells = s.cells := by simp [scanJournal]

/-! ### Machine/Booth -/

@[simp] theorem writeCompletion_cells (s : State) : (writeCompletion s).cells = s.cells := by
  simp only [writeCompletion]; split <;> simp
@[simp] theorem writeEntry_cells (e dropped) (s : State) : (writeEntry e dropped s).cells = s.cells := by
  simp [writeEntry]
@[simp] theorem writeOverflow_cells (s : State) : (writeOverflow s).cells = s.cells := by simp [writeOverflow]
@[simp] theorem putEntry_cells (e dropped) (s : State) : (putEntry e dropped s).cells = s.cells := by simp [putEntry]
@[simp] theorem writeEvent_cells (s : State) : (writeEvent s).cells = s.cells := by
  simp only [writeEvent]; split <;> simp
@[simp] theorem flushHeld_cells (s : State) : (flushHeld s).cells = s.cells := by simp [flushHeld]
@[simp] theorem flushRings_cells (s : State) : (flushRings s).cells = s.cells := by simp [flushRings]

/-! ### Machine/HostLink -/

@[simp] theorem sendPending_cells (s : State) : (sendPending s).cells = s.cells := by simp [sendPending]
@[simp] theorem dropWrite_cells (s : State) : (dropWrite s).cells = s.cells := by simp [dropWrite]
@[simp] theorem askCancel_cells (id err) (s : State) : (askCancel id err s).cells = s.cells := by simp [askCancel]
@[simp] theorem cancelNow_cells (id) (s : State) : (cancelNow id s).cells = s.cells := by
  simp only [cancelNow]; (repeat' split) <;> simp
@[simp] theorem stopUnused_cells (r) (s : State) : (stopUnused r s).cells = s.cells := by simp [stopUnused]
@[simp] theorem stopAllConverters_cells (s : State) : (stopAllConverters s).cells = s.cells := by
  simp [stopAllConverters]
@[simp] theorem windDownStep6_cells (s : State) : (windDownStep6 s).cells = s.cells := by simp [windDownStep6]
@[simp] theorem enableSlot_cells (n) (s : State) : (enableSlot n s).cells = s.cells := by simp [enableSlot]
@[simp] theorem endSlotCheckOf_cells (n failed) (s : State) : (endSlotCheckOf n failed s).cells = s.cells := by
  simp only [endSlotCheckOf]; split <;> simp
@[simp] theorem disableSlot_cells (n) (s : State) : (disableSlot n s).cells = s.cells := by simp [disableSlot]
@[simp] theorem clearSlot_cells (n) (s : State) : (clearSlot n s).cells = s.cells := by
  simp only [clearSlot]; split <;> simp

/-! ### Machine/Fatal -/

@[simp] theorem fatalDown_cells (s : State) : (fatalDown s).cells = s.cells := by simp [fatalDown]

/-! ### Machine/Checks -/

@[simp] theorem stopIfDown_cells (r) (s : State) : (stopIfDown r s).cells = s.cells := by simp [stopIfDown]
@[simp] theorem failRingComp_cells (r c step) (s : State) : (failRingComp r c step s).cells = s.cells := by
  simp [failRingComp]

/-! ### Machine/Bist -/

@[simp] theorem endNotRun_cells (s : State) : (endNotRun s).cells = s.cells := by simp [endNotRun]
@[simp] theorem drainRing_cells (r) (s : State) : (drainRing r s).cells = s.cells := by simp [drainRing]
@[simp] theorem startBist_cells (memory source scope) (s : State) :
    (startBist memory source scope s).cells = s.cells := by simp only [startBist]; (repeat' split) <;> simp
@[simp] theorem hostBist_cells (memory scope) (s : State) : (hostBist memory scope s).cells = s.cells := by
  simp [hostBist]
@[simp] theorem writeResult_cells (b sig) (s : State) : (writeResult b sig s).cells = s.cells := by simp [writeResult]
@[simp] theorem returnSlots_cells (b r) (s : State) : (returnSlots b r s).cells = s.cells := by simp [returnSlots]
@[simp] theorem failRingRun_cells (r) (s : State) : (failRingRun r s).cells = s.cells := by simp [failRingRun]

/-! ### Machine/Firmware -/

@[simp] theorem endFw_cells (op result) (s : State) : (endFw op result s).cells = s.cells := by simp [endFw]
@[simp] theorem takeFw_cells (op) (s : State) : (takeFw op s).cells = s.cells := by simp [takeFw]
@[simp] theorem endErase_cells (result) (s : State) : (endErase result s).cells = s.cells := by simp [endErase]

/-! ### Machine/Registers -/

@[simp] theorem writeBase_cells (f : State → State) (s : State) (hf : ∀ s, (f s).cells = s.cells) :
    (writeBase f s).cells = s.cells := by simp [writeBase, hf]

/-! ### Machine/Tickets -/

@[simp] theorem takeTicket_cells (t) (s : State) : (takeTicket t s).cells = s.cells := by
  simp only [takeTicket]; split <;> simp
@[simp] theorem doneWith_cells (id result) (s : State) : (doneWith id result s).cells = s.cells := by simp [doneWith]
@[simp] theorem doneWithEntries_cells (j header size l) (s : State) :
    (doneWithEntries j header size l s).cells = s.cells := by simp [doneWithEntries]
@[simp] theorem takeUp_cells (id param) (s : State) : (takeUp id param s).cells = s.cells := by simp [takeUp]
@[simp] theorem startJob_cells (id) (s : State) : (startJob id s).cells = s.cells := by simp [startJob]
@[simp] theorem adminActivate_cells (j n) (s : State) : (adminActivate j n s).cells = s.cells := by simp [adminActivate]
@[simp] theorem adminDeactivate_cells (j n) (s : State) : (adminDeactivate j n s).cells = s.cells := by
  simp only [adminDeactivate]; split <;> simp
@[simp] theorem adminInventory_cells (param j n) (s : State) : (adminInventory param j n s).cells = s.cells := by
  simp [adminInventory]

/-! ### Machine/BankOps -/

@[simp] theorem noParam_cells (f : Job → State → State) (j : Job) (s : State) (hf : ∀ a0 s, (f a0 s).cells = s.cells) :
    (noParam f j s).cells = s.cells := by simp [noParam, hf]
@[simp] theorem paramOf_cells (len : Nat) (f : Job → State → State) (j : Job) (s : State)
    (hf : ∀ a0 s, (f a0 s).cells = s.cells) : (paramOf len f j s).cells = s.cells := by
  simp [paramOf, hf]
@[simp] theorem storeRecord_cells (id d) (s : State) : (storeRecord id d s).cells = s.cells := by simp [storeRecord]
@[simp] theorem profileDelete_cells (j) (s : State) : (profileDelete j s).cells = s.cells := by simp [profileDelete]
@[simp] theorem journalList_cells (param j) (s : State) : (journalList param j s).cells = s.cells := by
  simp [journalList]
@[simp] theorem journalClose_cells (param j) (s : State) : (journalClose param j s).cells = s.cells := by
  simp only [journalClose]; (repeat' split) <;> simp
@[simp] theorem auditRead_cells (param j) (s : State) : (auditRead param j s).cells = s.cells := by simp [auditRead]
@[simp] theorem auditTrim_cells (param j) (s : State) : (auditTrim param j s).cells = s.cells := by simp [auditTrim]

/-! ### Machine/KeyOps -/

@[simp] theorem renewCeremonyNonce_cells (s : State) : (renewCeremonyNonce s).cells = s.cells := by
  simp only [renewCeremonyNonce]; split <;> simp
@[simp] theorem needBank_cells (f : Job → State → State) (j : Job) (s : State) (hf : ∀ a0 s, (f a0 s).cells = s.cells) :
    (needBank f j s).cells = s.cells := by simp [needBank, hf]
@[simp] theorem closeCeremony_cells (s : State) : (closeCeremony s).cells = s.cells := by
  simp only [closeCeremony]; split <;> simp
@[simp] theorem ceremonyOpen_cells (j) (s : State) : (ceremonyOpen j s).cells = s.cells := by simp [ceremonyOpen]
@[simp] theorem ceremonyClose_cells (j) (s : State) : (ceremonyClose j s).cells = s.cells := by
  simp only [ceremonyClose]; split <;> simp
@[simp] theorem keyImport_cells (param j) (s : State) : (keyImport param j s).cells = s.cells := by
  simp only [keyImport]; (repeat' split) <;> simp
@[simp] theorem dropCached_cells (h) (s : State) : (dropCached h s).cells = s.cells := by simp [dropCached]
@[simp] theorem keyDelete_cells (j) (s : State) : (keyDelete j s).cells = s.cells := by simp [keyDelete]
@[simp] theorem keyList_cells (j) (s : State) : (keyList j s).cells = s.cells := by simp [keyList]
@[simp] theorem attestId_cells (j) (s : State) : (attestId j s).cells = s.cells := by simp [attestId]

/-! ### Machine/ToolOps -/

@[simp] theorem cancelPlaced_cells (k) (s : State) : (cancelPlaced k s).cells = s.cells := by
  simp only [cancelPlaced]; split <;> simp
@[simp] theorem cancelTarget_cells (j) (s : State) : (cancelTarget j s).cells = s.cells := by
  simp only [cancelTarget]; (repeat' split) <;> simp
@[simp] theorem sbusConfig_cells (param j) (s : State) : (sbusConfig param j s).cells = s.cells := by simp [sbusConfig]
@[simp] theorem sbusStatus_cells (j) (s : State) : (sbusStatus j s).cells = s.cells := by simp [sbusStatus]
@[simp] theorem restoreSlot_cells (n) (s : State) : (restoreSlot n s).cells = s.cells := by simp [restoreSlot]
@[simp] theorem restoreUnit_cells (u) (s : State) : (restoreUnit u s).cells = s.cells := by
  simp only [restoreUnit]; split <;> simp
@[simp] theorem unitClear_cells (failed j) (s : State) : (unitClear failed j s).cells = s.cells := by
  simp only [unitClear]; (repeat' split) <;> simp
@[simp] theorem bistReport_cells (j) (s : State) : (bistReport j s).cells = s.cells := by simp [bistReport]

/-! ### Machine/Link -/

@[simp] theorem sendChars_cells (n bs) (s : State) : (sendChars n bs s).cells = s.cells := by simp [sendChars]
@[simp] theorem updExch_cells (n f) (s : State) : (updExch n f s).cells = s.cells := by simp [updExch]
@[simp] theorem updT1_cells (n f) (s : State) : (updT1 n f s).cells = s.cells := by simp [updT1]
@[simp] theorem endExch_cells (n st sw resp) (s : State) : (endExch n st sw resp s).cells = s.cells := by
  simp only [endExch]; split <;> simp
@[simp] theorem endResponse_cells (n data sw) (s : State) : (endResponse n data sw s).cells = s.cells := by
  simp only [endResponse]; split <;> simp
@[simp] theorem sendIBlock_cells (n) (s : State) : (sendIBlock n s).cells = s.cells := by
  simp only [sendIBlock]; split <;> simp
@[simp] theorem sendBlock_cells (n pcb inf) (s : State) : (sendBlock n pcb inf s).cells = s.cells := by simp [sendBlock]
@[simp] theorem sendRequest_cells (n pcb inf f) (s : State) : (sendRequest n pcb inf f s).cells = s.cells := by
  simp [sendRequest]
@[simp] theorem resendLast_cells (n) (s : State) : (resendLast n s).cells = s.cells := by simp [resendLast]
@[simp] theorem sendResynch_cells (n) (s : State) : (sendResynch n s).cells = s.cells := by simp [sendResynch]
@[simp] theorem t1Escalate_cells (n) (s : State) : (t1Escalate n s).cells = s.cells := by simp [t1Escalate]
@[simp] theorem t1Fail_cells (n err invalid) (s : State) : (t1Fail n err invalid s).cells = s.cells := by simp [t1Fail]
@[simp] theorem startExch_cells (n kind job gen step apdu respMax) (s : State) :
    (startExch n kind job gen step apdu respMax s).cells = s.cells := by simp [startExch]
@[simp] theorem startIfs_cells (n) (s : State) : (startIfs n s).cells = s.cells := by simp [startIfs]
@[simp] theorem endSession_cells (n) (s : State) : (endSession n s).cells = s.cells := by
  simp only [endSession]; split <;> simp
@[simp] theorem startWarm_cells (n) (s : State) : (startWarm n s).cells = s.cells := by simp [startWarm]
@[simp] theorem tryWarm_cells (n) (s : State) : (tryWarm n s).cells = s.cells := by simp [tryWarm]
@[simp] theorem markGalFailed_cells (n) (s : State) : (markGalFailed n s).cells = s.cells := by simp [markGalFailed]
@[simp] theorem updGal_cells (n f) (s : State) : (updGal n f s).cells = s.cells := by simp [updGal]
@[simp] theorem sendToken_cells (n op csn len aux want) (s : State) :
    (sendToken n op csn len aux want s).cells = s.cells := by simp [sendToken]
@[simp] theorem sendCmd_cells (n w) (s : State) : (sendCmd n w s).cells = s.cells := by simp [sendCmd]
@[simp] theorem sendFetch_cells (n w) (s : State) : (sendFetch n w s).cells = s.cells := by simp [sendFetch]
@[simp] theorem sendLts_cells (n) (s : State) : (sendLts n s).cells = s.cells := by simp [sendLts]
@[simp] theorem galPhase_cells (n) (s : State) : (galPhase n s).cells = s.cells := by simp [galPhase]
@[simp] theorem pushEnded_cells (n l) (s : State) : (pushEnded n l s).cells = s.cells := by simp [pushEnded]
@[simp] theorem settleFrom_cells (n r how l) (s : State) : (settleFrom n r how l s).cells = s.cells := by
  exact forEach_cells _ _ _ fun e s => by (repeat' split) <;> simp
@[simp] theorem beginGiveUp_cells (n why) (s : State) : (beginGiveUp n why s).cells = s.cells := by simp [beginGiveUp]
@[simp] theorem abandon_cells (n base mark rec) (s : State) : (abandon n base mark rec s).cells = s.cells := by
  simp only [abandon, onlyIf]; (repeat' split) <;> simp
@[simp] theorem concludeGiveUp_cells (n rec) (s : State) : (concludeGiveUp n rec s).cells = s.cells := by
  simp only [concludeGiveUp]; split <;> simp
@[simp] theorem pump_cells (n) (s : State) : (pump n s).cells = s.cells := by simp only [pump]; (repeat' split) <;> simp
@[simp] theorem linkError_cells (n lines) (s : State) : (linkError n lines s).cells = s.cells := by
  simp only [linkError]; split <;> simp
@[simp] theorem afterLinkError_cells (n lines) (s : State) : (afterLinkError n lines s).cells = s.cells := by
  simp [afterLinkError]

/-! ### Machine/Engine -/

@[simp] theorem writeIntent_cells (id n k st first csn) (s : State) :
    (writeIntent id n k st first csn s).cells = s.cells := by simp only [writeIntent]; split <;> simp
@[simp] theorem updRun_cells (id f) (s : State) : (updRun id f s).cells = s.cells := by simp [updRun]
@[simp] theorem holdError_cells (id k err) (s : State) : (holdError id k err s).cells = s.cells := by simp [holdError]
@[simp] theorem settleIdle_cells (id) (s : State) : (settleIdle id s).cells = s.cells := by
  simp only [settleIdle]; (repeat' split) <;> simp
@[simp] theorem queueStaged_cells (id l follow) (s : State) : (queueStaged id l follow s).cells = s.cells := by
  simp [queueStaged]
@[simp] theorem settleCard_cells (n l) (s : State) : (settleCard n l s).cells = s.cells := by
  simp only [settleCard]; split <;> simp
@[simp] theorem admitCard_cells (id : JobId) (n : SlotId) (ok : State → State) (s : State)
    (hf : ∀ s, (ok s).cells = s.cells) : (admitCard id n ok s).cells = s.cells := by
  simp only [admitCard]; (repeat' split) <;> simp [hf]
@[simp] theorem dropStaged_cells (id n l) (s : State) : (dropStaged id n l s).cells = s.cells := by
  simp only [dropStaged, updRun_cells]
  exact forEach_cells _ _ _ fun t s => by split <;> simp
@[simp] theorem goTarget_cells (id st t) (s : State) : (goTarget id st t s).cells = s.cells := by simp [goTarget]
@[simp] theorem takeResult_cells (id d) (s : State) : (takeResult id d s).cells = s.cells := by simp [takeResult]
@[simp] theorem takeKeep_cells (id d) (s : State) : (takeKeep id d s).cells = s.cells := by simp [takeKeep]
@[simp] theorem takeData_cells (id st d) (s : State) : (takeData id st d s).cells = s.cells := by
  simp only [takeData, onlyIf]; (repeat' split) <;> simp
@[simp] theorem takeIdentity_cells (id n d) (s : State) : (takeIdentity id n d s).cells = s.cells := by
  simp [takeIdentity]
@[simp] theorem matchStep_cells (id n t st sw rsw data) (s : State) :
    (matchStep id n t st sw rsw data s).cells = s.cells := by simp only [matchStep, onlyIf]; (repeat' split) <;> simp

/-! ### Machine/SlotElec -/

@[simp] theorem grant_cells (q) (s : State) : (grant q s).cells = s.cells := by simp [grant]
@[simp] theorem failAttempt_cells (n c) (s : State) : (failAttempt n c s).cells = s.cells := by simp [failAttempt]
@[simp] theorem classStep_cells (n k) (s : State) : (classStep n k s).cells = s.cells := by simp [classStep]
@[simp] theorem stepOrFail_cells (n c) (s : State) : (stepOrFail n c s).cells = s.cells := by
  simp only [stepOrFail]; split <;> simp
@[simp] theorem setDeact_cells (n f) (s : State) : (setDeact n f s).cells = s.cells := by simp [setDeact]
@[simp] theorem linesLow_cells (n) (s : State) : (linesLow n s).cells = s.cells := by simp [linesLow]
@[simp] theorem judgeContact_cells (n) (s : State) : (judgeContact n s).cells = s.cells := by
  simp only [judgeContact, onlyIf]; (repeat' split) <;> simp
@[simp] theorem ldoOff_cells (n) (s : State) : (ldoOff n s).cells = s.cells := by simp [ldoOff]
@[simp] theorem railFell_cells (r before) (s : State) : (railFell r before s).cells = s.cells := by simp [railFell]
@[simp] theorem ejectAtEnd_cells (n) (s : State) : (ejectAtEnd n s).cells = s.cells := by
  simp only [ejectAtEnd]; split <;> simp
@[simp] theorem loseIfExcluded_cells (n) (s : State) : (loseIfExcluded n s).cells = s.cells := by simp [loseIfExcluded]
@[simp] theorem enterUnstable_cells (n) (s : State) : (enterUnstable n s).cells = s.cells := by simp [enterUnstable]
@[simp] theorem enterQuarantined_cells (n) (s : State) : (enterQuarantined n s).cells = s.cells := by
  simp [enterQuarantined]
@[simp] theorem settleSlot_cells (n) (s : State) : (settleSlot n s).cells = s.cells := by simp [settleSlot]
@[simp] theorem adminDown_cells (n) (s : State) : (adminDown n s).cells = s.cells := by
  simp only [adminDown]; split <;> simp
@[simp] theorem wantActivation_cells (n) (s : State) : (wantActivation n s).cells = s.cells := by
  simp only [wantActivation]; split <;> simp
@[simp] theorem sideLost_cells (s : State) : (sideLost s).cells = s.cells := by simp [sideLost]

/-! ### Machine/Presence -/

@[simp] theorem learnFeed_cells (n) (s : State) : (learnFeed n s).cells = s.cells := by
  simp only [learnFeed]; split <;> simp

/-! ### Machine/CharLayer -/

@[simp] theorem adminReady_cells (n) (s : State) : (adminReady n s).cells = s.cells := by
  simp only [adminReady]; split <;> simp
@[simp] theorem failPps_cells (n) (s : State) : (failPps n s).cells = s.cells := by simp [failPps]
@[simp] theorem noteOverruns_cells (n k) (s : State) : (noteOverruns n k s).cells = s.cells := by simp [noteOverruns]
@[simp] theorem t1Repeat_cells (n) (s : State) : (t1Repeat n s).cells = s.cells := by simp [t1Repeat]
@[simp] theorem sendAbort_cells (n) (s : State) : (sendAbort n s).cells = s.cells := by simp [sendAbort]
@[simp] theorem t1Complete_cells (n resp) (s : State) : (t1Complete n resp s).cells = s.cells := by simp [t1Complete]
@[simp] theorem takeIBlock_cells (n pcb inf) (s : State) : (takeIBlock n pcb inf s).cells = s.cells := by
  simp [takeIBlock]
@[simp] theorem takeRBlock_cells (n nr) (s : State) : (takeRBlock n nr s).cells = s.cells := by simp [takeRBlock]
@[simp] theorem takeSBlock_cells (n : SlotId) (valid : Bool) (f : State → State) (s : State)
    (hf : ∀ s, (f s).cells = s.cells) : (takeSBlock n valid f s).cells = s.cells := by
  simp [takeSBlock, hf]
@[simp] theorem t0Error_cells (n : SlotId) (at_ : Nat) (again : State → State) (s : State)
    (hf : ∀ s, (again s).cells = s.cells) : (t0Error n at_ again s).cells = s.cells := by
  simp only [t0Error]; (repeat' split) <;> simp [hf]
@[simp] theorem t0Proceed_cells (n e one) (s : State) : (t0Proceed n e one s).cells = s.cells := by simp [t0Proceed]
@[simp] theorem t0Again_cells (n a) (s : State) : (t0Again n a s).cells = s.cells := by simp [t0Again]
@[simp] theorem takeProcedure_cells (n e b b2) (s : State) : (takeProcedure n e b b2 s).cells = s.cells := by
  simp [takeProcedure]
@[simp] theorem adminWarm_cells (j n) (s : State) : (adminWarm j n s).cells = s.cells := by simp [adminWarm]

/-! ### Machine/Exchange -/

@[simp] theorem noteStale_cells (job) (s : State) : (noteStale job s).cells = s.cells := by simp [noteStale]
@[simp] theorem takeCsn_cells (n) (s : State) : (takeCsn n s).2.cells = s.cells := by
  simp only [takeCsn]; split <;> simp
@[simp] theorem takeCancelled_cells (id n t how) (s : State) : (takeCancelled id n t how s).cells = s.cells := by
  simp only [takeCancelled]; (repeat' split) <;> simp
@[simp] theorem takeFailed_cells (id n t e) (s : State) : (takeFailed id n t e s).cells = s.cells := by
  simp only [takeFailed]; (repeat' split) <;> simp
@[simp] theorem reportResolution_cells (n e) (s : State) : (reportResolution n e s).cells = s.cells := by
  simp only [reportResolution]; (repeat' split) <;> simp
@[simp] theorem addNoise_cells (n job noise chars) (s : State) : (addNoise n job noise chars s).cells = s.cells := by
  simp [addNoise]
@[simp] theorem resumeJob_cells (id n) (s : State) : (resumeJob id n s).cells = s.cells := by simp [resumeJob]
@[simp] theorem settleResolving_cells (j n) (s : State) : (settleResolving j n s).cells = s.cells := by
  simp only [settleResolving]; (repeat' split) <;> simp

/-! ### Machine/Profile -/

@[simp] theorem startSwitch_cells (n) (s : State) : (startSwitch n s).cells = s.cells := by simp [startSwitch]
@[simp] theorem beginRun_cells (id n r) (s : State) : (beginRun id n r s).cells = s.cells := by simp [beginRun]
@[simp] theorem firstByte_cells (j : Job) (k : Nat) (go : State → State) (s : State)
    (hf : ∀ s, (go s).cells = s.cells) : (firstByte j k go s).cells = s.cells := by
  simp [firstByte, hf]
@[simp] theorem markSent_cells (id t) (s : State) : (markSent id t s).cells = s.cells := by simp [markSent]
@[simp] theorem sendGal_cells (id n gen r t) (s : State) : (sendGal id n gen r t s).cells = s.cells := by simp [sendGal]
@[simp] theorem sendStaged_cells (j n r t) (s : State) : (sendStaged j n r t s).cells = s.cells := by simp [sendStaged]
@[simp] theorem releaseSwitch_cells (n) (s : State) : (releaseSwitch n s).cells = s.cells := by simp [releaseSwitch]
@[simp] theorem stageExtAuth_cells (id t st g) (s : State) : (stageExtAuth id t st g s).cells = s.cells := by
  simp [stageExtAuth]
@[simp] theorem scRefused_cells (id n t st) (s : State) : (scRefused id n t st s).cells = s.cells := by simp [scRefused]
@[simp] theorem takeInitUpdate_cells (id n r t st resp sw) (s : State) :
    (takeInitUpdate id n r t st resp sw s).cells = s.cells := by simp [takeInitUpdate]
@[simp] theorem updBlock_cells (t i f) (s : State) : (updBlock t i f s).cells = s.cells := by simp [updBlock]
@[simp] theorem updTarget_cells (t f) (s : State) : (updTarget t f s).cells = s.cells := by simp [updTarget]
@[simp] theorem growBad_cells (t i) (s : State) : (growBad t i s).cells = s.cells := by
  simp only [growBad, onlyIf]; (repeat' split) <;> simp
@[simp] theorem noteRead_cells (rd) (s : State) : (noteRead rd s).cells = s.cells := by simp [noteRead]
@[simp] theorem takeRecord_cells (j n rd) (s : State) : (takeRecord j n rd s).cells = s.cells := by
  simp only [takeRecord]; split <;> simp

/-! ### Machine/Galloper -/

@[simp] theorem updCmd_cells (n csn f) (s : State) : (updCmd n csn f s).cells = s.cells := by simp [updCmd]
@[simp] theorem noteBusy_cells (n) (s : State) : (noteBusy n s).cells = s.cells := by simp [noteBusy]
@[simp] theorem takeRcv_cells (n csn sw) (s : State) : (takeRcv n csn sw s).cells = s.cells := by simp [takeRcv]
@[simp] theorem fetched_cells (n csn sw data) (s : State) : (fetched n csn sw data s).cells = s.cells := by
  simp only [fetched]; (repeat' split) <;> simp
@[simp] theorem endUnfetched_cells (n csn st how) (s : State) : (endUnfetched n csn st how s).cells = s.cells := by
  simp only [endUnfetched]; split <;> simp
@[simp] theorem takeRsp_cells (n csn t) (s : State) : (takeRsp n csn t s).cells = s.cells := by simp [takeRsp]
@[simp] theorem actOnRecord_cells (n r csn) (s : State) : (actOnRecord n r csn s).cells = s.cells := by
  simp only [actOnRecord]; split <;> simp
@[simp] theorem takeLts_cells (n g b) (s : State) : (takeLts n g b s).cells = s.cells := by simp [takeLts]
@[simp] theorem busyDown_cells (n) (s : State) : (busyDown n s).cells = s.cells := by simp [busyDown]
@[simp] theorem settleOld_cells (n r) (s : State) : (settleOld n r s).cells = s.cells := by simp [settleOld]
@[simp] theorem sendTrain_cells (n) (s : State) : (sendTrain n s).cells = s.cells := by simp [sendTrain]

/-! ### Machine/Placement -/

@[simp] theorem takeContext_cells (id g p) (s : State) : (takeContext id g p s).cells = s.cells := by simp [takeContext]
@[simp] theorem placeJob_cells (id n) (s : State) : (placeJob id n s).cells = s.cells := by
  simp only [placeJob]; (repeat' split) <;> simp
@[simp] theorem considerJob_cells (id) (s : State) : (considerJob id s).cells = s.cells := by
  simp only [considerJob]; (repeat' split) <;> simp
@[simp] theorem grantWindows_cells (s : State) : (grantWindows s).cells = s.cells := by simp [grantWindows]

/-! ### Machine/Monitors -/

@[simp] theorem startSlotCheck_cells (n c) (s : State) : (startSlotCheck n c s).cells = s.cells := by
  simp [startSlotCheck]
@[simp] theorem startRingCheck_cells (r l) (s : State) : (startRingCheck r l s).cells = s.cells := by
  simp [startRingCheck]
@[simp] theorem resumeRequest_cells (n) (s : State) : (resumeRequest n s).cells = s.cells := by
  simp only [resumeRequest]; (repeat' split) <;> simp
@[simp] theorem endInPlace_cells (n) (s : State) : (endInPlace n s).cells = s.cells := by simp [endInPlace]
@[simp] theorem failPowered_cells (n c step) (s : State) : (failPowered n c step s).cells = s.cells := by
  simp [failPowered]
@[simp] theorem endSlotCheck_cells (n c fail) (s : State) : (endSlotCheck n c fail s).cells = s.cells := by
  simp only [endSlotCheck]; split <;> simp
@[simp] theorem failStandbySet_cells (r c step) (s : State) : (failStandbySet r c step s).cells = s.cells := by
  simp [failStandbySet]
@[simp] theorem endRingCheck_cells (r c fail) (s : State) : (endRingCheck r c fail s).cells = s.cells := by
  simp only [endRingCheck]; split <;> simp
@[simp] theorem failSupply_cells (c k) (s : State) : (failSupply c k s).cells = s.cells := by simp [failSupply]
@[simp] theorem takeHandover_cells (ring k c agree) (s : State) : (takeHandover ring k c agree s).cells = s.cells := by
  simp [takeHandover]

/-! ### Machine/Rings -/

@[simp] theorem ringFault_cells (r code) (s : State) : (ringFault r code s).cells = s.cells := by simp [ringFault]

/-! ### Machine/Journal -/

@[simp] theorem eraseDone_cells (t i) (s : State) : (eraseDone t i s).cells = s.cells := by simp [eraseDone]

/-! ### Machine/Tightrope -/

@[simp] theorem noteLimit_cells (key : Nat) (reached : Bool) (event : State → State) (s : State)
    (hf : ∀ s, (event s).cells = s.cells) : (noteLimit key reached event s).cells = s.cells := by
  simp [noteLimit, hf]
@[simp] theorem lowerSession_cells (n ceiling) (s : State) : (lowerSession n ceiling s).cells = s.cells := by
  simp [lowerSession]
@[simp] theorem applyGuard_cells (s : State) : (applyGuard s).cells = s.cells := by simp [applyGuard]

/-! ### Machine/Security -/

@[simp] theorem endDebug_cells (why) (s : State) : (endDebug why s).cells = s.cells := by simp [endDebug]
@[simp] theorem renewDebugNonce_cells (s : State) : (renewDebugNonce s).cells = s.cells := by simp [renewDebugNonce]
@[simp] theorem openDebug_cells (r) (s : State) : (openDebug r s).cells = s.cells := by simp [openDebug]
@[simp] theorem zeroiseBuffers_cells (s : State) : (zeroiseBuffers s).cells = s.cells := by simp [zeroiseBuffers]
@[simp] theorem endQueued_cells (s : State) : (endQueued s).cells = s.cells := by simp [endQueued]
@[simp] theorem dropHolder_cells (n) (s : State) : (dropHolder n s).cells = s.cells := by simp [dropHolder]
@[simp] theorem latchTamper_cells (level x) (s : State) : (latchTamper level x s).cells = s.cells := by
  simp only [latchTamper]; split <;> simp
/-! ### Machine/Faults -/

@[simp] theorem noteRecovery_cells (u) (s : State) : (noteRecovery u s).cells = s.cells := by simp [noteRecovery]
@[simp] theorem recoverSlot_cells (n) (s : State) : (recoverSlot n s).cells = s.cells := by simp [recoverSlot]
@[simp] theorem recoverPair_cells (p) (s : State) : (recoverPair p s).cells = s.cells := by simp [recoverPair]
@[simp] theorem startRecovery_cells (u code) (s : State) : (startRecovery u code s).cells = s.cells := by
  simp only [startRecovery]; split <;> simp
@[simp] theorem backInService_cells (u) (s : State) : (backInService u s).cells = s.cells := by
  simp only [backInService]; split <;> simp
@[simp] theorem refusalJob_cells (v) (s : State) : (refusalJob v s).cells = s.cells := by
  simp only [refusalJob]; split <;> simp

/-! ### Machine/StationBus -/

@[simp] theorem updPort_cells (p f) (s : State) : (updPort p f s).cells = s.cells := by simp [updPort]
@[simp] theorem feedFails_cells (n job) (s : State) : (feedFails n job s).cells = s.cells := by
  simp only [feedFails]; split <;> simp
@[simp] theorem failCommand_cells (p why c) (s : State) : (failCommand p why c s).cells = s.cells := by
  simp [failCommand]
@[simp] theorem retryCommand_cells (p why c) (s : State) : (retryCommand p why c s).cells = s.cells := by
  simp [retryCommand]
@[simp] theorem unanswered_cells (p mu) (s : State) : (unanswered p mu s).cells = s.cells := by
  simp only [unanswered]; split <;> simp
@[simp] theorem emitPoll_cells (p mu) (s : State) : (emitPoll p mu s).cells = s.cells := by simp [emitPoll]
@[simp] theorem emitCommand_cells (p c) (s : State) : (emitCommand p c s).cells = s.cells := by simp [emitCommand]
@[simp] theorem noteStatus_cells (p mu d) (s : State) : (noteStatus p mu d s).cells = s.cells := by
  simp only [noteStatus, onlyIf]; (repeat' split) <;> simp
@[simp] theorem judgeAck_cells (p mu d) (s : State) : (judgeAck p mu d s).cells = s.cells := by
  simp only [judgeAck]; (repeat' split) <;> simp

/-! ### Machine/Sideshow -/

@[simp] theorem blockRead_cells (d) (s : State) : (blockRead d s).cells = s.cells := by simp [blockRead]
@[simp] theorem sideResult_cells (code r) (s : State) : (sideResult code r s).cells = s.cells := by simp [sideResult]
@[simp] theorem sideNack_cells (code r) (s : State) : (sideNack code r s).cells = s.cells := by simp [sideNack]
@[simp] theorem answerSide_cells (r) (s : State) : (answerSide r s).cells = s.cells := by simp [answerSide]
@[simp] theorem mainCommand_cells (code : Byte) (f : State → State) (s : State) (hf : ∀ s, (f s).cells = s.cells) :
    (mainCommand code f s).cells = s.cells := by simp [mainCommand, hf]
@[simp] theorem tagFailed_cells (code) (s : State) : (tagFailed code s).cells = s.cells := by simp [tagFailed]
@[simp] theorem slotsOff_cells (d) (s : State) : (slotsOff d s).cells = s.cells := by simp [slotsOff]
@[simp] theorem sideBist_cells (d) (s : State) : (sideBist d s).cells = s.cells := by simp [sideBist]

/-! ### Operations over loops, and those that build on them -/

@[simp] theorem writeBatch_cells (l n) (s : State) : (writeBatch l n s).1.cells = s.cells := by
  induction l generalizing n s with
  | nil => rfl
  | cons a l ih => unfold writeBatch; split <;> simp [ih]
@[simp] theorem recordWrite_cells (param j) (s : State) : (recordWrite param j s).cells = s.cells := by
  simp [recordWrite]
@[simp] theorem deleteRecord_cells (id a) : (deleteRecord id a).1.cells = a.1.cells := by
  unfold deleteRecord; split <;> simp
theorem deleteRecords_cells (key : Nat → W64) (l : List Nat) (a : State × Nat) :
    (l.foldl (fun a i => deleteRecord (key i) a) a).1.cells = a.1.cells := by
  induction l generalizing a with
  | nil => rfl
  | cons i l ih => simp [ih]
@[simp] theorem recordDelete_cells (param j) (s : State) : (recordDelete param j s).cells = s.cells := by
  simp [recordDelete, deleteRecords_cells]
@[simp] theorem profileWrite_cells (param j) (s : State) : (profileWrite param j s).cells = s.cells := by
  unfold profileWrite
  extract_lets id img
  generalize parseProfile img = q
  cases q with
  | none => simp
  | some p =>
    dsimp only
    split
    · simp
    · rw [doneWith_cells, State.cells_mk]; rfl
@[simp] theorem ownerSet_cells (param j) (s : State) : (ownerSet param j s).cells = s.cells := by
  simp only [ownerSet]; (repeat' split) <;> simp
@[simp] theorem mgmtSet_cells (param j) (s : State) : (mgmtSet param j s).cells = s.cells := by
  simp only [mgmtSet]; (repeat' split) <;> simp
@[simp] theorem substitute_cells (n j r ctr l t) (s : State) : (substitute n j r ctr l t s).2.cells = s.cells := by
  induction l generalizing t s with
  | nil => rfl
  | cons u l ih => simp [substitute, ih]
theorem resolutionStep_build_cells (e : Intent) (l : List Sub) (d : List Byte) (s : State) {r : List Byte × State}
    (h : resolutionStep.build e l d s = some r) : r.2.cells = s.cells := by
  induction l generalizing d s with
  | nil => cases h; rfl
  | cons u l ih =>
    unfold resolutionStep.build at h
    split at h
    · split at h
      · split at h
        · exact ih _ _ h
        · cases h
      · cases h
    · exact ih _ (s.drew u.len) h
    · cases h
theorem resolutionStep_cells (n : SlotId) (p : W16) (s : State) {st : Step} {apdu : List Byte} {t : State}
    (h : resolutionStep n p s = some (st, apdu, t)) : t.cells = s.cells := by
  unfold resolutionStep at h
  split at h
  · obtain ⟨r, hr, e⟩ := Option.map_eq_some_iff.1 h
    cases e
    exact resolutionStep_build_cells _ _ _ _ hr
  · cases h
@[simp] theorem resolveNext_cells (n l) (s : State) : (resolveNext n l s).cells = s.cells := by
  induction l with
  | nil => simp [resolveNext]
  | cons p l ih =>
    unfold resolveNext; split
    · next h => simp [resolutionStep_cells n p s h]
    · exact ih
@[simp] theorem whenReady_cells (n) (s : State) : (whenReady n s).cells = s.cells := by
  simp only [whenReady]; (repeat' split) <;> simp
@[simp] theorem acceptCard_cells (n fi di p) (s : State) : (acceptCard n fi di p s).cells = s.cells := by
  simp [acceptCard]
@[simp] theorem afterIfs_cells (n) (s : State) : (afterIfs n s).cells = s.cells := by simp [afterIfs]
@[simp] theorem take61_cells (id n t sw) (s : State) : (take61 id n t sw s).cells = s.cells := by
  simp only [take61]; (repeat' split) <;> simp
@[simp] theorem takeOk_cells (id n t st e) (s : State) : (takeOk id n t st e s).cells = s.cells := by simp [takeOk]
@[simp] theorem reportStep_cells (n e) (s : State) : (reportStep n e s).cells = s.cells := by
  simp only [reportStep]; (repeat' split) <;> simp
@[simp] theorem afterReport_cells (n) (s : State) : (afterReport n s).cells = s.cells := by simp [afterReport]
@[simp] theorem reportEnd_cells (n e rest noise chars) (s : State) :
    (reportEnd n e rest noise chars s).cells = s.cells := by simp only [reportEnd]; split <;> simp
@[simp] theorem takeSwitch_cells (n e) (s : State) : (takeSwitch n e s).cells = s.cells := by
  simp only [takeSwitch]; (repeat' split) <;> simp
@[simp] theorem finishSweep_cells (n g l) (s : State) : (finishSweep n g l s).cells = s.cells := by
  simp [finishSweep, onlyIf]
theorem writeImage_cells {off : Nat} {data : List Byte} {s t : State} (h : writeImage off data s = some t) :
    t.cells = s.cells := by
  unfold writeImage at h
  split at h
  · cases h
  · split at h
    · cases h; rfl
    · split at h <;> cases h; rfl
@[simp] theorem fwWrite_cells (param j) (s : State) : (fwWrite param j s).cells = s.cells := by
  simp only [fwWrite]; split
  · simp
  · split
    · next h => simp [writeImage_cells h]
    · simp
@[simp] theorem passPlan_cells (old) (s : State) : (passPlan old s).cells = s.cells := by
  simp only [passPlan]
  refine (forEach_cells _ _ _ ?_).trans (forEach_cells _ _ _ ?_) <;> intros <;> simp
@[simp] theorem issuePlan_cells (changes) (s : State) : (issuePlan changes s).cells = s.cells := by simp [issuePlan]
@[simp] theorem noteHeadrooms_cells (s : State) :
    (noteHeadrooms s).cells = s.cells := forEach_cells _ _ _ fun _ _ => noteLimit_cells _ _ _ _ fun _ => rfl
@[simp] theorem toFactoryPlan_cells (old) (s : State) : (toFactoryPlan old s).cells = s.cells := by simp [toFactoryPlan]
@[simp] theorem keysInto_cells (target) (s : State) : (keysInto target s).cells = s.cells := by
  simp only [keysInto]; split <;> simp
@[simp] theorem badCommand_cells (code) (s : State) : (badCommand code s).cells = s.cells := by simp [badCommand]

/-! ### Machine/HostLink, Machine/Firmware, Machine/Security: operations that move the gate bits or a bank -/

@[simp] theorem beginWindDown_cells (s : State) : (beginWindDown s).cells = s.cells := by simp [beginWindDown]
@[simp] theorem dropReady_cells (s : State) : (dropReady s).cells = s.cells := by simp [dropReady]
@[simp] theorem setStandby_cells (f) (s : State) : (setStandby f s).cells = s.cells := by simp [setStandby]
@[simp] theorem prepareFw_cells (s : State) : (prepareFw s).cells = s.cells := by simp [prepareFw]
@[simp] theorem commitFw_cells (s : State) : (commitFw s).cells = s.cells := by simp [commitFw]
@[simp] theorem abortFw_cells (s : State) : (abortFw s).cells = s.cells := by simp [abortFw]
@[simp] theorem selectBank_cells (s : State) : (selectBank s).cells = s.cells := by
  simp only [selectBank]; split
  · simp only [cells_ite, raise_cells, State.cells_mk, ite_self]
    (repeat' split) <;> simp
  · simp

/-! ## What raises WCNT (R256, R257) -/

/-- Between two values of the one-way cells WCNT rose or stayed, and nothing else moved. -/
structure Cells.Rises (a b : Cells) : Prop where
  lc : b.lc = a.lc
  svnFloor : b.svnFloor = a.svnFloor
  changing : b.changing = a.changing
  wcnt : a.wcnt.toNat ≤ b.wcnt.toNat

theorem Cells.Rises.refl (a : Cells) : a.Rises a := ⟨rfl, rfl, rfl, le_refl _⟩

theorem bumpWcnt_ge (w : W64) : w.toNat ≤ (bumpWcnt w).toNat := by
  unfold bumpWcnt
  split
  · exact le_refl _
  · next h =>
    simp only [beq_iff_eq] at h
    bv_omega

theorem Cells.Rises.bump {a b : Cells} (h : a.Rises b) : a.Rises { b with wcnt := bumpWcnt b.wcnt } :=
  ⟨h.lc, h.svnFloor, h.changing, h.wcnt.trans (bumpWcnt_ge _)⟩

section Rises
variable {a : Cells} {s : State}

theorem rises_ite {c : Prop} [Decidable c] {x y : State} (hx : a.Rises x.cells) (hy : a.Rises y.cells) :
    a.Rises (if c then x else y).cells := by split <;> assumption

theorem rppWrite_rises (h : a.Rises s.cells) : a.Rises (rppWrite s).cells := rises_ite h h.bump

theorem cryptoErase_rises (keep newKey : Bool) (h : a.Rises s.cells) : a.Rises (cryptoErase keep newKey s).cells :=
  rises_ite (rppWrite_rises h) h

theorem auditLcChange_rises (old new : LcState) (h : a.Rises s.cells) : a.Rises (auditLcChange old new s).cells :=
  rppWrite_rises (by simpa using h)

theorem startRpp_rises (copies : List RppCopy) (h : a.Rises s.cells) : a.Rises (startRpp copies s).cells := by
  unfold startRpp
  split
  · exact h
  · refine rppWrite_rises ?_
    rw [reserveAll_cells, forEach_cells _ _ _ fun i s => by split <;> simp]
    exact rises_ite h.bump h

theorem auditAttest_rises (param : List Byte) (j : Job) (h : a.Rises s.cells) :
    a.Rises (auditAttest param j s).cells := by
  simpa [auditAttest] using rppWrite_rises h

theorem counterRelease_rises (j : Job) (h : a.Rises s.cells) : a.Rises (counterRelease j s).cells := by
  unfold counterRelease
  split
  · simpa using h
  · refine rises_ite (by simpa using h) (rises_ite (by simpa using h) (rises_ite (by simpa using h) ?_))
    rw [doneWith_cells, audit_cells]
    exact rppWrite_rises h

theorem consumeCounter_rises (id : JobId) (i : Fin 256) (k : W32) (h : a.Rises s.cells) :
    a.Rises (consumeCounter id i k s).cells := by
  rw [consumeCounter, State.updJob_cells]
  exact rises_ite (rppWrite_rises h) h

theorem intentFor_rises (id : JobId) (n : SlotId) (k : Nat) (st : Step) (csn : W16) (h : a.Rises s.cells) :
    a.Rises (intentFor id n k st csn s).2.cells := by
  unfold intentFor
  split
  · exact h
  · split
    · exact h
    · dsimp only
      rw [writeIntent_cells]
      split
      · exact consumeCounter_rises _ _ _ h
      · exact h

theorem stageScOpen_rises (id : JobId) (n : SlotId) (j : Job) (k : Nat) (st : Step) (h : a.Rises s.cells) :
    a.Rises (stageScOpen id n j k st s).cells := by
  unfold stageScOpen
  extract_lets
  split; next c1 s1 h1 =>
  split; next c2 s2 h2 =>
  split; next q s3 h3 =>
  have e1 : s1.cells = s.cells := by simpa [h1] using takeCsn_cells n (s.drew 8)
  have e2 : s2.cells = s1.cells := by simpa [h2] using takeCsn_cells n s1
  have e3 : a.Rises s3.cells := by simpa [h3] using intentFor_rises id n k st c2 (s := s2) (by rwa [e2, e1])
  dsimp only
  split <;> simpa using e3

theorem stageApdu_rises (id : JobId) (n : SlotId) (j : Job) (r : Run) (k : Nat) (st : Step) (h : a.Rises s.cells) :
    a.Rises (stageApdu id n j r k st s).cells := by
  unfold stageApdu
  split; next csn s1 h1 =>
  split; next q s2 h2 =>
  extract_lets ctr
  split; next plain s3 h3 =>
  split
  have e1 : s1.cells = s.cells := by simpa [h1] using takeCsn_cells n s
  have e2 : a.Rises s2.cells := by simpa [h2] using intentFor_rises id n k st csn (s := s1) (by rwa [e1])
  have e3 : s3.cells = s2.cells := by simpa [h3] using substitute_cells n j r ctr st.subs st.tmpl s2
  cases q <;> simpa [e3, apply_ite Prod.snd] using e2

theorem precompute_rises (fuel : Nat) (id : JobId) (n : SlotId) (h : a.Rises s.cells) :
    a.Rises (precompute fuel id n s).cells := by
  induction fuel generalizing s with
  | zero => exact h
  | succ fuel ih =>
    unfold precompute
    split
    · exact h
    · split
      · split
        · exact h
        · refine rises_ite h (rises_ite (by simpa using h) ?_)
          dsimp only
          split
          · simpa using h
          · refine rises_ite (stageScOpen_rises _ _ _ _ _ (by simpa using h)) (rises_ite ?_ (ih (by simpa using h)))
            rw [settleIdle_cells]
            exact stageApdu_rises _ _ _ _ _ _ (by simpa using h)
      · exact h

end Rises

/-! ## Where the one-way cells may go -/

/-- The change in progress leads where the life cycle may go on to. -/
def Cells.TargetOk (a : Cells) : Prop := ∀ c, a.changing = some c → lcOnward a.lc c.target = true

/-- From cells whose change in progress may go on, no cell went back, and the change in progress still may go on. -/
def Cells.Leads (a b : Cells) : Prop :=
  a.TargetOk → (lcOnward a.lc b.lc = true ∧ a.wcnt.toNat ≤ b.wcnt.toNat ∧ a.svnFloor.toNat ≤ b.svnFloor.toNat) ∧
    b.TargetOk

theorem leads_iff (s t : State) :
    s.cells.Leads t.cells ↔ (s.lcTargetOk → s.nv.onward t.nv ∧ t.lcTargetOk) := Iff.rfl

theorem lcOnward_refl (l : LcState) : lcOnward l l = true := by cases l <;> rfl

theorem lcOnward_trans {l m k : LcState} (h : lcOnward l m = true) (h' : lcOnward m k = true) :
    lcOnward l k = true := by
  revert h h'; cases l <;> cases m <;> cases k <;> decide

theorem Cells.Leads.refl (a : Cells) : a.Leads a := fun h => ⟨⟨lcOnward_refl _, le_refl _, le_refl _⟩, h⟩

theorem lcOnward_fencedSecure {l : LcState} (h : l ≠ .terminated) : lcOnward l .fencedSecure = true := by
  cases l with
  | terminated => exact absurd rfl h
  | _ => rfl

/-- WCNT rises, the life cycle goes on to another state, and the change in progress is over. -/
theorem Cells.Leads.enter {a b x : Cells} {l : LcState} (h : a.Leads b) (hx : b.Rises x) (hl : lcOnward b.lc l = true) :
    a.Leads { x with lc := l, changing := none } := fun ha =>
  let ⟨⟨hlc, hw, hf⟩, _⟩ := h ha
  ⟨⟨lcOnward_trans hlc hl, hw.trans hx.wcnt, hx.svnFloor ▸ hf⟩, nofun⟩

/-- The change in progress is over. -/
theorem Cells.Leads.drop {a b : Cells} (h : a.Leads b) : a.Leads { b with changing := none } :=
  h.enter (.refl b) (lcOnward_refl _)

/-- WCNT rises. -/
theorem Cells.Leads.rise {a b x : Cells} (h : a.Leads b) (hx : b.Rises x) : a.Leads x := fun ha => by
  obtain ⟨⟨hlc, hw, hf⟩, ht⟩ := h ha
  refine ⟨⟨hx.lc ▸ hlc, hw.trans hx.wcnt, hx.svnFloor ▸ hf⟩, fun c hc => ?_⟩
  rw [hx.lc]
  exact ht c (hx.changing ▸ hc)

/-- A change begins to where the life cycle may go on to. -/
theorem Cells.Leads.begin {a b : Cells} {c : LcChange} (h : a.Leads b) (hc : lcOnward b.lc c.target = true) :
    a.Leads { b with changing := some c } := fun ha => ⟨(h ha).1, by rintro _ ⟨⟩; exact hc⟩

/-- The SVN floor rises. -/
theorem Cells.Leads.raiseFloor {a b : Cells} {f : W16} (h : a.Leads b) (hf : b.svnFloor.toNat ≤ f.toNat) :
    a.Leads { b with svnFloor := f } := fun ha =>
  let ⟨⟨hlc, hw, hs⟩, ht⟩ := h ha
  ⟨⟨hlc, hw, hs.trans hf⟩, ht⟩

section Leads
variable {a : Cells} {s : State}

theorem leads_ite {c : Prop} [Decidable c] {x y : State} (hx : a.Leads x.cells) (hy : a.Leads y.cells) :
    a.Leads (if c then x else y).cells := by split <;> assumption

theorem forEach_leads {α : Type} (l : List α) (f : α → State → State) (h : a.Leads s.cells)
    (hf : ∀ x s, a.Leads s.cells → a.Leads (f x s).cells) : a.Leads (forEach l f s).cells :=
  fe_inv (a.Leads ·.cells) l f s h hf

/-! ### Tamper and the main-side reset -/

/-- A level 2 detection takes the life cycle to FENCED_SECURE only from a state before it (R425). -/
theorem tamperWipe_leads (h : a.Leads s.cells) (hc : s.cells.changing = none) : a.Leads (tamperWipe s).cells := by
  unfold tamperWipe
  split
  · exact h
  · exact h
  · next hterm _ =>
    have hr := cryptoErase_rises false true (auditLcChange_rises s.nv.lc .fencedSecure (.refl s.cells))
    have e := h.enter hr (lcOnward_fencedSecure hterm)
    rwa [← hr.changing.trans hc] at e

theorem handleTamper_leads (h : a.Leads s.cells) (hc : s.cells.changing = none) : a.Leads (handleTamper s).cells := by
  unfold handleTamper
  split
  · exact h
  · exact leads_ite (tamperWipe_leads (by simpa using h) (by simpa using hc)) (by simpa using h)

/-- A main-side reset ends the change in progress and handles what was detected before it (R403, R426). -/
theorem mainReset_leads (src : ResetSource) (board : Board) (h : a.Leads s.cells) :
    a.Leads (mainReset src board s).cells := by
  simp only [mainReset, restoreCoreBist_cells, selectBank_cells, forEach_cells _ _ _ latchedPresence_cells,
    reportSupply_cells, priorReset_cells, State.cells_mk, nv_cells]
  exact handleTamper_leads h.drop rfl

theorem resetBy_leads (src : ResetSource) (h : a.Leads s.cells) : a.Leads (resetBy src s).cells :=
  mainReset_leads _ _ h

theorem tamperClose_cells (s : State) : (tamperClose s).cells = { s.cells with changing := none } := by
  have e : s.cells = (closeCeremony (emergencyAll .fenceTamper s)).cells := by simp
  simp only [e, tamperClose, askBarrier_cells, State.cells_mk, Security.cells_update, nv_cells, endDebug_cells]
  generalize closeCeremony (emergencyAll .fenceTamper s) = x
  rfl

theorem tamperLevel2_leads (x : Sensor) (h : a.Leads s.cells) : a.Leads (tamperLevel2 x s).cells := by
  have hclose : a.Leads (tamperClose (raise 0x0B06 none (2 + sensorCode x * 2 ^ 8) s)).cells := by
    rw [tamperClose_cells]; exact h.drop
  refine leads_ite (by simpa using h) (leads_ite (by simpa using hclose) (resetBy_leads _ (tamperWipe_leads ?_ ?_)))
  · simpa using hclose
  · rw [logStandby_cells, tamperClose_cells]

theorem tamperLevel1_leads (x : Sensor) (h : a.Leads s.cells) : a.Leads (tamperLevel1 x s).cells :=
  leads_ite (tamperLevel2_leads _ h) (leads_ite (by simpa using h) (resetBy_leads _ (by simpa using h)))

/-! ### Operations that may end in a reset -/

theorem fatalProgress_leads (h : a.Leads s.cells) : a.Leads (fatalProgress s).cells := leads_ite (resetBy_leads _ h) h

theorem openFatal_leads (code : W16) (kind index : Nat) (h : a.Leads s.cells) :
    a.Leads (openFatal code kind index s).cells := by
  unfold openFatal; split
  · exact resetBy_leads _ h
  · exact fatalProgress_leads (by simpa using h)

theorem fenceFully_leads (u : UnitRef) (code : W16) (h : a.Leads s.cells) : a.Leads (fenceFully u code s).cells := by
  have h' : a.Leads (fenceUnit u code s).cells := by simpa using h
  unfold fenceFully; split
  · exact leads_ite h' (openFatal_leads _ _ _ h')
  · exact h'

theorem failDomainRun_leads (b : BistRun) (h : a.Leads s.cells) : a.Leads (failDomainRun b s).cells :=
  forEach_leads _ _ (by simpa using h) fun _ _ h => leads_ite h (fenceFully_leads _ _ h)

theorem restoreScope_leads (b : BistRun) (sig : W64) (h : a.Leads s.cells) : a.Leads (restoreScope b sig s).cells :=
  leads_ite h (leads_ite (resetBy_leads _ h) h)

theorem endDeactivation_leads (n : SlotId) (h : a.Leads s.cells) : a.Leads (endDeactivation n s).cells :=
  fatalProgress_leads (by simpa using h)

theorem switchFw_leads (h : a.Leads s.cells) : a.Leads (switchFw s).cells :=
  leads_ite (by simpa using h) (resetBy_leads _ h)

theorem runFw_leads (op : Nat) (h : a.Leads s.cells) : a.Leads (runFw op s).cells := by
  unfold runFw; split
  · simpa using h
  · simpa using h
  · exact switchFw_leads h
  · simpa using h
  · exact h

theorem hostFw_leads (op : Nat) (key : Byte) (h : a.Leads s.cells) : a.Leads (hostFw op key s).cells :=
  leads_ite (by simpa using h) (leads_ite h (runFw_leads _ (by simpa using h)))

theorem escalate_leads (u : UnitRef) (code : W16) (h : a.Leads s.cells) : a.Leads (escalate u code s).cells := by
  unfold escalate; split
  · exact openFatal_leads _ _ _ (by simpa using h)
  · exact fenceFully_leads _ _ (by simpa using h)

theorem unitFails_leads (u : UnitRef) (code : W16) (h : a.Leads s.cells) : a.Leads (unitFails u code s).cells :=
  leads_ite (by simpa using h) (leads_ite (escalate_leads _ _ h) (by simpa using h))

theorem recoveryFails_leads (u : UnitRef) (h : a.Leads s.cells) : a.Leads (recoveryFails u s).cells := by
  unfold recoveryFails; split <;> exact escalate_leads _ _ h

theorem refusalError_leads (v : Violation) (h : a.Leads s.cells) : a.Leads (refusalError v s).cells := by
  refine leads_ite h ?_
  split
  · simpa using h
  · exact unitFails_leads _ _ h

theorem mainCommand_leads (code : Byte) (f : State → State) (h : a.Leads s.cells)
    (hf : ∀ s, a.Leads s.cells → a.Leads (f s).cells) : a.Leads (mainCommand code f s).cells :=
  leads_ite (hf _ (by simpa using h)) (by simpa using h)

theorem privileged_leads (code : Byte) (data : List Byte) (f : List Byte → State → State) (h : a.Leads s.cells)
    (hf : ∀ d s, a.Leads s.cells → a.Leads (f d s).cells) : a.Leads (privileged code data f s).cells := by
  refine mainCommand_leads _ _ h fun s h => ?_
  refine leads_ite (by simpa using h) (leads_ite (by simpa using h) (leads_ite (by simpa using h)
    (leads_ite (by simpa using h) (hf _ _ (by simpa using h)))))

theorem sideFw_leads (d : List Byte) (h : a.Leads s.cells) : a.Leads (sideFw d s).cells := by
  refine leads_ite (by simpa using h) ?_
  have h' := runFw_leads (byteAt d 0).toNat (s := takeFw (byteAt d 0).toNat s) (by simpa using h)
  exact leads_ite (by simpa using h') h'

theorem sideFwData_leads (d : List Byte) (h : a.Leads s.cells) : a.Leads (sideFwData d s).cells := by
  unfold sideFwData; split
  · next e => simpa [writeImage_cells e] using h
  · simpa using h

/-! ### Life-cycle changes (R402, R403) -/

/-- A row of R402 on the ticket path goes on. -/
theorem lcRow_onward {r : SignedReq} {t : LcState} (h : s.lcRow r = some t) : lcOnward s.nv.lc t = true := by
  unfold State.lcRow at h
  split at h
  · next hlc _ =>
    obtain ⟨-, ⟨⟩⟩ := Option.ite_none_right_eq_some.1 h
    rw [hlc]; rfl
  · next hlc _ =>
    obtain ⟨-, ⟨⟩⟩ := Option.ite_none_right_eq_some.1 h
    rw [hlc]; rfl
  · next hlc _ => cases h; rw [hlc]; rfl
  · next hlc _ => cases h; rw [hlc]; rfl
  · cases h

/-- A row of R402 on the debug path goes on. -/
theorem debugRow_onward {r : SignedReq} {t : LcState} (h : s.debugRow r = some t) : lcOnward s.nv.lc t = true := by
  unfold State.debugRow at h
  split at h
  · next hlc _ => rw [hlc]; rfl
  · next hlc _ => cases h; rw [hlc]; rfl
  · exact lcRow_onward h

theorem endChange_cells (c : LcChange) (st : CStatus) (err : W16) (s : State) :
    (endChange c st err s).cells = { s.cells with changing := none } := by
  unfold endChange; split
  · rw [finishAfterBarrier_cells]; rfl
  · rfl

/-- The commit of a change sets the life cycle after its RPP writes (R266, R404). -/
theorem commitChange_cells (target : LcState) (s : State) :
    ∃ x, s.cells.Rises x ∧ (commitChange target s).cells = { x with lc := target } := by
  refine ⟨(keysInto target (cryptoErase (isSwap s.nv.lc target) (target != .terminated)
    (auditLcChange s.nv.lc target s))).cells, ?_, ?_⟩
  · rw [keysInto_cells]
    exact cryptoErase_rises _ _ (auditLcChange_rises _ _ (.refl _))
  · simp only [commitChange, askBarrier_cells, raise_cells, zeroiseBuffers_cells, toFactoryPlan_cells, State.cells_mk]
    rfl

theorem finishChange_leads (c : LcChange) (h : a.Leads s.cells) (hc : lcOnward s.nv.lc c.target = true) :
    a.Leads (finishChange c s).cells := by
  unfold finishChange; split
  · rw [endChange_cells]; exact h.drop
  · obtain ⟨x, hx, e⟩ := commitChange_cells c.target s
    have hdone : a.Leads (endChange c .done 0 (endQueued (commitChange c.target s))).cells := by
      rw [endChange_cells, endQueued_cells, e]
      exact (h.enter hx hc :)
    exact leads_ite (by simpa using hdone) (leads_ite (by simpa using hdone) hdone)

theorem lcChange_leads (param : List Byte) (j : Job) (h : a.Leads s.cells) : a.Leads (lcChange param j s).cells := by
  have hn : (renewCeremonyNonce s).cells = s.cells := renewCeremonyNonce_cells s
  refine leads_ite (by simpa using h) ?_
  dsimp only
  split
  · simpa using h
  · next t ht =>
    have hb := h.begin (c := { target := t, job := some j.ticket.jobId }) (lcRow_onward ht)
    rwa [← hn] at hb

end Leads

/-! ## The commands -/

/-- The one-way cells of the state that an outcome answers. -/
def outCells : Out → Option Cells
  | .next t => some t.cells
  | _ => none

@[simp] theorem outCells_next (s : State) : outCells (.next s) = some s.cells := rfl
@[simp] theorem outCells_gate (s : State) (c f) :
    outCells (s.gate c f) = some (if c then (f s).cells else s.cells) := by
  unfold State.gate; split <;> rfl
@[simp] theorem outCells_ite (c : Prop) [Decidable c] (a b : Out) :
    outCells (if c then a else b) = if c then outCells a else outCells b := by
  split <;> rfl
@[simp] theorem outCells_hostWrite (s : State) (off f) :
    outCells (s.hostWrite off f) = some (if s.mainUp && !s.sec.rightsWithdrawn then (f s).cells else s.cells) := by
  cases h : s.mainUp <;> cases h' : s.sec.rightsWithdrawn <;> simp [State.hostWrite, h, h']
@[simp] theorem outCells_hostRead (s : State) (off f) :
    outCells (s.hostRead off f) = some (if s.mainUp && !s.sec.rightsWithdrawn then (f s).cells else s.cells) := by
  cases h : s.mainUp <;> cases h' : s.sec.rightsWithdrawn <;> simp [State.hostRead, h, h']

@[simp] theorem outCells_runTicket (id : JobId) (type op : Nat) (f : Job → State → State) (s : State)
    (h : ∀ j s, (f j s).cells = s.cells) : outCells (runTicket id type op f s) = some s.cells := by
  unfold runTicket; split <;> simp [h]
@[simp] theorem outCells_bankTicket (id : JobId) (op : Nat) (f : Job → State → State) (s : State)
    (h : ∀ j s, (f j s).cells = s.cells) : outCells (bankTicket id op f s) = some s.cells :=
  outCells_runTicket _ _ _ _ _ fun _ _ => by split <;> simp [h]
@[simp] theorem outCells_keyTicket (id : JobId) (op : Nat) (b : Bool) (f : Job → State → State) (s : State)
    (h : ∀ j s, (f j s).cells = s.cells) : outCells (keyTicket id op b f s) = some s.cells :=
  outCells_runTicket _ _ _ _ _ fun _ _ => by split <;> simp [h]
@[simp] theorem outCells_adminTicket (id : JobId) (op : Nat) (f : Job → SlotId → State → State) (s : State)
    (h : ∀ j n s, (f j n s).cells = s.cells) : outCells (adminTicket id op f s) = some s.cells := by
  unfold adminTicket; (repeat' split) <;> simp [h]
@[simp] theorem outCells_galGate (n) (p) (f : Gal → State → State) (s : State) (h : ∀ j s, (f j s).cells = s.cells) :
    outCells (galGate n p f s) = some s.cells := by
  unfold galGate; split <;> simp [h]
@[simp] theorem outCells_sideRead (s : State) (d) (f : State → State) (h : ∀ s, (f s).cells = s.cells) :
    outCells (s.sideRead d f) = some s.cells := by
  simp [State.sideRead, h]
@[simp] theorem outCells_sideWrite (s : State) (a b c d) (f : State → State) (h : ∀ s, (f s).cells = s.cells) :
    outCells (s.sideWrite a b c d f) = some s.cells := by
  simp [State.sideWrite, h]

@[simp] theorem execVstbyRise_cells (straps) (s : State) : outCells (execVstbyRise straps s) = some s.cells := by
  simp [execVstbyRise]
@[simp] theorem execDmaHold_cells (d3hot) (s : State) : outCells (execDmaHold d3hot s) = some s.cells := by
  simp [execDmaHold]
@[simp] theorem execDmaResumed_cells (s : State) : outCells (execDmaResumed s) = some s.cells := by
  simp [execDmaResumed]
@[simp] theorem execMsixUnmask_cells (vec) (s : State) : outCells (execMsixUnmask vec s) = some s.cells := by
  simp [execMsixUnmask]
@[simp] theorem execBarAccessRefused_cells (r) (s : State) : outCells (execBarAccessRefused r s) = some s.cells := by
  simp only [execBarAccessRefused]; split <;> simp
@[simp] theorem execDeviceCheck_cells (s : State) : outCells (execDeviceCheck s) = some s.cells := by
  simp [execDeviceCheck]
@[simp] theorem execGctrlPause_cells (pause) (s : State) : outCells (execGctrlPause pause s) = some s.cells := by
  simp [execGctrlPause]
@[simp] theorem execSlotEnable_cells (s : State) : outCells (execSlotEnable s) = some s.cells := by
  simp [execSlotEnable]
@[simp] theorem execSlotCheckEnd_cells (failed) (s : State) : outCells (execSlotCheckEnd failed s) = some s.cells := by
  simp only [execSlotCheckEnd]; split <;> simp
@[simp] theorem execSlotDisable_cells (s : State) : outCells (execSlotDisable s) = some s.cells := by
  simp [execSlotDisable]
@[simp] theorem execSlotDeactivate_cells (s : State) : outCells (execSlotDeactivate s) = some s.cells := by
  simp [execSlotDeactivate]
@[simp] theorem execSlotClear_cells (s : State) : outCells (execSlotClear s) = some s.cells := by simp [execSlotClear]
@[simp] theorem execSlotCfgWrite_cells (regB v) (s : State) : outCells (execSlotCfgWrite regB v s) = some s.cells := by
  simp only [execSlotCfgWrite, outCells_hostWrite]; (repeat' split) <;> simp
@[simp] theorem execSlotSelWrite_cells (v) (s : State) : outCells (execSlotSelWrite v s) = some s.cells := by
  simp only [execSlotSelWrite]; split <;> simp
@[simp] theorem execTbTailWrite_cells (v) (s : State) : outCells (execTbTailWrite v s) = some s.cells := by
  simp [execTbTailWrite]
@[simp] theorem execCqHeadWrite_cells (v) (s : State) : outCells (execCqHeadWrite v s) = some s.cells := by
  simp [execCqHeadWrite]
@[simp] theorem execEqHeadWrite_cells (v) (s : State) : outCells (execEqHeadWrite v s) = some s.cells := by
  simp [execEqHeadWrite]
@[simp] theorem execRingSizeWrite_cells (ring v) (s : State) :
    outCells (execRingSizeWrite ring v s) = some s.cells := by simp only [execRingSizeWrite]; split <;> simp
@[simp] theorem execPowerBudgetWrite_cells (v) (s : State) : outCells (execPowerBudgetWrite v s) = some s.cells := by
  simp [execPowerBudgetWrite]
@[simp] theorem execIrqStatusWrite_cells (v) (s : State) : outCells (execIrqStatusWrite v s) = some s.cells := by
  simp [execIrqStatusWrite]
@[simp] theorem execIrqMaskWrite_cells (v) (s : State) : outCells (execIrqMaskWrite v s) = some s.cells := by
  simp [execIrqMaskWrite]
@[simp] theorem execErrFirstClear_cells (s : State) : outCells (execErrFirstClear s) = some s.cells := by
  simp [execErrFirstClear]
@[simp] theorem execViolClear_cells (s : State) : outCells (execViolClear s) = some s.cells := by simp [execViolClear]
@[simp] theorem execMboxToSbWrite_cells (v) (s : State) : outCells (execMboxToSbWrite v s) = some s.cells := by
  simp [execMboxToSbWrite]
@[simp] theorem execMboxFromSbRead_cells (s : State) : outCells (execMboxFromSbRead s) = some s.cells := by
  simp [execMboxFromSbRead]
@[simp] theorem execPairLowRead_cells (p) (s : State) : outCells (execPairLowRead p s) = some s.cells := by
  simp only [execPairLowRead]; split <;> simp
@[simp] theorem execRegisterWrite_cells (off v) (s : State) : outCells (execRegisterWrite off v s) = some s.cells := by
  simp only [execRegisterWrite]; split <;> simp
@[simp] theorem execLogicBist_cells (scope) (s : State) : outCells (execLogicBist scope s) = some s.cells := by
  simp [execLogicBist]
@[simp] theorem execMemoryBist_cells (scope) (s : State) : outCells (execMemoryBist scope s) = some s.cells := by
  simp [execMemoryBist]
@[simp] theorem execBistRingDrained_cells (s : State) : outCells (execBistRingDrained s) = some s.cells := by
  simp only [execBistRingDrained]; split <;> simp
@[simp] theorem execBistDrainTimeout_cells (s : State) : outCells (execBistDrainTimeout s) = some s.cells := by
  simp [execBistDrainTimeout]
@[simp] theorem execBistPassEnd_cells (fails) (s : State) : outCells (execBistPassEnd fails s) = some s.cells := by
  simp only [execBistPassEnd]; split <;> simp
@[simp] theorem execBistRunEnd_cells (sig ringFail slotFails) (s : State) :
    outCells (execBistRunEnd sig ringFail slotFails s) = some s.cells := by
  simp only [execBistRunEnd]; (repeat' split) <;> simp
@[simp] theorem execSectorEraseAbort_cells (s : State) : outCells (execSectorEraseAbort s) = some s.cells := by
  simp [execSectorEraseAbort]
@[simp] theorem execTicketFetch_cells (tickets) (s : State) : outCells (execTicketFetch tickets s) = some s.cells := by
  simp [execTicketFetch]
@[simp] theorem execFetchRetry_cells (s : State) : outCells (execFetchRetry s) = some s.cells := by
  simp [execFetchRetry]
@[simp] theorem execParamReadFail_cells (job got) (s : State) :
    outCells (execParamReadFail job got s) = some s.cells := by simp only [execParamReadFail]; split <;> simp
@[simp] theorem execIssue_cells (job param) (s : State) : outCells (execIssue job param s) = some s.cells := by
  simp only [execIssue]; split <;> simp
@[simp] theorem execSamOp_cells (job param) (s : State) : outCells (execSamOp job param s) = some s.cells := by
  simp only [execSamOp]; split <;> simp
@[simp] theorem execActivate_cells (job) (s : State) : outCells (execActivate job s) = some s.cells := by
  simp [execActivate]
@[simp] theorem execDeactivate_cells (job) (s : State) : outCells (execDeactivate job s) = some s.cells := by
  simp [execDeactivate]
@[simp] theorem execWarmReset_cells (job) (s : State) : outCells (execWarmReset job s) = some s.cells := by
  simp [execWarmReset]
@[simp] theorem execInventory_cells (job param) (s : State) : outCells (execInventory job param s) = some s.cells := by
  simp [execInventory]
@[simp] theorem execRecordWrite_cells (job param) (s : State) :
    outCells (execRecordWrite job param s) = some s.cells := by simp [execRecordWrite]
@[simp] theorem execRecordDelete_cells (job param) (s : State) :
    outCells (execRecordDelete job param s) = some s.cells := by simp [execRecordDelete]
@[simp] theorem execProfileWrite_cells (job param) (s : State) :
    outCells (execProfileWrite job param s) = some s.cells := by simp [execProfileWrite]
@[simp] theorem execProfileDelete_cells (job) (s : State) : outCells (execProfileDelete job s) = some s.cells := by
  simp [execProfileDelete]
@[simp] theorem execJournalList_cells (job param) (s : State) :
    outCells (execJournalList job param s) = some s.cells := by simp [execJournalList]
@[simp] theorem execJournalClose_cells (job param) (s : State) :
    outCells (execJournalClose job param s) = some s.cells := by simp [execJournalClose]
@[simp] theorem execAuditRead_cells (job param) (s : State) : outCells (execAuditRead job param s) = some s.cells := by
  simp [execAuditRead]
@[simp] theorem execAuditTrim_cells (job param) (s : State) : outCells (execAuditTrim job param s) = some s.cells := by
  simp [execAuditTrim]
@[simp] theorem execBankStatus_cells (job) (s : State) : outCells (execBankStatus job s) = some s.cells := by
  simp [execBankStatus]
@[simp] theorem execOwnerSet_cells (job param) (s : State) : outCells (execOwnerSet job param s) = some s.cells := by
  simp [execOwnerSet]
@[simp] theorem execMgmtSet_cells (job param) (s : State) : outCells (execMgmtSet job param s) = some s.cells := by
  simp [execMgmtSet]
@[simp] theorem execCeremonyOpen_cells (job) (s : State) : outCells (execCeremonyOpen job s) = some s.cells := by
  simp [execCeremonyOpen]
@[simp] theorem execKeyImport_cells (job param) (s : State) : outCells (execKeyImport job param s) = some s.cells := by
  simp [execKeyImport]
@[simp] theorem execKeyDelete_cells (job) (s : State) : outCells (execKeyDelete job s) = some s.cells := by
  simp only [execKeyDelete, runTicket, keyTicket]; (repeat' split) <;> simp
@[simp] theorem execKeyList_cells (job) (s : State) : outCells (execKeyList job s) = some s.cells := by
  simp only [execKeyList, runTicket, keyTicket]; (repeat' split) <;> simp
@[simp] theorem execCeremonyClose_cells (job) (s : State) : outCells (execCeremonyClose job s) = some s.cells := by
  simp [execCeremonyClose]
@[simp] theorem execAttestId_cells (job) (s : State) : outCells (execAttestId job s) = some s.cells := by
  simp [execAttestId]
@[simp] theorem execCancel_cells (job) (s : State) : outCells (execCancel job s) = some s.cells := by simp [execCancel]
@[simp] theorem execSbusConfig_cells (job param) (s : State) :
    outCells (execSbusConfig job param s) = some s.cells := by simp [execSbusConfig]
@[simp] theorem execSbusStatus_cells (job) (s : State) : outCells (execSbusStatus job s) = some s.cells := by
  simp [execSbusStatus]
@[simp] theorem execUnitClear_cells (job failed) (s : State) :
    outCells (execUnitClear job failed s) = some s.cells := by simp [execUnitClear]
@[simp] theorem execFaultStatus_cells (job) (s : State) : outCells (execFaultStatus job s) = some s.cells := by
  simp [execFaultStatus]
@[simp] theorem execMarginRead_cells (job) (s : State) : outCells (execMarginRead job s) = some s.cells := by
  simp [execMarginRead]
@[simp] theorem execBistReport_cells (job) (s : State) : outCells (execBistReport job s) = some s.cells := by
  simp [execBistReport]
@[simp] theorem execFwWrite_cells (job param) (s : State) : outCells (execFwWrite job param s) = some s.cells := by
  simp [execFwWrite]
@[simp] theorem execPlacementPass_cells (s : State) : outCells (execPlacementPass s) = some s.cells := by
  simp [execPlacementPass]
@[simp] theorem execSweepYield_cells (slot) (s : State) : outCells (execSweepYield slot s) = some s.cells := by
  simp [execSweepYield]
@[simp] theorem execJobDeadline_cells (job) (s : State) : outCells (execJobDeadline job s) = some s.cells := by
  simp only [execJobDeadline]; split <;> simp
@[simp] theorem execFeedTimeout_cells (slot) (s : State) : outCells (execFeedTimeout slot s) = some s.cells := by
  simp only [execFeedTimeout]; split <;> simp
@[simp] theorem execJobSettled_cells (job) (s : State) : outCells (execJobSettled job s) = some s.cells := by
  simp only [execJobSettled]; (repeat' split) <;> simp
@[simp] theorem execStaleResult_cells (job gen) (s : State) : outCells (execStaleResult job gen s) = some s.cells := by
  simp [execStaleResult]
@[simp] theorem execCompletionWrite_cells (s : State) : outCells (execCompletionWrite s) = some s.cells := by
  simp [execCompletionWrite]
@[simp] theorem execEventWrite_cells (s : State) : outCells (execEventWrite s) = some s.cells := by
  simp [execEventWrite]
@[simp] theorem execPrecomputeRelease_cells (job) (s : State) :
    outCells (execPrecomputeRelease job s) = some s.cells := by
  simp only [execPrecomputeRelease]; (repeat' split) <;> simp
@[simp] theorem execScOpen_cells (job resp sw) (s : State) : outCells (execScOpen job resp sw s) = some s.cells := by
  simp only [execScOpen]; (repeat' split) <;> simp
@[simp] theorem execPrefetchDone_cells (job gen rd) (s : State) :
    outCells (execPrefetchDone job gen rd s) = some s.cells := by
  simp only [execPrefetchDone, outCells_gate]; (repeat' split) <;> simp
@[simp] theorem execTokenGrant_cells (s : State) : outCells (execTokenGrant s) = some s.cells := by
  simp only [execTokenGrant, outCells_gate]; (repeat' split) <;> simp
@[simp] theorem execAdmitWait_cells (slot) (s : State) : outCells (execAdmitWait slot s) = some s.cells := by
  simp only [execAdmitWait]; split <;> simp
@[simp] theorem execVccQualified_cells (slot) (s : State) : outCells (execVccQualified slot s) = some s.cells := by
  simp [execVccQualified]
@[simp] theorem execClkStart_cells (slot) (s : State) : outCells (execClkStart slot s) = some s.cells := by
  simp [execClkStart]
@[simp] theorem execRstRise_cells (slot) (s : State) : outCells (execRstRise slot s) = some s.cells := by
  simp [execRstRise]
@[simp] theorem execVccFail_cells (slot) (s : State) : outCells (execVccFail slot s) = some s.cells := by
  simp [execVccFail]
@[simp] theorem execOcBlankingEnd_cells (slot) (s : State) : outCells (execOcBlankingEnd slot s) = some s.cells := by
  simp [execOcBlankingEnd]
@[simp] theorem execAtrReceived_cells (slot raw faults) (s : State) :
    outCells (execAtrReceived slot raw faults s) = some s.cells := by
  simp only [execAtrReceived, outCells_gate]; (repeat' split) <;> simp
@[simp] theorem execNoAtr_cells (slot) (s : State) : outCells (execNoAtr slot s) = some s.cells := by simp [execNoAtr]
@[simp] theorem execAtrGapTimeout_cells (slot) (s : State) : outCells (execAtrGapTimeout slot s) = some s.cells := by
  simp [execAtrGapTimeout]
@[simp] theorem execPpsResponse_cells (slot raw faults) (s : State) :
    outCells (execPpsResponse slot raw faults s) = some s.cells := by
  simp only [execPpsResponse]; (repeat' split) <;> simp
@[simp] theorem execPpsTimeout_cells (slot) (s : State) : outCells (execPpsTimeout slot s) = some s.cells := by
  simp [execPpsTimeout]
@[simp] theorem execRateApply_cells (slot) (s : State) : outCells (execRateApply slot s) = some s.cells := by
  simp [execRateApply]
@[simp] theorem execIBlock_cells (slot blk) (s : State) : outCells (execIBlock slot blk s) = some s.cells := by
  simp only [execIBlock, outCells_gate]; (repeat' split) <;> simp
@[simp] theorem execRBlock_cells (slot blk) (s : State) : outCells (execRBlock slot blk s) = some s.cells := by
  simp only [execRBlock, outCells_gate]; (repeat' split) <;> simp
@[simp] theorem execSIfsRequest_cells (slot ifsc) (s : State) :
    outCells (execSIfsRequest slot ifsc s) = some s.cells := by simp [execSIfsRequest]
@[simp] theorem execSIfsResponse_cells (slot ifsd) (s : State) :
    outCells (execSIfsResponse slot ifsd s) = some s.cells := by simp [execSIfsResponse]
@[simp] theorem execSWtxRequest_cells (slot m) (s : State) : outCells (execSWtxRequest slot m s) = some s.cells := by
  simp [execSWtxRequest]
@[simp] theorem execSAbortRequest_cells (slot) (s : State) : outCells (execSAbortRequest slot s) = some s.cells := by
  simp [execSAbortRequest]
@[simp] theorem execSAbortResponse_cells (slot) (s : State) : outCells (execSAbortResponse slot s) = some s.cells := by
  simp [execSAbortResponse]
@[simp] theorem execSResynchResponse_cells (slot) (s : State) :
    outCells (execSResynchResponse slot s) = some s.cells := by simp [execSResynchResponse]
@[simp] theorem execBwtTimeout_cells (slot) (s : State) : outCells (execBwtTimeout slot s) = some s.cells := by
  simp [execBwtTimeout]
@[simp] theorem execCwtOverrun_cells (slot) (s : State) : outCells (execCwtOverrun slot s) = some s.cells := by
  simp [execCwtOverrun]
@[simp] theorem execWtTimeout_cells (slot) (s : State) : outCells (execWtTimeout slot s) = some s.cells := by
  simp [execWtTimeout]
@[simp] theorem execExchLimit_cells (slot) (s : State) : outCells (execExchLimit slot s) = some s.cells := by
  simp only [execExchLimit]; split <;> simp
@[simp] theorem execLineStuck_cells (slot) (s : State) : outCells (execLineStuck slot s) = some s.cells := by
  simp [execLineStuck]
@[simp] theorem execT0Character_cells (slot b bad overrun) (s : State) :
    outCells (execT0Character slot b bad overrun s) = some s.cells := by simp [execT0Character]
@[simp] theorem execErrorSignalSeen_cells (slot idx) (s : State) :
    outCells (execErrorSignalSeen slot idx s) = some s.cells := by simp only [execErrorSignalSeen]; split <;> simp
@[simp] theorem execProcedureByte_cells (slot b b2) (s : State) :
    outCells (execProcedureByte slot b b2 s) = some s.cells := by simp only [execProcedureByte]; split <;> simp
@[simp] theorem execExchangeEnd_cells (slot noise chars) (s : State) :
    outCells (execExchangeEnd slot noise chars s) = some s.cells := by simp only [execExchangeEnd]; split <;> simp
@[simp] theorem execClockStop_cells (slot) (s : State) : outCells (execClockStop slot s) = some s.cells := by
  simp [execClockStop]
@[simp] theorem execClockRestart_cells (slot) (s : State) : outCells (execClockRestart slot s) = some s.cells := by
  simp [execClockRestart]
@[simp] theorem execModeSwitchAnswer_cells (slot ok data sw) (s : State) :
    outCells (execModeSwitchAnswer slot ok data sw s) = some s.cells := by
  simp only [execModeSwitchAnswer]; split <;> simp
@[simp] theorem execGalloperClockApply_cells (slot) (s : State) :
    outCells (execGalloperClockApply slot s) = some s.cells := by simp [execGalloperClockApply]
@[simp] theorem execQuietEnd_cells (slot) (s : State) : outCells (execQuietEnd slot s) = some s.cells := by
  simp [execQuietEnd]
@[simp] theorem execRcvToken_cells (slot tok) (s : State) : outCells (execRcvToken slot tok s) = some s.cells := by
  simp only [execRcvToken, galGate]; (repeat' split) <;> simp
@[simp] theorem execReadBlock_cells (slot blk) (s : State) : outCells (execReadBlock slot blk s) = some s.cells := by
  simp only [execReadBlock, galGate]; (repeat' split) <;> simp
@[simp] theorem execLtsRecord_cells (slot blk) (s : State) : outCells (execLtsRecord slot blk s) = some s.cells := by
  simp [execLtsRecord]
@[simp] theorem execBusyEnd_cells (slot) (s : State) : outCells (execBusyEnd slot s) = some s.cells := by
  simp only [execBusyEnd, galGate]; (repeat' split) <;> simp
@[simp] theorem execBusyLimitIdle_cells (slot) (s : State) : outCells (execBusyLimitIdle slot s) = some s.cells := by
  simp [execBusyLimitIdle]
@[simp] theorem execC7Stuck_cells (slot) (s : State) : outCells (execC7Stuck slot s) = some s.cells := by
  simp [execC7Stuck]
@[simp] theorem execGalloperClockStop_cells (slot) (s : State) :
    outCells (execGalloperClockStop slot s) = some s.cells := by simp [execGalloperClockStop]
@[simp] theorem execGalloperClockRestart_cells (slot) (s : State) :
    outCells (execGalloperClockRestart slot s) = some s.cells := by simp [execGalloperClockRestart]
@[simp] theorem execGalloperCodeApply_cells (slot) (s : State) :
    outCells (execGalloperCodeApply slot s) = some s.cells := by simp [execGalloperCodeApply]
@[simp] theorem execLtsApdu_cells (slot ok data sw) (s : State) :
    outCells (execLtsApdu slot ok data sw s) = some s.cells := by simp only [execLtsApdu]; split <;> simp
@[simp] theorem execEyeSweep_cells (slot) (s : State) : outCells (execEyeSweep slot s) = some s.cells := by
  simp [execEyeSweep]
@[simp] theorem execTrainPattern_cells (slot blk tokenOk) (s : State) :
    outCells (execTrainPattern slot blk tokenOk s) = some s.cells := by
  simp only [execTrainPattern, galGate]; (repeat' split) <;> simp
@[simp] theorem execDeactClkStop_cells (slot) (s : State) : outCells (execDeactClkStop slot s) = some s.cells := by
  simp [execDeactClkStop]
@[simp] theorem execMeasurementWindowEnd_cells (slot r) (s : State) :
    outCells (execMeasurementWindowEnd slot r s) = some s.cells := by simp [execMeasurementWindowEnd]
@[simp] theorem execDeactLdoOff_cells (slot) (s : State) : outCells (execDeactLdoOff slot s) = some s.cells := by
  simp [execDeactLdoOff]
@[simp] theorem execEmergencyStep_cells (slot) (s : State) : outCells (execEmergencyStep slot s) = some s.cells := by
  simp only [execEmergencyStep]; (repeat' split) <;> simp
@[simp] theorem execTOffEnd_cells (slot) (s : State) : outCells (execTOffEnd slot s) = some s.cells := by
  simp only [execTOffEnd, outCells_gate]; (repeat' split) <;> simp
@[simp] theorem execVoffAbove_cells (slot) (s : State) : outCells (execVoffAbove slot s) = some s.cells := by
  simp [execVoffAbove]
@[simp] theorem execOvercurrent_cells (slot) (s : State) : outCells (execOvercurrent slot s) = some s.cells := by
  simp [execOvercurrent]
@[simp] theorem execShort_cells (slot at_) (s : State) : outCells (execShort slot at_ s) = some s.cells := by
  simp [execShort]
@[simp] theorem execVccWindow_cells (slot) (s : State) : outCells (execVccWindow slot s) = some s.cells := by
  simp [execVccWindow]
@[simp] theorem execRemoval_cells (slot) (s : State) : outCells (execRemoval slot s) = some s.cells := by
  simp [execRemoval]
@[simp] theorem execRefClockLost_cells (s : State) : outCells (execRefClockLost s) = some s.cells := by
  simp [execRefClockLost]
@[simp] theorem execPresencePresent_cells (slot) (s : State) :
    outCells (execPresencePresent slot s) = some s.cells := by simp [execPresencePresent]
@[simp] theorem execPresenceAbsent_cells (slot) (s : State) : outCells (execPresenceAbsent slot s) = some s.cells := by
  simp [execPresenceAbsent]
@[simp] theorem execPresBand_cells (slot) (s : State) : outCells (execPresBand slot s) = some s.cells := by
  simp [execPresBand]
@[simp] theorem execUnstable_cells (slot transitions broken) (s : State) :
    outCells (execUnstable slot transitions broken s) = some s.cells := by
  simp only [execUnstable, outCells_gate]; (repeat' split) <;> simp
@[simp] theorem execResolutionActivation_cells (slot) (s : State) :
    outCells (execResolutionActivation slot s) = some s.cells := by simp [execResolutionActivation]
@[simp] theorem execComparatorCheck_cells (obj c) (s : State) :
    outCells (execComparatorCheck obj c s) = some s.cells := by simp only [execComparatorCheck]; split <;> simp
@[simp] theorem execComparatorCheckEnd_cells (obj c failStep) (s : State) :
    outCells (execComparatorCheckEnd obj c failStep s) = some s.cells := by
  simp only [execComparatorCheckEnd]; (repeat' split) <;> simp
@[simp] theorem execRotationCheck_cells (ring slot c) (s : State) :
    outCells (execRotationCheck ring slot c s) = some s.cells := by simp [execRotationCheck]
@[simp] theorem execHandoverEnd_cells (ring agree) (s : State) :
    outCells (execHandoverEnd ring agree s) = some s.cells := by simp only [execHandoverEnd]; split <;> simp
@[simp] theorem execPresCheck_cells (slot) (s : State) : outCells (execPresCheck slot s) = some s.cells := by
  simp [execPresCheck]
@[simp] theorem execTwinCheck_cells (ring) (s : State) : outCells (execTwinCheck ring s) = some s.cells := by
  simp [execTwinCheck]
@[simp] theorem execRingParked_cells (ring) (s : State) : outCells (execRingParked ring s) = some s.cells := by
  simp [execRingParked]
@[simp] theorem execRailRetarget_cells (ring) (s : State) : outCells (execRailRetarget ring s) = some s.cells := by
  simp only [execRailRetarget, outCells_gate]; (repeat' split) <;> simp
@[simp] theorem execRailSettled_cells (ring) (s : State) : outCells (execRailSettled ring s) = some s.cells := by
  simp [execRailSettled]
@[simp] theorem execDownHoldEnd_cells (ring) (s : State) : outCells (execDownHoldEnd ring s) = some s.cells := by
  simp [execDownHoldEnd]
@[simp] theorem execRingUv_cells (ring) (s : State) : outCells (execRingUv ring s) = some s.cells := by
  simp [execRingUv]
@[simp] theorem execRingOv_cells (ring) (s : State) : outCells (execRingOv ring s) = some s.cells := by
  simp [execRingOv]
@[simp] theorem execRingOc_cells (ring) (s : State) : outCells (execRingOc ring s) = some s.cells := by
  simp [execRingOc]
@[simp] theorem execRingOt_cells (ring) (s : State) : outCells (execRingOt ring s) = some s.cells := by
  simp [execRingOt]
@[simp] theorem execRingStart_cells (ring) (s : State) : outCells (execRingStart ring s) = some s.cells := by
  simp [execRingStart]
@[simp] theorem execRingSettle_cells (ring) (s : State) : outCells (execRingSettle ring s) = some s.cells := by
  simp [execRingSettle]
@[simp] theorem execJournalGroupCommit_cells (s : State) : outCells (execJournalGroupCommit s) = some s.cells := by
  simp [execJournalGroupCommit]
@[simp] theorem execJournalCopy_cells (chan) (s : State) : outCells (execJournalCopy chan s) = some s.cells := by
  simp [execJournalCopy]
@[simp] theorem execJournalBlockErase_cells (upTo) (s : State) :
    outCells (execJournalBlockErase upTo s) = some s.cells := by simp [execJournalBlockErase]
@[simp] theorem execPagePad_cells (t i) (s : State) : outCells (execPagePad t i s) = some s.cells := by
  simp [execPagePad]
@[simp] theorem execBlockRelocate_cells (t i) (s : State) : outCells (execBlockRelocate t i s) = some s.cells := by
  simp [execBlockRelocate]
@[simp] theorem execWearLevel_cells (t) (s : State) : outCells (execWearLevel t s) = some s.cells := by
  simp only [execWearLevel]; split <;> simp
@[simp] theorem execMediaProgramDone_cells (t i erase passed) (s : State) :
    outCells (execMediaProgramDone t i erase passed s) = some s.cells := by simp [execMediaProgramDone]
@[simp] theorem execDebugToken_cells (req) (s : State) : outCells (execDebugToken req s) = some s.cells := by
  simp [execDebugToken]
@[simp] theorem execDebugClose_cells (s : State) : outCells (execDebugClose s) = some s.cells := by
  simp [execDebugClose]
@[simp] theorem execDebugExpiry_cells (s : State) : outCells (execDebugExpiry s) = some s.cells := by
  simp [execDebugExpiry]
@[simp] theorem execCeremonyTimeout_cells (s : State) : outCells (execCeremonyTimeout s) = some s.cells := by
  simp [execCeremonyTimeout]
@[simp] theorem execRuleBarrier_cells (cause) (s : State) : outCells (execRuleBarrier cause s) = some s.cells := by
  simp [execRuleBarrier]
@[simp] theorem execRuleBarrierDrained_cells (s : State) : outCells (execRuleBarrierDrained s) = some s.cells := by
  simp [execRuleBarrierDrained]
@[simp] theorem execProbationEnd_cells (u) (s : State) : outCells (execProbationEnd u s) = some s.cells := by
  simp [execProbationEnd]
@[simp] theorem execSiliconMonitor_cells (core slot bank link) (s : State) :
    outCells (execSiliconMonitor core slot bank link s) = some s.cells := by simp [execSiliconMonitor]
@[simp] theorem execEfficiencySample_cells (ring percent railMilliwatt) (s : State) :
    outCells (execEfficiencySample ring percent railMilliwatt s) = some s.cells := by simp [execEfficiencySample]
@[simp] theorem execRetentionCheck_cells (bankA bankB option) (s : State) :
    outCells (execRetentionCheck bankA bankB option s) = some s.cells := by
  simp only [execRetentionCheck]; split <;> simp
@[simp] theorem execEyeSweepRequest_cells (slot) (s : State) :
    outCells (execEyeSweepRequest slot s) = some s.cells := by simp [execEyeSweepRequest]
@[simp] theorem execPlanEvaluation_cells (s : State) : outCells (execPlanEvaluation s) = some s.cells := by
  simp [execPlanEvaluation]
@[simp] theorem execGuardSwitch_cells (s : State) : outCells (execGuardSwitch s) = some s.cells := by
  simp [execGuardSwitch]
@[simp] theorem execGuardForce_cells (s : State) : outCells (execGuardForce s) = some s.cells := by
  simp [execGuardForce]
@[simp] theorem execSbCommandFrame_cells (port) (s : State) : outCells (execSbCommandFrame port s) = some s.cells := by
  simp only [execSbCommandFrame]; split <;> simp
@[simp] theorem execPollResponse_cells (port mu f) (s : State) :
    outCells (execPollResponse port mu f s) = some s.cells := by simp [execPollResponse]
@[simp] theorem execPollPeriod_cells (port mu) (s : State) : outCells (execPollPeriod port mu s) = some s.cells := by
  simp [execPollPeriod]
@[simp] theorem execRespTimeout_cells (port mu) (s : State) : outCells (execRespTimeout port mu s) = some s.cells := by
  simp [execRespTimeout]
@[simp] theorem execAnnounce_cells (port mu f) (s : State) : outCells (execAnnounce port mu f s) = some s.cells := by
  simp [execAnnounce]
@[simp] theorem execCollision_cells (port) (s : State) : outCells (execCollision port s) = some s.cells := by
  simp only [execCollision]; (repeat' split) <;> simp
@[simp] theorem execListen_cells (port) (s : State) : outCells (execListen port s) = some s.cells := by
  simp [execListen]
@[simp] theorem execWake_cells (port) (s : State) : outCells (execWake port s) = some s.cells := by simp [execWake]
@[simp] theorem execSbStuckLow_cells (port) (s : State) : outCells (execSbStuckLow port s) = some s.cells := by
  simp [execSbStuckLow]
@[simp] theorem execSbRecovered_cells (port) (s : State) : outCells (execSbRecovered port s) = some s.cells := by
  simp [execSbRecovered]
@[simp] theorem execRtsCtsMessage_cells (port) (s : State) : outCells (execRtsCtsMessage port s) = some s.cells := by
  simp only [execRtsCtsMessage]; split <;> simp
@[simp] theorem execCtsTimeout_cells (port) (s : State) : outCells (execCtsTimeout port s) = some s.cells := by
  simp only [execCtsTimeout]; split <;> simp
@[simp] theorem execRtsCtsAnswer_cells (port b) (s : State) : outCells (execRtsCtsAnswer port b s) = some s.cells := by
  simp only [execRtsCtsAnswer]; split <;> simp
@[simp] theorem execAckTimeout_cells (port) (s : State) : outCells (execAckTimeout port s) = some s.cells := by
  simp only [execAckTimeout]; split <;> simp
@[simp] theorem execBusStartStop_cells (cut) (s : State) : outCells (execBusStartStop cut s) = some s.cells := by
  simp only [execBusStartStop]; split <;> simp
@[simp] theorem execIdent_cells (s : State) : outCells (execIdent s) = some s.cells := by simp [execIdent]
@[simp] theorem execStatus_cells (s : State) : outCells (execStatus s) = some s.cells := by simp [execStatus]
@[simp] theorem execHealth_cells (s : State) : outCells (execHealth s) = some s.cells := by simp [execHealth]
@[simp] theorem execPresence_cells (s : State) : outCells (execPresence s) = some s.cells := by simp [execPresence]
@[simp] theorem execLogSel_cells (w) (s : State) : outCells (execLogSel w s) = some s.cells := by simp [execLogSel]
@[simp] theorem execLogRead_cells (s : State) : outCells (execLogRead s) = some s.cells := by simp [execLogRead]
@[simp] theorem execMboxRead_cells (s : State) : outCells (execMboxRead s) = some s.cells := by simp [execMboxRead]
@[simp] theorem execMboxWrite_cells (w) (s : State) : outCells (execMboxWrite w s) = some s.cells := by
  simp [execMboxWrite]
@[simp] theorem execNonce_cells (s : State) : outCells (execNonce s) = some s.cells := by simp [execNonce]
@[simp] theorem execBistResult_cells (s : State) : outCells (execBistResult s) = some s.cells := by
  simp [execBistResult]
@[simp] theorem execFwStatus_cells (s : State) : outCells (execFwStatus s) = some s.cells := by simp [execFwStatus]
@[simp] theorem execLockoutEnd_cells (s : State) : outCells (execLockoutEnd s) = some s.cells := by
  simp [execLockoutEnd]
@[simp] theorem execSideshowAnswer_cells (s : State) : outCells (execSideshowAnswer s) = some s.cells := by
  simp only [execSideshowAnswer]; split <;> simp
@[simp] theorem execHealthSnapshot_cells (tempEighths) (s : State) :
    outCells (execHealthSnapshot tempEighths s) = some s.cells := by simp [execHealthSnapshot]
@[simp] theorem execVstbyFall_cells (s : State) : outCells (execVstbyFall s) = some s.cells := by simp [execVstbyFall]
@[simp] theorem execVinRingRestored_cells (s : State) : outCells (execVinRingRestored s) = some s.cells := by
  simp [execVinRingRestored]
@[simp] theorem execTapInstructionLoad_cells (i) (s : State) :
    outCells (execTapInstructionLoad i s) = some s.cells := by simp [execTapInstructionLoad]
@[simp] theorem execDebugHalt_cells (p) (s : State) : outCells (execDebugHalt p s) = some s.cells := by
  simp [execDebugHalt]
@[simp] theorem execDebugResume_cells (p) (s : State) : outCells (execDebugResume p s) = some s.cells := by
  simp [execDebugResume]

@[simp] theorem execNoResponseToken_cells (slot) (s : State) :
    outCells (execNoResponseToken slot s) = some s.cells := outCells_galGate _ _ _ _ fun _ _ => by simp

@[simp] theorem execBusyLimit_cells (slot) (s : State) : outCells (execBusyLimit slot s) = some s.cells := by
  refine outCells_galGate _ _ _ _ fun g s => ?_
  simp only [busyDown_cells]
  split
  · exact (State.updJob_cells _ _ _).trans (forEach_cells _ _ _ fun _ _ => by split <;> simp)
  · exact forEach_cells _ _ _ fun _ _ => by split <;> simp

@[simp] theorem execRspToken_cells (slot tok) (s : State) :
    outCells (execRspToken slot tok s) = some s.cells := outCells_galGate _ _ _ _ fun _ _ => by (repeat' split) <;> simp

@[simp] theorem execBooted_cells (s : State) : outCells (execBooted s) = some s.cells := by simp [execBooted]
@[simp] theorem execReadyRise_cells (s : State) : outCells (execReadyRise s) = some s.cells := by simp [execReadyRise]
@[simp] theorem execDeviceCheckEnd_cells (s : State) : outCells (execDeviceCheckEnd s) = some s.cells := by
  simp only [execDeviceCheckEnd, outCells_gate]; (repeat' split) <;> simp
@[simp] theorem execWindDown_cells (s : State) : outCells (execWindDown s) = some s.cells := by simp [execWindDown]
@[simp] theorem execWindDownEnd_cells (s : State) : outCells (execWindDownEnd s) = some s.cells := by
  simp [execWindDownEnd]
@[simp] theorem execSectorEraseDone_cells (s : State) : outCells (execSectorEraseDone s) = some s.cells := by
  simp [execSectorEraseDone]

/-! ### The commands that may move a one-way cell or the change in progress -/

/-- From some cells no cell of a state that an outcome answers went back. -/
def OutLeads (a : Cells) (o : Out) : Prop := ∀ t, o = .next t → a.Leads t.cells

section OutLeads
variable {a : Cells} {s : State}

theorem OutLeads.next (h : a.Leads s.cells) : OutLeads a (.next s) := by
  rintro t ⟨⟩; exact h

theorem OutLeads.of_cells {o : Out} (h : a.Leads s.cells) (e : outCells o = some s.cells) : OutLeads a o := by
  rintro t rfl
  simp only [outCells_next, Option.some.injEq] at e
  rwa [e]

theorem OutLeads.gate {c : Bool} {f : State → State} (h : a.Leads s.cells) (hf : a.Leads (f s).cells) :
    OutLeads a (s.gate c f) := .next (leads_ite hf h)

theorem OutLeads.sideWrite {code : Byte} {lo hi : Nat} {w : SbWrite} {f : State → State} (h : a.Leads s.cells)
    (hf : a.Leads (f s).cells) : OutLeads a (s.sideWrite code lo hi w f) :=
  .gate h (leads_ite (by simpa using h) (leads_ite (by simpa using h) (leads_ite (by simpa using h) hf)))

theorem OutLeads.runTicket {id : JobId} {type op : Nat} {f : Job → State → State} (h : a.Leads s.cells)
    (hf : ∀ j, a.Leads (f j s).cells) : OutLeads a (runTicket id type op f s) := by
  unfold Machine.runTicket; split
  · exact .gate h (hf _)
  · exact .next h

theorem OutLeads.bankTicket {id : JobId} {op : Nat} {f : Job → State → State} (h : a.Leads s.cells)
    (hf : ∀ j, a.Leads (f j s).cells) : OutLeads a (bankTicket id op f s) :=
  .runTicket h fun j => leads_ite (hf j) (by simpa using h)

theorem execMainSideReset_leads (src : ResetSource) (board : Board) (h : a.Leads s.cells) :
    OutLeads a (execMainSideReset src board s) := .gate h (mainReset_leads _ _ (by simpa using h))

theorem execPcieReset_leads (k : LinkReset) (h : a.Leads s.cells) : OutLeads a (execPcieReset k s) :=
  .gate h (resetBy_leads _ h)

theorem execFlr_leads (h : a.Leads s.cells) : OutLeads a (execFlr s) := .gate h (resetBy_leads _ h)

theorem execBankStart_leads (copies : List RppCopy) (h : a.Leads s.cells) : OutLeads a (execBankStart copies s) := by
  have hseal : s.cells.Rises (if s.bank.sealed then cryptoErase true true s else s).cells :=
    rises_ite (cryptoErase_rises _ _ (.refl _)) (.refl _)
  refine .gate h (h.rise (rises_ite (c := _ = true) ?_ hseal))
  rw [issueResults_cells, scanJournal_cells]
  exact startRpp_rises copies hseal

theorem execRegParity_leads (off : BitVec 12) (both : Bool) (h : a.Leads s.cells) :
    OutLeads a (execRegParity off both s) := .gate h (leads_ite (openFatal_leads _ _ _ h) (by simpa using h))

theorem execBistDomainEnd_leads (sig : W64) (h : a.Leads s.cells) : OutLeads a (execBistDomainEnd sig s) := by
  unfold execBistDomainEnd; split
  · exact .next h
  · next b hb =>
    refine .gate h ?_
    have h1 : a.Leads (restoreScope b sig s).cells := restoreScope_leads b sig h
    have h2 := leads_ite (c := (b.scope == 0xA) = true) h1
      (y := askBarrier .bist (writeResult b sig (restoreScope b sig s))) (by simpa using h1)
    exact leads_ite h2 (failDomainRun_leads b h2)

theorem execFwPrepare_leads (key : Byte) (h : a.Leads s.cells) : OutLeads a (execFwPrepare key s) :=
  .gate h (hostFw_leads _ _ h)

theorem execFwCommit_leads (key : Byte) (h : a.Leads s.cells) : OutLeads a (execFwCommit key s) :=
  .gate h (hostFw_leads _ _ h)

theorem execFwSwitch_leads (key : Byte) (h : a.Leads s.cells) : OutLeads a (execFwSwitch key s) :=
  .gate h (hostFw_leads _ _ h)

theorem execFwAbort_leads (key : Byte) (h : a.Leads s.cells) : OutLeads a (execFwAbort key s) :=
  .gate h (hostFw_leads _ _ h)

theorem le_ofNat_max {w : W16} {n : Nat} (h : n < 2 ^ 16) : w.toNat ≤ (BitVec.ofNat 16 (max w.toNat n)).toNat := by
  rw [BitVec.toNat_ofNat, Nat.mod_eq_of_lt (max_lt w.isLt h)]
  exact le_max_left _ _

/-- The SVN floor becomes the larger of itself and the image's SVN (R487). -/
theorem execFwConfirmed_leads (h : a.Leads s.cells) : OutLeads a (execFwConfirmed s) := by
  refine .gate h (h.raiseFloor (le_ofNat_max ?_))
  cases (s.nv.fwBank s.fw.activeB).image with
  | none => exact Nat.two_pow_pos 16
  | some i => exact i.svn.isLt

theorem execFormat_leads (id : JobId) (p : FormatParams) (h : a.Leads s.cells) : OutLeads a (execFormat id p s) := by
  refine .runTicket h fun _ => leads_ite (by simpa using h) (leads_ite (by simpa using h) ?_)
  rw [doneWith_cells]
  exact h.rise (rppWrite_rises (.refl _))

theorem execAuditAttest_leads (id : JobId) (param : List Byte) (h : a.Leads s.cells) :
    OutLeads a (execAuditAttest id param s) :=
  .bankTicket h fun j => leads_ite (h.rise (auditAttest_rises _ _ (.refl _))) (by simpa using h)

theorem execCounterRelease_leads (id : JobId) (h : a.Leads s.cells) : OutLeads a (execCounterRelease id s) :=
  .bankTicket h fun j => leads_ite (h.rise (counterRelease_rises _ (.refl _))) (by simpa using h)

theorem execRppWrite_leads (h : a.Leads s.cells) : OutLeads a (execRppWrite s) :=
  .gate h (h.rise (rppWrite_rises (.refl _)))

theorem execAnchorUpdate_leads (h : a.Leads s.cells) : OutLeads a (execAnchorUpdate s) :=
  .gate h (h.rise (rppWrite_rises (.refl _)))

theorem execPrecompute_leads (id : JobId) (h : a.Leads s.cells) : OutLeads a (execPrecompute id s) := by
  unfold execPrecompute; split
  · exact .next h
  · exact .gate h (h.rise (precompute_rises _ _ _ (by rw [beginRun_cells]; exact .refl _)))

theorem execLcChange_leads (id : JobId) (param : List Byte) (h : a.Leads s.cells) :
    OutLeads a (execLcChange id param s) :=
  .runTicket h fun j => leads_ite (leads_ite (lcChange_leads param j h) (by simpa using h)) (by simpa using h)

theorem execDeactivationEnd_leads (slot : SlotId) (h : a.Leads s.cells) : OutLeads a (execDeactivationEnd slot s) := by
  unfold execDeactivationEnd; split
  · exact .next h
  · exact .gate h (endDeactivation_leads slot h)

theorem execSupplyTrigger_leads (vcore : Bool) (h : a.Leads s.cells) : OutLeads a (execSupplyTrigger vcore s) :=
  .gate h (leads_ite (by simpa using h) (resetBy_leads _ (by simpa using h)))

theorem execRefClockRestored_leads (h : a.Leads s.cells) : OutLeads a (execRefClockRestored s) :=
  .gate h (resetBy_leads _ (by simpa using h))

theorem execJournalDurable_leads (h : a.Leads s.cells) : OutLeads a (execJournalDurable s) :=
  .gate h (fatalProgress_leads (by simpa using h))

theorem execLcDrained_leads (s : State) : OutLeads s.cells (execLcDrained s) := by
  unfold execLcDrained; split
  · exact .next (.refl _)
  · next c hc => exact .gate (.refl _) fun ha => finishChange_leads c (.refl _) (ha c hc) ha

theorem execLcWaitTimeout_leads (h : a.Leads s.cells) : OutLeads a (execLcWaitTimeout s) := by
  unfold execLcWaitTimeout; split
  · exact .next h
  · refine .gate h (leads_ite (by simpa using h) ?_)
    rw [endChange_cells]
    exact h.drop

theorem execDebugLcChange_leads (req : SignedReq) (h : a.Leads s.cells) : OutLeads a (execDebugLcChange req s) := by
  refine .gate h ?_
  dsimp only
  split
  · next t _ ht =>
    have hon : lcOnward s.nv.lc t = true := debugRow_onward ht
    exact leads_ite (finishChange_leads _ (by simpa using h) hon) (h.begin hon)
  · simpa using h

theorem execAccessViolation_leads (v : Violation) (h : a.Leads s.cells) : OutLeads a (execAccessViolation v s) :=
  .gate h (by
    rw [refusalJob_cells]
    exact refusalError_leads v (by simpa using h))

theorem execTamperL1_leads (x : Sensor) (h : a.Leads s.cells) : OutLeads a (execTamperL1 x s) :=
  .gate h (tamperLevel1_leads x h)

theorem execTamperL2_leads (x : Sensor) (h : a.Leads s.cells) : OutLeads a (execTamperL2 x s) :=
  .gate h (tamperLevel2_leads x h)

theorem execTamperSelfTest_leads (failed : Bool) (h : a.Leads s.cells) : OutLeads a (execTamperSelfTest failed s) :=
  .gate h (leads_ite (tamperLevel1_leads _ h) h)

theorem execUnitError_leads (u : UnitRef) (code : W16) (h : a.Leads s.cells) : OutLeads a (execUnitError u code s) :=
  .gate h (unitFails_leads u code h)

theorem execLockstep_leads (p : PairId) (h : a.Leads s.cells) : OutLeads a (execLockstep p s) :=
  .gate h (unitFails_leads _ _ h)

theorem execPairWatchdog_leads (p : PairId) (h : a.Leads s.cells) : OutLeads a (execPairWatchdog p s) :=
  .gate h (unitFails_leads _ _ h)

theorem execDeviceWatchdog_leads (h : a.Leads s.cells) : OutLeads a (execDeviceWatchdog s) :=
  .gate h (openFatal_leads _ _ _ h)

theorem execRecoveryDone_leads (u : UnitRef) (ok : Bool) (h : a.Leads s.cells) :
    OutLeads a (execRecoveryDone u ok s) := by
  refine .gate h ?_
  cases ok
  · exact recoveryFails_leads u h
  · simpa using h

theorem execFatalError_leads (code : W16) (h : a.Leads s.cells) : OutLeads a (execFatalError code s) :=
  .gate h (openFatal_leads _ _ _ h)

theorem execFatalNested_leads (code : W16) (h : a.Leads s.cells) : OutLeads a (execFatalNested code s) :=
  .gate h (openFatal_leads _ _ _ h)

theorem execFatalWindowTimeout_leads (h : a.Leads s.cells) : OutLeads a (execFatalWindowTimeout s) :=
  .gate h (resetBy_leads _ h)

theorem execSlotOff_leads (w : SbWrite) (h : a.Leads s.cells) : OutLeads a (execSlotOff w s) :=
  .sideWrite h (privileged_leads _ _ _ h fun _ _ h => by simpa using h)

theorem execMainReset_leads (w : SbWrite) (h : a.Leads s.cells) : OutLeads a (execMainReset w s) :=
  .sideWrite h (privileged_leads _ _ _ h fun _ _ h => resetBy_leads _ (by simpa using h))

theorem execBistStart_leads (w : SbWrite) (h : a.Leads s.cells) : OutLeads a (execBistStart w s) :=
  .sideWrite h (privileged_leads _ _ _ h fun _ _ h => by simpa using h)

theorem execFwOp_leads (w : SbWrite) (h : a.Leads s.cells) : OutLeads a (execFwOp w s) :=
  .sideWrite h (privileged_leads _ _ _ h fun d _ h => sideFw_leads d h)

theorem execFwData_leads (w : SbWrite) (h : a.Leads s.cells) : OutLeads a (execFwData w s) :=
  .sideWrite h (privileged_leads _ _ _ h fun d _ h => sideFwData_leads d h)

end OutLeads

/-- No command takes a one-way cell back. -/
theorem exec_leads (c : Instr) (s : State) : OutLeads s.cells (exec c s) := by
  have h := Cells.Leads.refl s.cells
  cases c with
  | mainSideReset src board => exact execMainSideReset_leads src board h
  | pcieReset kind => exact execPcieReset_leads kind h
  | flr => exact execFlr_leads h
  | bankStart copies => exact execBankStart_leads copies h
  | regParity off both => exact execRegParity_leads off both h
  | bistDomainEnd sig => exact execBistDomainEnd_leads sig h
  | fwPrepare key => exact execFwPrepare_leads key h
  | fwCommit key => exact execFwCommit_leads key h
  | fwSwitch key => exact execFwSwitch_leads key h
  | fwAbort key => exact execFwAbort_leads key h
  | fwConfirmed => exact execFwConfirmed_leads h
  | format id param => exact execFormat_leads id param h
  | auditAttest id param => exact execAuditAttest_leads id param h
  | counterRelease id => exact execCounterRelease_leads id h
  | rppWrite => exact execRppWrite_leads h
  | anchorUpdate => exact execAnchorUpdate_leads h
  | precompute id => exact execPrecompute_leads id h
  | lcChange id param => exact execLcChange_leads id param h
  | deactivationEnd slot => exact execDeactivationEnd_leads slot h
  | supplyTrigger vcore => exact execSupplyTrigger_leads vcore h
  | refClockRestored => exact execRefClockRestored_leads h
  | journalDurable => exact execJournalDurable_leads h
  | lcDrained => exact execLcDrained_leads s
  | lcWaitTimeout => exact execLcWaitTimeout_leads h
  | debugLcChange req => exact execDebugLcChange_leads req h
  | accessViolation v => exact execAccessViolation_leads v h
  | tamperL1 sensor => exact execTamperL1_leads sensor h
  | tamperL2 sensor => exact execTamperL2_leads sensor h
  | tamperSelfTest failed => exact execTamperSelfTest_leads failed h
  | unitError u code => exact execUnitError_leads u code h
  | lockstep p => exact execLockstep_leads p h
  | pairWatchdog p => exact execPairWatchdog_leads p h
  | deviceWatchdog => exact execDeviceWatchdog_leads h
  | recoveryDone u ok => exact execRecoveryDone_leads u ok h
  | fatalError code => exact execFatalError_leads code h
  | fatalWindowTimeout => exact execFatalWindowTimeout_leads h
  | fatalNested code => exact execFatalNested_leads code h
  | slotOff w => exact execSlotOff_leads w h
  | mainReset w => exact execMainReset_leads w h
  | bistStart w => exact execBistStart_leads w h
  | fwOp w => exact execFwOp_leads w h
  | fwData w => exact execFwData_leads w h
  | _ => exact .of_cells h (by simp [exec])

theorem tick_cells (s : State) : (tick s).cells = s.cells := by simp [tick]

@[simp] theorem withPending_cells (s : State) (l : List Instr) : (withPending s l).cells = s.cells := by
  simp [withPending]

/-- Settles O5: every command leads the one-way cells on, and a microsecond leaves them. -/
theorem oneWayCellsNeverGoBack : Obligations.OneWayCellsNeverGoBack := by
  intro s t h hs
  refine (leads_iff s t).1 ?_ h
  unfold step at hs
  split at hs
  · simpa using exec_leads _ _ t hs
  · cases hs
    rw [tick_cells]
    exact .refl _

end Sys2Proof.Machine

namespace Sys2Proof.Machine
open Sys2Proof

/-! # The bank's and the journal's tickets (R234, R243, R246, R254, R255, R257, R260) -/

section BankBooks
variable {s : State} {id : JobId} {op : Nat} {j : Job} (h : s.runnable id 4 op j)
include h

/-- A bank ticket whose work moved the bank's books alone ends DONE and leaves the books as its work made them. -/
theorem doneWith_endsOnBooks {u : State} (hu : u.offBooks = s.offBooks) (result : List Byte) :
    s.jobEnds (doneWith id result u) j .done 0 result ∧ (doneWith id result u).bank = u.bank ∧
      (doneWith id result u).nv = u.nv := by
  obtain ⟨hends, hframe⟩ :=
    runnable_finish h u (State.offBooks_jobs hu) (State.offBooks_closing hu) result .done 0 (.inr rfl)
  exact ⟨hends, (congrArg State.bank hframe :), (congrArg State.nv hframe :)⟩

/-- A ticket that ends DONE with entries reports those that fit, and leaves the bank (R174). -/
theorem doneWithEntries_ends (header : List Byte) (size : Nat) (l : List (List Byte)) :
    s.jobEnds (doneWithEntries j header size l s) j .done 0
        (header ++ (entriesThatFit j header.length size l).flatten) ∧
      (doneWithEntries j header size l s).bank = s.bank := by
  have hfree := h
  obtain ⟨-, -, hs, hr, hg, hc⟩ := hfree
  have hf := find_updJob s id
    (fun k => { k with resultTrunc := (entriesThatFit j header.length size l).length < l.length })
    (fun _ => rfl) j (runnable_find h)
  obtain ⟨hends, hframe, -⟩ := done_free id (header ++ (entriesThatFit j header.length size l).flatten) _ _
    hf hs hr hg hc .done 0 (.inr rfl)
  rw [doneWithEntries, jobid_of h]
  exact ⟨hends, (congrArg State.bank hframe :)⟩

end BankBooks

theorem noParam_empty {j : Job} (hl : j.paramLen = 0) (f : Job → State → State) (s : State) :
    noParam f j s = f j s := by
  simp [noParam, hl]

theorem onlyIf_raise_bank (b : Bool) (c : W16) (o : Option SlotId) (a : Nat) (s : State) :
    (onlyIf b (raise c o a) s).bank = s.bank := by unfold onlyIf; split <;> rfl

section Formatted
variable {s : State} (hm : s.bank.formatted = true)
include hm

/-- An RPP write touches the RPP's own fields of the bank (R256, R263). -/
theorem rppWrite_bank : (rppWrite s).bank =
    { s.bank with rppWc := s.nv.wcnt, anchorAseq := s.bank.aseqNext - 1, anchorChain := s.bank.chain } := by
  rw [rppWrite, if_neg (by simp [hm])]

/-- An RPP write raises WCNT (R257). -/
theorem rppWrite_wcnt : (rppWrite s).nv.wcnt = bumpWcnt s.nv.wcnt := by
  rw [rppWrite, if_neg (by simp [hm])]

/-- One audit entry joins the log, and nothing else of the bank moves but its chain and the next ASEQ (R260, R261). -/
theorem audit_appends (ty oc : Byte) (i : Nat) (job : W32) (ctr d : W64) :
    ∃ e : AuditEntry, (audit ty oc i job ctr d s).bank =
        { s.bank with audit := s.bank.audit ++ [e], aseqNext := s.bank.aseqNext + 1, chain := e.chain } ∧
      e.atype = ty ∧ e.ctrIdx = BitVec.ofNat 16 i ∧ e.jobId = job ∧ e.counter = ctr := by
  rw [audit, if_neg (by simp [hm])]
  exact ⟨_, onlyIf_raise_bank _ _ _ _ _, rfl, rfl, rfl, rfl⟩

end Formatted

theorem audit_nv (ty oc : Byte) (i : Nat) (job : W32) (ctr d : W64) (s : State) :
    (audit ty oc i job ctr d s).nv = s.nv := congrArg Kept.nv (audit_kept ty oc i job ctr d s)

/-! ## FORMAT, BANK_STATUS and COUNTER_RELEASE -/

section Format
variable {s : State} {id : JobId} {j : Job} (h : s.runnable id 4 1 j)
include h

theorem execFormat_refused (hm : s.bank.formatted = true) (p : FormatParams) :
    execFormat id p s = .next (failJob id 0x0702 s) := by
  rw [execFormat, runnable_open h, if_pos hm]

theorem execFormat_formats {p : FormatParams} (hm : s.bank.formatted = false) (ha : 64 ≤ p.auditBlocksPerTarget)
    (hl : p.retryLevels ≤ 7) :
    execFormat id p s = .next (doneWith id [] (rppWrite { s with bank := formattedBank p s })) := by
  rw [execFormat, runnable_open h, if_neg (by simp [hm]), if_neg (by simp; omega)]

end Format

/-- The state in which an index of the counters is unbound, its next value and RESERVED_TOP kept (R255). -/
def State.unbound (s : State) (i : Fin 256) : State :=
  { s with bank.counters := s.bank.counters.set i.val { s.bank.counters[i.val] with handle := 0, bound := false } i.isLt }

/-- The state in which an index of the counters is released, with its RPP write and its audit entry (R255, R260). -/
def State.released (s : State) (i : Fin 256) : State :=
  audit 0x0A 0 i.val 0 (s.bank.counters[i.val].next - 1) (BitVec.ofNat 64 s.bank.counters[i.val].handle.toNat)
    (rppWrite (s.unbound i))

theorem released_offBooks (s : State) (i : Fin 256) : (s.released i).offBooks = s.offBooks := by
  rw [State.released, audit_offBooks, rppWrite_offBooks]; rfl

section Released
variable {s : State} (hm : s.bank.formatted = true) (i : Fin 256)
include hm

theorem released_wcnt : (s.released i).nv.wcnt = bumpWcnt s.nv.wcnt := by
  rw [State.released, audit_nv]
  exact rppWrite_wcnt (s := s.unbound i) hm

theorem released_bank : ∃ a, (s.released i).bank.counters = (s.unbound i).bank.counters ∧
    (s.released i).bank.audit = s.bank.audit ++ [a] ∧ a.atype = 0x0A ∧ a.ctrIdx = BitVec.ofNat 16 i.val ∧
    a.counter = s.bank.counters[i.val].next - 1 := by
  have hw := rppWrite_bank (s := s.unbound i) hm
  obtain ⟨a, hlog, hty, hidx, -, hctr⟩ := audit_appends (s := rppWrite (s.unbound i)) (by rw [hw]; exact hm)
    0x0A 0 i.val 0 (s.bank.counters[i.val].next - 1) (BitVec.ofNat 64 s.bank.counters[i.val].handle.toNat)
  rw [hw] at hlog
  exact ⟨a, (congrArg Bank.counters hlog :), (congrArg Bank.audit hlog :), hty, hidx, hctr⟩

end Released

section CounterRelease
variable {j : Job} {i : Fin 256} {s : State} (ha : j.ticket.arg.toNat = i.val) (hi : i.val ≠ 0)
  (hb : s.bank.counters[i.val].bound = true)
include ha hi hb

theorem counterRelease_busy (hk : s.bank.keys.any (fun k => k.handle == s.bank.counters[i.val].handle) = true) :
    counterRelease j s = failJob j.ticket.jobId 0x0710 s := by
  simp [counterRelease, ha, finOf, hi, hb, hk]

theorem counterRelease_free (hk : s.bank.keys.any (fun k => k.handle == s.bank.counters[i.val].handle) = false)
    (hu : s.counterInUse i.val s.bank.counters[i.val].handle = false) :
    counterRelease j s = doneWith j.ticket.jobId [] (s.released i) := by
  simp [counterRelease, ha, finOf, hi, hb, hk, hu, State.released, State.unbound]

end CounterRelease

/-- Settles O23: FORMAT by the bank it lays out, COUNTER_RELEASE by the counter it unbinds and its audit entry. -/
theorem bankTicketsLayOutAndReport : Obligations.BankTicketsLayOutAndReport := by
  refine ⟨fun id p j s h => ⟨fun hm ha hl => ?_, fun hm => ?_⟩, fun id j s h hm hl => ?_,
    fun id j i s h hm hl ha hi hb => ⟨fun hk hu => ?_, fun hk => ?_⟩⟩
  · refine ⟨_, execFormat_formats h hm ha hl, ?_⟩
    have hf : ({ s with bank := formattedBank p s } : State).bank.formatted = true := rfl
    obtain ⟨hends, hbank, hnv⟩ := doneWith_endsOnBooks h (rppWrite_offBooks { s with bank := formattedBank p s }) []
    refine ⟨hends, ?_⟩
    rw [hbank, hnv, rppWrite_wcnt hf, rppWrite_bank hf]
    exact ⟨rfl, rfl, rfl, rfl, rfl, rfl, rfl, rfl, rfl, fun i => by simp [formattedBank]⟩
  · exact ⟨_, execFormat_refused h hm p, runnable_fail h 0x0702⟩
  · refine ⟨_, bankTicket_runs h hm _, ?_⟩
    rw [noParam_empty hl]
    exact runnable_finish h s rfl rfl _ .done 0 (.inr rfl)
  · refine ⟨_, bankTicket_runs h hm _, ?_⟩
    rw [noParam_empty hl, counterRelease_free ha hi hb hk hu, jobid_of h]
    obtain ⟨hends, hbank, hnv⟩ := doneWith_endsOnBooks h (released_offBooks s i) []
    obtain ⟨a, hcounters, haudit, hty, hidx, hctr⟩ := released_bank hm i
    refine ⟨hends, ?_, fun k hne => ?_, by rw [hnv, released_wcnt hm], a, by rw [hbank, haudit], hty, hidx, hctr⟩
    · rw [hbank, hcounters]
      exact Vector.getElem_set_self i.isLt
    · rw [hbank, hcounters]
      exact Vector.getElem_set_ne i.isLt k.isLt fun he => hne (Fin.ext he.symm)
  · refine ⟨_, bankTicket_runs h hm _, ?_⟩
    rw [noParam_empty hl, counterRelease_busy ha hi hb hk, jobid_of h]
    exact failJob_ends h 0x0710

/-! ## JOURNAL_LIST and JOURNAL_CLOSE -/

theorem journalList_all (param : List Byte) {j : Job} (hl : j.paramLen = 0) (s : State) :
    journalList param j s = doneWithEntries j [] 64 ((sortBy (fun a b => a.jseq.toNat ≤ b.jseq.toNat)
      s.openIntents).map intentBytes) s := by
  simp [journalList, hl]

/-- An entry that a settled JSEQ leaves open is one that was open, of another JSEQ (R246). -/
theorem mem_openIntents_settle {q : W64} {r : JResult} {sw : W16} {how : Nat} {n : Option SlotId} {s : State}
    {i : Intent} : i ∈ (settle q r sw how n s).openIntents ↔ i ∈ s.openIntents ∧ i.jseq ≠ q := by
  simp only [State.openIntents, settle, List.mem_filter, List.mem_map]
  constructor
  · rintro ⟨⟨e, he, rfl⟩, ho⟩
    split at ho
    · cases ho
    next hc => grind
  · rintro ⟨⟨hm, ho⟩, hq⟩
    exact ⟨⟨i, hm, by simp [hq]⟩, ho⟩

theorem noteJournal_audit (s : State) : (noteJournal s).bank.audit = s.bank.audit := by
  simp only [noteJournal]
  (repeat' split) <;> rfl

theorem noteJournal_openIntents (s : State) : (noteJournal s).openIntents = s.openIntents :=
  (State.AddsTo.refl s).noteJournal.openIntents

/-- What the host says of an entry that it closes (R246). -/
def hostResult (oc : Byte) : JResult := if oc == 3 then .doneHost else .notDoneHost

/-- The state in which the host has closed an entry (R246, R254, R260). -/
def State.hostClosed (s : State) (oc : Byte) (e : Intent) (q : W64) : State :=
  noteJournal (raise 0x0702 none q.toNat
    (audit 0x03 0 e.ctrIdx e.jobId e.counter q (settle q (hostResult oc) 0 5 none s)))

section JournalClose
variable {param : List Byte} {j : Job} {s : State} (hl : j.paramLen = 16)
  (hoc : byteAt (j.data param) 8 = 3 ∨ byteAt (j.data param) 8 = 4) (hz : allZero (slice (j.data param) 9 7) = true)
include hl hoc hz

/-- JOURNAL_CLOSE of a well-formed request, by the open entry that it names (R243, R246). -/
theorem journalClose_eq : paramOf 16 (journalClose param) j s =
    (s.openIntents.find? (fun e => e.jseq == BitVec.ofNat 64 (leAt (j.data param) 0 8))).elim
      (failJob j.ticket.jobId 0x0708 s) (fun e =>
        if (s.findJob e.jobId).isSome then failJob j.ticket.jobId 0x0709 s
        else doneWith j.ticket.jobId []
          (s.hostClosed (byteAt (j.data param) 8) e (BitVec.ofNat 64 (leAt (j.data param) 0 8)))) := by
  have hk : (byteAt (j.data param) 8 == 3 || byteAt (j.data param) 8 == 4) = true := by simpa using hoc
  rw [paramOf, if_pos (by simp [hl])]
  unfold journalClose
  extract_lets id p oc q
  rw [if_neg (by simp only [oc, p, hk, hz]; decide)]
  cases s.openIntents.find? (fun e => e.jseq == q) with
  | none => rfl
  | some e => rfl

end JournalClose

section HostClosed
variable {s : State} (hm : s.bank.formatted = true) (oc : Byte) (e : Intent) (q : W64)

theorem hostClosed_offBooks : (s.hostClosed oc e q).offBooks = s.offBooks := by
  rw [State.hostClosed, noteJournal_offBooks, raise_offBooks, audit_offBooks, settle_offBooks]

include hm

theorem hostClosed_audit : ∃ a, (s.hostClosed oc e q).bank.audit = s.bank.audit ++ [a] ∧ a.atype = 3 ∧
    a.jobId = e.jobId ∧ a.counter = e.counter := by
  obtain ⟨a, hlog, hty, -, hjob, hctr⟩ := audit_appends (s := settle q (hostResult oc) 0 5 none s) hm
    0x03 0 e.ctrIdx e.jobId e.counter q
  refine ⟨a, ?_, hty, hjob, hctr⟩
  rw [State.hostClosed, noteJournal_audit, raise_bank, hlog]
  rfl

theorem mem_openIntents_hostClosed {i : Intent} :
    i ∈ (s.hostClosed oc e q).openIntents ↔ i ∈ s.openIntents ∧ i.jseq ≠ q := by
  obtain ⟨a, hlog, -⟩ := audit_appends (s := settle q (hostResult oc) 0 5 none s) hm
    0x03 0 e.ctrIdx e.jobId e.counter q
  rw [← mem_openIntents_settle (r := hostResult oc) (sw := 0) (how := 5) (n := none), State.hostClosed,
    noteJournal_openIntents, State.openIntents, raise_bank, hlog]
  rfl

end HostClosed

/-- Settles O25: JOURNAL_LIST by the entries that fit, JOURNAL_CLOSE by the entry that its JSEQ names. -/
theorem journalTicketsListAndClose : Obligations.JournalTicketsListAndClose := by
  refine ⟨fun id param j s h hm hl => ?_, fun id param j s h hm hl hoc hz =>
    ⟨fun e he hn => ?_, fun he => ?_, fun e k he hk => ?_⟩⟩
  · refine ⟨_, bankTicket_runs h hm _, ?_⟩
    rw [journalList_all param hl]
    exact (doneWithEntries_ends h [] 64 _).symm
  · refine ⟨_, bankTicket_runs h hm _, ?_⟩
    rw [journalClose_eq hl hoc hz, he, Option.elim_some, if_neg (by simp [hn]), jobid_of h]
    generalize BitVec.ofNat 64 (leAt (j.data param) 0 8) = q
    generalize byteAt (j.data param) 8 = oc
    obtain ⟨hends, hbank, -⟩ := doneWith_endsOnBooks h (hostClosed_offBooks oc e q) []
    have hopen (i : Intent) : i ∈ (doneWith id [] (s.hostClosed oc e q)).openIntents ↔
        i ∈ s.openIntents ∧ i.jseq ≠ q := by
      rw [State.openIntents, hbank]
      exact mem_openIntents_hostClosed hm oc e q
    refine ⟨hends, fun i hi => ((hopen i).1 hi).2, fun i hi hne => (hopen i).2 ⟨hi, hne⟩, ?_⟩
    rw [hbank]
    exact hostClosed_audit hm oc e q
  · refine ⟨_, bankTicket_runs h hm _, ?_⟩
    rw [journalClose_eq hl hoc hz, he, Option.elim_none, jobid_of h]
    exact failJob_ends h 0x0708
  · refine ⟨_, bankTicket_runs h hm _, ?_⟩
    rw [journalClose_eq hl hoc hz, he, Option.elim_some, if_pos (by simp [hk]), jobid_of h]
    exact failJob_ends h 0x0709

end Sys2Proof.Machine

namespace Sys2Proof.Machine
open Sys2Proof

/-! # Ring converters and ring faults (R273 to R277, R285, R286, R305, R447) -/

/-! ## The converter's commands -/

theorem State.updRing_changesRing {s : State} {r : RingId} {f : Ring → Ring} {x : Ring} (h : f (s.ring r) = x) :
    s.changesRing (s.updRing r f) r x :=
  ⟨rfl, by rw [State.updRing_ring_self, h], fun q hq => State.updRing_ring_other s r q f hq⟩

/-- A ring that has parked, with the headroom that was planned meanwhile (R273, R276). -/
def Ring.parked (x : Ring) : Ring :=
  { x with phase := .settled, joined := true, railCls := .c, checkDue := false,
           headroom := x.headroomNext.getD x.headroom, headroomNext := none }

theorem exec_ringParked {r : RingId} {s : State} (hu : s.mainUp = true) (hp : (s.ring r).phase = .starting) :
    exec (.ringParked r) s = .next (s.updRing r Ring.parked) :=
  show execRingParked r s = _ from State.gate_open (by simp [hu, hp])

theorem exec_railRetarget {r : RingId} {s : State} (hu : s.mainUp = true) (hp : (s.ring r).phase = .settled)
    (hf : (s.ring r).fenced = false) (ht : s.ringTokensUsed r = 0) :
    exec (.railRetarget r) s = .next ((s.retargetTo r).elim s fun k => s.updRing r (·.ramp k)) := by
  rw [exec, execRailRetarget, State.gate_open (by simp [hu, hp, hf, ht])]
  cases s.retargetTo r <;> rfl

/-- The request at the head of the ring's queue takes the rail up (R274). -/
theorem retargetTo_up {r : RingId} {s : State} {q : Request} {rest : List Request} (hq : s.ringQueue r = q :: rest)
    (hk : classRank (s.ring r).railCls < classRank q.cls) : s.retargetTo r = some q.cls := by
  simp only [State.retargetTo, hq, hk, if_true]

/-- With nobody waiting, no ramp postponed and no headroom planned, the rail stays (R274). -/
theorem retargetTo_idle {r : RingId} {s : State} (hq : s.ringQueue r = []) (hp : (s.ring r).postponed = false)
    (hh : (s.ring r).headroomNext = none) : s.retargetTo r = none := by
  simp [State.retargetTo, hq, hp, hh]

/-- A ramp up leaves a postponement of the way down in place (R275). -/
theorem Ring.ramp_up {x : Ring} {k : CardClass} (h : classRank x.railCls < classRank k) :
    x.ramp k = { x with phase := .ramping, railCls := k, headroomNext := none,
                        headroom := x.headroomNext.getD x.headroom } := by
  simp [Ring.ramp, Nat.le_of_lt h]

theorem exec_railSettled {r : RingId} {s : State} (hu : s.mainUp = true) (hp : (s.ring r).phase = .ramping) :
    exec (.railSettled r) s = .next (s.updRing r (fun x => { x with phase := .settled })) :=
  show execRailSettled r s = _ from State.gate_open (by simp [hu, hp])

/-! ## The end of the down hold (R275) -/

/-- Something stands in the way of the ramp down (R275). -/
def State.downBlocked (s : State) (r : RingId) : Bool :=
  !(s.ringQueue r).isEmpty || s.ringTokensUsed r != 0 || (s.ring r).phase != .settled

/-- A ring at the end of its down hold, when its slots need class `k` (R275). -/
def Ring.holdEnded (k : CardClass) (blocked : Bool) (x : Ring) : Ring :=
  let x := { x with downHold := false }
  if classRank x.railCls ≤ classRank k then x
  else if blocked then { x with postponed := true }
  else x.ramp k

theorem exec_downHoldEnd {r : RingId} {s : State} (hu : s.mainUp = true) (hd : (s.ring r).downHold = true) :
    exec (.downHoldEnd r) s = .next (s.updRing r (Ring.holdEnded (s.ringClass r) (s.downBlocked r))) :=
  show execDownHoldEnd r s = _ from State.gate_open (by simp [hu, hd])

section HoldEnded
variable {x : Ring} {k : CardClass} {blocked : Bool}

theorem Ring.holdEnded_needed (h : classRank x.railCls ≤ classRank k) :
    x.holdEnded k blocked = { x with downHold := false } := if_pos h

theorem Ring.holdEnded_blocked (h : classRank k < classRank x.railCls) :
    x.holdEnded k true = { x with downHold := false, postponed := true } := if_neg (Nat.not_le.2 h)

theorem Ring.holdEnded_free (h : classRank k < classRank x.railCls) :
    x.holdEnded k false = Ring.ramp { x with downHold := false } k := if_neg (Nat.not_le.2 h)

theorem Ring.holdEnded_downHold : (x.holdEnded k blocked).downHold = false := by
  rcases Nat.lt_or_ge (classRank k) (classRank x.railCls) with h | h
  · cases blocked with
    | true => rw [Ring.holdEnded_blocked h]
    | false => rw [Ring.holdEnded_free h]; rfl
  · rw [Ring.holdEnded_needed h]

end HoldEnded

theorem downBlocked_false {r : RingId} {s : State} (hq : s.ringQueue r = []) (ht : s.ringTokensUsed r = 0)
    (hp : (s.ring r).phase = .settled) : s.downBlocked r = false := by
  simp [State.downBlocked, hq, ht, hp]

theorem downBlocked_true {r : RingId} {s : State}
    (h : s.ringQueue r ≠ [] ∨ s.ringTokensUsed r ≠ 0 ∨ (s.ring r).phase ≠ .settled) : s.downBlocked r = true := by
  simpa [State.downBlocked, or_assoc] using h

/-! ## The emergency order of a slot whose ring rotates no comparator (R57, R302) -/

theorem endRotation_none {n : SlotId} {s : State} (h : (s.ring (ringOf n)).rotation = none) : endRotation n s = s := by
  simp only [endRotation, h]

/-- An order that meets a slot without power, or one already going down, writes at most the course of its
deactivation (R58, R60). -/
theorem startEmergency_unpowered {n : SlotId} (c : Cause) {s : State} (h : (s.slot n).phase.live = false) :
    startEmergency n c s = s ∨
    ∃ f : Slot → Slot, startEmergency n c s = s.updSlot n f ∧ ∀ x, (f x).fencePending = x.fencePending := by
  simp only [startEmergency, h, Bool.false_eq_true, if_false]
  split
  · split
    · exact .inl rfl
    · split
      · split
        · exact .inr ⟨_, rfl, fun _ => rfl⟩
        · exact .inl rfl
      · exact .inr ⟨_, rfl, fun _ => rfl⟩
  · exact .inl rfl

theorem startEmergency_fencePending (n : SlotId) (c : Cause) (s : State) :
    ((startEmergency n c s).slot n).fencePending = (s.slot n).fencePending := by
  cases h : (s.slot n).phase.live with
  | true => exact startEmergency_keep (·.fencePending) (fun _ _ => rfl) (fun _ _ => rfl) n c h
  | false =>
    rcases startEmergency_unpowered c h with he | ⟨f, he, hf⟩
    · rw [he]
    · rw [he, State.updSlot_slot_self, hf]

/-! ## What a fence does to one slot (R72, R305, R447) -/

/-- Only one slot is acted on; units and rings stand, and no waiting event is lost. -/
structure State.FenceActs (s : State) (n : SlotId) (t : State) : Prop extends s.ActsOn n t where
  faults : t.faults = s.faults
  rings : t.rings = s.rings
  queue : s.barker.queue ⊆ t.barker.queue

section FenceActs
variable {s t u : State} {n : SlotId}

theorem State.FenceActs.refl (s : State) (n : SlotId) : s.FenceActs n s :=
  ⟨.refl s n, rfl, rfl, List.Subset.refl _⟩

theorem State.FenceActs.trans (h : s.FenceActs n t) (h' : t.FenceActs n u) : s.FenceActs n u :=
  ⟨h.toActsOn.trans h'.toActsOn, h'.faults.trans h.faults, h'.rings.trans h.rings, List.Subset.trans h.queue h'.queue⟩

theorem State.FenceActs.raise (h : s.FenceActs n t) (c : W16) (o : Option SlotId) (a : Nat) :
    s.FenceActs n (raise c o a t) :=
  { h with queue := List.subset_append_of_subset_left _ h.queue }

theorem leaveQueue_fenceActs (n : SlotId) (s : State) : s.FenceActs n (leaveQueue n s) := by
  refine ⟨leaveQueue_actsOn n s, ?_, ?_, ?_⟩ <;> rw [leaveQueue_frame]
  exact List.Subset.refl _

theorem enterFenced_fenceActs (n : SlotId) (src : FenceSrc) (code : W16) (s : State) :
    s.FenceActs n (enterFenced n src code s) :=
  State.FenceActs.raise ⟨(State.ActsOn.refl s n).updSlot _ (fun _ => rfl) id, rfl, rfl, List.Subset.refl _⟩ _ _ _

theorem markFence_fenceActs (n : SlotId) (src : FenceSrc) (code : W16) (s : State) :
    s.FenceActs n (markFence n src code s) := by
  refine ⟨(State.ActsOn.refl s n).updSlot _ (fun h => ?_) (fun h => ?_), rfl, rfl, List.Subset.refl _⟩ <;>
    split <;> exact h

theorem startEmergency_fenceActs (c : Cause) (h : (s.ring (ringOf n)).rotation = none) :
    s.FenceActs n (startEmergency n c s) := by
  have ha := startEmergency_actsOn n c s
  cases hl : (s.slot n).phase.live with
  | true =>
    have hr : ((endGalSession n s).ring (ringOf n)).rotation = none := by rw [endGal_frame]; exact h
    refine ⟨ha, ?_, ?_, ?_⟩ <;> rw [startEmergency_powered n c hl, endRotation_none hr, endGal_frame]
    · rfl
    · rfl
    · exact List.Subset.refl _
  | false =>
    rcases startEmergency_unpowered c hl with he | ⟨f, he, -⟩
    · rw [he]; exact .refl s n
    · refine ⟨ha, ?_, ?_, ?_⟩ <;> rw [he]
      · rfl
      · rfl
      · exact List.Subset.refl _

end FenceActs

/-- The slot is out of use, or will be once it is down (R72, R305). -/
def Slot.shut (x : Slot) : Prop := x.phase.live = false ∧ (x.phase = .fenced ∨ x.fencePending = true)

theorem enterFenced_shut (n : SlotId) (src : FenceSrc) (code : W16) (s : State) :
    ((enterFenced n src code s).slot n).shut := by
  rw [enterFenced, raise_slot, State.updSlot_slot_self]; exact ⟨rfl, .inl rfl⟩

theorem markFence_pending (n : SlotId) (src : FenceSrc) (code : W16) (s : State) :
    ((markFence n src code s).slot n).fencePending = true := by
  obtain ⟨a, b, h⟩ := markFence_slot n src code s
  rw [h]

/-- A fence by the emergency order, of a slot that no job holds: the slot alone is acted on, and is fenced or will be
once it is down (R58, R72, R285). -/
theorem fenceSlotBy_shuts {n : SlotId} (c : Cause) (src : FenceSrc) (code : W16) {s : State}
    (hj : (s.slot n).job = none) (hr : (s.ring (ringOf n)).rotation = none) :
    s.FenceActs n (fenceSlotBy (fun n => loseEmergency n c) n src code s) ∧
    ((fenceSlotBy (fun n => loseEmergency n c) n src code s).slot n).shut := by
  have enters {u : State} (h : s.FenceActs n u) :
      s.FenceActs n (lostJob n .none (enterFenced n src code u)) ∧
      ((lostJob n .none (enterFenced n src code u)).slot n).shut := by
    have ha := h.trans (enterFenced_fenceActs n src code u)
    rw [lostJob_nojob n .none _ (ha.job hj)]
    exact ⟨ha, enterFenced_shut n src code u⟩
  have hm := markFence_fenceActs n src code s
  have hpend := markFence_pending n src code s
  simp only [fenceSlotBy]
  split
  next hp =>
    split
    · refine ⟨⟨(State.ActsOn.refl s n).updSlot _ (fun h => h) (fun h => h), rfl, rfl, List.Subset.refl _⟩, ?_⟩
      rw [State.updSlot_slot_self]
      exact ⟨by rw [hp]; rfl, .inl hp⟩
    · exact ⟨.refl s n, by rw [hp]; rfl, .inl hp⟩
  next => exact enters (.refl s n)
  next => exact enters (.refl s n)
  next => exact enters (.refl s n)
  next => exact enters (leaveQueue_fenceActs n s)
  next hp => exact ⟨hm, hm.live (by rw [hp]; rfl), .inr hpend⟩
  next =>
    rw [loseEmergency_nojob c (hm.job hj)]
    refine ⟨hm.trans (startEmergency_fenceActs c (by rw [State.ring, hm.rings]; exact hr)),
      startEmergency_live n c _, .inr ?_⟩
    rw [startEmergency_fencePending, hpend]

/-! ## The fence of a ring (R285, R447) -/

/-- A loop that keeps `P` leaves `Q` of every element, when an element's own pass brings its `Q` about and no pass
undoes it. -/
theorem forEach_each {α : Type} (P : State → Prop) (Q : α → State → Prop) (l : List α) (f : α → State → State)
    (s : State) (hs : P s) (h1 : ∀ a ∈ l, ∀ s, P s → P (f a s) ∧ Q a (f a s))
    (h2 : ∀ a, ∀ b ∈ l, ∀ s, P s → Q a s → Q a (f b s)) :
    P (forEach l f s) ∧ ∀ a ∈ l, Q a (forEach l f s) := by
  induction l using List.reverseRecOn with
  | nil => exact ⟨hs, by simp⟩
  | append_singleton l b ih =>
    obtain ⟨hP, hQ⟩ := ih (fun a ha => h1 a (by simp [ha])) (fun a c hc => h2 a c (by simp [hc]))
    have hb : b ∈ l ++ [b] := by simp
    have he : forEach (l ++ [b]) f s = f b (forEach l f s) := by simp [forEach]
    rw [he]
    refine ⟨(h1 b hb _ hP).1, fun a ha => ?_⟩
    rcases List.mem_append.1 ha with ha | ha
    · exact h2 a b hb _ hP (hQ a ha)
    · obtain rfl := List.mem_singleton.1 ha
      exact (h1 a hb _ hP).2

theorem mem_ringSlots {n : SlotId} {r : RingId} : n ∈ ringSlots r ↔ ringOf n = r := by
  simp only [ringSlots, List.mem_map, List.mem_finRange, true_and, slotOfRing, ringOf, Fin.ext_iff]
  constructor
  · rintro ⟨k, hk⟩; omega
  · intro h
    exact ⟨⟨n.val % 8, by omega⟩, by simp only; omega⟩

/-- What the fence of a ring leaves alone, and that no job holds a slot of the ring. -/
structure State.InRing (s : State) (r : RingId) (t : State) : Prop where
  regs : t.regs = s.regs
  jobs : t.jobs = s.jobs
  faults : t.faults = s.faults
  rings : t.rings = s.rings
  queue : s.barker.queue ⊆ t.barker.queue
  others : ∀ n, ringOf n ≠ r → t.slot n = s.slot n
  job : ∀ n, ringOf n = r → (t.slot n).job = none

theorem State.InRing.fenceActs {s t u : State} {r : RingId} {n : SlotId} (h : s.InRing r t) (hn : ringOf n = r)
    (ha : t.FenceActs n u) : s.InRing r u where
  regs := ha.regs.trans h.regs
  jobs := ha.jobs.trans h.jobs
  faults := ha.faults.trans h.faults
  rings := ha.rings.trans h.rings
  queue := List.Subset.trans h.queue ha.queue
  others m hm := (ha.others m fun e => hm (e ▸ hn)).trans (h.others m hm)
  job m hm := by
    by_cases e : m = n
    · subst e; exact ha.job (h.job m hm)
    · rw [ha.others m e]; exact h.job m hm

/-- The slots of a ring that rotates no comparator, fenced one after the other (R285, R447). -/
theorem fenceSlots_shut (c : Cause) (src : FenceSrc) (code : W16) {r : RingId} {s : State}
    (hj : ∀ n, ringOf n = r → (s.slot n).job = none) (hr : (s.ring r).rotation = none) :
    let t := forEach (ringSlots r) (fun n s => fenceSlotBy (fun n => loseEmergency n c) n src code s) s
    s.InRing r t ∧ ∀ n ∈ ringSlots r, (t.slot n).shut := by
  have pass : ∀ n ∈ ringSlots r, ∀ t, s.InRing r t →
      t.FenceActs n (fenceSlotBy (fun n => loseEmergency n c) n src code t) ∧
      ((fenceSlotBy (fun n => loseEmergency n c) n src code t).slot n).shut := fun n hn t h => by
    obtain rfl := mem_ringSlots.1 hn
    exact fenceSlotBy_shuts c src code (h.job n rfl) (by rw [State.ring, h.rings]; exact hr)
  refine forEach_each (s.InRing r) (fun n t => (t.slot n).shut) _ _ s
    ⟨rfl, rfl, rfl, rfl, List.Subset.refl _, fun _ _ => rfl, hj⟩ (fun n hn t h => ?_) (fun n m hm t h hn => ?_)
  · exact ⟨h.fenceActs (mem_ringSlots.1 hn) (pass n hn t h).1, (pass n hn t h).2⟩
  · by_cases e : n = m
    · subst e; exact (pass n hm t h).2
    · rw [(pass m hm t h).1.others n e]; exact hn

/-! ## A ring fault (R285, R286) -/

theorem latchError_errFirst {code : W16} (u : UnitRef) (j : Option JobId) (e : Bool) {s : State}
    (hb : bit s.regs.errFirst 31 = false) (hw : s.faults.fatalWindow = none) :
    (latchError code u j e s).regs.errFirst = BitVec.ofNat 32 (code.toNat + 2 ^ 31) := by
  simp only [latchError, latchAt, hb, hw, Option.isSome_none, Bool.false_and, Bool.false_eq_true, if_false]
  rw [raise_regs, fireIrq_frame]

/-- The error latched, RING_FAULT raised and the fence noted, before the ring's slots are taken down (R285, R286). -/
def faultNoted (r : RingId) (code : W16) (s : State) : State :=
  noteFence (.ring r) code (raise 0x0802 none (r.val + code.toNat * 2 ^ 16) (latchError code (.ring r) none true s))

/-- The ring's converter off, and the ring fenced (R285). -/
def Ring.cut (x : Ring) : Ring :=
  { x with fenced := true, joined := false, downHold := false, postponed := false, rotation := none,
           phase := .off, stopWhenOff := false }

theorem ringFault_eq (r : RingId) (code : W16) (s : State) : ringFault r code s =
    forEach (ringSlots r) (fun n s => fenceSlotBy (fun n => loseEmergency n .supplyOrClock) n .ring code s)
      ((faultNoted r code s).updRing r Ring.cut) := rfl

section FaultNoted
variable (r : RingId) (code : W16) (s : State)

theorem faultNoted_slots : (faultNoted r code s).slots = s.slots := by simp [faultNoted, noteFence]

theorem faultNoted_rings : (faultNoted r code s).rings = s.rings := by simp [faultNoted, noteFence]

theorem faultNoted_jobs : (faultNoted r code s).jobs = s.jobs := by simp [faultNoted, noteFence]

theorem faultNoted_unitPhase : (faultNoted r code s).unitPhase (.ring r) = .fenced := by
  simp [State.unitPhase, faultNoted, noteFence, setUnit]

theorem faultNoted_event : ∃ e ∈ (faultNoted r code s).barker.queue, e.code = 0x0802 ∧ e.slot = none :=
  ⟨_, List.mem_append_left _ (List.mem_append_right _ (List.mem_singleton_self _)), rfl, rfl⟩

theorem faultNoted_errFirst (hb : bit s.regs.errFirst 31 = false) (hw : s.faults.fatalWindow = none) :
    (faultNoted r code s).regs.errFirst = BitVec.ofNat 32 (code.toNat + 2 ^ 31) := by
  rw [← latchError_errFirst (.ring r) none true hb hw]
  simp [faultNoted, noteFence, askBarrier]

end FaultNoted

/-- What a ring fault leaves (R285, R286, R305, R447). -/
theorem ringFault_out {r : RingId} (code : W16) {s : State} (hj : ∀ n, ringOf n = r → (s.slot n).job = none) :
    let t := ringFault r code s
    (t.ring r).fenced = true ∧ (t.ring r).phase = .off ∧ (∀ q, q ≠ r → t.ring q = s.ring q) ∧
    (∀ n, ringOf n = r → (t.slot n).phase.live = false ∧
      ((t.slot n).phase = .fenced ∨ (t.slot n).fencePending = true)) ∧
    (∀ n, ringOf n ≠ r → t.slot n = s.slot n) ∧ t.jobs = s.jobs ∧
    (∃ e ∈ t.barker.queue, e.code = 0x0802 ∧ e.slot = none) ∧ t.unitPhase (.ring r) = .fenced ∧
    (bit s.regs.errFirst 31 = false → s.faults.fatalWindow = none →
      t.regs.errFirst = BitVec.ofNat 32 (code.toNat + 2 ^ 31)) := by
  have hslot : ∀ n, (faultNoted r code s).slot n = s.slot n := fun n => by rw [State.slot, faultNoted_slots]; rfl
  have hring : ∀ q, (faultNoted r code s).ring q = s.ring q := fun q => by rw [State.ring, faultNoted_rings]; rfl
  obtain ⟨hin, hshut⟩ := fenceSlots_shut .supplyOrClock .ring code
    (s := (faultNoted r code s).updRing r Ring.cut) (r := r)
    (fun n hn => by rw [State.updRing_slot, hslot]; exact hj n hn) (by rw [State.updRing_ring_self]; rfl)
  rw [← ringFault_eq] at hin hshut
  have hcut : (ringFault r code s).ring r = (s.ring r).cut := by
    rw [State.ring, hin.rings, ← State.ring, State.updRing_ring_self, hring]
  refine ⟨by rw [hcut]; rfl, by rw [hcut]; rfl, fun q hq => ?_, fun n hn => hshut n (mem_ringSlots.2 hn),
    fun n hn => (hin.others n hn).trans (hslot n), hin.jobs.trans (faultNoted_jobs r code s), ?_, ?_, fun hb hw => ?_⟩
  · rw [State.ring, hin.rings, ← State.ring, State.updRing_ring_other _ _ _ _ hq, hring]
  · obtain ⟨e, he, hc⟩ := faultNoted_event r code s
    exact ⟨e, hin.queue he, hc⟩
  · rw [State.unitPhase, hin.faults]; exact faultNoted_unitPhase r code s
  · rw [hin.regs]; exact faultNoted_errFirst r code s hb hw

section RingFaultCommands
variable {r : RingId} {s : State}

theorem railUp_of (hu : s.mainUp = true) (h : (s.ring r).phase = .settled ∨ (s.ring r).phase = .ramping) :
    s.railUp r = true := by
  simpa [State.railUp, hu] using h

theorem railOn_of (hu : s.mainUp = true)
    (h : (s.ring r).phase = .settled ∨ (s.ring r).phase = .ramping ∨ (s.ring r).phase = .starting) :
    s.railOn r = true := by
  simpa [State.railOn, State.railUp, hu, or_assoc] using h

theorem exec_ringUv (h : s.railUp r = true) : exec (.ringUv r) s = .next (ringFault r 0x0801 s) :=
  show execRingUv r s = _ from State.gate_open h

theorem exec_ringOv (h : s.railUp r = true) : exec (.ringOv r) s = .next (ringFault r 0x0802 s) :=
  show execRingOv r s = _ from State.gate_open h

theorem exec_ringOc (h : s.railOn r = true) : exec (.ringOc r) s = .next (ringFault r 0x0803 s) :=
  show execRingOc r s = _ from State.gate_open h

theorem exec_ringOt (h : s.railOn r = true) : exec (.ringOt r) s = .next (ringFault r 0x0804 s) :=
  show execRingOt r s = _ from State.gate_open h

theorem exec_ringStart (hu : s.mainUp = true) (hp : (s.ring r).phase = .starting) :
    exec (.ringStart r) s = .next (ringFault r 0x0805 s) :=
  show execRingStart r s = _ from State.gate_open (by simp [hu, hp])

theorem exec_ringSettle (hu : s.mainUp = true) (hp : (s.ring r).phase = .ramping) :
    exec (.ringSettle r) s = .next (ringFault r 0x0806 s) :=
  show execRingSettle r s = _ from State.gate_open (by simp [hu, hp])

end RingFaultCommands

/-- Settles O43: each converter command by the one update of its ring, each ring fault through `ringFault`, whose
slots are fenced one after the other. -/
theorem ringConvertersRampAndFault : Obligations.RingConvertersRampAndFault := by
  refine ⟨fun r s hu => ⟨fun hp => ?_, fun hp hf ht => ⟨fun q rest hq hk => ?_, fun hq hpp hh => ?_⟩, fun hp => ?_,
    fun hd => ?_⟩, fun r s hu hj => ⟨fun h => ?_, fun h => ?_, fun h => ?_, fun h => ?_⟩⟩
  · exact ⟨_, exec_ringParked hu hp, State.updRing_changesRing rfl⟩
  · refine ⟨_, exec_railRetarget hu hp hf ht, ?_⟩
    rw [retargetTo_up hq hk]
    exact State.updRing_changesRing (f := (·.ramp q.cls)) (Ring.ramp_up hk)
  · rw [exec_railRetarget hu hp hf ht, retargetTo_idle hq hpp hh]; rfl
  · exact ⟨_, exec_railSettled hu hp, State.updRing_changesRing rfl⟩
  · obtain ⟨hframe, hr, hother⟩ := State.updRing_changesRing (s := s) (r := r)
      (f := Ring.holdEnded (s.ringClass r) (s.downBlocked r)) rfl
    refine ⟨_, exec_downHoldEnd hu hd, hframe, by rw [hr]; exact Ring.holdEnded_downHold, hother,
      fun h => hr.trans (Ring.holdEnded_needed h), fun h => ⟨fun hq ht hp => ?_, fun hb => ?_⟩⟩
    · rw [hr, downBlocked_false hq ht hp, Ring.holdEnded_free h]
      exact ⟨rfl, rfl⟩
    · rw [hr, downBlocked_true hb, Ring.holdEnded_blocked h]
      exact ⟨rfl, rfl, rfl⟩
  · have hup := railUp_of hu h
    exact ⟨⟨_, exec_ringUv hup, ringFault_out _ hj⟩, ⟨_, exec_ringOv hup, ringFault_out _ hj⟩⟩
  · have hon := railOn_of hu h
    exact ⟨⟨_, exec_ringOc hon, ringFault_out _ hj⟩, ⟨_, exec_ringOt hon, ringFault_out _ hj⟩⟩
  · exact ⟨_, exec_ringStart hu h, ringFault_out _ hj⟩
  · exact ⟨_, exec_ringSettle hu h, ringFault_out _ hj⟩

end Sys2Proof.Machine

namespace Sys2Proof.Machine
open Sys2Proof

/-! # The reports of configuration checks (R305, R308 to R313, R320, R517) -/

/-! ## The fields of a report (R308, R309) -/

theorem bitAt_eq (b : Bool) (n : Nat) : bitAt b n = b.toNat * 2 ^ n := by cases b <;> simp [bitAt]

theorem checkReport_none_toNat (old : W32) :
    (checkReport old none).toNat = 2 + (bit old 2).toNat * 4 + (bit old 3).toNat * 8 := by
  have := (bit old 2).toNat_le
  have := (bit old 3).toNat_le
  simp only [checkReport, bitAt_eq, BitVec.toNat_ofNat]
  omega

theorem checkReport_some_toNat (old : W32) {code kind idx : Nat} (hc : code < 256) (hk : kind < 16)
    (hi : idx < 4096) : (checkReport old (some (code, kind, idx))).toNat =
      3 + (bit old 2).toNat * 4 + (bit old 3).toNat * 8 + code * 2 ^ 8 + kind * 2 ^ 16 + idx * 2 ^ 20 := by
  have := (bit old 2).toNat_le
  have := (bit old 3).toNat_le
  simp only [checkReport, bitAt_eq, BitVec.toNat_ofNat]
  omega

theorem field_checkReport_none (old : W32) : field (checkReport old none) 0 2 = 2 := by
  simp only [field, checkReport_none_toNat, Nat.shiftRight_zero]
  omega

theorem field_checkReport_some (old : W32) {code kind idx : Nat} (hc : code < 256) (hk : kind < 16)
    (hi : idx < 4096) :
    field (checkReport old (some (code, kind, idx))) 0 2 = 3 ∧
    field (checkReport old (some (code, kind, idx))) 8 8 = code ∧
    field (checkReport old (some (code, kind, idx))) 16 4 = kind ∧
    field (checkReport old (some (code, kind, idx))) 20 12 = idx := by
  have := (bit old 2).toNat_le
  have := (bit old 3).toNat_le
  simp only [field, checkReport_some_toNat old hc hk hi, Nat.shiftRight_eq_div_pow]
  omega

/-- Bit 3 of a number that adds a multiple of 16 and less than 8 to it. -/
theorem testBit_three_of_eq {N low high : Nat} {b : Bool} (h : N = low + b.toNat * 8 + high * 16) (hl : low < 8) :
    N.testBit 3 = b := by
  have : N / 2 ^ 3 % 2 = b.toNat := by
    have := b.toNat_le
    omega
  rw [Nat.testBit_eq_decide_div_mod_eq, this]
  cases b <;> rfl

/-- A report keeps WR_DROPPED (R308). -/
theorem bit_checkReport_dropped (old : W32) (f : Option CheckFail) : bit (checkReport old f) 3 = bit old 3 := by
  have := (bit old 2).toNat_le
  rcases f with _ | ⟨code, kind, idx⟩ <;>
    simp only [checkReport, bitAt_eq, bit, BitVec.getLsbD_ofNat] <;>
    simp only [show 3 < 32 from by decide, decide_true, Bool.true_and]
  · exact testBit_three_of_eq (low := 2 + (bit old 2).toNat * 4) (high := 0) (by simp only [bit]; omega) (by omega)
  · exact testBit_three_of_eq (low := 3 + (bit old 2).toNat * 4)
      (high := code * 2 ^ 4 + kind * 2 ^ 12 + idx * 2 ^ 16) (by simp only [bit]; omega) (by omega)

/-! ## What the held events leave as they go out (R320, R517) -/

/-- Events are written: only the event ring, its interrupt and what leaves the device change; what is held stays and
no interrupt is lost. -/
structure State.WritesEvents (s t : State) : Prop where
  frame : t = { s with regs.eqTail := t.regs.eqTail, regs.irqStatus := t.regs.irqStatus,
                       regs.msixPending := t.regs.msixPending, barker := t.barker, out := t.out }
  held : t.barker.held = s.barker.held
  irq : ∀ n, bit s.regs.irqStatus n = true → bit t.regs.irqStatus n = true

section WritesEvents
variable {s t : State}

theorem State.WritesEvents.refl (s : State) : s.WritesEvents s := ⟨rfl, rfl, fun _ => id⟩

theorem State.WritesEvents.trans {u : State} (h : s.WritesEvents t) (h' : t.WritesEvents u) : s.WritesEvents u where
  frame := by rw [h'.frame, h.frame]
  held := h'.held.trans h.held
  irq n := h'.irq n ∘ h.irq n

theorem fireIrq_keeps_bit (k n : Nat) (s : State) (h : bit s.regs.irqStatus n = true) :
    bit (fireIrq k s).regs.irqStatus n = true := by
  simp only [bit] at h
  rw [fireIrq_irqStatus, bit, BitVec.getLsbD_or, h, Bool.true_or]

theorem writeEntry_writesEvents (e : Event) (d : Nat) (s : State) : s.WritesEvents (writeEntry e d s) where
  frame := by simp only [writeEntry]; rw [fireIrq_frame]; rfl
  held := by simp only [writeEntry]; rw [fireIrq_barker]; rfl
  irq n h := fireIrq_keeps_bit 1 n _ h

theorem writeOverflow_writesEvents (s : State) : s.WritesEvents (writeOverflow s) := by
  unfold writeOverflow
  split
  · have h : s.WritesEvents { s with barker.overflow := 0 } := ⟨rfl, rfl, fun _ => id⟩
    exact h.trans (writeEntry_writesEvents _ _ _)
  · exact .refl s

theorem putEntry_writesEvents (e : Event) (d : Nat) (s : State) : s.WritesEvents (putEntry e d s) := by
  refine (writeOverflow_writesEvents s).trans ?_
  simp only [putEntry]
  split
  · exact ⟨rfl, rfl, fun _ => id⟩
  · exact writeEntry_writesEvents _ _ _

theorem flushHeld_writesEvents (s : State) : State.WritesEvents { s with barker.held := [] } (flushHeld s) :=
  fe_inv (State.WritesEvents { s with barker.held := [] }) _ _ _ (writeOverflow_writesEvents _)
    fun _ _ h => h.trans (putEntry_writesEvents _ _ _)

end WritesEvents

/-- Converters write the rings alone. -/
theorem startConverters_rest {β : Type} (p : State → β) (hp : ∀ s r, p { s with rings := r } = p s)
    (l : List RingId) (s : State) : p (forEach l startConverter s) = p s :=
  fe_frame p l startConverter s (startConverter_rest p hp)

/-! ## The device check (R310, R312, R313) -/

/-- The state with a check's report in CFG_CHECK and the CFG interrupt fired (R308, R320). -/
def State.reported (s : State) (f : Option CheckFail) : State :=
  fireIrq 3 { s with regs.cfgCheck := checkReport s.regs.cfgCheck f }

section Reported
variable (s : State) (f : Option CheckFail)

theorem reported_cfgCheck : (s.reported f).regs.cfgCheck = checkReport s.regs.cfgCheck f := fireIrq_cfgCheck 3 _

theorem reported_enable : (s.reported f).regs.enable = s.regs.enable := fireIrq_enable 3 _

theorem reported_checkSlot : (s.reported f).regs.checkSlot = s.regs.checkSlot := fireIrq_checkSlot 3 _

theorem reported_irq : bit (s.reported f).regs.irqStatus 3 = true := fireIrq_bit 3 _ (by decide)

theorem reported_slots : (s.reported f).slots = s.slots := fireIrq_slots 3 _

theorem reported_slot (n : SlotId) : (s.reported f).slot n = s.slot n := fireIrq_slot 3 _ n

theorem reported_rings : (s.reported f).rings = s.rings := fireIrq_rings 3 _

theorem reported_side : (s.reported f).side = s.side := fireIrq_side 3 _

end Reported

section DeviceCheck
variable {s : State}

theorem exec_deviceCheck_starts (h : s.hostReach) (hr : s.checkRunning = false) (he : s.regs.enable = false) :
    exec .deviceCheck s = .next { s with regs.cfgCheck := 1, regs.checkSlot := none } :=
  show execDeviceCheck s = _ from (State.hostWrite_open h).trans (by simp only [hr, he, Bool.false_eq_true, if_false])

theorem exec_deviceCheck_dropped (h : s.hostReach) (hr : s.checkRunning = true) :
    exec .deviceCheck s = .next (dropWrite s) :=
  show execDeviceCheck s = _ from (State.hostWrite_open h).trans (by simp only [hr, if_true])

variable (hu : s.mainUp = true) (hr : s.checkRunning = true) (hn : s.regs.checkSlot = none)
include hu hr hn

theorem exec_deviceCheckEnd_failed {f : CheckFail} {rest : List CheckFail} (hf : s.deviceFails = f :: rest) :
    exec .deviceCheckEnd s = .next (s.reported (some f)) :=
  show execDeviceCheckEnd s = _ from (State.gate_open (by simp [hu, hr, hn])).trans (by simp only [hf]; rfl)

theorem exec_deviceCheckEnd_passed (hf : s.deviceFails = []) : exec .deviceCheckEnd s =
    .next (forEach (List.finRange 8) startConverter
      (flushHeld (State.reported { s with regs.enable := true } none))) :=
  show execDeviceCheckEnd s = _ from (State.gate_open (by simp [hu, hr, hn])).trans (by simp only [hf]; rfl)

end DeviceCheck

/-- A passed device check: ENABLE reads 1, the report is there and nothing is held any more (R308, R517). -/
theorem devicePass_reports (s : State) :
    let t := forEach (List.finRange 8) startConverter
      (flushHeld (State.reported { s with regs.enable := true } none))
    t.regs.enable = true ∧ t.slots = s.slots ∧ bit t.regs.irqStatus 3 = true ∧
      t.regs.cfgCheck = checkReport s.regs.cfgCheck none ∧ t.barker.held = [] := by
  have hw := flushHeld_writesEvents (State.reported { s with regs.enable := true } none)
  dsimp only
  rw [startConverters_rest State.regs fun _ _ => rfl, startConverters_rest State.slots fun _ _ => rfl,
    startConverters_rest State.barker fun _ _ => rfl]
  refine ⟨?_, ?_, hw.irq 3 (reported_irq _ none), ?_, hw.held⟩ <;> rw [hw.frame]
  · exact reported_enable _ none
  · exact reported_slots _ none
  · exact reported_cfgCheck _ none

/-! ## A comparator that fails on an unpowered slot (R305) -/

/-- The log code of a slot comparator (R305, R307). -/
def compFailCode (c : CompId) : W16 := if c.isPresence then 0x0902 else 0x0901

/-- A slot whose presence filter is held at ABSENT (R305). -/
def Slot.heldAbsent (x : Slot) : Slot :=
  if x.present then Slot.cardGone { x with presHeld := true } else { x with presHeld := true }

/-- The slot before its fence: a failed presence comparator holds its filter at ABSENT (R305). -/
def Slot.compFailed (x : Slot) (c : CompId) : Slot := if c.isPresence then x.heldAbsent else x

theorem Slot.compFailed_keep {β : Type} (p : Slot → β) (hh : ∀ x h, p { x with presHeld := h } = p x)
    (hg : ∀ x : Slot, p x.cardGone = p x) (x : Slot) (c : CompId) : p (x.compFailed c) = p x := by
  unfold Slot.compFailed Slot.heldAbsent
  split
  · split
    · rw [hg, hh]
    · exact hh _ _
  · rfl

theorem Slot.compFailed_absent {c : CompId} (h : c.isPresence = true) (x : Slot) :
    (x.compFailed c).present = false ∧ (x.compFailed c).presHeld = true := by
  rw [Slot.compFailed, if_pos h, Slot.heldAbsent]
  split
  · exact ⟨rfl, rfl⟩
  next hp => exact ⟨Bool.not_eq_true _ ▸ hp, rfl⟩

theorem logStandby_slot (c : W16) (k i : Nat) (r : Byte) (s : State) (n : SlotId) :
    (logStandby c k i r s).slot n = s.slot n := by
  rw [State.slot, logStandby_slots]; rfl

/-- The error latched and MON_CHECK_FAIL raised (R305, R307). -/
def compTold (n : SlotId) (c : CompId) (step : Nat) (s : State) : State :=
  monFailEvent (compFailCode c) (some n) c step 0xF (latchError (compFailCode c) (.slot n) none true s)

theorem compTold_slot (n : SlotId) (c : CompId) (step : Nat) (s : State) (m : SlotId) :
    (compTold n c step s).slot m = s.slot m := latchError_slot _ _ _ _ s m

theorem compTold_event (n : SlotId) (c : CompId) (step : Nat) (s : State) :
    ∃ e ∈ (compTold n c step s).barker.queue, e.code = 0x0901 ∧ e.slot = some n := by
  obtain ⟨e, he, hc, hs, -⟩ := raise_mem 0x0901 (some n) _ _
  exact ⟨e, he, hc, hs⟩

theorem compTold_cfgCheck (n : SlotId) (c : CompId) (step : Nat) (s : State) :
    (compTold n c step s).regs.cfgCheck = s.regs.cfgCheck := by
  rw [compTold, monFailEvent, raise_regs, latchError, latchAt_frame]

/-- The filter of a failed presence comparator is held at ABSENT, with its CARD event where it stood at PRESENT. -/
def holdAbsent (n : SlotId) (s : State) : State :=
  let s := s.updSlot n (fun x => { x with presHeld := true })
  if (s.slot n).present then decideAbsent n s else s

/-- What a failed comparator of a slot leaves before the slot is fenced (R305, R307). -/
structure State.CompFails (s : State) (n : SlotId) (c : CompId) (t : State) : Prop where
  slot : t.slot n = (s.slot n).compFailed c
  others : s.othersKeep t n
  side : t.side = s.side
  cfgCheck : t.regs.cfgCheck = s.regs.cfgCheck
  event : ∃ e ∈ t.barker.queue, e.code = 0x0901 ∧ e.slot = some n

/-- Before the fence of a slot: the failure told, the filter of a presence comparator held, the log written. -/
def compNoted (n : SlotId) (c : CompId) (step : Nat) (s : State) : State :=
  logStandby (compFailCode c) 1 n.val 0 (onlyIf c.isPresence (holdAbsent n) (compTold n c step s))

theorem decideAbsent_slot (n : SlotId) (s : State) : (decideAbsent n s).slot n = (s.slot n).cardGone := by
  simp only [decideAbsent, onlyIf]
  split
  · exact raise_updSlot_self _ _ _ _ _ _
  · exact State.updSlot_slot_self _ _ _

theorem decideAbsent_frame (n : SlotId) (s : State) : s.othersKeep (decideAbsent n s) n ∧
    (decideAbsent n s).side = s.side ∧ (decideAbsent n s).regs = s.regs ∧
    s.barker.queue ⊆ (decideAbsent n s).barker.queue := by
  simp only [decideAbsent, onlyIf]
  split
  · exact ⟨fun m hm => raise_updSlot_other _ _ _ _ _ hm, rfl, rfl, List.subset_append_left _ _⟩
  · exact ⟨fun m hm => State.updSlot_slot_other _ _ _ _ hm, rfl, rfl, List.Subset.refl _⟩

theorem holdAbsent_frame (n : SlotId) (s : State) : (holdAbsent n s).slot n = (s.slot n).heldAbsent ∧
    s.othersKeep (holdAbsent n s) n ∧ (holdAbsent n s).side = s.side ∧ (holdAbsent n s).regs = s.regs ∧
    s.barker.queue ⊆ (holdAbsent n s).barker.queue := by
  have hs := State.updSlot_slot_self s n (fun x => { x with presHeld := true })
  have ho : s.othersKeep (s.updSlot n (fun x => { x with presHeld := true })) n :=
    fun m hm => State.updSlot_slot_other _ _ _ _ hm
  simp only [holdAbsent, Slot.heldAbsent, hs]
  split
  · obtain ⟨f1, f2, f3, f4⟩ := decideAbsent_frame n (s.updSlot n (fun x => { x with presHeld := true }))
    exact ⟨by rw [decideAbsent_slot, hs], fun m hm => (f1 m hm).trans (ho m hm), f2, f3, f4⟩
  · exact ⟨hs, ho, rfl, rfl, List.Subset.refl _⟩

theorem failSlotComp_eq (n : SlotId) (c : CompId) (step : Nat) (s : State) :
    failSlotComp n c step s = fenceSlot n .comparator (compFailCode c) (compNoted n c step s) := by
  unfold failSlotComp compNoted holdAbsent compTold compFailCode
  cases c.isPresence <;> rfl

/-- Only a presence comparator has a filter to hold (R305). -/
theorem holdAbsent_onlyIf (n : SlotId) (c : CompId) (s : State) :
    let t := onlyIf c.isPresence (holdAbsent n) s
    t.slot n = (s.slot n).compFailed c ∧ s.othersKeep t n ∧ t.side = s.side ∧ t.regs = s.regs ∧
      s.barker.queue ⊆ t.barker.queue := by
  simp only [onlyIf, Slot.compFailed]
  split
  · exact holdAbsent_frame n s
  · exact ⟨rfl, fun _ _ => rfl, rfl, rfl, List.Subset.refl _⟩

theorem compNoted_compFails (n : SlotId) (c : CompId) (step : Nat) (s : State) :
    s.CompFails n c (compNoted n c step s) := by
  obtain ⟨e, he, hc⟩ := compTold_event n c step s
  obtain ⟨hs, ho, hd, hr, hq⟩ := holdAbsent_onlyIf n c (compTold n c step s)
  refine ⟨?_, fun m hm => ?_, ?_, ?_, e, ?_, hc⟩
  · rw [compNoted, logStandby_slot, hs, compTold_slot]
  · rw [compNoted, logStandby_slot, ho m hm, compTold_slot]
  · rw [compNoted, logStandby_side, hd, compTold, monFailEvent, raise_side, latchError_side]
  · rw [compNoted, logStandby_regs, hr, compTold_cfgCheck]
  · rw [compNoted, logStandby_barker]; exact hq he

/-- A free slot that is OFF is fenced at once (R72). -/
theorem fenceSlot_off {n : SlotId} (src : FenceSrc) (code : W16) {s : State} (hp : (s.slot n).phase = .off)
    (hj : (s.slot n).job = none) : fenceSlot n src code s = enterFenced n src code s := by
  simp only [fenceSlot, fenceSlotBy, hp]
  exact lostJob_nojob _ _ _ (by rw [enterFenced, raise_updSlot_self]; exact hj)

/-- A slot whose comparator failed its check while it was OFF (R305). -/
structure State.CompFenced (s : State) (n : SlotId) (c : CompId) (t : State) : Prop where
  phase : (t.slot n).phase = .fenced
  src : (t.slot n).fenceSrc = .comparator
  code : (t.slot n).fenceCode = compFailCode c
  enable : (t.slot n).enable = (s.slot n).enable
  absent : c.isPresence = true → (t.slot n).present = false ∧ (t.slot n).presHeld = true
  others : s.othersKeep t n
  side : t.side = s.side
  cfgCheck : t.regs.cfgCheck = s.regs.cfgCheck
  event : ∃ e ∈ t.barker.queue, e.code = 0x0901 ∧ e.slot = some n

theorem failSlotComp_fences {n : SlotId} (c : CompId) (step : Nat) {s : State} (hp : (s.slot n).phase = .off)
    (hj : (s.slot n).job = none) : s.CompFenced n c (failSlotComp n c step s) := by
  obtain ⟨hs, ho, hd, hr, e, he, hc⟩ := compNoted_compFails n c step s
  have keep {β : Type} (p : Slot → β) (hh : ∀ x h, p { x with presHeld := h } = p x)
      (hg : ∀ x : Slot, p x.cardGone = p x) : p ((compNoted n c step s).slot n) = p (s.slot n) := by
    rw [hs, Slot.compFailed_keep p hh hg]
  have hpn := (keep (·.phase) (fun _ _ => rfl) (fun _ => rfl)).trans hp
  have hjn := (keep (·.job) (fun _ _ => rfl) (fun _ => rfl)).trans hj
  rw [failSlotComp_eq, fenceSlot_off _ _ hpn hjn]
  refine ⟨?_, ?_, ?_, ?_, fun h => ?_, fun m hm => ?_, hd, hr, e, List.mem_append_left _ he, hc⟩
  · rw [enterFenced, raise_updSlot_self]
  · rw [enterFenced, raise_updSlot_self]
  · rw [enterFenced, raise_updSlot_self]
  · rw [enterFenced, raise_updSlot_self]
    exact keep (·.enable) (fun _ _ => rfl) (fun _ => rfl)
  · rw [enterFenced, raise_updSlot_self, hs]
    exact Slot.compFailed_absent h _
  · rw [enterFenced, raise_updSlot_other _ _ _ _ _ hm, ho m hm]

/-! ## The slot check (R308, R311, R313) -/

theorem exec_slotEnable_starts {s : State} (h : s.hostReach) (hr : s.checkRunning = false)
    (he : (s.slot s.regs.slotSel).enable = false) : exec .slotEnable s =
      .next { s with regs.cfgCheck := 5, regs.checkSlot := some s.regs.slotSel } :=
  show execSlotEnable s = _ from (State.hostWrite_open h).trans (by simp only [hr, he, Bool.false_eq_true, if_false])

section SlotCheck
variable {n : SlotId} {s : State} (hu : s.mainUp = true) (hr : s.checkRunning = true)
  (hn : s.regs.checkSlot = some n)
include hu hr hn

/-- A check of a slot that SLOT_OFF does not wait for ends with its report (R311, R377). -/
theorem exec_slotCheckEnd {f : Option (CompId × Nat)} {t : State}
    (ht : endSlotCheckOf n f { s with regs.checkSlot := none } = t) (hw : t.side.slotOffWait.contains n = false) :
    exec (.slotCheckEnd f) s = .next t := by
  subst ht
  simp only [exec, execSlotCheckEnd, hn]
  exact (State.gate_open (by rw [hu, hr]; rfl)).trans (by simp only [hw, Bool.false_eq_true, if_false])

end SlotCheck

theorem endSlotCheckOf_failed {n : SlotId} {s : State} {e : CheckFail} (f : Option (CompId × Nat))
    (h : s.slotFail n = some e) : endSlotCheckOf n f s = s.reported (some e) := by
  simp only [endSlotCheckOf, h]; rfl

theorem endSlotCheckOf_comparator {n : SlotId} {s : State} (c : CompId) (k : Nat) (h : s.slotFail n = none) :
    endSlotCheckOf n (some (c, k)) s = failSlotComp n c k (s.reported (some (0x1A, 6, n.val * 64 + c.code))) := by
  simp only [endSlotCheckOf, h]; rfl

theorem endSlotCheckOf_passed {n : SlotId} {s : State} (h : s.slotFail n = none) :
    endSlotCheckOf n none s = enableSlot n (s.reported none) := by
  simp only [endSlotCheckOf, h]; rfl

/-- A slot enabled writes its ENABLE; its ring's converter may start (R277, R311). -/
theorem enableSlot_enables (n : SlotId) (s : State) :
    (enableSlot n s).slot n = { s.slot n with enable := true } ∧ s.othersKeep (enableSlot n s) n ∧
    (enableSlot n s).regs = s.regs ∧ (enableSlot n s).side = s.side := by
  refine ⟨?_, fun m hm => ?_, startConverter_regs _ _, startConverter_side _ _⟩
  · rw [enableSlot, startConverter_slot, State.updSlot_slot_self]
  · rw [enableSlot, startConverter_slot, State.updSlot_slot_other _ _ _ _ hm]

/-- Settles O14: the device check through what the held events leave, the slot check by its three ends, and the
report's fields by its sum. -/
theorem checksEnableOrReport : Obligations.ChecksEnableOrReport := by
  refine ⟨⟨fun s h => ⟨exec_deviceCheck_starts h, exec_deviceCheck_dropped h⟩,
      fun s hu hr hn => ⟨fun code kind idx rest hf => ?_, fun hf => ?_⟩⟩,
    ⟨fun s h => exec_slotEnable_starts h,
      fun n s hu hr hn hw => ⟨fun f e he => ?_, fun he => ?_, fun c k he hp hj => ?_⟩⟩,
    fun old code kind idx hc hk hi => ?_⟩
  · exact ⟨_, exec_deviceCheckEnd_failed hu hr hn hf, reported_enable s _, reported_slots s _, reported_rings s _,
      reported_irq s _, reported_cfgCheck s _⟩
  · exact ⟨_, exec_deviceCheckEnd_passed hu hr hn hf, devicePass_reports s⟩
  · let u : State := { s with regs.checkSlot := none }
    refine ⟨_, exec_slotCheckEnd hu hr hn (endSlotCheckOf_failed (s := u) f he) ?_, reported_slots u _,
      reported_checkSlot u _, reported_irq u _, reported_cfgCheck u _⟩
    rw [reported_side]; exact hw
  · let u : State := { s with regs.checkSlot := none }
    obtain ⟨hs, ho, hregs, hside⟩ := enableSlot_enables n (u.reported none)
    refine ⟨_, exec_slotCheckEnd hu hr hn (endSlotCheckOf_passed (s := u) he) ?_, ?_, fun m hm => ?_, ?_, ?_⟩
    · rw [hside, reported_side]; exact hw
    · rw [hs, reported_slot]; rfl
    · rw [ho m hm, reported_slot]; rfl
    · rw [hregs]; exact reported_checkSlot u none
    · rw [hregs]; exact reported_cfgCheck u none
  · let u : State := { s with regs.checkSlot := none }
    have hs := reported_slot u (some (0x1A, 6, n.val * 64 + c.code)) n
    have hf := failSlotComp_fences (n := n) c k (s := u.reported (some (0x1A, 6, n.val * 64 + c.code)))
      (by rw [hs]; exact hp) (by rw [hs]; exact hj)
    refine ⟨_, exec_slotCheckEnd hu hr hn (endSlotCheckOf_comparator (s := u) c k he) ?_, hf.phase, hf.src, ?_, ?_⟩
    · rw [hf.side, reported_side]; exact hw
    · rw [hf.enable, hs]; rfl
    · rw [hf.cfgCheck]; exact reported_cfgCheck u _
  · obtain ⟨hstatus, hcode, hkind, hidx⟩ := field_checkReport_some old hc hk hi
    exact ⟨field_checkReport_none old, hstatus, hcode, hkind, hidx, bit_checkReport_dropped old⟩

end Sys2Proof.Machine

namespace Sys2Proof.Machine
open Sys2Proof

/-! # Comparator checks (R300 to R302, R305 to R307) -/

theorem State.updRing_updRing (s : State) (r : RingId) (f g : Ring → Ring) :
    (s.updRing r f).updRing r g = s.updRing r (fun x => g (f x)) := by
  simp [State.updRing]

theorem State.updRing_same {s : State} {r : RingId} {f : Ring → Ring} (h : f (s.ring r) = s.ring r) :
    s.updRing r f = s := by
  have h' : f s.rings[r.val] = s.rings[r.val] := h
  simp [State.updRing, h']

theorem State.updRing_fenced {r : RingId} {f : Ring → Ring} (hf : ∀ x, (f x).fenced = x.fenced) (s : State)
    (q : RingId) : ((s.updRing r f).ring q).fenced = (s.ring q).fenced := by
  by_cases h : q = r
  · subst h; rw [State.updRing_ring_self, hf]
  · rw [State.updRing_ring_other _ _ _ _ h]

/-! ## A slot's comparator (R301, R305) -/

theorem exec_comparatorCheck_slot {n : SlotId} {c : CompId} {s : State} (hu : s.mainUp = true)
    (hc : c.isSlot = true) (hp : c.isPresence = false) (hi : (s.slot n).check = .idle)
    (hv : (s.slot n).phase.powered = false) :
    exec (.comparatorCheck (.slot n) c) s = .next (startSlotCheck n c s) :=
  show execComparatorCheck (.slot n) c s = _ from State.gate_open (by simp [hu, hc, hp, hi, hv])

theorem exec_comparatorCheckEnd_slot {n : SlotId} {c : CompId} (f : Option (Fin 3)) {s : State}
    (hu : s.mainUp = true) (hc : (s.slot n).check = .running c) :
    exec (.comparatorCheckEnd (.slot n) c f) s = .next (endSlotCheck n c f s) :=
  show execComparatorCheckEnd (.slot n) c f s = _ from State.gate_open (by simp [hu, hc, mainUp_vstby hu])

/-- A slot whose comparator's check is over (R301). -/
def Slot.checkOver (x : Slot) : Slot := { x with check := .idle }

section Passed
variable (n : SlotId) (s : State)

theorem endSlotCheck_passed (c : CompId) :
    endSlotCheck n c none s = resumeRequest n (endInPlace n (s.updSlot n Slot.checkOver)) := rfl

theorem endInPlace_slot (m : SlotId) : (endInPlace n s).slot m = s.slot m := by
  unfold endInPlace
  split <;> rfl

theorem endInPlace_fenced (r : RingId) :
    ((endInPlace n s).ring r).fenced = (s.ring r).fenced := by
  unfold endInPlace
  split
  · rfl
  · refine State.updRing_fenced (fun x => ?_) s r
    split
    · split <;> rfl
    · rfl

theorem endInPlace_canActivate : (endInPlace n s).canActivate n = s.canActivate n := by
  have hsec : (endInPlace n s).scanLoaded = s.scanLoaded := by
    unfold endInPlace
    split <;> rfl
  simp only [State.canActivate, endInPlace_slot, endInPlace_fenced, hsec]

variable {n s}

/-- No rotation stands to be ended (R302). -/
theorem endInPlace_none (h : (s.ring (ringOf n)).rotation = none) : endInPlace n s = s := by
  unfold endInPlace
  split
  · rfl
  · exact State.updRing_same (by simp only [h])

theorem resumeRequest_none (h : (s.slot n).actWait = false) : resumeRequest n s = s := by
  simp [resumeRequest, h]

theorem resumeRequest_joins {k : CardClass} (hw : (s.slot n).actWait = true) (hs : (s.slot n).stepTo = none)
    (hk : (s.slot n).firstClass = some k) (ha : s.canActivate n = true) : resumeRequest n s = joinQueue n k s := by
  simp [resumeRequest, hw, hs, hk, ha]

end Passed

theorem endInPlace_checkOver (n : SlotId) (s : State) :
    (endInPlace n (s.updSlot n Slot.checkOver)).slot n = (s.slot n).checkOver ∧
    s.othersKeep (endInPlace n (s.updSlot n Slot.checkOver)) n := by
  refine ⟨?_, fun m hm => ?_⟩
  · rw [endInPlace_slot, State.updSlot_slot_self]
  · rw [endInPlace_slot, State.updSlot_slot_other _ _ _ _ hm]

/-- An activation that waited for the check joins the admission queue (R47, R301). -/
theorem endSlotCheck_passed_joins {n : SlotId} (c : CompId) {k : CardClass} {s : State}
    (hw : (s.slot n).actWait = true) (hs : (s.slot n).stepTo = none) (hk : (s.slot n).firstClass = some k)
    (ha : s.canActivate n = true) :
    ((endSlotCheck n c none s).slot n).phase = .powerWait ∧ ((endSlotCheck n c none s).slot n).check = .idle ∧
    ((endSlotCheck n c none s).slot n).cls = some k ∧ s.othersKeep (endSlotCheck n c none s) n := by
  obtain ⟨hslot, hkeep⟩ := endInPlace_checkOver n s
  have ha' : (endInPlace n (s.updSlot n Slot.checkOver)).canActivate n = true := by
    rw [endInPlace_canActivate, ← ha, State.canActivate, State.updSlot_slot_self]; rfl
  have hj := resumeRequest_joins (by rw [hslot]; exact hw) (by rw [hslot]; exact hs) (by rw [hslot]; exact hk) ha'
  obtain ⟨⟨a, ht⟩, -, ho, -⟩ := joinQueue_joins k (s := endInPlace n (s.updSlot n Slot.checkOver))
    (by rw [hslot]; rfl)
  rw [endSlotCheck_passed, hj, ht, hslot]
  exact ⟨rfl, rfl, rfl, fun m hm => (ho m hm).trans (hkeep m hm)⟩

theorem checkOver_mainUp (n : SlotId) (s : State) : (s.updSlot n Slot.checkOver).mainUp = s.mainUp := rfl

section Failed
variable {n : SlotId} {s : State} (hu : s.mainUp = true)
include hu

theorem endSlotCheck_failed_unpowered (c : CompId) (k : Fin 3) (hp : (s.slot n).phase.powered = false) :
    endSlotCheck n c (some k) s = failSlotComp n c (k.val + 1) (s.updSlot n Slot.checkOver) := by
  have hu' : ¬ (!(s.updSlot n Slot.checkOver).mainUp) = true := by rw [checkOver_mainUp, hu]; decide
  have hp' : ¬ ((s.updSlot n Slot.checkOver).slot n).phase.powered = true := by
    rw [State.updSlot_slot_self]; exact ne_true_of_eq_false hp
  exact (if_neg hu').trans (if_neg hp')

theorem endSlotCheck_failed_powered (c : CompId) (k : Fin 3) (hp : (s.slot n).phase.powered = true) :
    endSlotCheck n c (some k) s = failPowered n c (k.val + 1) (s.updSlot n Slot.checkOver) := by
  have hu' : ¬ (!(s.updSlot n Slot.checkOver).mainUp) = true := by rw [checkOver_mainUp, hu]; decide
  have hp' : ((s.updSlot n Slot.checkOver).slot n).phase.powered = true := by
    rw [State.updSlot_slot_self]; exact hp
  exact (if_neg hu').trans (if_pos hp')

end Failed

/-- The failure of a powered slot's comparator told and logged, and its fence pending (R305). -/
def poweredNoted (n : SlotId) (c : CompId) (step : Nat) (s : State) : State :=
  markFence n .comparator 0x0901 (logStandby 0x0901 1 n.val 0
    (monFailEvent 0x0901 (some n) c step 0xF (latchError 0x0901 (.slot n) none true s)))

/-- A slot with a comparator's fence pending (R305). -/
def Slot.compPending (x : Slot) : Slot :=
  { x with fencePending := true, fenceSrc := .comparator, fenceCode := 0x0901 }

theorem poweredNoted_slot {n : SlotId} (c : CompId) (step : Nat) {s : State} (hf : (s.slot n).fencePending = false) :
    (poweredNoted n c step s).slot n = (s.slot n).compPending := by
  rw [poweredNoted, markFence, State.updSlot_slot_self, logStandby_slot, monFailEvent, raise_slot, latchError_slot, hf]
  rfl

theorem poweredNoted_other (n : SlotId) (c : CompId) (step : Nat) (s : State) :
    s.othersKeep (poweredNoted n c step s) n := fun m hm => by
  rw [poweredNoted, markFence, State.updSlot_slot_other _ _ _ _ hm, logStandby_slot, monFailEvent, raise_slot,
    latchError_slot]

/-- A free powered slot goes down at once, its fence pending (R305). -/
theorem failPowered_free {n : SlotId} (c : CompId) (step : Nat) {s : State} (hj : (s.slot n).job = none)
    (hl : (s.slot n).phase.live = true) (hf : (s.slot n).fencePending = false) :
    failPowered n c step s = startNormal n .host false (poweredNoted n c step s) := by
  have hs := poweredNoted_slot c step hf
  have hj' : ((poweredNoted n c step s).slot n).job = none := by rw [hs]; exact hj
  have hl' : ((poweredNoted n c step s).slot n).phase.live = true := by rw [hs]; exact hl
  have hd : ((poweredNoted n c step s).fenceNow n || (((poweredNoted n c step s).slot n).phase.live &&
      ((poweredNoted n c step s).slot n).job.isNone)) = true := by
    rw [hl', hj', Option.isNone_none, Bool.and_true, Bool.or_true]
  rw [← loseNormal_nojob n .host _ hj']
  exact if_pos hd

section FailedFree
variable {n : SlotId} {s : State} (hu : s.mainUp = true) (c : CompId) (k : Fin 3) (hj : (s.slot n).job = none)
include hu hj

/-- A free slot that is OFF is fenced at once when its comparator fails (R305). -/
theorem endSlotCheck_fences (ho : (s.slot n).phase = .off) :
    let t := endSlotCheck n c (some k) s
    (t.slot n).phase = .fenced ∧ (t.slot n).fenceSrc = .comparator ∧ (t.slot n).fenceCode = compFailCode c ∧
    (c.isPresence = true → (t.slot n).present = false ∧ (t.slot n).presHeld = true) ∧ s.othersKeep t n ∧
    ∃ e ∈ t.barker.queue, e.code = 0x0901 ∧ e.slot = some n := by
  have hself := State.updSlot_slot_self s n Slot.checkOver
  have h := failSlotComp_fences (n := n) c (k.val + 1) (s := s.updSlot n Slot.checkOver)
    (by rw [hself]; exact ho) (by rw [hself]; exact hj)
  rw [endSlotCheck_failed_unpowered hu c k (by rw [ho]; rfl)]
  exact ⟨h.phase, h.src, h.code, h.absent,
    fun m hm => (h.others m hm).trans (State.updSlot_slot_other _ _ _ _ hm), h.event⟩

/-- A free powered slot deactivates with its fence pending when its comparator fails (R305). -/
theorem endSlotCheck_takesDown (hl : (s.slot n).phase.live = true) (hf : (s.slot n).fencePending = false) :
    let t := endSlotCheck n c (some k) s
    (t.slot n).phase = .deactivating ∧ (t.slot n).cause = .host ∧ (t.slot n).fencePending = true ∧
    (t.slot n).fenceSrc = .comparator ∧ s.othersKeep t n := by
  have hself := State.updSlot_slot_self s n Slot.checkOver
  have hf' : ((s.updSlot n Slot.checkOver).slot n).fencePending = false := by rw [hself]; exact hf
  have hs := poweredNoted_slot c (k.val + 1) hf'
  have hl' : ((poweredNoted n c (k.val + 1) (s.updSlot n Slot.checkOver)).slot n).phase.live = true := by
    rw [hs, hself]; exact hl
  obtain ⟨i, ht⟩ := startNormal_slot n .host false hl'
  rw [endSlotCheck_failed_powered hu c k (live_powered hl),
    failPowered_free c _ (by rw [hself]; exact hj) (by rw [hself]; exact hl) hf']
  dsimp only
  rw [ht, hs]
  refine ⟨rfl, rfl, rfl, rfl, fun m hm => ?_⟩
  rw [startNormal_other n m _ _ _ hm, poweredNoted_other n c _ _ m hm, State.updSlot_slot_other _ _ _ _ hm]

end FailedFree

/-! ## Fences that stand (R305, R447)

A failed ring comparator fences its ring before its slots are taken from whatever jobs hold them. Nothing that this
does lifts a ring's fence, and no event that waits is lost. -/

/-- No ring's fence changes and no waiting event is lost. -/
structure State.KeepsAlarms (s t : State) : Prop where
  fenced : ∀ r, (t.ring r).fenced = (s.ring r).fenced
  queue : s.barker.queue ⊆ t.barker.queue

section KeepsAlarms
variable {s t : State}

theorem State.KeepsAlarms.trans {u : State} (h : s.KeepsAlarms t) (h' : t.KeepsAlarms u) : s.KeepsAlarms u where
  fenced r := (h'.fenced r).trans (h.fenced r)
  queue := List.Subset.trans h.queue h'.queue

theorem State.KeepsAlarms.of_same (hr : t.rings = s.rings) (hb : t.barker = s.barker) : s.KeepsAlarms t where
  fenced r := by rw [State.ring, hr]; rfl
  queue := by rw [hb]; exact List.Subset.refl _

theorem State.KeepsAlarms.refl (s : State) : s.KeepsAlarms s := .of_same rfl rfl

/-- The bank's bookkeeping writes no ring. -/
theorem State.KeepsAlarms.of_offBooks (h : t.offBooks = s.offBooks) (hq : s.barker.queue ⊆ t.barker.queue) :
    s.KeepsAlarms t where
  fenced r := by
    have hr : t.rings = s.rings := by have := congrArg State.rings h; exact this
    rw [State.ring, hr]; rfl
  queue := hq

theorem updSlot_keepsAlarms (n : SlotId) (f : Slot → Slot) (s : State) : s.KeepsAlarms (s.updSlot n f) :=
  .of_same rfl rfl

theorem updRing_keepsAlarms (r : RingId) {f : Ring → Ring} (hf : ∀ x, (f x).fenced = x.fenced) (s : State) :
    s.KeepsAlarms (s.updRing r f) :=
  ⟨State.updRing_fenced hf s, List.Subset.refl _⟩

theorem raise_keepsAlarms (c : W16) (o : Option SlotId) (a : Nat) (s : State) : s.KeepsAlarms (raise c o a s) :=
  ⟨fun _ => rfl, List.subset_append_left _ _⟩

theorem leaveQueue_keepsAlarms (n : SlotId) (s : State) : s.KeepsAlarms (leaveQueue n s) := by
  rw [leaveQueue_frame]; exact .of_same rfl rfl

theorem endRotation_keepsAlarms (n : SlotId) (s : State) : s.KeepsAlarms (endRotation n s) := by
  unfold endRotation
  split
  · split
    · exact State.KeepsAlarms.trans (updRing_keepsAlarms _ (fun _ => by rfl) s) (updSlot_keepsAlarms n _ _)
    · exact .refl s
  · exact .refl s

theorem startNormal_keepsAlarms (n : SlotId) (c : Cause) (b : Bool) (s : State) :
    s.KeepsAlarms (startNormal n c b s) := by
  unfold startNormal
  split
  · have hg : s.KeepsAlarms (endGalSession n s) := by rw [endGal_frame]; exact .of_same rfl rfl
    exact (hg.trans (endRotation_keepsAlarms n _)).trans (updSlot_keepsAlarms n _ _)
  · exact .refl s

theorem stationCommand_keepsAlarms (n : SlotId) (e : Bool) (bin : Byte) (id : JobId) (s : State) :
    s.KeepsAlarms (stationCommand n e bin id s) := by
  simp only [stationCommand]
  split
  · exact .refl s
  · exact .of_same rfl rfl

theorem slotFreed_keepsAlarms (n : SlotId) (s : State) : s.KeepsAlarms (slotFreed n s) := by
  simp only [slotFreed]
  split
  · exact startNormal_keepsAlarms n _ _ s
  · split
    · exact startNormal_keepsAlarms n _ _ s
    · split
      · exact startNormal_keepsAlarms n _ _ s
      · exact .refl s

theorem freeSlot_keepsAlarms (j : Job) (st : CStatus) (s : State) : s.KeepsAlarms (freeSlot j st s) := by
  cases hn : j.slot with
  | none => rw [freeSlot_none hn]; exact .refl s
  | some n =>
    simp only [freeSlot, hn]
    refine State.KeepsAlarms.trans ?_ (slotFreed_keepsAlarms n _)
    refine (updSlot_keepsAlarms n (·.withoutJob j st) s).trans ?_
    generalize (!(j.ticket.feed || _) : Bool) = keeps
    split
    · exact .of_same rfl rfl
    · split
      · exact (updSlot_keepsAlarms n _ _).trans (startNormal_keepsAlarms n _ _ _)
      · split
        · split
          · exact .of_same rfl rfl
          · exact updSlot_keepsAlarms n _ _
        · split
          · exact (leaveQueue_keepsAlarms n _).trans (stationCommand_keepsAlarms n _ _ _ _)
          · exact leaveQueue_keepsAlarms n _

theorem settleUnsent_keepsAlarms (j : Job) (s : State) : s.KeepsAlarms (settleUnsent j s) := by
  refine .of_offBooks (settleUnsent_offBooks j s) ?_
  unfold settleUnsent
  split
  · exact List.Subset.refl _
  · refine fe_inv (fun t => s.barker.queue ⊆ t.barker.queue) _ _ s (List.Subset.refl _) fun t u h => ?_
    split <;> exact h

theorem noteIssueEnd_keepsAlarms (j : Job) (st : CStatus) (s : State) : s.KeepsAlarms (noteIssueEnd j st s) := by
  refine .of_offBooks (noteIssueEnd_offBooks j st s) ?_
  unfold noteIssueEnd
  split
  · exact List.Subset.refl _
  next idx v _ =>
    let i : IssueEnd := { jobId := j.ticket.jobId, counter := v, ctrIdx := idx, done := st == .done }
    exact ((State.AddsTo.refl { s with bank.issueEnds := s.bank.issueEnds ++ [i] }).issueResult i).queue

theorem noteLeft_keepsAlarms (j : Job) (s : State) : s.KeepsAlarms (noteLeft j s) := by
  refine .of_offBooks (noteLeft_offBooks j s) ?_
  unfold noteLeft
  split
  · exact (State.AddsTo.refl s).noteJournal.queue
  · exact List.Subset.refl _

theorem releaseContext_keepsAlarms (j : Job) (s : State) : s.KeepsAlarms (releaseContext j s) := by
  unfold releaseContext
  split <;> exact .of_same rfl rfl

theorem endJobAfter_keepsAlarms (b : Nat) (id : JobId) (st : CStatus) (err : W16) (s : State) :
    s.KeepsAlarms (endJobAfter b id st err s) := by
  simp only [endJobAfter]
  split
  · exact .refl s
  next j _ =>
    have hnoise := State.KeepsAlarms.of_offBooks (noteNoise_offBooks j _) (noteNoise_queue j (settleUnsent j s))
    have hbooks := ((settleUnsent_keepsAlarms j s).trans hnoise).trans (noteIssueEnd_keepsAlarms j st _)
    have hleft := hbooks.trans (releaseContext_keepsAlarms j _)
    refine State.KeepsAlarms.trans ?_ (freeSlot_keepsAlarms j st _)
    refine State.KeepsAlarms.trans ?_ (noteLeft_keepsAlarms j _)
    exact hleft.trans (.of_same rfl rfl)

theorem replaceJob_keepsAlarms (id : JobId) (s : State) : s.KeepsAlarms (replaceJob id s) := by
  unfold replaceJob
  split
  · exact .refl s
  next j _ =>
    split
    · exact endJobAfter_keepsAlarms 0 _ _ _ s
    · split
      · exact endJobAfter_keepsAlarms 0 _ _ _ s
      · split
        · exact endJobAfter_keepsAlarms 0 _ _ _ s
        · have hk := (settleUnsent_keepsAlarms j s).trans (releaseContext_keepsAlarms j _)
          dsimp only
          split
          · exact hk.trans (.of_same rfl rfl)
          next n _ =>
            refine State.KeepsAlarms.trans ?_ (slotFreed_keepsAlarms n _)
            exact hk.trans (.of_same rfl rfl)

theorem lostJob_keepsAlarms (n : SlotId) (c : Cause) (s : State) : s.KeepsAlarms (lostJob n c s) := by
  unfold lostJob
  split
  · exact .refl s
  · dsimp only
    split
    · exact .refl s
    · exact replaceJob_keepsAlarms _ s
    · split
      · exact .refl s
      · split
        · exact replaceJob_keepsAlarms _ s
        · split
          · exact endJobAfter_keepsAlarms 0 _ _ _ s
          · split
            · exact endJobAfter_keepsAlarms 0 _ _ _ s
            · exact .of_same rfl rfl
    · split
      · exact endJobAfter_keepsAlarms 0 _ _ _ s
      · split
        · exact endJobAfter_keepsAlarms 0 _ _ _ s
        · exact .refl s

theorem markCut_keepsAlarms (n : SlotId) (s : State) : s.KeepsAlarms (markCut n s) := by
  simp only [markCut]
  generalize ((s.slot n).exch.isSome || _ : Bool) = cut
  split
  · split <;> exact .of_same rfl rfl
  · exact .refl s

theorem loseNormal_keepsAlarms (n : SlotId) (c : Cause) (s : State) : s.KeepsAlarms (loseNormal n c s) :=
  ((markCut_keepsAlarms n s).trans (startNormal_keepsAlarms n c false _)).trans (lostJob_keepsAlarms n c _)

theorem enterFenced_keepsAlarms (n : SlotId) (src : FenceSrc) (code : W16) (s : State) :
    s.KeepsAlarms (enterFenced n src code s) :=
  (updSlot_keepsAlarms n _ s).trans (raise_keepsAlarms _ _ _ _)

/-- A slot's fence keeps what the way it is taken down keeps. -/
theorem fenceSlotBy_keepsAlarms {down : SlotId → State → State} (hd : ∀ n (s : State), s.KeepsAlarms (down n s))
    (n : SlotId) (src : FenceSrc) (code : W16) (s : State) : s.KeepsAlarms (fenceSlotBy down n src code s) := by
  have enters (u : State) : u.KeepsAlarms (lostJob n .none (enterFenced n src code u)) :=
    (enterFenced_keepsAlarms n src code u).trans (lostJob_keepsAlarms n .none _)
  have hm : s.KeepsAlarms (markFence n src code s) := updSlot_keepsAlarms n _ s
  simp only [fenceSlotBy]
  split
  · split
    · exact updSlot_keepsAlarms n _ s
    · exact .refl s
  · exact enters s
  · exact enters s
  · exact enters s
  · exact (leaveQueue_keepsAlarms n s).trans (enters _)
  · exact hm
  · exact hm.trans (hd n _)

theorem stopIfDown_keepsAlarms (r : RingId) (s : State) : s.KeepsAlarms (stopIfDown r s) := by
  unfold stopIfDown
  split
  · exact updRing_keepsAlarms r (fun _ => by rfl) s
  · exact .refl s

end KeepsAlarms

/-! ## A ring's comparator (R301, R305) -/

/-- A ring as its fence leaves it at once (R285, R305). -/
def Ring.fencedNow (stop : Bool) (x : Ring) : Ring :=
  { x with fenced := true, joined := false, downHold := false, postponed := false, rotation := none,
           phase := if stop then .off else x.phase, stopWhenOff := !stop }

theorem fenceRing_eq (stop : Bool) (down : SlotId → State → State) (r : RingId) (code : W16) (s : State) :
    fenceRing stop down r code s =
      forEach (ringSlots r) (fun n s => fenceSlotBy down n .ring code s) (s.updRing r (Ring.fencedNow stop)) := rfl

/-- A fenced ring stays so while its slots are fenced, and no waiting event is lost (R305). -/
theorem fenceRing_fences {down : SlotId → State → State} (hd : ∀ n (s : State), s.KeepsAlarms (down n s))
    (stop : Bool) (r : RingId) (code : W16) (s : State) :
    ((fenceRing stop down r code s).ring r).fenced = true ∧
    s.barker.queue ⊆ (fenceRing stop down r code s).barker.queue := by
  obtain ⟨hf, hq⟩ := fe_inv (State.KeepsAlarms (s.updRing r (Ring.fencedNow stop))) (ringSlots r)
    (fun n s => fenceSlotBy down n .ring code s) _ (.refl _)
    fun n t h => h.trans (fenceSlotBy_keepsAlarms hd n .ring code t)
  rw [fenceRing_eq]
  exact ⟨by rw [hf, State.updRing_ring_self]; rfl, hq⟩

theorem noteFence_queue (u : UnitRef) (code : W16) (s : State) :
    s.barker.queue ⊆ (noteFence u code s).barker.queue := by
  rw [noteFence, askBarrier_barker, logStandby_barker, raise_queue, setUnit_barker]
  exact List.subset_append_left _ _

/-- The failure of a ring's comparator latched and told (R305, R307). -/
def ringTold (code : W16) (esc : Bool) (r : RingId) (c : CompId) (step : Nat) (s : State) : State :=
  monFailEvent code none c step r.val (latchError code (.ring r) none esc s)

section RingTold
variable (code : W16) (esc : Bool) (r : RingId) (c : CompId) (step : Nat) (s : State)

theorem ringTold_event : ∃ e ∈ (ringTold code esc r c step s).barker.queue, e.code = 0x0901 ∧ e.slot = none := by
  obtain ⟨e, he, hc, hs, -⟩ := raise_mem 0x0901 none _ _
  exact ⟨e, he, hc, hs⟩

theorem ringTold_slots : (ringTold code esc r c step s).slots = s.slots := latchError_slots _ _ _ _ s

theorem ringTold_ring (q : RingId) : (ringTold code esc r c step s).ring q = s.ring q :=
  congrArg (·[q.val]) (latchError_rings code (.ring r) none esc s)

end RingTold

theorem failRingComp_eq (r : RingId) (c : CompId) (step : Nat) (s : State) : failRingComp r c step s =
    stopIfDown r (fenceRing false (fun n => loseNormal n .host) r 0x0904
      (noteFence (.ring r) 0x0904 (ringTold 0x0904 true r c step s))) := rfl

/-- Any other of a ring's comparators that fails fences the ring, with its event (R305, R307). -/
theorem failRingComp_fences (r : RingId) (c : CompId) (step : Nat) (s : State) :
    ((failRingComp r c step s).ring r).fenced = true ∧
    ∃ e ∈ (failRingComp r c step s).barker.queue, e.code = 0x0901 ∧ e.slot = none := by
  obtain ⟨e, he, hc⟩ := ringTold_event 0x0904 true r c step s
  obtain ⟨hf, hq⟩ := fenceRing_fences (fun n s => loseNormal_keepsAlarms n .host s) false r 0x0904
    (noteFence (.ring r) 0x0904 (ringTold 0x0904 true r c step s))
  obtain ⟨hsf, hsq⟩ := stopIfDown_keepsAlarms r (fenceRing false (fun n => loseNormal n .host) r 0x0904
    (noteFence (.ring r) 0x0904 (ringTold 0x0904 true r c step s)))
  rw [failRingComp_eq]
  exact ⟨(hsf r).trans hf, e, hsq (hq (noteFence_queue _ _ _ he)), hc⟩

theorem exec_comparatorCheck_ring {r : RingId} {c : CompId} {s : State} (hu : s.mainUp = true)
    (hc : c.isRing = true ∨ c.isStandby = true) :
    exec (.comparatorCheck (.ring r) c) s = .next (startRingCheck r [c] s) :=
  show execComparatorCheck (.ring r) c s = _ from State.gate_open (by simpa [hu] using hc)

/-- The comparators of a check that starts are under check, and only that is new (R301). -/
theorem startRingCheck_starts (r : RingId) (l : List CompId) (s : State) :
    (∀ c ∈ l, c ∈ ((startRingCheck r l s).ring r).checks) ∧
    s.changesRing (startRingCheck r l s) r { s.ring r with checks := ((startRingCheck r l s).ring r).checks } := by
  refine ⟨fun c hc => ?_, State.updRing_changesRing ?_⟩
  · rw [startRingCheck, State.updRing_ring_self]
    exact List.mem_eraseDups.2 (List.mem_append_right _ hc)
  · rw [startRingCheck, State.updRing_ring_self]

section RingCheckEnd
variable {r : RingId} {c : CompId} {s : State} (hc : (s.ring r).checks = [c])
include hc

theorem exec_comparatorCheckEnd_ring (hu : s.mainUp = true) (f : Option (Fin 3)) :
    exec (.comparatorCheckEnd (.ring r) c f) s = .next (endRingCheck r c f s) :=
  show execComparatorCheckEnd (.ring r) c f s = _ from State.gate_open (by simp [hu, hc])

/-- The last check of a ring check that passes (R301). -/
theorem endRingCheck_passed :
    s.changesRing (endRingCheck r c none s) r { s.ring r with checks := [], checkDue := false } := by
  simp only [endRingCheck, State.updRing_updRing]
  exact State.updRing_changesRing (by simp [hc])

end RingCheckEnd

/-- The ring without a comparator that is checked no more (R301). -/
def Ring.checkedOff (c : CompId) (x : Ring) : Ring := { x with checks := x.checks.filter (· != c) }

theorem endRingCheck_failed_standby {c : CompId} (r : RingId) (k : Fin 3) (s : State) (h : c.isStandby = true) :
    endRingCheck r c (some k) s = failStandbySet r c (k.val + 1) (s.updRing r (Ring.checkedOff c)) := if_pos h

theorem endRingCheck_failed_ring {c : CompId} (r : RingId) (k : Fin 3) (s : State) (h : c.isStandby = false) :
    endRingCheck r c (some k) s = failRingComp r c (k.val + 1) (s.updRing r (Ring.checkedOff c)) :=
  if_neg (ne_true_of_eq_false h)

/-- A ring whose rotation has stopped (R305). -/
def Ring.unrotated (x : Ring) : Ring := { x with rotationStopped := true, rotation := none, standbyHolds := false }

/-- A failed standby set stops the rotation of its ring and fences nothing (R305, R307). -/
theorem failStandbySet_stops (r : RingId) (c : CompId) (step : Nat) (s : State) :
    (failStandbySet r c step s).ring r = (s.ring r).unrotated ∧
    (failStandbySet r c step s).slots = s.slots ∧
    ∃ e ∈ (failStandbySet r c step s).barker.queue, e.code = 0x0902 := by
  have he : failStandbySet r c step s =
      raise 0x0902 none r.val ((ringTold 0x0903 false r c step s).updRing r Ring.unrotated) := rfl
  obtain ⟨e, hq, hc, -⟩ := raise_mem 0x0902 none r.val ((ringTold 0x0903 false r c step s).updRing r Ring.unrotated)
  rw [he]
  refine ⟨?_, ringTold_slots 0x0903 false r c step s, e, hq, hc⟩
  rw [State.ring, raise_rings, ← State.ring, State.updRing_ring_self, ringTold_ring]

/-! ## A supply comparator (R301, R305, R312) -/

theorem exec_comparatorCheckEnd_device {c : CompId} (k : Fin 3) {s : State} (hu : s.mainUp = true)
    (hc : c.isDevice = true) (he : s.regs.enable = false) (hf : s.power.board.supplyFail = none) :
    exec (.comparatorCheckEnd .device c (some k)) s = .next (failSupply c k s) :=
  show execComparatorCheckEnd .device c (some k) s = _ from State.gate_open (by simp [hu, hc, he, hf])

theorem failSupply_records (c : CompId) (k : Fin 3) (s : State) :
    (failSupply c k s).power.board.supplyFail = some (c, k) ∧ (failSupply c k s).slots = s.slots ∧
    (failSupply c k s).rings = s.rings ∧ ∃ e ∈ (failSupply c k s).barker.queue, e.code = 0x0901 := by
  obtain ⟨e, he, hc, -⟩ := raise_mem 0x0901 none _ _
  refine ⟨?_, ?_, ?_, e, he, hc⟩ <;> simp only [failSupply, reportSupply]
  · rw [raise_power, latchAt_power]
  · rw [raise_slots, latchAt_slots]
  · rw [raise_rings, latchAt_rings]

/-! ## Rotation and turns (R301, R302) -/

section Rotation
variable {r : RingId} {k : Fin 8} {c : CompId} {s : State} (hu : s.mainUp = true)
include hu

theorem exec_rotationCheck (hc : c.isSlot = true) (hp : c.isPresence = false)
    (hl : (s.slot (slotOfRing r k)).phase.live = true) (hi : (s.slot (slotOfRing r k)).check = .idle)
    (hn : (s.ring r).rotation = none) (hs : (s.ring r).rotationStopped = false) :
    exec (.rotationCheck r k c) s =
      .next (s.updRing r (fun x => { x with rotation := some (k, c), standbyHolds := false })) := by
  simp only [exec, execRotationCheck]
  exact State.gate_open (by simp [hu, hc, hp, hl, hi, hn, hs])

theorem exec_handoverEnd (agree : Bool) (hn : (s.ring r).rotation = some (k, c))
    (hi : (s.slot (slotOfRing r k)).check = .idle) :
    exec (.handoverEnd r agree) s = .next (takeHandover r k c agree s) := by
  simp only [exec, execHandoverEnd, hn]
  exact State.gate_open (by simp [hu, hi])

theorem exec_twinCheck (hp : (s.ring r).phase = .settled ∨ (s.ring r).phase = .ramping) :
    exec (.twinCheck r) s = .next (startRingCheck r
      (if (s.ring r).twinB then [.uvB, .ovB, .ot] else [.uvA, .ovA, .ot])
      (s.updRing r (fun x => { x with twinB := !x.twinB }))) := by
  simp only [exec, execTwinCheck]
  exact State.gate_open (by simpa [hu] using hp)

end Rotation

theorem exec_presCheck {n : SlotId} {s : State} (hv : s.power.vstby = true)
    (hp : (s.slot n).phase.powered = false) (hi : (s.slot n).check = .idle) :
    exec (.presCheck n) s = .next (s.updSlot n (fun x =>
      { x with check := .running (if x.presNext then .presR else .presA), presNext := !x.presNext })) :=
  show execPresCheck n s = _ from State.gate_open (by simp [hv, hp, hi])

section Handover
variable {r : RingId} {s : State} (k : Fin 8) (c : CompId)

/-- After the check the function goes back (R302). -/
theorem takeHandover_back (h : (s.ring r).standbyHolds = true) :
    takeHandover r k c true s = s.updRing r (fun x => { x with rotation := none, standbyHolds := false }) := by
  simp [takeHandover, h]

/-- The standby set takes over, and the slot's comparator is checked (R302). -/
theorem takeHandover_over (h : (s.ring r).standbyHolds = false) :
    let t := takeHandover r k c true s
    t = { s with slots := t.slots, rings := t.rings } ∧ t.ring r = { s.ring r with standbyHolds := true } ∧
    (∀ q, q ≠ r → t.ring q = s.ring q) ∧
    t.slot (slotOfRing r k) = { s.slot (slotOfRing r k) with check := .running c } ∧
    s.othersKeep t (slotOfRing r k) := by
  have ht : takeHandover r k c true s =
      startSlotCheck (slotOfRing r k) c (s.updRing r (fun x => { x with standbyHolds := true })) := by
    simp [takeHandover, h]
  rw [ht, startSlotCheck]
  refine ⟨rfl, ?_, fun q hq => ?_, State.updSlot_slot_self _ _ _, fun m hm => State.updSlot_slot_other _ _ _ _ hm⟩
  · rw [State.updSlot_ring, State.updRing_ring_self]
  · rw [State.updSlot_ring, State.updRing_ring_other _ _ _ _ hq]

/-- Samples that disagree have the standby set and the slot's comparator checked (R302). -/
theorem takeHandover_disagree :
    let t := takeHandover r k c false s
    t = { s with slots := t.slots, rings := t.rings } ∧ (t.ring r).standbyHolds = false ∧
    (∀ d ∈ [CompId.sbV1, .sbV2, .sbI, .sbSh], d ∈ (t.ring r).checks) ∧
    (t.slot (slotOfRing r k)).check = .running c ∧ s.othersKeep t (slotOfRing r k) := by
  have ht : takeHandover r k c false s = startRingCheck r [.sbV1, .sbV2, .sbI, .sbSh]
      (startSlotCheck (slotOfRing r k) c (s.updRing r (fun x => { x with standbyHolds := false }))) := rfl
  obtain ⟨hin, -, hring, -⟩ := startRingCheck_starts r [.sbV1, .sbV2, .sbI, .sbSh]
    (startSlotCheck (slotOfRing r k) c (s.updRing r (fun x => { x with standbyHolds := false })))
  rw [ht]
  refine ⟨rfl, (congrArg Ring.standbyHolds hring).trans ?_, hin, ?_, fun m hm => ?_⟩
  · rw [startSlotCheck, State.updSlot_ring, State.updRing_ring_self]
  · rw [startRingCheck, State.updRing_slot, startSlotCheck, State.updSlot_slot_self]
  · rw [startRingCheck, State.updRing_slot, startSlotCheck, State.updSlot_slot_other _ _ _ _ hm, State.updRing_slot]

end Handover

/-- A ring's twins take turns (R301). -/
theorem twinCheck_starts (r : RingId) (s : State) :
    let l : List CompId := if (s.ring r).twinB then [.uvB, .ovB, .ot] else [.uvA, .ovA, .ot]
    let t := startRingCheck r l (s.updRing r (fun x => { x with twinB := !x.twinB }))
    s.changesRing t r { s.ring r with twinB := !(s.ring r).twinB, checks := (t.ring r).checks } ∧
    ∀ d ∈ l, d ∈ (t.ring r).checks := by
  intro l t
  obtain ⟨hchecks, hframe, hring, hother⟩ := startRingCheck_starts r l
    (s.updRing r (fun x => { x with twinB := !x.twinB }))
  refine ⟨⟨hframe, hring.trans ?_, fun q hq => (hother q hq).trans (State.updRing_ring_other _ _ _ _ hq)⟩, hchecks⟩
  rw [State.updRing_ring_self]

/-- Settles O42: a slot's check by how it ends, a ring's through `fenceRing`, whose fence stands, and the rotation by
what the samples say. -/
theorem comparatorChecksPassOrFence : Obligations.ComparatorChecksPassOrFence := by
  refine ⟨⟨fun n c s hu => ⟨fun hc hp hi hv => ?_, fun hr => ⟨fun hw hn => ?_, fun k hw hs hk ha => ?_,
      fun k hj ho => ?_, fun k hj hl hf => ?_⟩⟩,
    fun r c s hu => ⟨fun hc => ?_, fun hc => ⟨?_, fun k hb => ?_, fun k hb => ?_⟩⟩,
    fun c k s hu hd he hf => ⟨_, exec_comparatorCheckEnd_device k hu hd he hf, failSupply_records c k s⟩⟩,
    fun r k c s hu => ⟨fun hc hp hl hi hn hs => ?_, fun hn hi => ⟨fun hb => ?_, fun hb => ?_, ?_⟩⟩,
    fun n s hv hp hi => ?_, fun r s hu hp => ?_⟩
  · exact ⟨_, exec_comparatorCheck_slot hu hc hp hi hv, State.updSlot_changesSlot s n _⟩
  · refine ⟨_, exec_comparatorCheckEnd_slot none hu hr, ?_⟩
    rw [endSlotCheck_passed, endInPlace_none (by rw [State.updSlot_ring]; exact hn),
      resumeRequest_none (by rw [State.updSlot_slot_self]; exact hw)]
    exact State.updSlot_changesSlot s n Slot.checkOver
  · exact ⟨_, exec_comparatorCheckEnd_slot none hu hr, endSlotCheck_passed_joins c hw hs hk ha⟩
  · exact ⟨_, exec_comparatorCheckEnd_slot (some k) hu hr, endSlotCheck_fences hu c k hj ho⟩
  · exact ⟨_, exec_comparatorCheckEnd_slot (some k) hu hr, endSlotCheck_takesDown hu c k hj hl hf⟩
  · exact ⟨_, exec_comparatorCheck_ring hu hc, (startRingCheck_starts r [c] s).1 c (List.mem_singleton_self c),
      (startRingCheck_starts r [c] s).2⟩
  · exact ⟨_, exec_comparatorCheckEnd_ring hc hu none, endRingCheck_passed hc⟩
  · obtain ⟨hring, hslots, he⟩ := failStandbySet_stops r c (k.val + 1) (s.updRing r (Ring.checkedOff c))
    refine ⟨_, exec_comparatorCheckEnd_ring hc hu (some k), ?_⟩
    rw [endRingCheck_failed_standby r k s hb, hring, State.updRing_ring_self]
    exact ⟨rfl, rfl, rfl, hslots, he⟩
  · refine ⟨_, exec_comparatorCheckEnd_ring hc hu (some k), ?_⟩
    rw [endRingCheck_failed_ring r k s hb]
    exact failRingComp_fences r c _ _
  · exact ⟨_, exec_rotationCheck hu hc hp hl hi hn hs, State.updRing_changesRing rfl⟩
  · refine ⟨_, exec_handoverEnd hu true hn hi, ?_⟩
    rw [takeHandover_back k c hb]
    exact State.updRing_changesRing rfl
  · exact ⟨_, exec_handoverEnd hu true hn hi, takeHandover_over k c hb⟩
  · exact ⟨_, exec_handoverEnd hu false hn hi, takeHandover_disagree k c⟩
  · exact ⟨_, exec_presCheck hv hp hi, State.updSlot_changesSlot s n _⟩
  · exact ⟨_, exec_twinCheck hu hp, twinCheck_starts r s⟩

end Sys2Proof.Machine

namespace Sys2Proof.Machine
open Sys2Proof

/-! # DMA holds, vector masks, refused BAR requests and register parity (R318, R319, R321, R324, R333, R441) -/

/-! ## DMA_HOLD -/

theorem latchError_dmaHeld (c : W16) (u : UnitRef) (j : Option JobId) (e : Bool) (s : State) :
    (latchError c u j e s).regs.dmaHeld = s.regs.dmaHeld := by
  rw [latchError, latchAt_frame]

theorem latchError_canSend (c : W16) (u : UnitRef) (j : Option JobId) (e : Bool) (s : State) :
    (latchError c u j e s).canSend = s.canSend := by
  rw [latchError, latchAt_frame]; rfl

/-- No request reaches the link any more: D3hot is entered or Bus Master Enable cleared, and DMA_HELD is set (R324). -/
def State.cutFromLink (s : State) (d3 : Bool) : State :=
  if d3 then { s with regs.d3hot := true, regs.dmaHeld := true }
  else { s with regs.busMaster := false, regs.dmaHeld := true }

/-- The hold writes the link's own bits alone, and nothing can be sent. -/
theorem cutFromLink_holds (s : State) (d3 : Bool) :
    (s.cutFromLink d3).regs.dmaHeld = true ∧ (s.cutFromLink d3).canSend = false ∧
    (s.cutFromLink d3).slots = s.slots ∧ (s.cutFromLink d3).jobs = s.jobs ∧
    (s.cutFromLink d3).closing = s.closing ∧ (s.cutFromLink d3).faults = s.faults ∧
    (s.cutFromLink d3).regs.errFirst = s.regs.errFirst := by
  cases d3 with
  | true => exact ⟨rfl, Bool.and_false _, rfl, rfl, rfl, rfl, rfl⟩
  | false => exact ⟨rfl, rfl, rfl, rfl, rfl, rfl, rfl⟩

theorem exec_dmaHold {s : State} (d3 : Bool) (hu : s.mainUp = true) (he : s.regs.enable = true)
    (hd : s.regs.dmaHeld = false) :
    exec (.dmaHold d3) s = .next (latchError 0x0A04 .device none false (s.cutFromLink d3)) :=
  show execDmaHold d3 s = _ from (State.gate_open hu).trans (by
    cases d3 <;> simp only [State.cutFromLink, he, hd] <;> rfl)

/-! ## What goes out when the link can send again -/

/-- The rings are written: only the completions that wait, the Barker, the producers' indices, the interrupts and what
leaves the device change. -/
def State.writesRings (s t : State) : Prop :=
  t = { s with closing := t.closing, barker := t.barker, out := t.out, regs.cqTail := t.regs.cqTail,
               regs.eqTail := t.regs.eqTail, regs.irqStatus := t.regs.irqStatus,
               regs.msixPending := t.regs.msixPending }

theorem State.writesRings.trans {s t u : State} (h : s.writesRings t) (h' : t.writesRings u) : s.writesRings u := by
  rw [writesRings, h', h]

theorem writesRings_barker (s : State) (b : Barker) : s.writesRings { s with barker := b } := rfl

theorem State.WritesEvents.writesRings {s t : State} (h : s.WritesEvents t) : s.writesRings t := by
  rw [State.writesRings, h.frame]

theorem writeCompletion_writesRings (s : State) : s.writesRings (writeCompletion s) := by
  cases hc : s.closing with
  | nil => rw [writeCompletion, hc]; rfl
  | cons c rest =>
    cases hr : s.completionReady c with
    | true => rw [writeCompletion_writes hc hr, State.writesRings, fireIrq_frame]
    | false => rw [writeCompletion_waits hc hr]; rfl

theorem writeEvent_writesRings (s : State) : s.writesRings (writeEvent s) := by
  cases hq : s.barker.queue with
  | nil => rw [writeEvent, hq]; rfl
  | cons e rest =>
    simp only [writeEvent, hq]
    split
    · rfl
    · split
      · split <;> rfl
      · split
        · rfl
        · have hw := (writesRings_barker s { s.barker with queue := rest }).trans
            (writeOverflow_writesEvents _).writesRings
          split
          · exact hw.trans (writesRings_barker _ _)
          · exact (hw.trans (writesRings_barker _ _)).trans (writeEntry_writesEvents _ _ _).writesRings

theorem flushRings_writesRings (s : State) : s.writesRings (flushRings s) := by
  refine fe_inv s.writesRings _ _ _ (fe_inv s.writesRings _ _ _ rfl ?_) ?_
  · exact fun _ t h => h.trans (writeCompletion_writesRings t)
  · exact fun _ t h => h.trans (writeEvent_writesRings t)

/-- Sending pending messages writes the pending bits and what leaves the device alone (R321). -/
theorem sendPending_frame (s : State) : sendPending s =
    { s with regs.msixPending := (sendPending s).regs.msixPending, out := (sendPending s).out } := by
  refine fe_inv (fun t => t = { s with regs.msixPending := t.regs.msixPending, out := t.out }) _ _ _ rfl fun n t h => ?_
  dsimp only
  split
  · rw [h]; rfl
  · exact h

theorem sendPending_writesRings (s : State) : s.writesRings (sendPending s) := by
  rw [State.writesRings, sendPending_frame]

theorem exec_msixUnmask (v : Fin 32) {s : State} (hu : s.mainUp = true) :
    exec (.msixUnmask v) s =
      .next (sendPending { s with regs.msixMask := s.regs.msixMask &&& ~~~(BitVec.ofNat 32 (2 ^ v.val)) }) :=
  show execMsixUnmask v s = _ from State.gate_open hu

/-! ## DMA_RESUMED -/

/-- Both conditions of a hold are lifted (R324). -/
def State.linkRestored (s : State) : State :=
  { s with regs.busMaster := true, regs.d3hot := false, regs.dmaHeld := false }

/-- What was held goes out, behind an event when DMA was held. -/
theorem exec_dmaResumed {s : State} (hu : s.mainUp = true) :
    ∃ t, exec .dmaResumed s = .next t ∧ s.linkRestored.writesRings t := by
  refine ⟨_, show execDmaResumed s = _ from State.gate_open hu, State.writesRings.trans ?_ (sendPending_writesRings _)⟩
  split
  · exact (writesRings_barker s.linkRestored _).trans (flushRings_writesRings _)
  · rfl

/-! ## Register parity -/

theorem exec_regParity_one (off : BitVec 12) {s : State} (hu : s.mainUp = true) :
    exec (.regParity off false) s = .next (latchError 0x0A05 .device none false s) :=
  show execRegParity off false s = _ from State.gate_open hu

theorem exec_regParity_both (off : BitVec 12) {s : State} (hu : s.mainUp = true) :
    exec (.regParity off true) s = .next (openFatal 0x0F03 0 0 s) :=
  show execRegParity off true s = _ from State.gate_open hu

theorem fatalDown_faults (s : State) : (fatalDown s).faults = s.faults :=
  fe_frame State.faults _ _ s fun n s => by rw [startNormal_frame, leaveQueue_frame]

/-- The window stays open with its error until its steps end, and then the main side starts over (R441). -/
theorem fatalProgress_window {s : State} {code : W16} (h : s.faults.fatalWindow = some code) :
    (fatalProgress s).faults.fatalWindow = some code ∨ (fatalProgress s).regs.time = 0 := by
  unfold fatalProgress
  split
  · exact .inr (mainReset_startsOver _ _ s).time
  · exact .inl h

theorem openFatal_window (code : W16) (kind index : Nat) {s : State} (h : s.faults.fatalWindow = none) :
    (openFatal code kind index s).faults.fatalWindow = some code ∨ (openFatal code kind index s).regs.time = 0 := by
  simp only [openFatal, h]
  exact fatalProgress_window (congrArg Faults.fatalWindow (fatalDown_faults _))

/-- Settles O10: a hold through the link's own bits and the error latch, a resumption through what the ring writes
leave, and a fatal parity error through `openFatal_window`. -/
theorem linkHoldsAndParityAct : Obligations.LinkHoldsAndParityAct := by
  refine ⟨⟨fun d3 s hu he hd => ?_, fun s hu => ?_, fun v s hu => ?_, fun r s hu => ?_⟩,
    fun off s hu hw => ⟨?_, _, exec_regParity_both off hu, openFatal_window _ _ _ hw⟩⟩
  · obtain ⟨hheld, hsend, hslots, hjobs, hclosing, hfaults, herr⟩ := cutFromLink_holds s d3
    refine ⟨_, exec_dmaHold d3 hu he hd, (latchError_dmaHeld _ _ _ _ _).trans hheld,
      (latchError_canSend _ _ _ _ _).trans hsend, (latchError_slots _ _ _ _ _).trans hslots,
      (latchError_jobs _ _ _ _ _).trans hjobs, (latchError_closing _ _ _ _ _).trans hclosing, fun hb hw => ?_⟩
    exact latchError_errFirst _ _ _ (by rw [herr]; exact hb) (by rw [hfaults]; exact hw)
  · obtain ⟨t, ht, hf⟩ := exec_dmaResumed hu
    refine ⟨t, ht, ?_⟩
    rw [hf]
    exact ⟨rfl, rfl, rfl, rfl, rfl, rfl⟩
  · exact ⟨_, exec_msixUnmask v hu, sendPending_frame _⟩
  · refine (show execBarAccessRefused r s = _ from State.gate_open hu).trans ?_
    cases r <;> rfl
  · exact ⟨_, exec_regParity_one off hu, latchError_slots _ _ _ _ s, latchError_jobs _ _ _ _ s,
      latchError_nv _ _ _ _ s, latchError_faults _ _ _ _ s, fun hb => latchError_errFirst _ _ _ hb hw⟩

end Sys2Proof.Machine

namespace Sys2Proof.Machine
open Sys2Proof

/-! # The wind-down (R316) -/

/-! ## Jobs that leave (R180, R226) -/

/-- The end of a job leaves the jobs of every other JOB_ID, whether or not there was one to end. -/
theorem endJob_jobs (id : JobId) (st : CStatus) (err : W16) (s : State) :
    (endJob id st err s).jobs = s.jobs.filter (fun k => k.ticket.jobId != id) := by
  cases h : s.findJob id with
  | some j =>
    obtain ⟨hj, -, -⟩ := endJobAfter_closes 0 st err h
    exact hj
  | none =>
    rw [State.findJob, List.find?_eq_none] at h
    simp only [endJob, endJobAfter, State.findJob, List.find?_eq_none.2 h]
    exact (List.filter_eq_self.2 fun k hk => by simpa using h k hk).symm

theorem endJobs_mem (st : CStatus) (err : W16) (ids : List JobId) (s : State) (j : Job) :
    j ∈ (forEach ids (fun id => endJob id st err) s).jobs ↔ j ∈ s.jobs ∧ j.ticket.jobId ∉ ids := by
  induction ids generalizing s with
  | nil => simp [forEach]
  | cons id ids ih =>
    refine (ih (endJob id st err s)).trans ?_
    simp [endJob_jobs, and_assoc]

/-- No job is QUEUED or PLACED. -/
def State.noneWaiting (s : State) : Prop := ∀ j ∈ s.jobs, j.phase = .started ∨ j.phase = .resolving

/-- Between two states the registers stand, and no job has come to wait for its start. -/
structure State.LetsNoneWait (s t : State) : Prop where
  regs : t.regs = s.regs
  jobs : s.noneWaiting → t.noneWaiting

theorem State.LetsNoneWait.refl (s : State) : s.LetsNoneWait s := ⟨rfl, id⟩

theorem State.LetsNoneWait.trans {s t u : State} (h : s.LetsNoneWait t) (h' : t.LetsNoneWait u) : s.LetsNoneWait u :=
  ⟨h'.regs.trans h.regs, h'.jobs ∘ h.jobs⟩

theorem State.ActsOn.letsNoneWait {s t : State} {n : SlotId} (h : s.ActsOn n t) : s.LetsNoneWait t :=
  ⟨h.regs, fun hs => by rw [State.noneWaiting, h.jobs]; exact hs⟩

theorem endJob_letsNoneWait (id : JobId) (st : CStatus) (err : W16) (s : State) :
    s.LetsNoneWait (endJob id st err s) where
  regs := (endJob_takesDown id st err s).regs
  jobs hs j hj := hs j (by rw [endJob_jobs] at hj; exact List.mem_of_mem_filter hj)

theorem askCancel_letsNoneWait (id : JobId) (err : W16) (s : State) : s.LetsNoneWait (askCancel id err s) where
  regs := rfl
  jobs hs j hj := by
    obtain ⟨k, hk, rfl⟩ := List.mem_map.1 hj
    split <;> exact hs k hk

theorem cancelNow_letsNoneWait (id : JobId) (s : State) : s.LetsNoneWait (cancelNow id s) := by
  unfold cancelNow
  split
  · exact .refl s
  · split
    · split
      · exact (endJob_letsNoneWait _ _ _ s).trans (startNormal_actsOn _ _ _ _).letsNoneWait
      · exact .refl s
    · exact .refl s

/-! ## The passes of a wind-down -/

/-- Step 2: the jobs that wait end CANCELLED. -/
def endWaiting (s : State) : State :=
  forEach ((s.jobs.filter (fun j => j.phase == .queued || j.phase == .placed)).map (·.ticket.jobId))
    (fun id s => endJob id .cancelled 0x0A03 s) s

/-- Step 3: the started jobs that may be cancelled stop at their next step boundary (R226). -/
def stopStarted (s : State) : State :=
  forEach ((s.jobs.filter (fun j => j.phase == .started && !j.ticket.nonIdempotent)).map (·.ticket.jobId))
    (fun id s => cancelNow id (askCancel id 0x0A03 s)) s

/-- Step 5 for one slot: where no job holds it, it gives up its request for power and is taken down. -/
def takeFreeDown (n : SlotId) (s : State) : State :=
  if (s.slot n).job.isNone then
    let s := leaveQueue n s
    if (s.slot n).phase.live then startNormal n .disable false s else s
  else s

/-- Step 5: every slot that no job holds is taken down. -/
def takeAllFreeDown (s : State) : State := forEach (List.finRange 64) takeFreeDown s

theorem beginWindDown_eq (s : State) : beginWindDown s =
    windDownStep6 (takeAllFreeDown (stopStarted (endWaiting { s with regs.windDown := true }))) := rfl

theorem endWaiting_regs (s : State) : (endWaiting s).regs = s.regs :=
  fe_frame State.regs _ _ s fun id s => (endJob_takesDown id _ _ s).regs

theorem endWaiting_noneWaiting (s : State) : (endWaiting s).noneWaiting := by
  intro j hj
  obtain ⟨hj, hid⟩ := (endJobs_mem _ _ _ s j).1 hj
  have hp : ¬ (j.phase == .queued || j.phase == .placed) = true := fun hp =>
    hid (List.mem_map_of_mem (List.mem_filter.2 ⟨hj, hp⟩))
  revert hp
  cases j.phase <;> decide

theorem stopStarted_letsNoneWait (s : State) : s.LetsNoneWait (stopStarted s) :=
  fe_inv s.LetsNoneWait _ _ _ (.refl s) fun id t h =>
    h.trans ((askCancel_letsNoneWait id _ t).trans (cancelNow_letsNoneWait id _))

theorem takeFreeDown_actsOn (n : SlotId) (s : State) : s.ActsOn n (takeFreeDown n s) := by
  simp only [takeFreeDown]
  split
  · split
    · exact (leaveQueue_actsOn n s).trans (startNormal_actsOn n _ _ _)
    · exact leaveQueue_actsOn n s
  · exact .refl s n

/-- A slot that no job holds is not powered up. -/
def State.freeIsDown (n : SlotId) (s : State) : Prop := (s.slot n).job = none → (s.slot n).phase.live = false

theorem takeFreeDown_freeIsDown (n : SlotId) (s : State) : (takeFreeDown n s).freeIsDown n := by
  intro hj
  simp only [takeFreeDown] at hj ⊢
  split
  · split
    · exact startNormal_live n _ _ _
    next h => exact Bool.not_eq_true _ ▸ h
  next h =>
    rw [if_neg h] at hj
    exact absurd (Option.isNone_iff_eq_none.2 hj) h

theorem takeFreeDown_keeps_freeIsDown (n m : SlotId) (s : State) (h : s.freeIsDown n) :
    (takeFreeDown m s).freeIsDown n := by
  by_cases e : n = m
  · subst e; exact takeFreeDown_freeIsDown n s
  · rw [State.freeIsDown, (takeFreeDown_actsOn m s).others n e]; exact h

theorem takeAllFreeDown_letsNoneWait (s : State) : s.LetsNoneWait (takeAllFreeDown s) :=
  fe_inv s.LetsNoneWait _ _ _ (.refl s) fun n _ h => h.trans (takeFreeDown_actsOn n _).letsNoneWait

theorem takeAllFreeDown_freeIsDown (n : SlotId) (s : State) : (takeAllFreeDown s).freeIsDown n :=
  fe_all State.freeIsDown _ takeFreeDown s takeFreeDown_freeIsDown takeFreeDown_keeps_freeIsDown n (List.mem_finRange n)

theorem windDownStep6_letsNoneWait (s : State) : s.LetsNoneWait (windDownStep6 s) := by
  unfold windDownStep6; split
  · exact ⟨rfl, id⟩
  · exact .refl s

theorem windDownStep6_slot (n : SlotId) (s : State) : (windDownStep6 s).slot n = s.slot n := by
  unfold windDownStep6; split <;> rfl

/-- From its write the wind-down has set WIND_DOWN alone among the registers, ended what waited and taken down every
slot that no job holds. -/
theorem beginWindDown_empties (s : State) :
    (beginWindDown s).regs = { s.regs with windDown := true } ∧ (beginWindDown s).noneWaiting ∧
    ∀ n, (beginWindDown s).freeIsDown n := by
  rw [beginWindDown_eq]
  have h := ((stopStarted_letsNoneWait (endWaiting { s with regs.windDown := true })).trans
    (takeAllFreeDown_letsNoneWait _)).trans (windDownStep6_letsNoneWait _)
  refine ⟨h.regs.trans (endWaiting_regs _), h.jobs (endWaiting_noneWaiting _), fun n => ?_⟩
  rw [State.freeIsDown, windDownStep6_slot]
  exact takeAllFreeDown_freeIsDown n _

theorem exec_windDown {s : State} (h : s.hostReach) (he : s.regs.enable = true) (hw : s.regs.windDown = false) :
    exec .windDown s = .next (beginWindDown s) :=
  show execWindDown s = _ from (State.hostWrite_open h).trans (by rw [if_pos (by simp [he, hw])])

/-! ## Its end -/

/-- READY falls, firing its interrupt where it stood; nothing else changes. -/
theorem dropReady_frame (s : State) : dropReady s =
    { s with regs.ready := false, regs.irqStatus := (dropReady s).regs.irqStatus,
             regs.msixPending := (dropReady s).regs.msixPending, out := (dropReady s).out } := by
  cases hr : s.regs.ready with
  | true => rw [dropReady, if_pos hr, fireIrq_frame]
  | false =>
    have h : dropReady s = s := by simp [dropReady, hr]
    rw [h, ← hr]

theorem stopAllConverters_off (s : State) (r : RingId) : ((stopAllConverters s).ring r).phase = .off := by
  simp [stopAllConverters, State.ring, Ring.stop]

/-- The state as a wind-down leaves it, before its own interrupt. -/
def State.windDownOver (s : State) : State :=
  { dropReady (stopAllConverters s) with regs.enable := false, regs.windDown := false }

theorem exec_windDownEnd {s : State} (hu : s.mainUp = true) (hw : s.regs.windDown = true)
    (hd : s.windDownDone = true) : exec .windDownEnd s = .next (fireIrq 10 s.windDownOver) :=
  show execWindDownEnd s = _ from State.gate_open (by rw [hu, hw, hd]; rfl)

theorem windDownOver_frame (s : State) : s.windDownOver =
    { s with regs.enable := false, regs.windDown := false, regs.ready := false,
             regs.irqStatus := s.windDownOver.regs.irqStatus, regs.msixPending := s.windDownOver.regs.msixPending,
             rings := (stopAllConverters s).rings, out := s.windDownOver.out } := by
  rw [State.windDownOver, dropReady_frame]; rfl

/-- Settles O17: the write through the passes of `beginWindDown`, the end through READY's fall and the converters'
stop. -/
theorem windDownEmptiesTheDevice : Obligations.WindDownEmptiesTheDevice := by
  refine ⟨fun s hr he hw => ?_, fun s hu hw hd => ⟨_, exec_windDownEnd hu hw hd, ?_, fireIrq_bit _ _ (by decide), ?_⟩⟩
  · obtain ⟨hregs, hjobs, hslots⟩ := beginWindDown_empties s
    refine ⟨_, exec_windDown hr he hw, ?_, ?_, hjobs, hslots⟩
    · rw [hregs]
    · rw [hregs]; exact he
  · rw [fireIrq_frame, windDownOver_frame]
  · intro r
    rw [fireIrq_frame, windDownOver_frame]
    exact stopAllConverters_off s r

end Sys2Proof.Machine

namespace Sys2Proof.Machine
open Sys2Proof

/-! # Ring sizes and SLOT_SEL (R161, R313, R342, R344) -/

section SizesAndSelect
variable {s : State} (h : s.hostReach)
include h

theorem exec_ringSizeWrite_checking (ring : RingName) (v : W32) (hc : s.deviceCheckRuns = true) :
    exec (.ringSizeWrite ring v) s = .next (dropWrite s) :=
  show execRingSizeWrite ring v s = _ from (State.hostWrite_open h).trans (by rw [if_pos hc])

theorem exec_ringSizeWrite_enabled (ring : RingName) (v : W32) (hc : s.deviceCheckRuns = false)
    (he : s.regs.enable = true) : exec (.ringSizeWrite ring v) s = .next s :=
  show execRingSizeWrite ring v s = _ from (State.hostWrite_open h).trans (by
    rw [if_neg (Bool.eq_false_iff.1 hc), if_pos he])

theorem exec_ringSizeWrite_stored (ring : RingName) (v : W32) (hc : s.deviceCheckRuns = false)
    (he : s.regs.enable = false) : exec (.ringSizeWrite ring v) s = .next (match ring with
      | .tb => { s with regs.tbSize := v &&& 0x1FFFF, regs.tbTail := 0, regs.tbHead := 0 }
      | .cq => { s with regs.cqSize := v &&& 0x1FFFF, regs.cqHead := 0, regs.cqTail := 0 }
      | .eq => { s with regs.eqSize := v &&& 0x1FFFF, regs.eqHead := 0, regs.eqTail := 0 }) :=
  show execRingSizeWrite ring v s = _ from (State.hostWrite_open h).trans (congrArg Host.Outcome.next
    ((if_neg (Bool.eq_false_iff.1 hc)).trans ((if_neg (Bool.eq_false_iff.1 he)).trans (by cases ring <;> rfl))))

theorem exec_slotSelWrite_slot {v : W32} (hv : v.toNat < 64) :
    exec (.slotSelWrite v) s = .next { s with regs.slotSel := ⟨v.toNat, hv⟩ } :=
  show execSlotSelWrite v s = _ from (State.hostWrite_open h).trans (by simp only [finOf, dif_pos hv])

theorem exec_slotSelWrite_reserved {v : W32} (hv : 64 ≤ v.toNat) : exec (.slotSelWrite v) s = .next s :=
  show execSlotSelWrite v s = _ from (State.hostWrite_open h).trans (by simp only [finOf, dif_neg (Nat.not_lt.2 hv)])

end SizesAndSelect

/-- Settles O11: the write goes through the host's access, then by the device check and ENABLE. -/
theorem ringSizeWriteRestartsTheRing : Obligations.RingSizeWriteRestartsTheRing :=
  fun ring v _ h => ⟨exec_ringSizeWrite_stored h ring v, exec_ringSizeWrite_enabled h ring v,
    exec_ringSizeWrite_checking h ring v⟩

/-- Settles O12: the register shows the slot it holds, and a write stores a slot number or nothing. -/
theorem slotSelIgnoresReservedBits : Obligations.SlotSelIgnoresReservedBits :=
  ⟨rfl, fun _ _ h => ⟨rfl, fun hv => exec_slotSelWrite_slot h hv, exec_slotSelWrite_reserved h⟩⟩

end Sys2Proof.Machine

namespace Sys2Proof.Machine
open Sys2Proof

/-! # Rule barriers, debug tokens, halted pairs and scan instructions (R361 to R363, R401, R408, R419 to R422) -/

/-! ## Rule barriers -/

theorem nextEpoch_eq (e : W16) : nextEpoch e = if e = 0xFFFF then 1 else e + 1 := by
  simp only [nextEpoch, beq_iff_eq]

/-- The state as a drained barrier leaves it (R361 to R363). -/
def State.barrierDrained (s : State) : State :=
  { s with regs.epoch := nextEpoch s.regs.epoch, regs.barrierOn := false, regs.barrier := s.regs.barrier.drop 1,
           closing := s.closing.map (fun c => { c with barriers := c.barriers - 1 }),
           side.answerBarriers := s.side.answerBarriers - 1 }

theorem exec_ruleBarrier {c : RuleCause} {s : State} (hu : s.mainUp = true) (ho : s.regs.barrierOn = false)
    (hc : s.regs.barrier.head? = some c) : exec (.ruleBarrier c) s = .next { s with regs.barrierOn := true } :=
  show execRuleBarrier c s = _ from State.gate_open (by simp [hu, ho, hc])

theorem exec_ruleBarrierDrained {s : State} (hu : s.mainUp = true) (ho : s.regs.barrierOn = true) :
    exec .ruleBarrierDrained s = .next s.barrierDrained :=
  show execRuleBarrierDrained s = _ from State.gate_open (by simp [hu, ho])

theorem barrierDrained_closing (s : State) : s.barrierDrained.closing.map (fun c => (c.jobId, c.barriers)) =
    s.closing.map (fun c => (c.jobId, c.barriers - 1)) := by
  simp [State.barrierDrained, Function.comp_def]

/-! ## The debug session and the ceremony -/

theorem endDebug_open (why : Nat) {s : State} (h : s.sec.debugToken.isSome = true) : endDebug why s =
    askBarrier .debugPort (raise 0x0B04 none why { s with sec.debugToken := none }) := if_pos h

theorem endDebug_closed (why : Nat) {s : State} (h : s.sec.debugToken = none) : endDebug why s = s :=
  if_neg (by simp [h])

theorem exec_debugToken {req : SignedReq} {s : State} (hu : s.mainUp = true) (hk : s.sec.tokenFails < 3) :
    exec (.debugToken req) s = .next (if s.tokenOk req then openDebug req (renewDebugNonce s)
      else { renewDebugNonce s with sec.tokenFails := s.sec.tokenFails + 1 }) :=
  show execDebugToken req s = _ from State.gate_open (by simp [hu, hk])

theorem exec_debugToken_refused {req : SignedReq} {s : State} (hk : 3 ≤ s.sec.tokenFails) :
    exec (.debugToken req) s = .next s :=
  show execDebugToken req s = _ from State.gate_shut (by simp; omega)

/-- The port as a genuine token opens it (R420, R421). -/
structure State.Opens (s : State) (req : SignedReq) (t : State) : Prop where
  nonce : t.sec.debugNonce = s.sec.debugNonce
  nv : t.nv = s.nv
  token : t.sec.debugToken = some (req.signer, req.argA, req.argC)
  fails : t.sec.tokenFails = 0
  barrier : t.regs.barrier = s.regs.barrier ++ [.debugPort]
  event : ∃ e ∈ t.barker.queue, e.code = 0x0B03

/-- The session of a token, before its audit entry. -/
def State.tokenTaken (s : State) (req : SignedReq) : State :=
  { s with sec.debugToken := some (req.signer, req.argA, req.argC), sec.tokenFails := 0 }

theorem openDebug_opens (req : SignedReq) (s : State) : s.Opens req (openDebug req s) := by
  obtain ⟨d, hd⟩ : ∃ d, openDebug req s = askBarrier .debugPort (raise 0x0B03 none
    (req.signer.toNat + req.argA.toNat * 2 ^ 8) (audit 0x09 0 0 0 d 0 (s.tokenTaken req))) := ⟨_, rfl⟩
  have hb := audit_offBooks 0x09 0 0 0 d 0 (s.tokenTaken req)
  have hs : (audit 0x09 0 0 0 d 0 (s.tokenTaken req)).sec = (s.tokenTaken req).sec := (congrArg State.sec hb :)
  have hr := State.offBooks_regs hb
  rw [hd]
  exact ⟨(congrArg Security.debugNonce hs :), audit_nv _ _ _ _ _ _ _, (congrArg Security.debugToken hs :),
    (congrArg Security.tokenFails hs :), (congrArg (fun r : Regs => r.barrier ++ [.debugPort]) hr :),
    _, List.mem_append_right _ (List.mem_singleton_self _), rfl⟩

theorem closeCeremony_closes (s : State) :
    closeCeremony s = { s with sec.ceremony := none, barker := (closeCeremony s).barker } ∧
    (s.sec.ceremony.isSome = true → ∃ e ∈ (closeCeremony s).barker.queue, e.code = 0x0B02) := by
  unfold closeCeremony
  split
  next cid _ _ _ h => exact ⟨rfl, fun _ => ⟨_, List.mem_append_right _ (List.mem_singleton_self _), rfl⟩⟩
  next h =>
    refine ⟨?_, fun hs => by simp [h] at hs⟩
    rw [← h]

/-! ## Halted pairs -/

theorem handOver_frame (s : State) : handOver s =
    { s with faults.leader := (List.finRange 4).find? s.pairUp, barker := (handOver s).barker } := by
  simp only [handOver]
  split
  · next h => rw [eq_of_beq h]
  · split
    · next p hp => rw [hp]; rfl
    · next hp => rw [hp]

theorem pairUp_leads {s : State} {p : PairId} (h : (List.finRange 4).find? s.pairUp = some p) : s.pairUp p = true :=
  List.find?_some h

theorem losePairJobs_none {p : PairId} {s : State} (h : ∀ j ∈ s.jobs, j.pair ≠ some p) : losePairJobs p s = s := by
  have hl : s.jobs.filter (fun j => j.pair == some p) = [] := List.filter_eq_nil_iff.2 fun j hj => by simp [h j hj]
  simp only [losePairJobs, hl, forEach, List.foldl_nil]

/-- The state in which the pair is halted (R422). -/
def State.haltedAt (s : State) (p : PairId) : State := { s with sec.halted := p :: s.sec.halted }

theorem haltedAt_pairUp (s : State) (p : PairId) : (s.haltedAt p).pairUp p = false := by
  simp [State.haltedAt, State.pairUp]

theorem exec_debugHalt {p : PairId} {s : State} (hu : s.mainUp = true) (hm : s.mayHalt = true)
    (hn : s.sec.halted.contains p = false) (hj : ∀ j ∈ s.jobs, j.pair ≠ some p) : exec (.debugHalt p) s =
      .next (if s.faults.leader == some p then handOver (s.haltedAt p) else s.haltedAt p) := by
  refine show execDebugHalt p s = _ from (State.gate_open (by simp only [hu, hm, hn]; rfl)).trans ?_
  simp only
  rw [losePairJobs_none (s := { s with sec.halted := p :: s.sec.halted }) hj]
  rfl

theorem debugHalt_stops {p : PairId} {s t : State}
    (ht : t = if s.faults.leader == some p then handOver (s.haltedAt p) else s.haltedAt p) :
    t = { s with sec.halted := p :: s.sec.halted, faults.leader := t.faults.leader, barker := t.barker } ∧
      t.pairUp p = false ∧ t.faults.leader ≠ some p := by
  have hd := haltedAt_pairUp s p
  subst ht
  split
  · rw [handOver_frame]
    exact ⟨rfl, hd, fun hl => by simpa [hd] using pairUp_leads hl⟩
  · next hl => exact ⟨rfl, hd, fun h => hl (by rw [← h]; exact beq_self_eq_true _)⟩

theorem exec_debugResume {p : PairId} {s : State} (hu : s.mainUp = true) (hh : s.sec.halted.contains p = true) :
    exec (.debugResume p) s = .next (handOver { s with sec.halted := s.sec.halted.filter (· != p) }) :=
  show execDebugResume p s = _ from State.gate_open (by simp only [hu, hh]; rfl)

theorem resumed_pairUp {p : PairId} {s : State} (hi : s.inService (.pair p) = true) :
    ({ s with sec.halted := s.sec.halted.filter (· != p) } : State).pairUp p = true := by
  show (s.inService (.pair p) && !(s.sec.halted.filter (· != p)).contains p) = true
  simp [hi]

/-! ## Scan instructions -/

theorem exec_tapInstructionLoad (i : TapInstr) {s : State} (hu : s.mainUp = true) (hs : s.scanLoaded = false) :
    exec (.tapInstructionLoad i) s = .next { s with sec.tap := s.tapTakes i } := by
  refine show execTapInstructionLoad i s = _ from (State.gate_open hu).trans ?_
  simp only [hs, Bool.false_and, Bool.false_eq_true, if_false]

theorem slots_all_iff (s : State) (p : Slot → Bool) : s.slots.all p = true ↔ ∀ n, p (s.slot n) = true := by
  rw [Vector.all_eq_true]
  exact ⟨fun h n => h n.val n.isLt, fun h i hi => h ⟨i, hi⟩⟩

theorem scanAllowed_iff (s : State) : s.scanAllowed = true ↔
    s.debugOpen = true ∧ ∀ n, (s.slot n).phase = .off ∨ (s.slot n).phase.excluded = true := by
  simp only [State.scanAllowed, Bool.and_eq_true, slots_all_iff, Bool.or_eq_true, beq_iff_eq]

theorem tapTakes_plain {i : TapInstr} (he : i ≠ .extest) (hi : i ≠ .intest) (s : State) : s.tapTakes i = i := by
  unfold State.tapTakes; split
  · exact absurd rfl he
  · exact absurd rfl hi
  · rfl

theorem tapTakes_scan {i : TapInstr} (h : i = .extest ∨ i = .intest) (s : State) :
    s.tapTakes i = if s.scanAllowed then i else .bypass := by
  rcases h with rfl | rfl <;> rfl

/-- Settles O52: each barrier, token, pair and instruction by the one update that its command makes. -/
theorem barriersAndDebugPortAct : Obligations.BarriersAndDebugPortAct := by
  refine ⟨fun c s hu => ⟨exec_ruleBarrier hu, fun ho => ?_⟩, fun s hu => ⟨fun hd => ⟨?_, ?_⟩, fun hd => ⟨?_, ?_⟩,
    fun req hk => ?_, fun req hk => exec_debugToken_refused hk, ?_⟩, fun p s hu => ⟨fun hm hn hj => ?_, fun hh => ?_⟩,
    fun i s hu hs => ?_⟩
  · exact ⟨_, exec_ruleBarrierDrained hu ho, rfl, nextEpoch_eq _, barrierDrained_closing s⟩
  · obtain ⟨e, he, hc, -, ha⟩ := raise_mem 0x0B04 none 2 { s with sec.debugToken := none }
    exact ⟨_, (State.gate_open hu).trans (congrArg _ (endDebug_open 2 hd)), rfl, e, he, hc, ha⟩
  · obtain ⟨e, he, hc, -, ha⟩ := raise_mem 0x0B04 none 1 { s with sec.debugToken := none }
    exact ⟨_, (State.gate_open hu).trans (congrArg _ (endDebug_open 1 hd)), rfl, e, he, hc, ha⟩
  · exact (State.gate_open hu).trans (congrArg _ (endDebug_closed 2 hd))
  · exact (State.gate_open hu).trans (congrArg _ (endDebug_closed 1 hd))
  · refine ⟨_, exec_debugToken hu hk, ?_⟩
    split
    · have h := openDebug_opens req (renewDebugNonce s)
      exact ⟨h.nonce, h.nv, h.token, h.fails, h.barrier, h.event⟩
    · exact ⟨rfl, rfl, rfl, rfl, rfl, rfl⟩
  · exact ⟨_, State.gate_open hu, closeCeremony_closes s⟩
  · exact ⟨_, exec_debugHalt hu hm hn hj, debugHalt_stops rfl⟩
  · refine ⟨_, exec_debugResume hu hh, ?_, ?_, ?_, fun hi => ?_⟩ <;> rw [handOver_frame]
    exact resumed_pairUp hi
  · refine ⟨_, exec_tapInstructionLoad i hu hs, rfl, fun he hi => tapTakes_plain he hi s, fun h => ?_⟩
    refine (tapTakes_scan h s).trans ?_
    simp only [scanAllowed_iff]

end Sys2Proof.Machine

namespace Sys2Proof.Machine
open Sys2Proof

/-! # The start of a self-test and its ring's drain (R354, R355, R415, R466 to R469) -/

/-! ## What the drain of a ring leaves of the self-test registers -/

@[simp] theorem startNormal_bist (n : SlotId) (c : Cause) (b : Bool) (s : State) :
    (startNormal n c b s).bist = s.bist := by rw [startNormal_frame]

@[simp] theorem leaveQueue_bist (n : SlotId) (s : State) : (leaveQueue n s).bist = s.bist := by rw [leaveQueue_frame]

@[simp] theorem stationCommand_bist (n : SlotId) (e : Bool) (bin : Byte) (id : JobId) (s : State) :
    (stationCommand n e bin id s).bist = s.bist := by
  simp only [stationCommand]; split <;> rfl

@[simp] theorem slotFreed_bist (n : SlotId) (s : State) : (slotFreed n s).bist = s.bist := by
  simp [slotFreed, apply_ite State.bist]

@[simp] theorem freeSlot_bist (j : Job) (st : CStatus) (s : State) : (freeSlot j st s).bist = s.bist := by
  cases h : j.slot with
  | none => rw [freeSlot_none h]
  | some n => simp [freeSlot, h, apply_ite State.bist]

@[simp] theorem endJobAfter_bist (b : Nat) (id : JobId) (st : CStatus) (err : W16) (s : State) :
    (endJobAfter b id st err s).bist = s.bist := by
  cases h : s.findJob id with
  | none => simp only [endJobAfter, h]
  | some j =>
    obtain ⟨u, hu, hk⟩ := endJobAfter_frees b st err h
    rw [hu, freeSlot_bist]
    exact (congrArg State.bist hk :)

@[simp] theorem endJob_bist (id : JobId) (st : CStatus) (err : W16) (s : State) : (endJob id st err s).bist = s.bist :=
  endJobAfter_bist 0 id st err s

@[simp] theorem replaceJob_bist (id : JobId) (s : State) : (replaceJob id s).bist = s.bist := by
  unfold replaceJob
  split
  · rfl
  next j _ =>
    have hk : (releaseContext j (settleUnsent j s)).bist = s.bist :=
      (congrArg State.bist ((releaseContext_offBooks j _).trans (settleUnsent_offBooks j s)) :)
    dsimp only
    split
    · exact endJob_bist _ _ _ s
    · split
      · exact endJob_bist _ _ _ s
      · split
        · exact endJob_bist _ _ _ s
        · split <;> simpa using hk

@[simp] theorem lostJob_bist (n : SlotId) (c : Cause) (s : State) : (lostJob n c s).bist = s.bist := by
  unfold lostJob
  split
  · rfl
  · dsimp only
    split <;> simp [apply_ite State.bist]

@[simp] theorem drainRing_bist (r : RingId) (s : State) : (drainRing r s).bist = s.bist :=
  fe_frame State.bist _ _ _ fun n s => by simp [apply_ite State.bist]

/-! ## The start -/

/-- The run that a start makes (R354, R466). -/
def startedRun (memory : Bool) (scope : BitVec 4) : BistRun :=
  { scope := scope, memory := memory, testing := decide (8 ≤ scope.toNat), pass := if memory then 1 else 3,
    unrepaired := false }

theorem scopeRing_isNone (scope : BitVec 4) : (scopeRing scope).isNone = decide (8 ≤ scope.toNat) := by
  unfold scopeRing finOf
  split <;> simp <;> omega

/-- The parameters of a start are written before it is judged (R354). -/
def State.bistAsked (s : State) (memory source : Bool) (scope : BitVec 4) : State :=
  { s with bist.type := memory, bist.scope := scope, bist.source := source }

/-- A start that is allowed makes the run; the ring's drain and the barrier leave it. -/
theorem startBist_allowed {memory source : Bool} {scope : BitVec 4} {s : State} (hr : s.bist.run = none)
    (ha : s.bistAllowed memory source scope = true) : (startBist memory source scope s).bist =
      { (s.bistAsked memory source scope).bist with
        run := some (startedRun memory scope), repaired := false, failAddrs := 0 } := by
  rw [startBist, if_neg (by simp [hr])]
  refine (congrArg State.bist (if_neg (ne_true_of_eq_false (congrArg not ha)))).trans ?_
  rw [scopeRing_isNone]
  cases scopeRing scope with
  | some r => dsimp only; rw [drainRing_bist]; rfl
  | none => rfl

theorem startBist_refused {memory source : Bool} {scope : BitVec 4} {s : State} (hr : s.bist.run = none)
    (ha : s.bistAllowed memory source scope = false) :
    startBist memory source scope s = endNotRun (s.bistAsked memory source scope) := by
  rw [startBist, if_neg (by simp [hr])]
  exact if_pos (congrArg not ha)

theorem startBist_running {memory source : Bool} {scope : BitVec 4} {s : State} (hr : s.bist.run ≠ none) :
    startBist memory source scope s = s := if_pos (Option.isSome_iff_ne_none.2 hr)

/-- A run that does not start ends NOT_RUN with its interrupt (R355). -/
theorem endNotRun_ends (s : State) : (endNotRun s).bist = { s.bist with run := none, result := 3 } ∧
    bit (endNotRun s).regs.irqStatus 7 = true ∧ (endNotRun s).slots = s.slots ∧ (endNotRun s).rings = s.rings :=
  ⟨fireIrq_bist _ _, fireIrq_bit _ _ (by decide), fireIrq_slots _ _, fireIrq_rings _ _⟩

/-- START reads 1 while a run exists (R354). -/
theorem bistCtrl_start {s : State} (h : s.bist.run.isSome = true) : bit s.bistCtrl 0 = true := by
  simp only [bit, State.bistCtrl, h, BitVec.getLsbD_ofNat]
  simp [Nat.testBit_zero, bitAt_eq]
  omega

/-! ## The host's start -/

theorem exec_hostBist (memory : Bool) (scope : BitVec 4) {s : State} (hu : s.mainUp = true) :
    exec (if memory then .memoryBist scope else .logicBist scope) s = .next (hostBist memory scope s) := by
  cases memory <;> exact State.gate_open hu

theorem hostBist_open {s : State} (hl : s.hostLocked = false) (memory : Bool) (scope : BitVec 4) :
    hostBist memory scope s = startBist memory false scope s := if_neg (by simp [hl])

theorem hostBist_locked {s : State} (hl : s.hostLocked = true) (memory : Bool) (scope : BitVec 4) :
    hostBist memory scope s = refuseHostWrite 0x0A4 s := if_pos hl

/-- A refused access is recorded and reported, and nothing else moves (R353, R415). -/
theorem recordViolation_frame (m a r : Nat) (addr : W64) (o : Option SlotId) (s : State) :
    recordViolation m a r addr o s =
      { s with regs.violAddr := (recordViolation m a r addr o s).regs.violAddr,
               regs.violInfo := (recordViolation m a r addr o s).regs.violInfo,
               regs.irqStatus := (recordViolation m a r addr o s).regs.irqStatus,
               regs.msixPending := (recordViolation m a r addr o s).regs.msixPending,
               barker := (recordViolation m a r addr o s).barker, out := (recordViolation m a r addr o s).out } := by
  simp only [recordViolation]
  split
  · rfl
  · rw [fireIrq_frame]; rfl

theorem recordViolation_event (m a r : Nat) (addr : W64) (o : Option SlotId) (s : State) :
    ∃ e ∈ (recordViolation m a r addr o s).barker.queue, e.code = 0x0B05 :=
  ⟨_, List.mem_append_right _ (List.mem_singleton_self _), rfl⟩

/-! ## The drained ring (R468) -/

/-- A slot of a drained ring as the test finds it: an OFF one enters BIST (R468 step 3). -/
def Slot.tested (x : Slot) : Slot :=
  if x.phase == .off then { x with phase := .bist, stepTo := none, actWait := false } else x

theorem Slot.tested_off {x : Slot} (h : x.phase = .off) : x.tested.phase = .bist := by simp [Slot.tested, h]

theorem Slot.tested_excluded {x : Slot} (h : x.phase ≠ .off) : x.tested = x := if_neg (by simpa using h)

theorem Slot.tested_tested (x : Slot) : x.tested.tested = x.tested := by
  by_cases h : x.phase = .off
  · exact Slot.tested_excluded (by rw [Slot.tested_off h]; decide)
  · rw [Slot.tested_excluded h, Slot.tested_excluded h]

/-- One pass of R468's step 3. -/
def enterBist (n : SlotId) (s : State) : State :=
  if (s.slot n).phase == .off then
    s.updSlot n (fun x => { x with phase := .bist, stepTo := none, actWait := false }) else s

theorem enterBist_slot (n m : SlotId) (s : State) :
    (enterBist n s).slot m = if m = n then (s.slot n).tested else s.slot m := by
  unfold enterBist Slot.tested
  split
  · rw [State.updSlot_slot]
  · split
    next h => rw [h]
    · rfl

theorem enterBist_frame (n : SlotId) (s : State) : enterBist n s = { s with slots := (enterBist n s).slots } := by
  unfold enterBist; split <;> rfl

/-- How the loop of step 3 has come along: the ring's slots are as they were or as the test finds them. -/
structure State.Entering (s : State) (r : RingId) (t : State) : Prop where
  inside : ∀ n, ringOf n = r → t.slot n = s.slot n ∨ t.slot n = (s.slot n).tested
  outside : ∀ n, ringOf n ≠ r → t.slot n = s.slot n
  rings : t.rings = s.rings
  bist : t.bist = s.bist

theorem State.Entering.pass {s t : State} {r : RingId} (h : s.Entering r t) {n : SlotId} (hn : ringOf n = r) :
    s.Entering r (enterBist n t) ∧ (enterBist n t).slot n = (s.slot n).tested := by
  have hself : (enterBist n t).slot n = (s.slot n).tested := by
    rw [enterBist_slot, if_pos rfl]
    rcases h.inside n hn with e | e
    · rw [e]
    · rw [e, Slot.tested_tested]
  refine ⟨⟨fun m hm => ?_, fun m hm => ?_, ?_, ?_⟩, hself⟩
  · by_cases e : m = n
    · subst e; exact .inr hself
    · rw [enterBist_slot, if_neg e]; exact h.inside m hm
  · rw [enterBist_slot, if_neg (fun e : m = n => hm (e ▸ hn))]; exact h.outside m hm
  · rw [enterBist_frame]; exact h.rings
  · rw [enterBist_frame]; exact h.bist

theorem enterBist_keeps {s t : State} {r : RingId} (h : s.Entering r t) {n m : SlotId} (hm : ringOf m = r)
    (ht : t.slot n = (s.slot n).tested) : (enterBist m t).slot n = (s.slot n).tested := by
  by_cases e : n = m
  · rw [e]; exact (h.pass hm).2
  · rw [enterBist_slot, if_neg e]; exact ht

/-- Once every slot of the ring has been passed, each of them is as the test finds it. -/
theorem enterBist_ring (r : RingId) (s : State) : s.Entering r (forEach (ringSlots r) enterBist s) ∧
    ∀ n, ringOf n = r → (forEach (ringSlots r) enterBist s).slot n = (s.slot n).tested := by
  have h := forEach_each (s.Entering r) (fun n t => t.slot n = (s.slot n).tested) (ringSlots r) enterBist s
    ⟨fun _ _ => .inl rfl, fun _ _ => rfl, rfl, rfl⟩ (fun n hn t ht => ht.pass (mem_ringSlots.1 hn))
    fun n m hm t ht hn => enterBist_keeps ht (mem_ringSlots.1 hm) hn
  exact ⟨h.1, fun n hn => h.2 n (mem_ringSlots.2 hn)⟩

/-- The converter stops and the barrier grants the controller its rights (R468 steps 4 and 5). -/
def beginTest (r : RingId) (s : State) : State :=
  askBarrier .bist { s.updRing r Ring.stop with bist.run := s.bist.run.map (fun b => { b with testing := true }) }

theorem beginTest_slot (r : RingId) (s : State) (n : SlotId) : (beginTest r s).slot n = s.slot n := rfl

theorem beginTest_ring_self (r : RingId) (s : State) : ((beginTest r s).ring r).phase = .off :=
  congrArg Ring.phase (State.updRing_ring_self ..)

theorem beginTest_ring_other {r q : RingId} (h : q ≠ r) (s : State) : (beginTest r s).ring q = s.ring q :=
  State.updRing_ring_other _ _ _ _ h

/-- A run whose test has begun drains no ring. -/
theorem beginTest_draining (r : RingId) (s : State) : (beginTest r s).draining = none := by
  have h : (beginTest r s).bist.run = s.bist.run.map (fun b => { b with testing := true }) := rfl
  cases hr : s.bist.run <;> simp [State.draining, h, hr]

theorem execBistRingDrained_draining {r : RingId} {s : State} (hd : s.draining = some r) :
    execBistRingDrained s =
      s.gate (s.mainUp && s.ringDrained r) (fun s => beginTest r (forEach (ringSlots r) enterBist s)) := by
  delta execBistRingDrained beginTest enterBist
  rw [hd]

theorem exec_bistRingDrained {r : RingId} {s : State} (hu : s.mainUp = true) (hd : s.draining = some r)
    (hr : s.ringDrained r = true) : exec .bistRingDrained s = .next (beginTest r (forEach (ringSlots r) enterBist s)) :=
  (execBistRingDrained_draining hd).trans (State.gate_open (by rw [hu, hr]; rfl))

theorem exec_bistDrainTimeout {s : State} (hu : s.mainUp = true) (hd : s.draining ≠ none) :
    exec .bistDrainTimeout s = .next (endNotRun s) :=
  State.gate_open (by rw [hu, Option.isSome_iff_ne_none.2 hd]; rfl)

/-! ## The obligation -/

/-- Settles O18: a start by its three answers, the drained ring by the loop over its slots, the timeout by NOT_RUN. -/
theorem bistRunsStartAndAdvance : Obligations.BistRunsStartAndAdvance := by
  refine ⟨fun memory scope s hu => ⟨fun hl hr => ?_, fun hl hr => ?_, fun hl => ?_⟩, fun r s hu hd hr => ?_,
    fun s hu hd => ?_⟩
  · refine ⟨_, exec_hostBist memory scope hu, ?_⟩
    rw [hostBist_open hl]
    cases ha : s.bistAllowed memory false scope with
    | true =>
      have hb := startBist_allowed hr ha
      have hrun : (startBist memory false scope s).bist.run = some (startedRun memory scope) := by rw [hb]
      exact ⟨by rw [hb]; rfl, by rw [hb]; rfl, by rw [hb]; rfl,
        fun _ => ⟨hrun, bistCtrl_start (by rw [hrun]; rfl)⟩, nofun⟩
    | false =>
      rw [startBist_refused hr ha]
      obtain ⟨hb, hirq, _, _⟩ := endNotRun_ends (s.bistAsked memory false scope)
      exact ⟨by rw [hb]; rfl, by rw [hb]; rfl, by rw [hb]; rfl, nofun, fun _ => ⟨by rw [hb], by rw [hb], hirq⟩⟩
  · rw [exec_hostBist memory scope hu, hostBist_open hl, startBist_running hr]
  · refine ⟨_, exec_hostBist memory scope hu, ?_⟩
    rw [hostBist_locked hl, refuseHostWrite]
    exact ⟨by rw [recordViolation_frame], recordViolation_event ..⟩
  · obtain ⟨hf, hslot⟩ := enterBist_ring r s
    refine ⟨_, exec_bistRingDrained hu hd hr, beginTest_ring_self _ _, beginTest_draining _ _, fun n hn hx => ?_,
      fun n hn hx => ?_, fun n hn => ?_, fun q hq => ?_⟩
    · rw [beginTest_slot, hslot n hn, Slot.tested_off hx]
    · rw [beginTest_slot, hslot n hn, Slot.tested_excluded hx]
    · rw [beginTest_slot, hf.outside n hn]
    · rw [beginTest_ring_other hq, State.ring, hf.rings, State.ring]
  · obtain ⟨hb, hirq, hs, hr⟩ := endNotRun_ends s
    exact ⟨_, exec_bistDrainTimeout hu hd, by rw [hb], by rw [hb], hirq, hs, hr⟩

end Sys2Proof.Machine

namespace Sys2Proof.Machine
open Sys2Proof

/-! # Fatal errors and refused accesses (R353, R415, R416, R434, R441, R442, R446) -/

/-! ## Every slot goes down (R441 step 3) -/

/-- What the way down leaves alone: everything but the slots, the rings, their requests and the plan. -/
structure State.OnTheWayDown (s t : State) : Prop where
  regs : t.regs = s.regs
  power : t.power = s.power
  jobs : t.jobs = s.jobs
  closing : t.closing = s.closing
  bank : t.bank = s.bank
  standby : t.standby = s.standby
  faults : t.faults = s.faults

theorem State.OnTheWayDown.pass {s t : State} (h : s.OnTheWayDown t) (n : SlotId) :
    s.OnTheWayDown (startNormal n .host false (leaveQueue n t)) := by
  rw [startNormal_frame, leaveQueue_frame]
  exact { h with }

theorem fatalDown_onTheWayDown (s : State) : s.OnTheWayDown (fatalDown s) :=
  fe_inv s.OnTheWayDown _ _ s ⟨rfl, rfl, rfl, rfl, rfl, rfl, rfl⟩ fun n _ h => h.pass n

theorem fatalDown_live (s : State) (n : SlotId) : ((fatalDown s).slot n).phase.live = false :=
  fe_all (fun n s => (s.slot n).phase.live = false) _ _ s (fun n s => startNormal_live n .host false _)
    (fun n m s h => by
      have hq : ((leaveQueue m s).slot n).phase.live = false := (leaveQueue_actsOn m s).takesDown.live n h
      exact (startNormal_actsOn m .host false _).takesDown.live n hq) n (List.mem_finRange n)

theorem fatalDown_requests (s : State) : (fatalDown s).requests = [] := by
  refine List.eq_nil_iff_forall_not_mem.2 fun q hq => ?_
  have h := fe_all (fun n t => ∀ q ∈ t.requests, q.slot ≠ n) (List.finRange 64)
    (fun n s => startNormal n .host false (leaveQueue n s)) s (fun n s q hq => ?_) (fun n m s h q hq => ?_)
    q.slot (List.mem_finRange _)
  · exact h q hq rfl
  all_goals
    rw [startNormal_frame, leaveQueue_frame] at hq
    obtain ⟨hq, hne⟩ := List.mem_filter.1 hq
  · simpa using hne
  · exact h q hq

theorem startNormal_down {n : SlotId} (c : Cause) (b : Bool) {s : State} (h : (s.slot n).phase.live = false) :
    startNormal n c b s = s := if_neg (by simp [h])

theorem leaveQueue_slots {n : SlotId} {s : State} (h : (s.slot n).phase ≠ .powerWait) :
    (leaveQueue n s).slots = s.slots := by rw [leaveQueue_not_waiting h]

/-- A powered slot is still powered when its deactivation has only begun. -/
theorem startNormal_stays_powered {n : SlotId} (c : Cause) (b : Bool) {s : State}
    (h : (s.slot n).phase.powered = true) : ((startNormal n c b s).slot n).phase.powered = true := by
  cases hl : (s.slot n).phase.live with
  | true => rw [(startNormal_self n c b s hl).1]; rfl
  | false => rw [startNormal_down c b hl]; exact h

theorem downPass_powered {n : SlotId} {s : State} (h : (s.slot n).phase.powered = true) (m : SlotId) :
    ((startNormal m .host false (leaveQueue m s)).slot n).phase.powered = true := by
  by_cases e : n = m
  · subst e
    have hw : (s.slot n).phase ≠ .powerWait := fun e => by rw [e] at h; exact absurd h (by decide)
    exact startNormal_stays_powered _ _ (by rw [State.slot, leaveQueue_slots hw]; exact h)
  · rw [startNormal_other _ _ _ _ _ e, leaveQueue_other _ _ _ e]; exact h

theorem fatalDown_powered {n : SlotId} {s : State} (h : (s.slot n).phase.powered = true) :
    ((fatalDown s).slot n).phase.powered = true :=
  fe_inv (fun t => (t.slot n).phase.powered = true) _ _ s h fun m _ h => downPass_powered h m

/-- With every slot OFF no slot has anything to do. -/
theorem downPass_off {s : State} (h : ∀ n, (s.slot n).phase = .off) (m : SlotId) :
    (startNormal m .host false (leaveQueue m s)).slots = s.slots := by
  have hq : (leaveQueue m s).slots = s.slots := leaveQueue_slots (by rw [h]; decide)
  rw [startNormal_down _ _ (by rw [State.slot, hq]; exact congrArg SlotPhase.live (h m)), hq]

theorem fatalDown_off {s : State} (h : ∀ n, (s.slot n).phase = .off) : (fatalDown s).slots = s.slots :=
  fe_inv (fun t => t.slots = s.slots) _ _ s rfl fun m t ht =>
    (downPass_off (fun n => by rw [State.slot, ht]; exact h n) m).trans ht

/-! ## The end of the window (R441 step 5) -/

theorem not_allDown_of_powered {s : State} {n : SlotId} (h : (s.slot n).phase.powered = true) : s.allDown = false := by
  by_contra hd
  have := (slots_all_iff _ _).1 (Bool.not_eq_false _ ▸ hd : s.allDown = true) n
  simp [h] at this

/-- While a slot is powered the window stays open. -/
theorem fatalProgress_powered {s : State} {n : SlotId} (h : (s.slot n).phase.powered = true) : fatalProgress s = s :=
  if_neg (by simp [State.fatalDrained, not_allDown_of_powered h])

theorem fatalDrained_off {s : State} (h : ∀ n, (s.slot n).phase = .off) (hj : s.bank.journal = []) :
    s.fatalDrained = true := by
  have hd : s.allDown = true := (slots_all_iff _ _).2 fun n => by rw [h]; rfl
  simp [State.fatalDrained, hd, hj]

/-! ## What the reset that follows keeps (R441, R442, R480) -/

/-- The newest standby-log entry is still there when a latched detection has been handled. -/
theorem handleTamper_keeps_last {s : State} {e : LogEntry} (h : s.standby.log.getLast? = some e) :
    e ∈ (handleTamper s).standby.log := by
  unfold handleTamper; split
  · exact List.mem_of_getLast? h
  · dsimp only
    split
    · rw [State.offBooks_standby (tamperWipe_offBooks _)]
      exact logStandby_keeps_last _ _ _ _ h
    · exact logStandby_keeps_last _ _ _ _ h

theorem mainReset_keeps_last (src : ResetSource) (board : Board) {s : State} {e : LogEntry}
    (h : s.standby.log.getLast? = some e) : e ∈ (mainReset src board s).standby.log := by
  rw [(mainReset_lasts src board s).log]
  exact handleTamper_keeps_last (s := wiped src board s) h

@[simp] theorem handleTamper_faults (s : State) : (handleTamper s).faults = s.faults := by
  unfold handleTamper; split
  · rfl
  · dsimp only
    split
    · exact (congrArg State.faults (tamperWipe_offBooks _) :)
    · simp

@[simp] theorem priorReset_faults (s : State) : (priorReset s).faults = s.faults := by
  unfold priorReset; split <;> rfl

@[simp] theorem reportSupply_faults (board : Board) (s : State) : (reportSupply board s).faults = s.faults := by
  unfold reportSupply; split <;> simp

@[simp] theorem restoreCoreBist_faults (s : State) : (restoreCoreBist s).faults = s.faults := by
  unfold restoreCoreBist; split
  · rfl
  · exact fireIrq_faults ..

/-- No fatal window is open after a main-side reset. -/
theorem mainReset_fatalWindow (src : ResetSource) (board : Board) (s : State) :
    (mainReset src board s).faults.fatalWindow = none := by
  rw [mainReset_eq, restoreCoreBist_faults, selectBank_frame]
  simp only [reportSupply_faults, priorReset_faults, slotsAtStart, handleTamper_faults]
  rfl

/-! ## The first error opens the window (R441) -/

theorem latchAt_errFirst (code : W16) (k i : Nat) (o : Option SlotId) (j : Option JobId) (e : Bool) {s : State}
    (hb : bit s.regs.errFirst 31 = false) (hw : s.faults.fatalWindow = none) :
    (latchAt code k i o j e s).regs.errFirst = BitVec.ofNat 32 (code.toNat + 2 ^ 31) := by
  simp only [latchAt, hb, hw, Option.isSome_none, Bool.false_and, Bool.false_eq_true, if_false]
  rw [raise_regs, fireIrq_frame]

/-- The state in which the window opens: the error latched and logged (R436, R441). -/
def fatalNoted (code : W16) (s : State) : State :=
  { logStandby code 0 0 0 (latchAt code 0 0 none none false s) with faults.fatalWindow := some code }

theorem openFatal_first (code : W16) {s : State} (h : s.faults.fatalWindow = none) :
    openFatal code 0 0 s = fatalProgress (fatalDown (fatalNoted code s)) := by
  simp only [openFatal, h]
  rfl

theorem fatalNoted_slots (code : W16) (s : State) : (fatalNoted code s).slots = s.slots := by simp [fatalNoted]

theorem openFatal_down {code : W16} {s : State} {n : SlotId} (h : s.faults.fatalWindow = none)
    (hn : (s.slot n).phase.live = true) : openFatal code 0 0 s = fatalDown (fatalNoted code s) := by
  rw [openFatal_first code h]
  refine fatalProgress_powered (n := n) (fatalDown_powered ?_)
  rw [State.slot, fatalNoted_slots]
  exact live_powered hn

/-- The open window: every slot goes down, no job is lost yet. -/
theorem openFatal_opens {code : W16} {s : State} {n : SlotId} (h : s.faults.fatalWindow = none)
    (hn : (s.slot n).phase.live = true) :
    (openFatal code 0 0 s).faults.fatalWindow = some code ∧
    (∀ m, ((openFatal code 0 0 s).slot m).phase.live = false) ∧ (openFatal code 0 0 s).jobs = s.jobs ∧
    (openFatal code 0 0 s).closing = s.closing ∧ (openFatal code 0 0 s).requests = [] ∧
    (∃ e ∈ (openFatal code 0 0 s).standby.log, e.code = code) ∧
    (bit s.regs.errFirst 31 = false →
      (openFatal code 0 0 s).regs.errFirst = BitVec.ofNat 32 (code.toNat + 2 ^ 31)) := by
  rw [openFatal_down h hn]
  have hd := fatalDown_onTheWayDown (fatalNoted code s)
  refine ⟨by rw [hd.faults]; rfl, fatalDown_live _, ?_, ?_, fatalDown_requests _, ?_, fun hb => ?_⟩
  · rw [hd.jobs]; simp [fatalNoted]
  · rw [hd.closing]; simp [fatalNoted]
  · rw [hd.standby]; exact logStandby_has _ _ _ _ _
  · rw [hd.regs]
    exact latchAt_errFirst _ _ _ _ _ _ hb h

/-- A reset at the end of the window starts over; what was logged last stays. -/
theorem resetBy_window (s : State) : (resetBy .fatalWindow s).regs.time = 0 ∧
    (resetBy .fatalWindow s).regs.enable = false ∧ (resetBy .fatalWindow s).faults.fatalWindow = none ∧
    (resetBy .fatalWindow s).jobs = [] ∧
    ∀ e, s.standby.log.getLast? = some e → e ∈ (resetBy .fatalWindow s).standby.log := by
  have h := mainReset_startsOver .fatalWindow s.power.board s
  exact ⟨h.time, congrArg Gates.enable h.gates, mainReset_fatalWindow _ _ _, h.jobs, fun e he =>
    mainReset_keeps_last _ _ he⟩

/-- With nothing powered and nothing to make durable the window ends as it opens. -/
theorem openFatal_idle (code : W16) {s : State} (h : s.faults.fatalWindow = none)
    (hoff : ∀ n, (s.slot n).phase = .off) (hj : s.bank.journal = []) :
    openFatal code 0 0 s = resetBy .fatalWindow (fatalDown (fatalNoted code s)) := by
  have hn : ∀ n, ((fatalNoted code s).slot n).phase = .off := fun n => by
    rw [State.slot, fatalNoted_slots]; exact hoff n
  have hd := fatalDown_onTheWayDown (fatalNoted code s)
  rw [openFatal_first code h]
  refine if_pos ?_
  rw [hd.faults, fatalDrained_off (fun n => by rw [State.slot, fatalDown_off hn]; exact hn n)
    (by rw [hd.bank]; simpa [fatalNoted] using hj)]
  rfl

theorem openFatal_second (code : W16) {s : State} (h : s.faults.fatalWindow.isSome = true) :
    openFatal code 0 0 s = resetBy .fatalWindow (logStandby 0x0F09 0 0 0 s) := by
  obtain ⟨c, hc⟩ := Option.isSome_iff_exists.1 h
  simp only [openFatal, hc]

/-! ## The instructions -/

section Fatal
variable {s : State} (hu : s.mainUp = true)
include hu

theorem exec_fatalError {code : W16} (hc : fatalCodes.contains code = true) :
    exec (.fatalError code) s = .next (openFatal code 0 0 s) :=
  show execFatalError code s = _ from State.gate_open (by rw [hu, hc]; rfl)

theorem exec_deviceWatchdog : exec .deviceWatchdog s = .next (openFatal 0x0F08 0 0 s) :=
  show execDeviceWatchdog s = _ from State.gate_open hu

theorem exec_fatalNested {code : W16} (hc : fatalCodes.contains code = true)
    (hw : s.faults.fatalWindow.isSome = true) : exec (.fatalNested code) s = .next (openFatal code 0 0 s) :=
  show execFatalNested code s = _ from State.gate_open (by rw [hu, hc, hw]; rfl)

theorem exec_fatalWindowTimeout (hw : s.faults.fatalWindow.isSome = true) :
    exec .fatalWindowTimeout s = .next (resetBy .fatalWindow s) :=
  show execFatalWindowTimeout s = _ from State.gate_open (by rw [hu, hw]; rfl)

end Fatal

/-! ## Refused accesses (R353, R415, R416) -/

theorem exec_accessViolation {v : Violation} {s : State} (hu : s.mainUp = true) (hm : masterUnitOk v = true)
    (ha : v.access.toNat < 3) : exec (.accessViolation v) s = .next (refusalJob v (refusalError v
      (recordViolation v.master.toNat v.access.toNat v.region.toNat v.addr (UnitRef.slotOf v.unit) s))) :=
  show execAccessViolation v s = _ from State.gate_open (by simp [hu, hm, ha])

theorem recordViolation_first {m a r : Nat} {addr : W64} {o : Option SlotId} {s : State}
    (h : bit s.regs.violInfo 31 = false) : recordViolation m a r addr o s =
      raise 0x0B05 o (m + r * 2 ^ 8 + s.regs.epoch.toNat * 2 ^ 16)
        (fireIrq 9 { s with regs.violAddr := addr, regs.violInfo := violInfoOf s m a r }) := by
  simp only [recordViolation, h, Bool.false_eq_true, if_false]
  rw [fireIrq_frame]

theorem violInfoOf_toNat (s : State) {m a r : Nat} (hm : m < 16) (ha : a < 3) (hr : r < 256) :
    (violInfoOf s m a r).toNat = m + a * 16 + r * 256 + s.regs.epoch.toNat % 256 * 65536 + 2147483648 := by
  simp only [violInfoOf, BitVec.toNat_ofNat]
  omega

/-- The record of a first refused access (R353). -/
theorem violInfoOf_reads (s : State) {m a r : Nat} (hm : m < 16) (ha : a < 3) (hr : r < 256) :
    bit (violInfoOf s m a r) 31 = true ∧ field (violInfoOf s m a r) 0 4 = m ∧
    field (violInfoOf s m a r) 8 8 = r := by
  have h := violInfoOf_toNat s hm ha hr
  refine ⟨?_, ?_, ?_⟩
  · rw [bit, BitVec.getLsbD, Nat.testBit_eq_decide_div_mod_eq, h]
    simp only [decide_eq_true_eq]
    omega
  all_goals
    simp only [field, h, Nat.shiftRight_eq_div_pow]
    omega

/-- Only a request of a Roustabout serves a job (R416). -/
theorem refusalJob_other {v : Violation} (h : v.master ≠ 4) (s : State) : refusalJob v s = s := by
  unfold refusalJob; split
  · rw [beq_eq_false_iff_ne.2 h]; rfl
  · rfl

/-- A refusal of the host, of Sideshow, of DEBUG or of the self-test latches nothing and ends no job. -/
theorem refusal_none {v : Violation} (h : 9 < v.master.toNat) (s : State) : refusalJob v (refusalError v s) = s := by
  rw [refusalError, if_pos h, refusalJob_other (fun e => by rw [e] at h; exact absurd h (by decide))]

/-- Ferris wheel and Tightrope are the masters whose unit is the device (R415). -/
theorem master_of_device {v : Violation} (hm : masterUnitOk v = true) (hd : v.unit = .device) :
    8 ≤ v.master.toNat := by
  by_contra hlt
  unfold masterUnitOk at hm
  rw [hd] at hm
  have hc : v.master.toNat ∈ ([0, 1, 2, 3, 4, 5, 6, 7] : List Nat) := by simp; omega
  simp only [List.mem_cons, List.not_mem_nil, or_false] at hc
  rcases hc with h | h | h | h | h | h | h | h <;> rw [h] at hm <;> exact absurd hm (by decide)

theorem refusal_device {v : Violation} (hm : masterUnitOk v = true) (hd : v.unit = .device)
    (h9 : v.master.toNat ≤ 9) (s : State) :
    refusalJob v (refusalError v s) = latchError 0x0B10 .device none false s := by
  have h8 := master_of_device hm hd
  rw [refusalJob_other (fun e => by rw [e] at h8; exact absurd h8 (by decide)), refusalError, if_neg (by omega), hd]

/-! ## A fault of a Roustabout leaves the jobs -/

theorem roust_unitFails_jobs (r : Fin 8) (code : W16) (s : State) :
    (unitFails (.roust r) code s).jobs = s.jobs ∧ (unitFails (.roust r) code s).closing = s.closing := by
  unfold unitFails
  split
  · simp
  · split
    · simp [escalate, fenceFully, fenceUnit, noteFence]
    · simp [startRecovery, noteRecovery]

theorem refusal_roust {v : Violation} {id : JobId} {r : Fin 8} (hd : v.unit = .roust r) (h4 : v.master = 4)
    (hr : v.region = 0x0C) (hj : v.job = some id) (s : State) :
    refusalJob v (refusalError v s) = failJob id 0x0A02 (unitFails (.roust r) 0x0B10 s) := by
  rw [refusalError, if_neg (by rw [h4]; decide), hd]
  simp [refusalJob, hj, h4, hr]

/-! ## The obligation -/

/-- Settles O56: the window through `openFatal_opens` and `openFatal_idle`, its end through `resetBy_window`, and each
refused access by what its master latches. -/
theorem fatalErrorsAndViolationsAct : Obligations.FatalErrorsAndViolationsAct := by
  refine ⟨fun code s hu hc => ⟨fun n hw hn => ?_, fun hw hoff hj => ?_, fun hw => ?_⟩, fun v s hu hm ha hb =>
    ⟨fun h9 => ?_, fun hd h9 he hw => ?_, fun id j r hd h4 hr hj hf => ?_⟩⟩
  · exact ⟨⟨_, exec_fatalError hu hc, openFatal_opens hw hn⟩, _, exec_deviceWatchdog hu, openFatal_opens hw hn⟩
  · obtain ⟨ht, he, hf, -, hlog⟩ := resetBy_window (fatalDown (fatalNoted code s))
    obtain ⟨e, hl, hcode⟩ := logStandby_last code 0 0 0 (latchAt code 0 0 none none false s)
    refine ⟨_, exec_fatalError hu hc, ?_⟩
    rw [openFatal_idle code hw hoff hj]
    exact ⟨ht, he, hf, e, hlog e (by rw [(fatalDown_onTheWayDown _).standby]; exact hl), hcode⟩
  · obtain ⟨ht, -, hf, hjobs, hlog⟩ := resetBy_window (logStandby 0x0F09 0 0 0 s)
    obtain ⟨ht', -, hf', hjobs', -⟩ := resetBy_window s
    obtain ⟨e, hl, hcode⟩ := logStandby_last 0x0F09 0 0 0 s
    refine ⟨⟨_, exec_fatalNested hu hc hw, ?_⟩, _, exec_fatalWindowTimeout hu hw, ht', hf', hjobs'⟩
    rw [openFatal_second code hw]
    exact ⟨ht, hf, hjobs, e, hlog e hl, hcode⟩
  · refine ⟨_, exec_accessViolation hu hm ha, ?_⟩
    obtain ⟨h31, hmaster, hregion⟩ := violInfoOf_reads s v.master.isLt ha v.region.isLt
    rw [refusal_none h9]
    refine ⟨?_, ?_, ?_, ?_, ?_, recordViolation_event ..⟩
    all_goals rw [recordViolation_first hb]
    · rw [fireIrq_frame]; rfl
    · rw [raise_regs, fireIrq_frame]; exact h31
    · rw [raise_regs, fireIrq_frame]; exact hmaster
    · rw [raise_regs, fireIrq_frame]; exact hregion
    · exact fireIrq_bit _ _ (by decide)
  · refine ⟨_, exec_accessViolation hu hm ha, ?_⟩
    rw [refusal_device hm hd h9]
    have hk := recordViolation_frame v.master.toNat v.access.toNat v.region.toNat v.addr (UnitRef.slotOf v.unit) s
    refine ⟨latchError_errFirst _ _ _ ?_ ?_, ?_, ?_⟩
    · rw [hk]; exact he
    · rw [hk]; exact hw
    · rw [latchError_slots, hk]
    · rw [latchError_jobs, hk]
  · refine ⟨_, exec_accessViolation hu hm ha, ?_⟩
    rw [refusal_roust hd h4 hr hj]
    generalize hs : recordViolation _ _ _ _ _ s = u
    have hk := recordViolation_frame v.master.toNat v.access.toNat v.region.toNat v.addr (UnitRef.slotOf v.unit) s
    obtain ⟨hjobs, hclosing⟩ := roust_unitFails_jobs r 0x0B10 u
    have hf' : (unitFails (.roust r) 0x0B10 u).findJob id = some j := by
      rw [State.findJob, hjobs, ← hs, hk]; exact hf
    exact jobEnds_same (by rw [hclosing, ← hs, hk]) rfl rfl (endJobAfter_jobEnds 0 _ _ hf' (.inl (by decide)))

end Sys2Proof.Machine

namespace Sys2Proof.Machine
open Sys2Proof

/-! # Sideshow: reads, judged writes, tags (R360, R365 to R376) -/

/-! ## Bytes and bits of what Sideshow shows -/

@[simp] theorem leBytes_length (n v : Nat) : (leBytes n v).length = n := by
  induction n generalizing v with
  | zero => rfl
  | succ n ih => simp [leBytes, ih]

theorem byteAt_leBytes {n k : Nat} (h : k < n) (v : Nat) :
    byteAt (leBytes n v) k = BitVec.ofNat 8 (v / 2 ^ (8 * k)) := by
  induction n generalizing v k with
  | zero => omega
  | succ n ih =>
    cases k with
    | zero => simp [byteAt, leBytes]
    | succ k =>
      have hd : v / 256 / 2 ^ (8 * k) = v / 2 ^ (8 * (k + 1)) := by
        rw [Nat.div_div_eq_div_mul, Nat.mul_add, pow_add, mul_comm]; rfl
      rw [← hd]
      exact ih (by omega) (v / 256)

/-- The bits of a mask one place up. -/
theorem mask_succ (n : Nat) (b : Fin (n + 1) → Bool) :
    mask (n + 1) b = (b 0).toNat + 2 * mask n (fun i => b i.succ) := by
  have hshift : ∀ i : Fin n, bitAt (b i.succ) (i.val + 1) = 2 * bitAt (b i.succ) i.val := fun i => by
    rw [bitAt_eq, bitAt_eq, pow_succ]; ring
  simp only [mask, List.finRange_succ, List.map_cons, List.map_map, List.sum_cons]
  congr 1
  · simp [bitAt_eq]
  · rw [← List.sum_map_mul_left]
    congr 1
    exact List.map_congr_left fun i _ => hshift i

theorem mask_testBit (n : Nat) (b : Fin n → Bool) (k : Fin n) : (mask n b).testBit k.val = b k := by
  induction n with
  | zero => exact k.elim0
  | succ n ih =>
    rw [mask_succ]
    cases k using Fin.cases with
    | zero => cases h : b 0 <;> simp [Nat.testBit_zero]
    | succ k =>
      have hh : ((b 0).toNat + 2 * mask n (fun i => b i.succ)) / 2 = mask n (fun i => b i.succ) := by
        have := (b 0).toNat_le
        omega
      rw [Fin.val_succ, Nat.testBit_succ, hh]
      exact ih _ k

/-- PRESENCE holds one bit for each slot's filter (R370). -/
theorem presence_bit (s : State) (n : SlotId) :
    bit (byteAt (leBytes 8 s.presentBits.toNat) (n.val / 8)) (n.val % 8) = (s.slot n).present := by
  have hn : n.val % 8 + 8 * (n.val / 8) = n.val := by omega
  rw [byteAt_leBytes (by omega), bit, BitVec.getLsbD_ofNat, Nat.testBit_div_two_pow, hn, State.presentBits,
    BitVec.toNat_ofNat, Nat.testBit_mod_two_pow, mask_testBit 64 (fun n => (s.slot n).present) n]
  simp
  omega

/-! ## Reads -/

theorem State.sideRead_open {s : State} (h : s.power.vstby = true) (d : List Byte) (f : State → State) :
    s.sideRead d f = .next (f { s with out := s.out ++ [.smbus (BitVec.ofNat 8 d.length :: d)] }) :=
  State.gate_open h

theorem mainCode_iff (s : State) :
    (s.mainCode = 2 ↔ s.power.main = .up) ∧ (s.mainCode = 0 ↔ s.power.main = .off) := by
  unfold State.mainCode
  cases s.power.main <;> simp

/-- FLAGS of STATUS (R371). -/
theorem sideFlags_bits (s : State) : let f : Byte := BitVec.ofNat 8 s.sideFlags
    bit f 0 = decide (s.side.result = .pending) ∧ bit f 1 = s.side.locked ∧ bit f 2 = s.regs.mboxToPending ∧
    bit f 3 = s.regs.mboxFromFull ∧ bit f 4 = decide (s.power.main ≠ .up) ∧ field f 5 3 = 0 := by
  have h1 : (s.side.result == .pending) = decide (s.side.result = .pending) := rfl
  have h2 : (s.power.main != .up) = decide (s.power.main ≠ .up) := by cases s.power.main <;> rfl
  simp only [State.sideFlags, h1, h2]
  generalize decide (s.side.result = .pending) = a
  generalize s.side.locked = b
  generalize s.regs.mboxToPending = c
  generalize s.regs.mboxFromFull = d
  generalize decide (s.power.main ≠ .up) = e
  revert a b c d e
  decide

/-- The 48 bytes of HEALTH (R373). -/
def State.health (s : State) : List Byte :=
  [0x01, s.mainCode] ++ padTo 40 s.side.snapshot ++ leBytes 2 s.tamperLevel ++ [0, 0, 0, 0]

theorem padTo_full {n : Nat} {bs : List Byte} (h : bs.length = n) : padTo n bs = bs := by
  simp [padTo, ← h]

theorem health_length (s : State) : s.health.length = 48 := by
  simp [State.health, padTo_length]

theorem health_snapshot {s : State} (h : s.side.snapshot.length = 40) :
    (s.health.drop 2).take 40 = s.side.snapshot := by
  simp [State.health, padTo_full h, List.take_left' h]

theorem health_level (s : State) : s.health.drop 42 = leBytes 2 s.tamperLevel ++ [0, 0, 0, 0] := by
  have hl : ([0x01, s.mainCode] ++ padTo 40 s.side.snapshot).length = 42 := by simp [padTo_length]
  rw [State.health, List.append_assoc, List.drop_left' hl]

theorem leBytes_level {l : Nat} (h : l < 256) : leBytes 2 l = [BitVec.ofNat 8 l, 0] := by
  simp [leBytes, Nat.div_eq_of_lt h]

/-- The four entries of LOG_READ (R374). -/
def State.logPage (s : State) : List Byte := (List.range 4).flatMap (fun i => s.logAt (s.side.logOffset + i))

theorem logAt_length (s : State) (i : Nat) : (s.logAt i).length = 12 := by
  unfold State.logAt
  split
  · simp [logBytes]
  · rfl

theorem logPage_eq (s : State) : s.logPage = s.logAt s.side.logOffset ++ (s.logAt (s.side.logOffset + 1) ++
    (s.logAt (s.side.logOffset + 2) ++ s.logAt (s.side.logOffset + 3))) := by
  simp [State.logPage, List.range_succ]

theorem logPage_length (s : State) : s.logPage.length = 48 := by
  simp [logPage_eq, logAt_length]

theorem logPage_entry (s : State) {i : Nat} (h : i < 4) :
    (s.logPage.drop (12 * i)).take 12 = s.logAt (s.side.logOffset + i) := by
  have hlen := logAt_length s
  rw [logPage_eq]
  obtain rfl | rfl | rfl | rfl : i = 0 ∨ i = 1 ∨ i = 2 ∨ i = 3 := by omega
  all_goals simp [List.drop_append, List.drop_of_length_le, hlen]

theorem logAt_some {s : State} {i : Nat} {e : LogEntry} (h : s.standby.log[i % 16]? = some e) :
    s.logAt i = logBytes e := by simp only [State.logAt, h]

theorem logAt_none {s : State} {i : Nat} (h : s.standby.log[i % 16]? = none) :
    s.logAt i = List.replicate 12 0 := by simp only [State.logAt, h]

/-! ## The bridge -/

theorem readReg_errFirst (s : State) : s.readReg 0x08C = s.regs.errFirst := by
  unfold State.readReg
  rfl

theorem healthBytes_eq (seq temp : W16) (s : State) : healthBytes seq temp s =
    leBytes 2 seq.toNat ++ leBytes 4 (s.readReg 0x008).toNat ++ leBytes 4 (s.readReg 0x010).toNat ++
      leBytes 4 s.regs.errFirst.toNat ++ leBytes 4 (s.readReg 0x090).toNat ++ leBytes 4 (s.readReg 0x094).toNat ++
      leBytes 8 s.fencedBits.toNat ++ leBytes 4 (s.readReg 0x0B0).toNat ++ leBytes 4 (s.readReg 0x084).toNat ++
      leBytes 2 temp.toNat := by
  rw [← readReg_errFirst, healthBytes]

/-- The places of the snapshot's fields, whatever the registers hold. -/
theorem snapshot_fields {seq temp : W16} {a b x c d e f : W32} {y : W64} {t : List Byte}
    (h : t = leBytes 2 seq.toNat ++ leBytes 4 a.toNat ++ leBytes 4 b.toNat ++ leBytes 4 x.toNat ++
      leBytes 4 c.toNat ++ leBytes 4 d.toNat ++ leBytes 8 y.toNat ++ leBytes 4 e.toNat ++ leBytes 4 f.toNat ++
      leBytes 2 temp.toNat) :
    t.length = 40 ∧ t.take 2 = leBytes 2 seq.toNat ∧ (t.drop 10).take 4 = leBytes 4 x.toNat ∧
    t.drop 38 = leBytes 2 temp.toNat := by
  subst h
  refine ⟨?_, ?_, ?_, ?_⟩ <;> simp [List.drop_append, List.drop_of_length_le]

theorem exec_healthSnapshot (temp : W16) {s : State} (hu : s.mainUp = true) : exec (.healthSnapshot temp) s =
    .next { s with side.snapSeq := s.side.snapSeq + 1,
                   side.snapshot := healthBytes (s.side.snapSeq + 1) temp s } :=
  show execHealthSnapshot temp s = _ from State.gate_open hu

theorem exec_sideshowAnswer {r : SbResult} {s : State} (ha : s.side.answer = some r) :
    exec .sideshowAnswer s = s.gate (s.power.vstby && s.side.result == .pending && s.side.answerBarriers == 0)
      (fun s => { s with side.result := r, side.answer := none }) := by
  simp only [exec, execSideshowAnswer, ha]

/-! ## Transactions that fit no command (R366) -/

theorem badCommand_pending {s : State} (h : s.side.result = .pending) (code : Byte) :
    badCommand code s = { s with out := s.out ++ [.smbusNack] } := if_pos (by simp [h])

theorem badCommand_idle {s : State} (h : s.side.result ≠ .pending) (code : Byte) : badCommand code s =
    { s with side.cmd := code, side.result := .badCommand, out := s.out ++ [.smbusNack] } := if_neg (by simpa using h)

theorem exec_undefinedCode {code : Byte} {s : State} (hv : s.power.vstby = true) (hr : code ∉ readCodes)
    (hw : code ∉ writeCodes) : exec (.busStartStop (.undefinedCode code)) s = .next (badCommand code s) :=
  show execBusStartStop (.undefinedCode code) s = _ from State.gate_open (by simp [hv, hr, hw])

theorem exec_writeOfRead {code : Byte} {s : State} (hv : s.power.vstby = true) (hr : code ∈ readCodes) :
    exec (.busStartStop (.writeOfRead code)) s = .next (badCommand code s) :=
  show execBusStartStop (.writeOfRead code) s = _ from State.gate_open (by simp [hv, hr])

theorem exec_readOfWrite {code : Byte} {s : State} (hv : s.power.vstby = true) (hw : code ∈ writeCodes)
    (hp : s.side.result ≠ .pending) : exec (.busStartStop (.readOfWrite code)) s =
      .next { s with out := s.out ++ [.smbus [0]] } := by
  have h : exec (.busStartStop (.readOfWrite code)) s =
      .next (if s.side.result == .pending then emit .smbusNack s else emit (.smbus [0]) s) :=
    State.gate_open (f := fun s => if s.side.result == .pending then emit .smbusNack s else emit (.smbus [0]) s)
      (by simp [hv, hw])
  rw [h, if_neg (by simpa using hp)]
  rfl

/-! ## Write commands (R366, R372, R375, R376) -/

/-- How a write command runs: judged first, then the main side's work where it has some, then the tag where it needs
one. -/
def RunsAsWrite (code : Byte) (instr : SbWrite → Instr) (lo hi : Nat) (w : SbWrite) : Prop :=
  ∃ f : State → State, (∀ s, exec (instr w) s = s.sideWrite code lo hi w f) ∧
    (code ≠ 0x05 → ∃ g, f = mainCommand code g) ∧ (0x20 ≤ code.toNat → ∃ g, f = privileged code w.data g)

theorem privileged_main (code : Byte) (d : List Byte) (f : List Byte → State → State) :
    ∃ g, privileged code d f = mainCommand code g := by
  unfold privileged
  exact ⟨_, rfl⟩

/-- The write commands with their codes and byte counts (R370). -/
theorem writeCommands_run (w : SbWrite) (e : Byte × (SbWrite → Instr) × Nat × Nat)
    (he : e ∈ ([(0x05, .logSel, 1, 1), (0x08, .mboxWrite, 4, 4), (0x20, .slotOff, 16, 16), (0x21, .mainReset, 9, 9),
      (0x22, .bistStart, 9, 9), (0x30, .fwOp, 9, 9), (0x31, .fwData, 13, 244)] : List _)) :
    RunsAsWrite e.1 e.2.1 e.2.2.1 e.2.2.2 w := by
  revert e
  simp only [List.forall_mem_cons, List.not_mem_nil, false_implies, implies_true, and_true]
  have tagged : ∀ {code instr lo hi g}, (∀ s, exec (instr w) s = s.sideWrite code lo hi w (privileged code w.data g)) →
      RunsAsWrite code instr lo hi w :=
    fun h => ⟨_, h, fun _ => privileged_main _ _ _, fun _ => ⟨_, rfl⟩⟩
  exact ⟨⟨_, fun _ => rfl, fun h => absurd rfl h, fun h => absurd h (by decide)⟩,
    ⟨_, fun _ => rfl, fun _ => ⟨_, rfl⟩, fun h => absurd h (by decide)⟩,
    tagged (g := slotsOff) fun _ => rfl,
    tagged (g := fun d s => resetBy (.sideshow (byteAt d 0)) (logSource (.sideshow (byteAt d 0)) s)) fun _ => rfl,
    tagged (g := sideBist) fun _ => rfl, tagged (g := sideFw) fun _ => rfl, tagged (g := sideFwData) fun _ => rfl⟩

section SideWrite
variable {code : Byte} {lo hi : Nat} {w : SbWrite} {f : State → State} {s : State} (hv : s.power.vstby = true)
include hv

theorem sideWrite_pending (hp : s.side.result = .pending) :
    s.sideWrite code lo hi w f = .next { s with out := s.out ++ [.smbusNack] } := by
  rw [State.sideWrite, State.gate_open hv, if_pos (by simp [hp])]
  rfl

variable (hp : s.side.result ≠ .pending)
include hp

theorem sideWrite_badLength (hl : w.data.length < lo ∨ hi < w.data.length) : s.sideWrite code lo hi w f =
    .next { s with out := s.out ++ [.smbusNack], side.cmd := code, side.result := .badLength } := by
  rw [State.sideWrite, State.gate_open hv, if_neg (by simpa using hp), if_pos (by simpa using hl)]
  rfl

variable (hlo : lo ≤ w.data.length) (hhi : w.data.length ≤ hi)
include hlo hhi

theorem sideWrite_pecFail (hc : w.pecOk = false) : s.sideWrite code lo hi w f =
    .next { s with out := s.out ++ [.smbusNack], side.cmd := code, side.result := .pecFail } := by
  rw [State.sideWrite, State.gate_open hv, if_neg (by simpa using hp), if_neg (by simp; omega), if_pos (by simp [hc])]
  rfl

theorem sideWrite_runs (hc : w.pecOk = true) : s.sideWrite code lo hi w f = .next (f s) := by
  rw [State.sideWrite, State.gate_open hv, if_neg (by simpa using hp), if_neg (by simp; omega), if_neg (by simp [hc])]

end SideWrite

/-- A command the main side works on, with its answer still to come (R372). -/
def State.sideAsked (s : State) (code : Byte) : State :=
  { s with side.cmd := code, side.result := .pending, side.answer := none, side.answerBarriers := 0 }

theorem mainCommand_up {s : State} (h : s.bridgeUp = true) (code : Byte) (f : State → State) :
    mainCommand code f s = f (s.sideAsked code) := if_pos h

theorem mainCommand_down {s : State} (h : s.bridgeUp = false) (code : Byte) (f : State → State) :
    mainCommand code f s = { s with side.cmd := code, side.result := .mainUnavailable } := if_neg (by simp [h])

section Privileged
variable {code : Byte} {d : List Byte} {f : List Byte → State → State} {s : State} (hu : s.bridgeUp = true)
include hu

theorem privileged_locked (hl : s.side.locked = true) :
    privileged code d f s = answerSide .lockedOut (s.sideAsked code) :=
  (mainCommand_up hu code _).trans (if_pos hl)

variable (hl : s.side.locked = false)
include hl

theorem privileged_noKey (hk : s.noTagKey = true) :
    privileged code d f s = answerSide .noKey (s.sideAsked code) :=
  (mainCommand_up hu code _).trans ((if_neg (ne_true_of_eq_false hl)).trans (if_pos hk))

theorem privileged_wrongTag (hk : s.noTagKey = false) (ht : d.drop (d.length - 8) ≠ s.tagOf code d) :
    privileged code d f s =
      tagFailed code { (s.sideAsked code).drew 16 with side.nonce := s.random 16 } := by
  have hok : (8 ≤ d.length && d.drop (d.length - 8) == (s.sideAsked code).tagOf code d) = false := by
    have : (d.drop (d.length - 8) == (s.sideAsked code).tagOf code d) = false := beq_eq_false_iff_ne.2 ht
    rw [this, Bool.and_false]
  refine (mainCommand_up hu code _).trans ((if_neg (ne_true_of_eq_false hl)).trans
    ((if_neg (ne_true_of_eq_false hk)).trans (if_pos ?_)))
  rw [hok]; rfl

end Privileged

/-- A wrong tag is counted and reported, the fourth in a row starts the lockout (R376). -/
theorem tagFailed_counts (code : Byte) (s : State) (hl : s.side.locked = false) :
    tagFailed code s = { s with side.tagFails := s.side.tagFails + 1, side.answer := some .authFail,
                                side.answerBarriers := s.regs.barrier.length,
                                side.locked := decide (4 ≤ s.side.tagFails + 1), barker := (tagFailed code s).barker } ∧
    (∃ x ∈ (tagFailed code s).barker.queue, x.code = 0x0C01) ∧
    (4 ≤ s.side.tagFails + 1 → ∃ x ∈ (tagFailed code s).barker.queue, x.code = 0x0C02 ∧ x.arg = 10000) := by
  by_cases h : 4 ≤ s.side.tagFails + 1
  · simp only [tagFailed, if_pos h, decide_eq_true h]
    obtain ⟨x, hx, hc, -, ha⟩ := raise_mem 0x0C02 none 10000
      { raise 0x0C01 none code.toNat { s with side.tagFails := s.side.tagFails + 1 } with side.locked := true }
    exact ⟨rfl, ⟨_, List.mem_append_left _ (List.mem_append_right _ (List.mem_singleton_self _)), rfl⟩,
      fun _ => ⟨x, hx, hc, ha⟩⟩
  · simp only [tagFailed, if_neg h, decide_eq_false h]
    exact ⟨by rw [← hl]; rfl, ⟨_, List.mem_append_right _ (List.mem_singleton_self _), rfl⟩, fun h' => absurd h' h⟩

/-! ## The obligation -/

section Reads
variable {s : State} (hv : s.power.vstby = true)
include hv

theorem exec_cut (code : Byte) (known : Bool) (hk : known = true ↔ code ∈ readCodes)
    (hc : known = true ∨ code ∉ writeCodes) :
    exec (.busStartStop (if known = true then .writeOfRead code else .undefinedCode code)) s =
      .next (badCommand code s) := by
  cases known with
  | true => exact exec_writeOfRead hv (hk.1 rfl)
  | false =>
    have hr : code ∉ readCodes := fun h => absurd (hk.2 h) (by decide)
    exact exec_undefinedCode hv hr (hc.resolve_left (by decide))

theorem exec_logRead : exec .logRead s =
    .next { s with out := s.out ++ [.smbus (48 :: s.logPage)], side.logOffset := (s.side.logOffset + 4) % 16 } := by
  have h : exec .logRead s = .next
      { s with out := s.out ++ [.smbus (BitVec.ofNat 8 s.logPage.length :: s.logPage)],
               side.logOffset := (s.side.logOffset + 4) % 16 } :=
    State.sideRead_open hv s.logPage (fun s => { s with side.logOffset := (s.side.logOffset + 4) % 16 })
  rw [h, logPage_length]
  rfl

theorem exec_mboxRead_up (hb : s.bridgeUp = true) : exec .mboxRead s =
    .next { s with out := s.out ++ [.smbus (4 :: leBytes 4 s.regs.mboxTo.toNat)], regs.mboxToPending := false } :=
  (if_pos hb : execMboxRead s = _).trans (State.sideRead_open hv _ _)

theorem exec_mboxRead_down (hb : s.bridgeUp = false) : exec .mboxRead s =
    .next { s with out := s.out ++ [.smbus [4, 0, 0, 0, 0]] } :=
  (if_neg (ne_true_of_eq_false hb) : execMboxRead s = _).trans (State.sideRead_open hv _ _)

theorem exec_nonce (d : List Byte) (hd : (if s.bridgeUp then padTo 16 s.side.nonce else []) = d) : exec .nonce s =
    .next { s with out := s.out ++ [.smbus (BitVec.ofNat 8 d.length :: d)] } := by
  subst hd; exact State.sideRead_open hv _ _

theorem exec_nonce_up (hb : s.bridgeUp = true) (hn : s.side.nonce.length = 16) : exec .nonce s =
    .next { s with out := s.out ++ [.smbus (BitVec.ofNat 8 s.side.nonce.length :: s.side.nonce)] } :=
  exec_nonce hv _ (by rw [if_pos hb, padTo_full hn])

theorem exec_fwStatus (v : Nat) (h : (if s.bridgeUp then s.fwStatus.toNat else 0) = v) : exec .fwStatus s =
    .next { s with out := s.out ++ [.smbus (BitVec.ofNat 8 (leBytes 4 v).length :: leBytes 4 v)] } := by
  subst h; exact State.sideRead_open hv _ _

theorem exec_bistResult (h : s.side.bistCopy.length = 12) : exec .bistResult s =
    .next { s with out := s.out ++ [.smbus (BitVec.ofNat 8 s.side.bistCopy.length :: s.side.bistCopy)] } := by
  have he : exec .bistResult s = s.sideRead (padTo 12 s.side.bistCopy) id := rfl
  rw [he, padTo_full h, State.sideRead_open hv]
  rfl

end Reads

/-- A mailbox write fills MBOX_FROM_SB and fires its interrupt (R360). -/
def mboxFilled (w : SbWrite) (s : State) : State :=
  { s with regs.mboxFrom := BitVec.ofNat 32 (leAt w.data 0 4), regs.mboxFromFull := true,
           regs.mboxLost := s.regs.mboxLost || s.regs.mboxFromFull }

theorem exec_mboxWrite {w : SbWrite} {s : State} (hv : s.power.vstby = true) (hp : s.side.result ≠ .pending)
    (hc : w.pecOk = true) (hl : w.data.length = 4) (hb : s.bridgeUp = true) : exec (.mboxWrite w) s =
      .next (answerSide .ok (fireIrq 5 (mboxFilled w (s.sideAsked 0x08)))) :=
  (sideWrite_runs hv hp hl.ge hl.le hc).trans (congrArg Host.Outcome.next (mainCommand_up hb _ _))

theorem exec_logSel {w : SbWrite} {s : State} (hv : s.power.vstby = true) (hp : s.side.result ≠ .pending)
    (hc : w.pecOk = true) (hl : w.data.length = 1) : exec (.logSel w) s =
      .next { s with side.cmd := 0x05, side.result := .ok, side.logOffset := (byteAt w.data 0).toNat % 16 } :=
  have h : exec (.logSel w) s =
      .next (sideResult 0x05 .ok { s with side.logOffset := (byteAt w.data 0).toNat % 16 }) :=
    sideWrite_runs (f := fun s => sideResult 0x05 .ok { s with side.logOffset := (byteAt w.data 0).toNat % 16 })
      hv hp hl.ge hl.le hc
  h

theorem exec_lockoutEnd {s : State} (hu : s.mainUp = true) (hl : s.side.locked = true) :
    exec .lockoutEnd s = .next { s with side.locked := false } :=
  State.gate_open (f := fun s => { s with side.locked := false }) (by rw [hu, hl]; rfl)

theorem exec_sideshowAnswer_ends {r : SbResult} {s : State} (hv : s.power.vstby = true)
    (hp : s.side.result = .pending) (ha : s.side.answer = some r) (hb : s.side.answerBarriers = 0) :
    exec .sideshowAnswer s = .next { s with side.result := r, side.answer := none } := by
  rw [exec_sideshowAnswer ha, State.gate_open]
  simp [hv, hp, hb]

theorem exec_sideshowAnswer_held {r : SbResult} {s : State} (ha : s.side.answer = some r)
    (hb : s.side.answerBarriers ≠ 0) : exec .sideshowAnswer s = .next s := by
  rw [exec_sideshowAnswer ha, State.gate_shut]
  simp [hb]

/-- The six judgements of one write command (R366, R372, R375, R376). -/
theorem write_judged {code : Byte} {instr : SbWrite → Instr} {lo hi : Nat} {w : SbWrite}
    (h : RunsAsWrite code instr lo hi w) {s : State} (hv : s.power.vstby = true) :
    (s.side.result = .pending → exec (instr w) s = .next { s with out := s.out ++ [.smbusNack] }) ∧
    (s.side.result ≠ .pending → w.data.length < lo ∨ hi < w.data.length → exec (instr w) s =
      .next { s with out := s.out ++ [.smbusNack], side.cmd := code, side.result := .badLength }) ∧
    (s.side.result ≠ .pending → lo ≤ w.data.length → w.data.length ≤ hi → w.pecOk = false → exec (instr w) s =
      .next { s with out := s.out ++ [.smbusNack], side.cmd := code, side.result := .pecFail }) ∧
    (s.side.result ≠ .pending → lo ≤ w.data.length → w.data.length ≤ hi → w.pecOk = true → code ≠ 0x05 →
      s.bridgeUp = false → exec (instr w) s = .next { s with side.cmd := code, side.result := .mainUnavailable }) := by
  obtain ⟨f, hf, hm, -⟩ := h
  refine ⟨fun hp => ?_, fun hp hl => ?_, fun hp h1 h2 hc => ?_, fun hp h1 h2 hc h5 hb => ?_⟩ <;> rw [hf]
  · exact sideWrite_pending hv hp
  · exact sideWrite_badLength hv hp hl
  · exact sideWrite_pecFail hv hp h1 h2 hc
  · obtain ⟨g, rfl⟩ := hm h5
    rw [sideWrite_runs hv hp h1 h2 hc, mainCommand_down hb]

/-- The check of a privileged command (R375, R376). -/
theorem tag_judged {code : Byte} {instr : SbWrite → Instr} {lo hi : Nat} {w : SbWrite}
    (h : RunsAsWrite code instr lo hi w) {s : State} (hv : s.power.vstby = true) (hp : s.side.result ≠ .pending)
    (h1 : lo ≤ w.data.length) (h2 : w.data.length ≤ hi) (hc : w.pecOk = true) (hb : s.bridgeUp = true)
    (h20 : 0x20 ≤ code.toNat) :
    (s.side.locked = true → exec (instr w) s = .next (answerSide .lockedOut (s.sideAsked code))) ∧
    (s.side.locked = false → s.noTagKey = true →
      exec (instr w) s = .next (answerSide .noKey (s.sideAsked code))) ∧
    (s.side.locked = false → s.noTagKey = false → w.data.drop (w.data.length - 8) ≠ s.tagOf code w.data →
      exec (instr w) s =
        .next (tagFailed code { (s.sideAsked code).drew 16 with side.nonce := s.random 16 })) := by
  obtain ⟨f, hf, -, hg⟩ := h
  obtain ⟨g, rfl⟩ := hg h20
  rw [hf, sideWrite_runs hv hp h1 h2 hc]
  exact ⟨fun hl => congrArg _ (privileged_locked hb hl), fun hl hk => congrArg _ (privileged_noKey hb hl hk),
    fun hl hk ht => congrArg _ (privileged_wrongTag hb hl hk ht)⟩

/-- Settles O59: the reads by what they put out, the writes by `write_judged`, the tag by `tag_judged`. -/
theorem sideshowReadsAndJudgesWrites : Obligations.SideshowReadsAndJudgesWrites := by
  refine ⟨⟨fun s hv => ⟨rfl, fun code known hk hc => ?_, fun code hw hp => exec_readOfWrite hv hw hp,
      State.sideRead_open hv _ id, ?_, ?_, ?_, ?_, exec_bistResult hv, fun hb => ?_, fun hb => ?_, fun r hp ha => ?_⟩,
      fun temp s hu => ?_, fun s hu hl => exec_lockoutEnd hu hl⟩,
    fun s w hv => ⟨fun e he => ?_, fun hp hc => ⟨exec_logSel hv hp hc, fun hl hb => ?_⟩⟩⟩
  · have he := exec_cut hv code known hk hc
    exact ⟨fun hp => he.trans (congrArg _ (badCommand_pending hp code)),
      fun hp => he.trans (congrArg _ (badCommand_idle hp code))⟩
  · obtain ⟨hup, hoff⟩ := mainCode_iff s
    exact ⟨_, _, State.sideRead_open hv _ id, hup, hoff, sideFlags_bits s⟩
  · refine ⟨s.health, State.sideRead_open hv _ id, health_length s, rfl, health_snapshot, fun ht => ?_,
      fun l x hl ht => ?_⟩
    · rw [health_level, State.tamperLevel, ht]; rfl
    · rw [health_level, State.tamperLevel, ht, leBytes_level hl]; rfl
  · exact ⟨_, State.sideRead_open hv _ id, leBytes_length _ _, presence_bit s⟩
  · refine ⟨s.logPage, _, exec_logRead hv, rfl, logPage_length s, fun i hi => ?_⟩
    rw [logPage_entry s hi]
    exact ⟨fun e he => logAt_some he, logAt_none⟩
  · exact ⟨exec_mboxRead_up hv hb, exec_nonce_up hv hb, exec_fwStatus hv _ (if_pos hb)⟩
  · have hb' := ne_true_of_eq_false hb
    exact ⟨exec_mboxRead_down hv hb, exec_nonce hv [] (if_neg hb'), exec_fwStatus hv 0 (if_neg hb')⟩
  · exact ⟨exec_sideshowAnswer_ends hv hp ha, exec_sideshowAnswer_held ha⟩
  · exact ⟨_, exec_healthSnapshot temp hu, rfl, rfl, snapshot_fields (healthBytes_eq _ temp s)⟩
  · have h := writeCommands_run w e he
    obtain ⟨hpend, hlen, hpec, hdown⟩ := write_judged h hv
    refine ⟨hpend, hlen, hpec, hdown, fun hp h1 h2 hc h20 hb => ?_⟩
    obtain ⟨hlock, hkey, htag⟩ := tag_judged h hv hp h1 h2 hc hb h20
    refine ⟨hlock, hkey, fun hl hk ht => ⟨_, htag hl hk ht, ?_⟩⟩
    exact tagFailed_counts e.1 _ hl
  · refine ⟨_, exec_mboxWrite hv hp hc hl hb, ?_, fireIrq_bit _ _ (by decide)⟩
    rw [fireIrq_frame]
    rfl

end Sys2Proof.Machine

namespace Sys2Proof.Machine
open Sys2Proof

/-! # RULE_EPOCH never shows 0x0000 (R361)

Nearly every operation leaves EPOCH as it is (`_kept` of Laws/Kept.lean, and below for the operations that write the
option area); a reset sets it to 1, and a drained barrier moves it on past 0. -/

theorem epochShown_iff (s : State) : s.epochShown ↔ s.kept.epoch ≠ 0 := Iff.rfl

@[simp] theorem State.kept_epoch_mk (pending power regs slots rings requests jobs closing barker place jugs bank nv sec
    faults standby side ports sbMap tight bist fw draws out) :
    (State.kept ⟨pending, power, regs, slots, rings, requests, jobs, closing, barker, place, jugs, bank, nv, sec,
      faults, standby, side, ports, sbMap, tight, bist, fw, draws, out⟩).epoch = regs.epoch := by
  simp only [State.kept]

@[simp] theorem regs_epoch (s : State) : s.regs.epoch = s.kept.epoch := by
  simp only [State.kept]

@[simp] theorem kept_epoch_ite (c : Prop) [Decidable c] (a b : State) :
    (if c then a else b).kept.epoch = if c then a.kept.epoch else b.kept.epoch := by
  split <;> rfl

@[simp] theorem forEach_epoch {α : Type} (l : List α) (f : α → State → State) (s : State)
    (h : ∀ a s, (f a s).kept.epoch = s.kept.epoch) : (forEach l f s).kept.epoch = s.kept.epoch :=
  fe_frame (·.kept.epoch) l f s h

@[simp] theorem onlyIf_epoch (c : Bool) (f : State → State) (s : State)
    (h : ∀ s, (f s).kept.epoch = s.kept.epoch) : (onlyIf c f s).kept.epoch = s.kept.epoch := by
  unfold onlyIf; split
  · exact h s
  · rfl

/-! ## The operations that write the option area -/

@[simp] theorem rppWrite_epoch (s : State) : (rppWrite s).kept.epoch = s.kept.epoch := by simp [rppWrite]
@[simp] theorem cryptoErase_epoch (keep newKey : Bool) (s : State) :
    (cryptoErase keep newKey s).kept.epoch = s.kept.epoch := by simp [cryptoErase]
@[simp] theorem auditLcChange_epoch (old new : LcState) (s : State) :
    (auditLcChange old new s).kept.epoch = s.kept.epoch := by simp [auditLcChange]
@[simp] theorem tamperWipe_epoch (s : State) : (tamperWipe s).kept.epoch = s.kept.epoch := by
  simp only [tamperWipe]; split <;> simp
@[simp] theorem startRpp_epoch (copies : List RppCopy) (s : State) :
    (startRpp copies s).kept.epoch = s.kept.epoch := by
  unfold startRpp
  split
  · rfl
  · simp only [rppWrite_epoch, reserveAll_kept]
    refine (forEach_epoch _ _ _ fun i s => by split <;> simp).trans ?_
    simp
@[simp] theorem writeBatch_epoch (l : List (W64 × List Byte)) (n : Nat) (s : State) :
    (writeBatch l n s).1.kept.epoch = s.kept.epoch := by
  induction l generalizing n s with
  | nil => rfl
  | cons a l ih => unfold writeBatch; split <;> simp [ih]
@[simp] theorem recordWrite_epoch (param : List Byte) (j : Job) (s : State) :
    (recordWrite param j s).kept.epoch = s.kept.epoch := by simp [recordWrite]
theorem deleteRecords_epoch (key : Nat → W64) (l : List Nat) (a : State × Nat) :
    (l.foldl (fun a i => deleteRecord (key i) a) a).1.kept.epoch = a.1.kept.epoch := by
  induction l generalizing a with
  | nil => rfl
  | cons i l ih => rw [List.foldl_cons, ih]; unfold deleteRecord; split <;> simp
@[simp] theorem recordDelete_epoch (param : List Byte) (j : Job) (s : State) :
    (recordDelete param j s).kept.epoch = s.kept.epoch := by simp [recordDelete, deleteRecords_epoch]
@[simp] theorem profileWrite_epoch (param : List Byte) (j : Job) (s : State) :
    (profileWrite param j s).kept.epoch = s.kept.epoch := by
  unfold profileWrite; dsimp only; (repeat' split) <;> simp
@[simp] theorem auditAttest_epoch (param : List Byte) (j : Job) (s : State) :
    (auditAttest param j s).kept.epoch = s.kept.epoch := by simp [auditAttest]
@[simp] theorem counterRelease_epoch (j : Job) (s : State) :
    (counterRelease j s).kept.epoch = s.kept.epoch := by simp only [counterRelease]; split <;> simp
@[simp] theorem ownerSet_epoch (param : List Byte) (j : Job) (s : State) :
    (ownerSet param j s).kept.epoch = s.kept.epoch := by simp only [ownerSet]; (repeat' split) <;> simp
@[simp] theorem mgmtSet_epoch (param : List Byte) (j : Job) (s : State) :
    (mgmtSet param j s).kept.epoch = s.kept.epoch := by simp only [mgmtSet]; (repeat' split) <;> simp
@[simp] theorem consumeCounter_epoch (id : JobId) (i : Fin 256) (h : W32) (s : State) :
    (consumeCounter id i h s).kept.epoch = s.kept.epoch := by simp [consumeCounter]

@[simp] theorem substitute_epoch (n : SlotId) (j : Job) (r : Run) (ctr : Option W64) (l : List Sub) (t : List Byte)
    (s : State) : (substitute n j r ctr l t s).2.kept.epoch = s.kept.epoch := by
  induction l generalizing t s with
  | nil => rfl
  | cons u l ih => simp [substitute, ih]
@[simp] theorem intentFor_epoch (id : JobId) (n : SlotId) (k : Nat) (st : Step) (csn : W16) (s : State) :
    (intentFor id n k st csn s).2.kept.epoch = s.kept.epoch := by
  simp only [intentFor]; (repeat' split) <;> simp
@[simp] theorem stageScOpen_epoch (id : JobId) (n : SlotId) (j : Job) (k : Nat) (st : Step) (s : State) :
    (stageScOpen id n j k st s).kept.epoch = s.kept.epoch := by
  simp only [stageScOpen]; split <;> simp
@[simp] theorem stageApdu_epoch (id : JobId) (n : SlotId) (j : Job) (r : Run) (k : Nat) (st : Step) (s : State) :
    (stageApdu id n j r k st s).kept.epoch = s.kept.epoch := by
  unfold stageApdu
  dsimp only
  (repeat' split) <;> simp
@[simp] theorem precompute_epoch (fuel : Nat) (id : JobId) (n : SlotId) (s : State) :
    (precompute fuel id n s).kept.epoch = s.kept.epoch := by
  induction fuel generalizing s with
  | zero => rfl
  | succ fuel ih => simp only [precompute]; (repeat' split) <;> simp [ih]
theorem resolutionStep_build_epoch (e : Intent) (l : List Sub) (d : List Byte) (s : State) {r : List Byte × State}
    (h : resolutionStep.build e l d s = some r) : r.2.kept.epoch = s.kept.epoch := by
  induction l generalizing d s with
  | nil => cases h; rfl
  | cons u l ih =>
    unfold resolutionStep.build at h
    split at h
    · split at h
      · split at h
        · exact ih _ _ h
        · cases h
      · cases h
    · exact ih _ (s.drew u.len) h
    · cases h
theorem resolutionStep_epoch (n : SlotId) (p : W16) (s : State) {st : Step} {apdu : List Byte} {t : State}
    (h : resolutionStep n p s = some (st, apdu, t)) : t.kept.epoch = s.kept.epoch := by
  unfold resolutionStep at h
  split at h
  · obtain ⟨r, hr, e⟩ := Option.map_eq_some_iff.1 h
    cases e
    exact resolutionStep_build_epoch _ _ _ _ hr
  · cases h
@[simp] theorem resolveNext_epoch (n : SlotId) (l : List W16) (s : State) :
    (resolveNext n l s).kept.epoch = s.kept.epoch := by
  induction l with
  | nil => simp [resolveNext]
  | cons p l ih =>
    unfold resolveNext; split
    next h => simp [resolutionStep_epoch n p s h]
    · exact ih
@[simp] theorem whenReady_epoch (n : SlotId) (s : State) : (whenReady n s).kept.epoch = s.kept.epoch := by
  simp only [whenReady]; (repeat' split) <;> simp
@[simp] theorem acceptCard_epoch (n : SlotId) (fi di : Nat) (p : Proto) (s : State) :
    (acceptCard n fi di p s).kept.epoch = s.kept.epoch := by simp [acceptCard]
@[simp] theorem afterIfs_epoch (n : SlotId) (s : State) :
    (afterIfs n s).kept.epoch = s.kept.epoch := by simp [afterIfs]
@[simp] theorem take61_epoch (id : JobId) (n : SlotId) (t : Staged) (sw : W16) (s : State) :
    (take61 id n t sw s).kept.epoch = s.kept.epoch := by simp only [take61]; (repeat' split) <;> simp
@[simp] theorem takeOk_epoch (id : JobId) (n : SlotId) (t : Staged) (st : Step) (e : Ended) (s : State) :
    (takeOk id n t st e s).kept.epoch = s.kept.epoch := by simp [takeOk]
@[simp] theorem reportStep_epoch (n : SlotId) (e : Ended) (s : State) :
    (reportStep n e s).kept.epoch = s.kept.epoch := by simp only [reportStep]; (repeat' split) <;> simp
@[simp] theorem afterReport_epoch (n : SlotId) (s : State) :
    (afterReport n s).kept.epoch = s.kept.epoch := by simp [afterReport]
@[simp] theorem reportEnd_epoch (n : SlotId) (e : Ended) (rest : List Ended) (noise chars : Nat) (s : State) :
    (reportEnd n e rest noise chars s).kept.epoch = s.kept.epoch := by simp only [reportEnd]; split <;> simp
@[simp] theorem setStandby_epoch (f : FwBank → FwBank) (s : State) :
    (setStandby f s).kept.epoch = s.kept.epoch := by simp [setStandby]
@[simp] theorem prepareFw_epoch (s : State) : (prepareFw s).kept.epoch = s.kept.epoch := by simp [prepareFw]
@[simp] theorem commitFw_epoch (s : State) : (commitFw s).kept.epoch = s.kept.epoch := by simp [commitFw]
@[simp] theorem abortFw_epoch (s : State) : (abortFw s).kept.epoch = s.kept.epoch := by simp [abortFw]
@[simp] theorem takeSwitch_epoch (n : SlotId) (e : Ended) (s : State) :
    (takeSwitch n e s).kept.epoch = s.kept.epoch := by simp only [takeSwitch]; (repeat' split) <;> simp
@[simp] theorem finishSweep_epoch (n : SlotId) (g : Gal) (l : List (Vector Bool 4)) (s : State) :
    (finishSweep n g l s).kept.epoch = s.kept.epoch := by simp [finishSweep, onlyIf]
theorem writeImage_epoch {off : Nat} {data : List Byte} {s t : State} (h : writeImage off data s = some t) :
    t.kept.epoch = s.kept.epoch := by
  unfold writeImage at h
  (repeat' split at h) <;> cases h <;> rfl
@[simp] theorem fwWrite_epoch (param : List Byte) (j : Job) (s : State) :
    (fwWrite param j s).kept.epoch = s.kept.epoch := by
  simp only [fwWrite]; split
  · simp
  · split
    next h => simp [writeImage_epoch h]
    · simp
@[simp] theorem passPlan_epoch (old : Tight) (s : State) : (passPlan old s).kept.epoch = s.kept.epoch := by
  simp only [passPlan]
  refine (forEach_epoch _ _ _ fun r s => ?_).trans (forEach_epoch _ _ _ fun n s => ?_)
  · exact onlyIf_epoch _ _ _ fun _ => rfl
  · rw [lowerSession_kept]
@[simp] theorem issuePlan_epoch (changes : Nat) (s : State) :
    (issuePlan changes s).kept.epoch = s.kept.epoch := by simp [issuePlan]
@[simp] theorem noteHeadrooms_epoch (s : State) : (noteHeadrooms s).kept.epoch = s.kept.epoch :=
  forEach_epoch _ _ _ fun _ s => congrArg Kept.epoch (noteLimit_kept _ _ _ s fun _ => raise_kept ..)
@[simp] theorem toFactoryPlan_epoch (old : Tight) (s : State) :
    (toFactoryPlan old s).kept.epoch = s.kept.epoch := by
  unfold toFactoryPlan
  extract_lets _ u v m
  have h : v.kept.epoch = s.kept.epoch := passPlan_epoch old u
  split
  · exact h
  · rw [fireIrq_kept]; exact h
@[simp] theorem keysInto_epoch (target : LcState) (s : State) :
    (keysInto target s).kept.epoch = s.kept.epoch := by
  unfold keysInto
  split
  · rw [State.kept_epoch_mk]; rfl
  · split
    · rw [State.kept_epoch_mk]; rfl
    · rfl
  · rfl
@[simp] theorem commitChange_epoch (target : LcState) (s : State) :
    (commitChange target s).kept.epoch = s.kept.epoch := by
  unfold commitChange
  extract_lets _ _ u v _ w
  have hv : v.kept.epoch = s.kept.epoch :=
    (keysInto_epoch _ _).trans ((cryptoErase_epoch _ _ _).trans (auditLcChange_epoch _ _ s))
  have hw : w.kept.epoch = v.kept.epoch :=
    (congrArg Kept.epoch (zeroiseBuffers_kept _)).trans (toFactoryPlan_epoch _ _)
  rw [askBarrier_kept, raise_kept, hw, hv]
@[simp] theorem badCommand_epoch (code : Byte) (s : State) :
    (badCommand code s).kept.epoch = s.kept.epoch := by simp [badCommand]

/-! ## Operations that run another -/

@[simp] theorem noParam_epoch (f : Job → State → State) (j : Job) (s : State)
    (h : ∀ j s, (f j s).kept.epoch = s.kept.epoch) : (noParam f j s).kept.epoch = s.kept.epoch := by
  simp [noParam, h]
@[simp] theorem paramOf_epoch (len : Nat) (f : Job → State → State) (j : Job) (s : State)
    (h : ∀ j s, (f j s).kept.epoch = s.kept.epoch) : (paramOf len f j s).kept.epoch = s.kept.epoch := by
  simp [paramOf, h]
@[simp] theorem needBank_epoch (f : Job → State → State) (j : Job) (s : State)
    (h : ∀ j s, (f j s).kept.epoch = s.kept.epoch) : (needBank f j s).kept.epoch = s.kept.epoch := by
  simp [needBank, h]
@[simp] theorem takeSBlock_epoch (n : SlotId) (valid : Bool) (f : State → State) (s : State)
    (h : ∀ s, (f s).kept.epoch = s.kept.epoch) : (takeSBlock n valid f s).kept.epoch = s.kept.epoch := by
  simp [takeSBlock, h]
@[simp] theorem t0Error_epoch (n : SlotId) (k : Nat) (f : State → State) (s : State)
    (h : ∀ s, (f s).kept.epoch = s.kept.epoch) : (t0Error n k f s).kept.epoch = s.kept.epoch := by
  unfold t0Error; (repeat' split) <;> simp [h]
@[simp] theorem writeBase_epoch (f : State → State) (s : State)
    (h : ∀ s, (f s).kept.epoch = s.kept.epoch) : (writeBase f s).kept.epoch = s.kept.epoch := by
  simp [writeBase, h]

@[simp] theorem noteLimit_raise_epoch (key : Nat) (reached : Bool) (c : W16) (o : Option SlotId) (a : Nat) (s : State) :
    (noteLimit key reached (raise c o a) s).kept.epoch = s.kept.epoch :=
  congrArg Kept.epoch (noteLimit_kept _ _ _ s fun _ => raise_kept ..)

/-! ## Resets and what leads to them -/

/-- A main-side reset starts EPOCH at 1. -/
theorem mainReset_shown (src : ResetSource) (board : Board) (s : State) : (mainReset src board s).kept.epoch ≠ 0 := by
  rw [← regs_epoch, (mainReset_startsOver src board s).epoch]
  decide

theorem resetBy_shown (src : ResetSource) (s : State) : (resetBy src s).kept.epoch ≠ 0 := mainReset_shown _ _ _

theorem shown_ite {c : Prop} [Decidable c] {a b : State} (ha : a.kept.epoch ≠ 0) (hb : b.kept.epoch ≠ 0) :
    (if c then a else b).kept.epoch ≠ 0 := by split <;> assumption

section Shown
variable {s : State} (h : s.kept.epoch ≠ 0)
include h

theorem fatalProgress_shown : (fatalProgress s).kept.epoch ≠ 0 := shown_ite (resetBy_shown _ _) h

theorem openFatal_shown (code : W16) (kind index : Nat) : (openFatal code kind index s).kept.epoch ≠ 0 := by
  unfold openFatal; split
  · exact resetBy_shown _ _
  · exact fatalProgress_shown (by simpa using h)

theorem fenceFully_shown (u : UnitRef) (code : W16) : (fenceFully u code s).kept.epoch ≠ 0 := by
  have h' : (fenceUnit u code s).kept.epoch ≠ 0 := by simpa using h
  unfold fenceFully; split
  · exact shown_ite h' (openFatal_shown h' _ _ _)
  · exact h'

theorem failDomainRun_shown (b : BistRun) : (failDomainRun b s).kept.epoch ≠ 0 :=
  fe_inv (·.kept.epoch ≠ 0) _ _ _ (by simpa using h) fun _ _ h => shown_ite h (fenceFully_shown h _ _)

theorem restoreScope_shown (b : BistRun) (sig : W64) : (restoreScope b sig s).kept.epoch ≠ 0 :=
  shown_ite h (shown_ite (resetBy_shown _ _) h)

theorem endDeactivation_shown (n : SlotId) : (endDeactivation n s).kept.epoch ≠ 0 :=
  fatalProgress_shown (by simpa using h)

theorem switchFw_shown : (switchFw s).kept.epoch ≠ 0 := shown_ite (by simpa using h) (resetBy_shown _ _)

theorem runFw_shown (op : Nat) : (runFw op s).kept.epoch ≠ 0 := by
  unfold runFw; split
  · simpa using h
  · simpa using h
  · exact switchFw_shown h
  · simpa using h
  · exact h

theorem hostFw_shown (op : Nat) (key : Byte) : (hostFw op key s).kept.epoch ≠ 0 :=
  shown_ite (by simpa using h) (shown_ite h (runFw_shown (by simpa using h) _))

theorem escalate_shown (u : UnitRef) (code : W16) : (escalate u code s).kept.epoch ≠ 0 := by
  unfold escalate; split
  · exact openFatal_shown (by simpa using h) _ _ _
  · exact fenceFully_shown (by simpa using h) _ _

theorem unitFails_shown (u : UnitRef) (code : W16) : (unitFails u code s).kept.epoch ≠ 0 :=
  shown_ite (by simpa using h) (shown_ite (escalate_shown h _ _) (by simpa using h))

theorem recoveryFails_shown (u : UnitRef) : (recoveryFails u s).kept.epoch ≠ 0 := by
  unfold recoveryFails; split <;> exact escalate_shown h _ _

theorem refusalError_shown (v : Violation) : (refusalError v s).kept.epoch ≠ 0 := by
  refine shown_ite h ?_
  split
  · simpa using h
  · exact unitFails_shown h _ _

theorem finishChange_shown (c : LcChange) : (finishChange c s).kept.epoch ≠ 0 := by
  unfold finishChange; split
  · simpa using h
  · have h' : (endChange c .done 0 (endQueued (commitChange c.target s))).kept.epoch ≠ 0 := by simpa using h
    refine shown_ite (by simpa using h') (shown_ite (by simpa using h') h')

theorem tamperLevel2_shown (x : Sensor) : (tamperLevel2 x s).kept.epoch ≠ 0 :=
  shown_ite (by simpa using h) (shown_ite (by simpa using h) (resetBy_shown _ _))

theorem tamperLevel1_shown (x : Sensor) : (tamperLevel1 x s).kept.epoch ≠ 0 :=
  shown_ite (tamperLevel2_shown (by simpa using h) _) (shown_ite (by simpa using h) (resetBy_shown _ _))

theorem privileged_shown (code : Byte) (data : List Byte) (f : List Byte → State → State)
    (hf : ∀ d s, s.kept.epoch ≠ 0 → (f d s).kept.epoch ≠ 0) : (privileged code data f s).kept.epoch ≠ 0 := by
  refine shown_ite ?_ (by simpa using h)
  exact shown_ite (by simpa using h) (shown_ite (by simpa using h) (shown_ite (by simpa using h)
    (shown_ite (by simpa using h) (hf _ _ (by simpa using h)))))

theorem sideFw_shown (d : List Byte) : (sideFw d s).kept.epoch ≠ 0 := by
  have h' := runFw_shown (s := takeFw (byteAt d 0).toNat s) (by simpa using h) (byteAt d 0).toNat
  exact shown_ite (by simpa using h) (shown_ite (by simpa using h') h')

theorem sideFwData_shown (d : List Byte) : (sideFwData d s).kept.epoch ≠ 0 := by
  unfold sideFwData; split
  next e => simpa [writeImage_epoch e] using h
  · simpa using h

end Shown

theorem nextEpoch_ne_zero (e : W16) : nextEpoch e ≠ 0 := by
  rw [nextEpoch_eq]
  split
  · decide
  next h => bv_omega

/-! ## The commands that leave EPOCH, in the order of the model -/

/-- EPOCH of the state that an outcome answers. -/
def outEpoch : Out → Option W16
  | .next t => some t.kept.epoch
  | _ => none

@[simp] theorem outEpoch_next (s : State) : outEpoch (.next s) = some s.kept.epoch := by simp only [outEpoch]

@[simp] theorem outEpoch_gate (s : State) (c : Bool) (f : State → State) :
    outEpoch (s.gate c f) = some (if c then (f s).kept.epoch else s.kept.epoch) := by
  unfold State.gate; split <;> rfl

@[simp] theorem outEpoch_ite (c : Prop) [Decidable c] (a b : Out) :
    outEpoch (if c then a else b) = if c then outEpoch a else outEpoch b := by
  split <;> rfl

@[simp] theorem outEpoch_hostWrite (s : State) (off : Nat) (f : State → State) :
    outEpoch (s.hostWrite off f) =
      some (if s.mainUp && !s.sec.rightsWithdrawn then (f s).kept.epoch else s.kept.epoch) := by
  cases h : s.mainUp <;> cases h' : s.sec.rightsWithdrawn <;> simp [State.hostWrite, h, h']

@[simp] theorem outEpoch_hostRead (s : State) (off : Nat) (f : State → State) :
    outEpoch (s.hostRead off f) =
      some (if s.mainUp && !s.sec.rightsWithdrawn then (f s).kept.epoch else s.kept.epoch) := by
  cases h : s.mainUp <;> cases h' : s.sec.rightsWithdrawn <;> simp [State.hostRead, h, h']

section Tickets
variable (id : JobId) (s : State)

@[simp] theorem outEpoch_runTicket (type op : Nat) (f : Job → State → State)
    (h : ∀ j s, (f j s).kept.epoch = s.kept.epoch) : outEpoch (runTicket id type op f s) = some s.kept.epoch := by
  unfold runTicket; split <;> simp [h]
@[simp] theorem outEpoch_bankTicket (op : Nat) (f : Job → State → State)
    (h : ∀ j s, (f j s).kept.epoch = s.kept.epoch) : outEpoch (bankTicket id op f s) = some s.kept.epoch :=
  outEpoch_runTicket _ _ _ _ _ fun j s => by split <;> simp [h]
@[simp] theorem outEpoch_keyTicket (op : Nat) (b : Bool) (f : Job → State → State)
    (h : ∀ j s, (f j s).kept.epoch = s.kept.epoch) : outEpoch (keyTicket id op b f s) = some s.kept.epoch :=
  outEpoch_runTicket _ _ _ _ _ fun j s => by split <;> simp [h]
@[simp] theorem outEpoch_adminTicket (op : Nat) (f : Job → SlotId → State → State)
    (h : ∀ j n s, (f j n s).kept.epoch = s.kept.epoch) : outEpoch (adminTicket id op f s) = some s.kept.epoch := by
  unfold adminTicket; (repeat' split) <;> simp [h]

end Tickets

@[simp] theorem outEpoch_galGate (n : SlotId) (p : Gal → Bool) (f : Gal → State → State) (s : State)
    (h : ∀ g s, (f g s).kept.epoch = s.kept.epoch) : outEpoch (galGate n p f s) = some s.kept.epoch := by
  unfold galGate; split <;> simp [h]
@[simp] theorem outEpoch_sideRead (s : State) (d : List Byte) (f : State → State)
    (h : ∀ s, (f s).kept.epoch = s.kept.epoch) : outEpoch (s.sideRead d f) = some s.kept.epoch := by
  simp [State.sideRead, h]
@[simp] theorem outEpoch_sideWrite (s : State) (code : Byte) (lo hi : Nat) (w : SbWrite) (f : State → State)
    (h : ∀ s, (f s).kept.epoch = s.kept.epoch) : outEpoch (s.sideWrite code lo hi w f) = some s.kept.epoch := by
  simp [State.sideWrite, h]

/-! ### Machine/Reset -/

@[simp] theorem execVstbyRise_epoch (straps : BitVec 3) (s : State) :
    outEpoch (execVstbyRise straps s) = some s.kept.epoch := by simp [execVstbyRise]
@[simp] theorem execBooted_epoch (s : State) :
    outEpoch (execBooted s) = some s.kept.epoch := by simp [execBooted]
@[simp] theorem execBankStart_epoch (copies : List RppCopy) (s : State) :
    outEpoch (execBankStart copies s) = some s.kept.epoch := by simp [execBankStart]
@[simp] theorem execReadyRise_epoch (s : State) :
    outEpoch (execReadyRise s) = some s.kept.epoch := by simp [execReadyRise]

/-! ### Machine/HostLink -/

@[simp] theorem execDmaHold_epoch (d3hot : Bool) (s : State) :
    outEpoch (execDmaHold d3hot s) = some s.kept.epoch := by simp [execDmaHold]
@[simp] theorem execDmaResumed_epoch (s : State) :
    outEpoch (execDmaResumed s) = some s.kept.epoch := by simp [execDmaResumed]
@[simp] theorem execMsixUnmask_epoch (vec : Fin 32) (s : State) :
    outEpoch (execMsixUnmask vec s) = some s.kept.epoch := by simp [execMsixUnmask]
@[simp] theorem execBarAccessRefused_epoch (r : BarRefusal) (s : State) :
    outEpoch (execBarAccessRefused r s) = some s.kept.epoch := by
  simp only [execBarAccessRefused, outEpoch_gate]; (repeat' split) <;> simp
@[simp] theorem execDeviceCheck_epoch (s : State) :
    outEpoch (execDeviceCheck s) = some s.kept.epoch := by simp [execDeviceCheck]
@[simp] theorem execDeviceCheckEnd_epoch (s : State) :
    outEpoch (execDeviceCheckEnd s) = some s.kept.epoch := by
  simp only [execDeviceCheckEnd, outEpoch_gate]; (repeat' split) <;> simp
@[simp] theorem execWindDown_epoch (s : State) :
    outEpoch (execWindDown s) = some s.kept.epoch := by simp [execWindDown]
@[simp] theorem execWindDownEnd_epoch (s : State) :
    outEpoch (execWindDownEnd s) = some s.kept.epoch := by simp [execWindDownEnd]
@[simp] theorem execGctrlPause_epoch (pause : Bool) (s : State) :
    outEpoch (execGctrlPause pause s) = some s.kept.epoch := by simp [execGctrlPause]
@[simp] theorem execSlotEnable_epoch (s : State) :
    outEpoch (execSlotEnable s) = some s.kept.epoch := by simp [execSlotEnable]
@[simp] theorem execSlotCheckEnd_epoch (failed : Option (CompId × Nat)) (s : State) :
    outEpoch (execSlotCheckEnd failed s) = some s.kept.epoch := by
  simp only [execSlotCheckEnd]; (repeat' split) <;> simp
@[simp] theorem execSlotDisable_epoch (s : State) :
    outEpoch (execSlotDisable s) = some s.kept.epoch := by simp [execSlotDisable]
@[simp] theorem execSlotDeactivate_epoch (s : State) :
    outEpoch (execSlotDeactivate s) = some s.kept.epoch := by simp [execSlotDeactivate]
@[simp] theorem execSlotClear_epoch (s : State) :
    outEpoch (execSlotClear s) = some s.kept.epoch := by simp [execSlotClear]
@[simp] theorem execSlotCfgWrite_epoch (regB : Bool) (v : W32) (s : State) :
    outEpoch (execSlotCfgWrite regB v s) = some s.kept.epoch := by
  simp only [execSlotCfgWrite, outEpoch_hostWrite]; (repeat' split) <;> simp
@[simp] theorem execSlotSelWrite_epoch (v : W32) (s : State) :
    outEpoch (execSlotSelWrite v s) = some s.kept.epoch := by
  simp only [execSlotSelWrite, outEpoch_hostWrite]; (repeat' split) <;> simp

/-! ### Machine/Registers -/

@[simp] theorem execTbTailWrite_epoch (v : W32) (s : State) :
    outEpoch (execTbTailWrite v s) = some s.kept.epoch := by simp [execTbTailWrite]
@[simp] theorem execCqHeadWrite_epoch (v : W32) (s : State) :
    outEpoch (execCqHeadWrite v s) = some s.kept.epoch := by simp [execCqHeadWrite]
@[simp] theorem execEqHeadWrite_epoch (v : W32) (s : State) :
    outEpoch (execEqHeadWrite v s) = some s.kept.epoch := by simp [execEqHeadWrite]
@[simp] theorem execRingSizeWrite_epoch (ring : RingName) (v : W32) (s : State) :
    outEpoch (execRingSizeWrite ring v s) = some s.kept.epoch := by
  simp only [execRingSizeWrite, outEpoch_hostWrite]; (repeat' split) <;> simp
@[simp] theorem execPowerBudgetWrite_epoch (v : W32) (s : State) :
    outEpoch (execPowerBudgetWrite v s) = some s.kept.epoch := by simp [execPowerBudgetWrite]
@[simp] theorem execIrqStatusWrite_epoch (v : W32) (s : State) :
    outEpoch (execIrqStatusWrite v s) = some s.kept.epoch := by simp [execIrqStatusWrite]
@[simp] theorem execIrqMaskWrite_epoch (v : W32) (s : State) :
    outEpoch (execIrqMaskWrite v s) = some s.kept.epoch := by simp [execIrqMaskWrite]
@[simp] theorem execErrFirstClear_epoch (s : State) :
    outEpoch (execErrFirstClear s) = some s.kept.epoch := by simp [execErrFirstClear]
@[simp] theorem execViolClear_epoch (s : State) :
    outEpoch (execViolClear s) = some s.kept.epoch := by simp [execViolClear]
@[simp] theorem execMboxToSbWrite_epoch (v : W32) (s : State) :
    outEpoch (execMboxToSbWrite v s) = some s.kept.epoch := by simp [execMboxToSbWrite]
@[simp] theorem execMboxFromSbRead_epoch (s : State) :
    outEpoch (execMboxFromSbRead s) = some s.kept.epoch := by simp [execMboxFromSbRead]
@[simp] theorem execPairLowRead_epoch (p : RegPair) (s : State) :
    outEpoch (execPairLowRead p s) = some s.kept.epoch := by
  simp only [execPairLowRead, outEpoch_hostRead]; (repeat' split) <;> simp
@[simp] theorem execRegisterWrite_epoch (off : BitVec 12) (v : W32) (s : State) :
    outEpoch (execRegisterWrite off v s) = some s.kept.epoch := by
  simp only [execRegisterWrite, outEpoch_hostWrite]; (repeat' split) <;> simp

/-! ### Machine/Bist -/

@[simp] theorem execLogicBist_epoch (scope : BitVec 4) (s : State) :
    outEpoch (execLogicBist scope s) = some s.kept.epoch := by simp [execLogicBist]
@[simp] theorem execMemoryBist_epoch (scope : BitVec 4) (s : State) :
    outEpoch (execMemoryBist scope s) = some s.kept.epoch := by simp [execMemoryBist]
@[simp] theorem execBistRingDrained_epoch (s : State) :
    outEpoch (execBistRingDrained s) = some s.kept.epoch := by
  simp only [execBistRingDrained]; (repeat' split) <;> simp
@[simp] theorem execBistDrainTimeout_epoch (s : State) :
    outEpoch (execBistDrainTimeout s) = some s.kept.epoch := by simp [execBistDrainTimeout]
@[simp] theorem execBistPassEnd_epoch (fails : List FailAddr) (s : State) :
    outEpoch (execBistPassEnd fails s) = some s.kept.epoch := by
  simp only [execBistPassEnd]; (repeat' split) <;> simp
@[simp] theorem execBistRunEnd_epoch (sig : W64) (ringFail : Option (CompId × Nat))
    (slotFails : List (SlotId × CompId × Nat)) (s : State) :
    outEpoch (execBistRunEnd sig ringFail slotFails s) = some s.kept.epoch := by
  simp only [execBistRunEnd]; (repeat' split) <;> simp

/-! ### Machine/Firmware -/

@[simp] theorem execSectorEraseDone_epoch (s : State) :
    outEpoch (execSectorEraseDone s) = some s.kept.epoch := by simp [execSectorEraseDone]
@[simp] theorem execSectorEraseAbort_epoch (s : State) :
    outEpoch (execSectorEraseAbort s) = some s.kept.epoch := by simp [execSectorEraseAbort]
@[simp] theorem execFwConfirmed_epoch (s : State) :
    outEpoch (execFwConfirmed s) = some s.kept.epoch := by simp [execFwConfirmed]

/-! ### Machine/Tickets -/

@[simp] theorem execTicketFetch_epoch (tickets : List Ticket) (s : State) :
    outEpoch (execTicketFetch tickets s) = some s.kept.epoch := by simp [execTicketFetch]
@[simp] theorem execFetchRetry_epoch (s : State) :
    outEpoch (execFetchRetry s) = some s.kept.epoch := by simp [execFetchRetry]
@[simp] theorem execIssue_epoch (job : JobId) (param : List Byte) (s : State) :
    outEpoch (execIssue job param s) = some s.kept.epoch := by
  simp only [execIssue]; (repeat' split) <;> simp
@[simp] theorem execSamOp_epoch (job : JobId) (param : List Byte) (s : State) :
    outEpoch (execSamOp job param s) = some s.kept.epoch := by
  simp only [execSamOp]; (repeat' split) <;> simp
@[simp] theorem execActivate_epoch (job : JobId) (s : State) :
    outEpoch (execActivate job s) = some s.kept.epoch := by simp [execActivate]
@[simp] theorem execDeactivate_epoch (job : JobId) (s : State) :
    outEpoch (execDeactivate job s) = some s.kept.epoch := by simp [execDeactivate]
@[simp] theorem execInventory_epoch (job : JobId) (param : List Byte) (s : State) :
    outEpoch (execInventory job param s) = some s.kept.epoch := by simp [execInventory]

/-! ### Machine/BankOps -/

@[simp] theorem execParamReadFail_epoch (job : JobId) (got : List Byte) (s : State) :
    outEpoch (execParamReadFail job got s) = some s.kept.epoch := by
  simp only [execParamReadFail]; (repeat' split) <;> simp
@[simp] theorem execFormat_epoch (job : JobId) (param : FormatParams) (s : State) :
    outEpoch (execFormat job param s) = some s.kept.epoch := by simp [execFormat]
@[simp] theorem execRecordWrite_epoch (job : JobId) (param : List Byte) (s : State) :
    outEpoch (execRecordWrite job param s) = some s.kept.epoch := by simp [execRecordWrite]
@[simp] theorem execRecordDelete_epoch (job : JobId) (param : List Byte) (s : State) :
    outEpoch (execRecordDelete job param s) = some s.kept.epoch := by simp [execRecordDelete]
@[simp] theorem execProfileWrite_epoch (job : JobId) (param : List Byte) (s : State) :
    outEpoch (execProfileWrite job param s) = some s.kept.epoch := by simp [execProfileWrite]
@[simp] theorem execProfileDelete_epoch (job : JobId) (s : State) :
    outEpoch (execProfileDelete job s) = some s.kept.epoch := by simp [execProfileDelete]
@[simp] theorem execJournalList_epoch (job : JobId) (param : List Byte) (s : State) :
    outEpoch (execJournalList job param s) = some s.kept.epoch := by simp [execJournalList]
@[simp] theorem execJournalClose_epoch (job : JobId) (param : List Byte) (s : State) :
    outEpoch (execJournalClose job param s) = some s.kept.epoch := by simp [execJournalClose]
@[simp] theorem execAuditRead_epoch (job : JobId) (param : List Byte) (s : State) :
    outEpoch (execAuditRead job param s) = some s.kept.epoch := by simp [execAuditRead]
@[simp] theorem execAuditAttest_epoch (job : JobId) (param : List Byte) (s : State) :
    outEpoch (execAuditAttest job param s) = some s.kept.epoch := by
  simp [execAuditAttest]
@[simp] theorem execAuditTrim_epoch (job : JobId) (param : List Byte) (s : State) :
    outEpoch (execAuditTrim job param s) = some s.kept.epoch := by simp [execAuditTrim]
@[simp] theorem execBankStatus_epoch (job : JobId) (s : State) :
    outEpoch (execBankStatus job s) = some s.kept.epoch := by simp [execBankStatus]
@[simp] theorem execCounterRelease_epoch (job : JobId) (s : State) :
    outEpoch (execCounterRelease job s) = some s.kept.epoch := by
  simp [execCounterRelease]

/-! ### Machine/CharLayer -/

@[simp] theorem execWarmReset_epoch (job : JobId) (s : State) :
    outEpoch (execWarmReset job s) = some s.kept.epoch := by simp [execWarmReset]
@[simp] theorem execAtrReceived_epoch (slot : SlotId) (raw : List Byte) (faults : CharFaults) (s : State) :
    outEpoch (execAtrReceived slot raw faults s) = some s.kept.epoch := by
  simp only [execAtrReceived, outEpoch_gate]; (repeat' split) <;> simp
@[simp] theorem execNoAtr_epoch (slot : SlotId) (s : State) :
    outEpoch (execNoAtr slot s) = some s.kept.epoch := by simp [execNoAtr]
@[simp] theorem execAtrGapTimeout_epoch (slot : SlotId) (s : State) :
    outEpoch (execAtrGapTimeout slot s) = some s.kept.epoch := by simp [execAtrGapTimeout]
@[simp] theorem execPpsResponse_epoch (slot : SlotId) (raw : List Byte) (faults : CharFaults) (s : State) :
    outEpoch (execPpsResponse slot raw faults s) = some s.kept.epoch := by
  simp only [execPpsResponse]; (repeat' split) <;> simp
@[simp] theorem execPpsTimeout_epoch (slot : SlotId) (s : State) :
    outEpoch (execPpsTimeout slot s) = some s.kept.epoch := by simp [execPpsTimeout]
@[simp] theorem execRateApply_epoch (slot : SlotId) (s : State) :
    outEpoch (execRateApply slot s) = some s.kept.epoch := by simp [execRateApply]
@[simp] theorem execIBlock_epoch (slot : SlotId) (blk : RawT1) (s : State) :
    outEpoch (execIBlock slot blk s) = some s.kept.epoch := by
  simp only [execIBlock, outEpoch_gate]; (repeat' split) <;> simp
@[simp] theorem execRBlock_epoch (slot : SlotId) (blk : RawT1) (s : State) :
    outEpoch (execRBlock slot blk s) = some s.kept.epoch := by
  simp only [execRBlock, outEpoch_gate]; (repeat' split) <;> simp
@[simp] theorem execSIfsRequest_epoch (slot : SlotId) (ifsc : Byte) (s : State) :
    outEpoch (execSIfsRequest slot ifsc s) = some s.kept.epoch := by simp [execSIfsRequest, takeSBlock]
@[simp] theorem execSIfsResponse_epoch (slot : SlotId) (ifsd : Byte) (s : State) :
    outEpoch (execSIfsResponse slot ifsd s) = some s.kept.epoch := by
  simp only [execSIfsResponse, outEpoch_gate]; (repeat' split) <;> simp
@[simp] theorem execSWtxRequest_epoch (slot : SlotId) (m : Byte) (s : State) :
    outEpoch (execSWtxRequest slot m s) = some s.kept.epoch := by simp [execSWtxRequest, takeSBlock]
@[simp] theorem execSAbortRequest_epoch (slot : SlotId) (s : State) :
    outEpoch (execSAbortRequest slot s) = some s.kept.epoch := by simp [execSAbortRequest]
@[simp] theorem execSAbortResponse_epoch (slot : SlotId) (s : State) :
    outEpoch (execSAbortResponse slot s) = some s.kept.epoch := by simp [execSAbortResponse]
@[simp] theorem execSResynchResponse_epoch (slot : SlotId) (s : State) :
    outEpoch (execSResynchResponse slot s) = some s.kept.epoch := by simp [execSResynchResponse]
@[simp] theorem execBwtTimeout_epoch (slot : SlotId) (s : State) :
    outEpoch (execBwtTimeout slot s) = some s.kept.epoch := by simp [execBwtTimeout]
@[simp] theorem execCwtOverrun_epoch (slot : SlotId) (s : State) :
    outEpoch (execCwtOverrun slot s) = some s.kept.epoch := by simp [execCwtOverrun]
@[simp] theorem execWtTimeout_epoch (slot : SlotId) (s : State) :
    outEpoch (execWtTimeout slot s) = some s.kept.epoch := by simp [execWtTimeout]
@[simp] theorem execExchLimit_epoch (slot : SlotId) (s : State) :
    outEpoch (execExchLimit slot s) = some s.kept.epoch := by
  simp only [execExchLimit]; (repeat' split) <;> simp
@[simp] theorem execLineStuck_epoch (slot : SlotId) (s : State) :
    outEpoch (execLineStuck slot s) = some s.kept.epoch := by simp [execLineStuck]
@[simp] theorem execT0Character_epoch (slot : SlotId) (b : Byte) (bad overrun : Bool) (s : State) :
    outEpoch (execT0Character slot b bad overrun s) = some s.kept.epoch := by simp [execT0Character]
@[simp] theorem execErrorSignalSeen_epoch (slot : SlotId) (idx : Nat) (s : State) :
    outEpoch (execErrorSignalSeen slot idx s) = some s.kept.epoch := by
  unfold execErrorSignalSeen; split
  · rfl
  next e _ =>
    have h := t0Error_epoch slot (idx + 1) (sendChars slot [byteAt e.sentChars idx]) s fun s => by simp
    rw [outEpoch_gate, h, ite_self]
@[simp] theorem execProcedureByte_epoch (slot : SlotId) (b b2 : Byte) (s : State) :
    outEpoch (execProcedureByte slot b b2 s) = some s.kept.epoch := by
  simp only [execProcedureByte]; (repeat' split) <;> simp
@[simp] theorem execClockStop_epoch (slot : SlotId) (s : State) :
    outEpoch (execClockStop slot s) = some s.kept.epoch := by simp [execClockStop]
@[simp] theorem execClockRestart_epoch (slot : SlotId) (s : State) :
    outEpoch (execClockRestart slot s) = some s.kept.epoch := by simp [execClockRestart]

/-! ### Machine/KeyOps -/

@[simp] theorem execOwnerSet_epoch (job : JobId) (param : List Byte) (s : State) :
    outEpoch (execOwnerSet job param s) = some s.kept.epoch := by simp [execOwnerSet]
@[simp] theorem execMgmtSet_epoch (job : JobId) (param : List Byte) (s : State) :
    outEpoch (execMgmtSet job param s) = some s.kept.epoch := by simp [execMgmtSet]
@[simp] theorem execCeremonyOpen_epoch (job : JobId) (s : State) :
    outEpoch (execCeremonyOpen job s) = some s.kept.epoch := by simp [execCeremonyOpen]
@[simp] theorem execKeyImport_epoch (job : JobId) (param : List Byte) (s : State) :
    outEpoch (execKeyImport job param s) = some s.kept.epoch := by simp [execKeyImport]
@[simp] theorem execKeyDelete_epoch (job : JobId) (s : State) :
    outEpoch (execKeyDelete job s) = some s.kept.epoch :=
  outEpoch_keyTicket _ _ _ _ _ fun _ _ => needBank_epoch _ _ _ fun _ _ => noParam_epoch _ _ _ fun _ _ => by simp
@[simp] theorem execKeyList_epoch (job : JobId) (s : State) :
    outEpoch (execKeyList job s) = some s.kept.epoch :=
  outEpoch_keyTicket _ _ _ _ _ fun _ _ => needBank_epoch _ _ _ fun _ _ => noParam_epoch _ _ _ fun _ _ => by simp
@[simp] theorem execCeremonyClose_epoch (job : JobId) (s : State) :
    outEpoch (execCeremonyClose job s) = some s.kept.epoch := by simp [execCeremonyClose]
@[simp] theorem execLcChange_epoch (job : JobId) (param : List Byte) (s : State) :
    outEpoch (execLcChange job param s) = some s.kept.epoch := by simp [execLcChange]
@[simp] theorem execAttestId_epoch (job : JobId) (s : State) :
    outEpoch (execAttestId job s) = some s.kept.epoch := by simp [execAttestId]

/-! ### Machine/ToolOps -/

@[simp] theorem execCancel_epoch (job : JobId) (s : State) :
    outEpoch (execCancel job s) = some s.kept.epoch := by simp [execCancel]
@[simp] theorem execSbusConfig_epoch (job : JobId) (param : List Byte) (s : State) :
    outEpoch (execSbusConfig job param s) = some s.kept.epoch := by simp [execSbusConfig]
@[simp] theorem execSbusStatus_epoch (job : JobId) (s : State) :
    outEpoch (execSbusStatus job s) = some s.kept.epoch := by simp [execSbusStatus]
@[simp] theorem execUnitClear_epoch (job : JobId) (failed : Option W16) (s : State) :
    outEpoch (execUnitClear job failed s) = some s.kept.epoch := by simp [execUnitClear]
@[simp] theorem execFaultStatus_epoch (job : JobId) (s : State) :
    outEpoch (execFaultStatus job s) = some s.kept.epoch := by simp [execFaultStatus]
@[simp] theorem execMarginRead_epoch (job : JobId) (s : State) :
    outEpoch (execMarginRead job s) = some s.kept.epoch := by simp [execMarginRead]
@[simp] theorem execBistReport_epoch (job : JobId) (s : State) :
    outEpoch (execBistReport job s) = some s.kept.epoch := by simp [execBistReport]
@[simp] theorem execFwWrite_epoch (job : JobId) (param : List Byte) (s : State) :
    outEpoch (execFwWrite job param s) = some s.kept.epoch := by simp [execFwWrite]

/-! ### Machine/Placement -/

@[simp] theorem execPlacementPass_epoch (s : State) :
    outEpoch (execPlacementPass s) = some s.kept.epoch := by simp [execPlacementPass]
@[simp] theorem execSweepYield_epoch (slot : SlotId) (s : State) :
    outEpoch (execSweepYield slot s) = some s.kept.epoch := by simp [execSweepYield]
@[simp] theorem execJobDeadline_epoch (job : JobId) (s : State) :
    outEpoch (execJobDeadline job s) = some s.kept.epoch := by
  simp only [execJobDeadline]; (repeat' split) <;> simp
@[simp] theorem execFeedTimeout_epoch (slot : SlotId) (s : State) :
    outEpoch (execFeedTimeout slot s) = some s.kept.epoch := by
  simp only [execFeedTimeout]; (repeat' split) <;> simp
@[simp] theorem execCompletionWrite_epoch (s : State) :
    outEpoch (execCompletionWrite s) = some s.kept.epoch := by simp [execCompletionWrite]
@[simp] theorem execEventWrite_epoch (s : State) :
    outEpoch (execEventWrite s) = some s.kept.epoch := by simp [execEventWrite]

/-! ### Machine/Exchange -/

@[simp] theorem execJobSettled_epoch (job : JobId) (s : State) :
    outEpoch (execJobSettled job s) = some s.kept.epoch := by
  simp only [execJobSettled]; (repeat' split) <;> simp
@[simp] theorem execStaleResult_epoch (job : JobId) (gen : W16) (s : State) :
    outEpoch (execStaleResult job gen s) = some s.kept.epoch := by simp [execStaleResult]
@[simp] theorem execExchangeEnd_epoch (slot : SlotId) (noise chars : Nat) (s : State) :
    outEpoch (execExchangeEnd slot noise chars s) = some s.kept.epoch := by
  simp only [execExchangeEnd]; (repeat' split) <;> simp

/-! ### Machine/Profile -/

@[simp] theorem execPrecompute_epoch (job : JobId) (s : State) :
    outEpoch (execPrecompute job s) = some s.kept.epoch := by
  simp only [execPrecompute]; (repeat' split) <;> simp
@[simp] theorem execPrecomputeRelease_epoch (job : JobId) (s : State) :
    outEpoch (execPrecomputeRelease job s) = some s.kept.epoch := by
  simp only [execPrecomputeRelease]; (repeat' split) <;> simp
@[simp] theorem execScOpen_epoch (job : JobId) (resp : List Byte) (sw : W16) (s : State) :
    outEpoch (execScOpen job resp sw s) = some s.kept.epoch := by
  simp only [execScOpen]; (repeat' split) <;> simp
@[simp] theorem execPrefetchDone_epoch (job : JobId) (gen : W16) (rd : PrefetchRead) (s : State) :
    outEpoch (execPrefetchDone job gen rd s) = some s.kept.epoch := by
  simp only [execPrefetchDone, outEpoch_gate]; (repeat' split) <;> simp

/-! ### Machine/SlotElec -/

@[simp] theorem execTokenGrant_epoch (s : State) :
    outEpoch (execTokenGrant s) = some s.kept.epoch := by
  simp only [execTokenGrant, outEpoch_gate]; (repeat' split) <;> simp
@[simp] theorem execAdmitWait_epoch (slot : SlotId) (s : State) :
    outEpoch (execAdmitWait slot s) = some s.kept.epoch := by
  simp only [execAdmitWait]; (repeat' split) <;> simp
@[simp] theorem execVccQualified_epoch (slot : SlotId) (s : State) :
    outEpoch (execVccQualified slot s) = some s.kept.epoch := by simp [execVccQualified]
@[simp] theorem execClkStart_epoch (slot : SlotId) (s : State) :
    outEpoch (execClkStart slot s) = some s.kept.epoch := by simp [execClkStart]
@[simp] theorem execRstRise_epoch (slot : SlotId) (s : State) :
    outEpoch (execRstRise slot s) = some s.kept.epoch := by simp [execRstRise]
@[simp] theorem execVccFail_epoch (slot : SlotId) (s : State) :
    outEpoch (execVccFail slot s) = some s.kept.epoch := by simp [execVccFail]
@[simp] theorem execOcBlankingEnd_epoch (slot : SlotId) (s : State) :
    outEpoch (execOcBlankingEnd slot s) = some s.kept.epoch := by simp [execOcBlankingEnd]
@[simp] theorem execDeactClkStop_epoch (slot : SlotId) (s : State) :
    outEpoch (execDeactClkStop slot s) = some s.kept.epoch := by simp [execDeactClkStop]
@[simp] theorem execMeasurementWindowEnd_epoch (slot : SlotId) (r : WindowReading) (s : State) :
    outEpoch (execMeasurementWindowEnd slot r s) = some s.kept.epoch := by simp [execMeasurementWindowEnd]
@[simp] theorem execDeactLdoOff_epoch (slot : SlotId) (s : State) :
    outEpoch (execDeactLdoOff slot s) = some s.kept.epoch := by simp [execDeactLdoOff]
@[simp] theorem execEmergencyStep_epoch (slot : SlotId) (s : State) :
    outEpoch (execEmergencyStep slot s) = some s.kept.epoch := by
  simp only [execEmergencyStep]; (repeat' split) <;> simp
@[simp] theorem execTOffEnd_epoch (slot : SlotId) (s : State) :
    outEpoch (execTOffEnd slot s) = some s.kept.epoch := by
  simp only [execTOffEnd, outEpoch_gate]; (repeat' split) <;> simp
@[simp] theorem execVoffAbove_epoch (slot : SlotId) (s : State) :
    outEpoch (execVoffAbove slot s) = some s.kept.epoch := by simp [execVoffAbove]
@[simp] theorem execOvercurrent_epoch (slot : SlotId) (s : State) :
    outEpoch (execOvercurrent slot s) = some s.kept.epoch := by simp [execOvercurrent]
@[simp] theorem execShort_epoch (slot : SlotId) (at_ : ShortAt) (s : State) :
    outEpoch (execShort slot at_ s) = some s.kept.epoch := by simp [execShort]
@[simp] theorem execVccWindow_epoch (slot : SlotId) (s : State) :
    outEpoch (execVccWindow slot s) = some s.kept.epoch := by simp [execVccWindow]
@[simp] theorem execRemoval_epoch (slot : SlotId) (s : State) :
    outEpoch (execRemoval slot s) = some s.kept.epoch := by simp [execRemoval]
@[simp] theorem execRefClockLost_epoch (s : State) :
    outEpoch (execRefClockLost s) = some s.kept.epoch := by simp [execRefClockLost]
@[simp] theorem execVstbyFall_epoch (s : State) :
    outEpoch (execVstbyFall s) = some s.kept.epoch := by simp [execVstbyFall]
@[simp] theorem execVinRingRestored_epoch (s : State) :
    outEpoch (execVinRingRestored s) = some s.kept.epoch := by simp [execVinRingRestored]

/-! ### Machine/Galloper -/

@[simp] theorem execModeSwitchAnswer_epoch (slot : SlotId) (ok : Bool) (data : List Byte) (sw : W16) (s : State) :
    outEpoch (execModeSwitchAnswer slot ok data sw s) = some s.kept.epoch := by
  simp only [execModeSwitchAnswer]; (repeat' split) <;> simp
@[simp] theorem execGalloperClockApply_epoch (slot : SlotId) (s : State) :
    outEpoch (execGalloperClockApply slot s) = some s.kept.epoch :=
  outEpoch_galGate _ _ _ _ fun g s => by simp
@[simp] theorem execQuietEnd_epoch (slot : SlotId) (s : State) :
    outEpoch (execQuietEnd slot s) = some s.kept.epoch := by
  simp [execQuietEnd]
@[simp] theorem execRcvToken_epoch (slot : SlotId) (tok : W64) (s : State) :
    outEpoch (execRcvToken slot tok s) = some s.kept.epoch :=
  outEpoch_galGate _ _ _ _ fun g s => by (repeat' split) <;> simp
@[simp] theorem execRspToken_epoch (slot : SlotId) (tok : W64) (s : State) :
    outEpoch (execRspToken slot tok s) = some s.kept.epoch :=
  outEpoch_galGate _ _ _ _ fun g s => by (repeat' split) <;> simp
@[simp] theorem execReadBlock_epoch (slot : SlotId) (blk : RawBlock) (s : State) :
    outEpoch (execReadBlock slot blk s) = some s.kept.epoch :=
  outEpoch_galGate _ _ _ _ fun g s => by (repeat' split) <;> simp
@[simp] theorem execLtsRecord_epoch (slot : SlotId) (blk : RawBlock) (s : State) :
    outEpoch (execLtsRecord slot blk s) = some s.kept.epoch := by
  simp only [execLtsRecord]; (repeat' split) <;> simp
@[simp] theorem execNoResponseToken_epoch (slot : SlotId) (s : State) :
    outEpoch (execNoResponseToken slot s) = some s.kept.epoch :=
  outEpoch_galGate _ _ _ _ fun g s => by simp
@[simp] theorem execBusyEnd_epoch (slot : SlotId) (s : State) :
    outEpoch (execBusyEnd slot s) = some s.kept.epoch :=
  outEpoch_galGate _ _ _ _ fun g s => by (repeat' split) <;> simp
@[simp] theorem execBusyLimit_epoch (slot : SlotId) (s : State) :
    outEpoch (execBusyLimit slot s) = some s.kept.epoch := by
  refine outEpoch_galGate _ _ _ _ fun g s => ?_
  rw [busyDown_kept]
  split
  · exact forEach_epoch _ _ _ fun w s => by split <;> simp
  · exact forEach_epoch _ _ _ fun w s => by split <;> simp
@[simp] theorem execBusyLimitIdle_epoch (slot : SlotId) (s : State) :
    outEpoch (execBusyLimitIdle slot s) = some s.kept.epoch := by
  simp [execBusyLimitIdle]
@[simp] theorem execC7Stuck_epoch (slot : SlotId) (s : State) :
    outEpoch (execC7Stuck slot s) = some s.kept.epoch := by
  simp [execC7Stuck]
@[simp] theorem execGalloperClockStop_epoch (slot : SlotId) (s : State) :
    outEpoch (execGalloperClockStop slot s) = some s.kept.epoch :=
  outEpoch_galGate _ _ _ _ fun g s => by simp
@[simp] theorem execGalloperClockRestart_epoch (slot : SlotId) (s : State) :
    outEpoch (execGalloperClockRestart slot s) = some s.kept.epoch := by
  simp [execGalloperClockRestart]
@[simp] theorem execGalloperCodeApply_epoch (slot : SlotId) (s : State) :
    outEpoch (execGalloperCodeApply slot s) = some s.kept.epoch :=
  outEpoch_galGate _ _ _ _ fun g s => by simp
@[simp] theorem execLtsApdu_epoch (slot : SlotId) (ok : Bool) (data : List Byte) (sw : W16) (s : State) :
    outEpoch (execLtsApdu slot ok data sw s) = some s.kept.epoch := by
  simp only [execLtsApdu]; (repeat' split) <;> simp
@[simp] theorem execEyeSweep_epoch (slot : SlotId) (s : State) :
    outEpoch (execEyeSweep slot s) = some s.kept.epoch :=
  outEpoch_galGate _ _ _ _ fun g s => by simp
@[simp] theorem execTrainPattern_epoch (slot : SlotId) (blk : RawBlock) (tokenOk : Bool) (s : State) :
    outEpoch (execTrainPattern slot blk tokenOk s) = some s.kept.epoch :=
  outEpoch_galGate _ _ _ _ fun g s => by (repeat' split) <;> simp

/-! ### Machine/Presence -/

@[simp] theorem execPresencePresent_epoch (slot : SlotId) (s : State) :
    outEpoch (execPresencePresent slot s) = some s.kept.epoch := by
  simp only [execPresencePresent, outEpoch_gate]; (repeat' split) <;> simp [onlyIf]
@[simp] theorem execPresenceAbsent_epoch (slot : SlotId) (s : State) :
    outEpoch (execPresenceAbsent slot s) = some s.kept.epoch := by simp [execPresenceAbsent]
@[simp] theorem execPresBand_epoch (slot : SlotId) (s : State) :
    outEpoch (execPresBand slot s) = some s.kept.epoch := by
  simp only [execPresBand, outEpoch_gate]; (repeat' split) <;> simp [onlyIf]
@[simp] theorem execUnstable_epoch (slot : SlotId) (transitions broken : Nat) (s : State) :
    outEpoch (execUnstable slot transitions broken s) = some s.kept.epoch := by
  simp only [execUnstable, outEpoch_gate]; (repeat' split) <;> simp
@[simp] theorem execResolutionActivation_epoch (slot : SlotId) (s : State) :
    outEpoch (execResolutionActivation slot s) = some s.kept.epoch := by simp [execResolutionActivation]

/-! ### Machine/Monitors -/

@[simp] theorem execComparatorCheck_epoch (obj : CheckObj) (c : CompId) (s : State) :
    outEpoch (execComparatorCheck obj c s) = some s.kept.epoch := by
  simp only [execComparatorCheck]; (repeat' split) <;> simp
@[simp] theorem execComparatorCheckEnd_epoch (obj : CheckObj) (c : CompId) (failStep : Option (Fin 3)) (s : State) :
    outEpoch (execComparatorCheckEnd obj c failStep s) = some s.kept.epoch := by
  simp only [execComparatorCheckEnd]; (repeat' split) <;> simp
@[simp] theorem execRotationCheck_epoch (ring : RingId) (slot : Fin 8) (c : CompId) (s : State) :
    outEpoch (execRotationCheck ring slot c s) = some s.kept.epoch := by simp [execRotationCheck]
@[simp] theorem execHandoverEnd_epoch (ring : RingId) (agree : Bool) (s : State) :
    outEpoch (execHandoverEnd ring agree s) = some s.kept.epoch := by
  simp only [execHandoverEnd]; (repeat' split) <;> simp
@[simp] theorem execPresCheck_epoch (slot : SlotId) (s : State) :
    outEpoch (execPresCheck slot s) = some s.kept.epoch := by simp [execPresCheck]
@[simp] theorem execTwinCheck_epoch (ring : RingId) (s : State) :
    outEpoch (execTwinCheck ring s) = some s.kept.epoch := by simp [execTwinCheck]

/-! ### Machine/Rings -/

@[simp] theorem execRingParked_epoch (ring : RingId) (s : State) :
    outEpoch (execRingParked ring s) = some s.kept.epoch := by simp [execRingParked]
@[simp] theorem execRailRetarget_epoch (ring : RingId) (s : State) :
    outEpoch (execRailRetarget ring s) = some s.kept.epoch := by
  simp only [execRailRetarget, outEpoch_gate]; (repeat' split) <;> simp
@[simp] theorem execRailSettled_epoch (ring : RingId) (s : State) :
    outEpoch (execRailSettled ring s) = some s.kept.epoch := by simp [execRailSettled]
@[simp] theorem execDownHoldEnd_epoch (ring : RingId) (s : State) :
    outEpoch (execDownHoldEnd ring s) = some s.kept.epoch := by simp [execDownHoldEnd]
@[simp] theorem execRingUv_epoch (ring : RingId) (s : State) :
    outEpoch (execRingUv ring s) = some s.kept.epoch := by simp [execRingUv]
@[simp] theorem execRingOv_epoch (ring : RingId) (s : State) :
    outEpoch (execRingOv ring s) = some s.kept.epoch := by simp [execRingOv]
@[simp] theorem execRingOc_epoch (ring : RingId) (s : State) :
    outEpoch (execRingOc ring s) = some s.kept.epoch := by simp [execRingOc]
@[simp] theorem execRingOt_epoch (ring : RingId) (s : State) :
    outEpoch (execRingOt ring s) = some s.kept.epoch := by simp [execRingOt]
@[simp] theorem execRingStart_epoch (ring : RingId) (s : State) :
    outEpoch (execRingStart ring s) = some s.kept.epoch := by simp [execRingStart]
@[simp] theorem execRingSettle_epoch (ring : RingId) (s : State) :
    outEpoch (execRingSettle ring s) = some s.kept.epoch := by simp [execRingSettle]

/-! ### Machine/Journal -/

@[simp] theorem execJournalGroupCommit_epoch (s : State) :
    outEpoch (execJournalGroupCommit s) = some s.kept.epoch := by simp [execJournalGroupCommit]
@[simp] theorem execJournalCopy_epoch (chan : ChanId) (s : State) :
    outEpoch (execJournalCopy chan s) = some s.kept.epoch := by simp [execJournalCopy]
@[simp] theorem execJournalBlockErase_epoch (upTo : W64) (s : State) :
    outEpoch (execJournalBlockErase upTo s) = some s.kept.epoch := by simp [execJournalBlockErase]
@[simp] theorem execRppWrite_epoch (s : State) :
    outEpoch (execRppWrite s) = some s.kept.epoch := by simp [execRppWrite]
@[simp] theorem execAnchorUpdate_epoch (s : State) :
    outEpoch (execAnchorUpdate s) = some s.kept.epoch := by simp [execAnchorUpdate]
@[simp] theorem execPagePad_epoch (t : TargetId) (i : Nat) (s : State) :
    outEpoch (execPagePad t i s) = some s.kept.epoch := by simp [execPagePad]
@[simp] theorem execBlockRelocate_epoch (t : TargetId) (i : Nat) (s : State) :
    outEpoch (execBlockRelocate t i s) = some s.kept.epoch := by simp [execBlockRelocate]
@[simp] theorem execWearLevel_epoch (t : TargetId) (s : State) :
    outEpoch (execWearLevel t s) = some s.kept.epoch := by
  simp only [execWearLevel]; (repeat' split) <;> simp
@[simp] theorem execMediaProgramDone_epoch (t : TargetId) (i : Nat) (erase passed : Bool) (s : State) :
    outEpoch (execMediaProgramDone t i erase passed s) = some s.kept.epoch := by
  simp only [execMediaProgramDone, outEpoch_gate]; (repeat' split) <;> simp [onlyIf]

/-! ### Machine/Security -/

@[simp] theorem execLcWaitTimeout_epoch (s : State) :
    outEpoch (execLcWaitTimeout s) = some s.kept.epoch := by
  simp only [execLcWaitTimeout]; (repeat' split) <;> simp
@[simp] theorem execDebugToken_epoch (req : SignedReq) (s : State) :
    outEpoch (execDebugToken req s) = some s.kept.epoch := by simp [execDebugToken]
@[simp] theorem execDebugClose_epoch (s : State) :
    outEpoch (execDebugClose s) = some s.kept.epoch := by simp [execDebugClose]
@[simp] theorem execDebugExpiry_epoch (s : State) :
    outEpoch (execDebugExpiry s) = some s.kept.epoch := by simp [execDebugExpiry]
@[simp] theorem execCeremonyTimeout_epoch (s : State) :
    outEpoch (execCeremonyTimeout s) = some s.kept.epoch := by simp [execCeremonyTimeout]
@[simp] theorem execRuleBarrier_epoch (cause : RuleCause) (s : State) :
    outEpoch (execRuleBarrier cause s) = some s.kept.epoch := by simp [execRuleBarrier]

/-! ### Machine/Faults -/

@[simp] theorem execProbationEnd_epoch (u : UnitRef) (s : State) :
    outEpoch (execProbationEnd u s) = some s.kept.epoch := by simp [execProbationEnd]

/-! ### Machine/Tightrope -/

@[simp] theorem execSiliconMonitor_epoch (core slot bank link : Int) (s : State) :
    outEpoch (execSiliconMonitor core slot bank link s) = some s.kept.epoch := by
  simp only [execSiliconMonitor, outEpoch_gate]; (repeat' split) <;> simp
@[simp] theorem execEfficiencySample_epoch (ring : RingId) (percent railMilliwatt : Nat) (s : State) :
    outEpoch (execEfficiencySample ring percent railMilliwatt s) = some s.kept.epoch := by
  simp only [execEfficiencySample, outEpoch_gate]; (repeat' split) <;> simp [onlyIf]
@[simp] theorem execRetentionCheck_epoch (bankA bankB option : Option Nat) (s : State) :
    outEpoch (execRetentionCheck bankA bankB option s) = some s.kept.epoch := by
  rw [execRetentionCheck, outEpoch_gate]
  split
  · dsimp only; split
    · rfl
    · refine congrArg some ((forEach_epoch _ _ _ fun _ _ => ?_).trans ?_)
      · rw [raise_kept]
      · simp
  · rfl
@[simp] theorem execEyeSweepRequest_epoch (slot : SlotId) (s : State) :
    outEpoch (execEyeSweepRequest slot s) = some s.kept.epoch := by simp [execEyeSweepRequest]
@[simp] theorem execPlanEvaluation_epoch (s : State) :
    outEpoch (execPlanEvaluation s) = some s.kept.epoch := by simp [execPlanEvaluation]
@[simp] theorem execGuardSwitch_epoch (s : State) :
    outEpoch (execGuardSwitch s) = some s.kept.epoch := by simp [execGuardSwitch]
@[simp] theorem execGuardForce_epoch (s : State) :
    outEpoch (execGuardForce s) = some s.kept.epoch := by simp [execGuardForce]

/-! ### Machine/StationBus -/

@[simp] theorem execSbCommandFrame_epoch (port : PortId) (s : State) :
    outEpoch (execSbCommandFrame port s) = some s.kept.epoch := by
  simp only [execSbCommandFrame]; (repeat' split) <;> simp
@[simp] theorem execPollResponse_epoch (port : PortId) (mu : MuId) (f : SbFrame) (s : State) :
    outEpoch (execPollResponse port mu f s) = some s.kept.epoch := by simp [execPollResponse]
@[simp] theorem execPollPeriod_epoch (port : PortId) (mu : MuId) (s : State) :
    outEpoch (execPollPeriod port mu s) = some s.kept.epoch := by simp [execPollPeriod]
@[simp] theorem execRespTimeout_epoch (port : PortId) (mu : MuId) (s : State) :
    outEpoch (execRespTimeout port mu s) = some s.kept.epoch := by simp [execRespTimeout]
@[simp] theorem execAnnounce_epoch (port : PortId) (mu : MuId) (f : SbFrame) (s : State) :
    outEpoch (execAnnounce port mu f s) = some s.kept.epoch := by simp [execAnnounce]
@[simp] theorem execCollision_epoch (port : PortId) (s : State) :
    outEpoch (execCollision port s) = some s.kept.epoch := by
  simp only [execCollision]; (repeat' split) <;> simp
@[simp] theorem execListen_epoch (port : PortId) (s : State) :
    outEpoch (execListen port s) = some s.kept.epoch := by simp [execListen]
@[simp] theorem execWake_epoch (port : PortId) (s : State) :
    outEpoch (execWake port s) = some s.kept.epoch := by simp [execWake]
@[simp] theorem execSbStuckLow_epoch (port : PortId) (s : State) :
    outEpoch (execSbStuckLow port s) = some s.kept.epoch := by simp [execSbStuckLow]
@[simp] theorem execSbRecovered_epoch (port : PortId) (s : State) :
    outEpoch (execSbRecovered port s) = some s.kept.epoch := by simp [execSbRecovered]
@[simp] theorem execRtsCtsMessage_epoch (port : PortId) (s : State) :
    outEpoch (execRtsCtsMessage port s) = some s.kept.epoch := by
  simp only [execRtsCtsMessage]; (repeat' split) <;> simp
@[simp] theorem execCtsTimeout_epoch (port : PortId) (s : State) :
    outEpoch (execCtsTimeout port s) = some s.kept.epoch := by
  simp only [execCtsTimeout]; (repeat' split) <;> simp
@[simp] theorem execRtsCtsAnswer_epoch (port : PortId) (b : Byte) (s : State) :
    outEpoch (execRtsCtsAnswer port b s) = some s.kept.epoch := by
  simp only [execRtsCtsAnswer]; (repeat' split) <;> simp
@[simp] theorem execAckTimeout_epoch (port : PortId) (s : State) :
    outEpoch (execAckTimeout port s) = some s.kept.epoch := by
  simp only [execAckTimeout]; (repeat' split) <;> simp

/-! ### Machine/Sideshow -/

@[simp] theorem execBusStartStop_epoch (cut : SbCut) (s : State) :
    outEpoch (execBusStartStop cut s) = some s.kept.epoch := by
  simp only [execBusStartStop]; (repeat' split) <;> simp
@[simp] theorem execIdent_epoch (s : State) :
    outEpoch (execIdent s) = some s.kept.epoch := by simp [execIdent]
@[simp] theorem execStatus_epoch (s : State) :
    outEpoch (execStatus s) = some s.kept.epoch := by simp [execStatus]
@[simp] theorem execHealth_epoch (s : State) :
    outEpoch (execHealth s) = some s.kept.epoch := by simp [execHealth]
@[simp] theorem execPresence_epoch (s : State) :
    outEpoch (execPresence s) = some s.kept.epoch := by simp [execPresence]
@[simp] theorem execLogSel_epoch (w : SbWrite) (s : State) :
    outEpoch (execLogSel w s) = some s.kept.epoch := by simp [execLogSel]
@[simp] theorem execLogRead_epoch (s : State) :
    outEpoch (execLogRead s) = some s.kept.epoch := by simp [execLogRead]
@[simp] theorem execMboxRead_epoch (s : State) :
    outEpoch (execMboxRead s) = some s.kept.epoch := by simp [execMboxRead]
@[simp] theorem execMboxWrite_epoch (w : SbWrite) (s : State) :
    outEpoch (execMboxWrite w s) = some s.kept.epoch :=
  outEpoch_sideWrite _ _ _ _ _ _ fun s => by simp [mainCommand]
@[simp] theorem execNonce_epoch (s : State) :
    outEpoch (execNonce s) = some s.kept.epoch := by simp [execNonce]
@[simp] theorem execBistResult_epoch (s : State) :
    outEpoch (execBistResult s) = some s.kept.epoch := by simp [execBistResult]
@[simp] theorem execFwStatus_epoch (s : State) :
    outEpoch (execFwStatus s) = some s.kept.epoch := by simp [execFwStatus]
@[simp] theorem execLockoutEnd_epoch (s : State) :
    outEpoch (execLockoutEnd s) = some s.kept.epoch := by simp [execLockoutEnd]
@[simp] theorem execSideshowAnswer_epoch (s : State) :
    outEpoch (execSideshowAnswer s) = some s.kept.epoch := by
  simp only [execSideshowAnswer]; (repeat' split) <;> simp
@[simp] theorem execHealthSnapshot_epoch (tempEighths : W16) (s : State) :
    outEpoch (execHealthSnapshot tempEighths s) = some s.kept.epoch := by simp [execHealthSnapshot]

/-! ### Machine/Debug -/

@[simp] theorem execTapInstructionLoad_epoch (i : TapInstr) (s : State) :
    outEpoch (execTapInstructionLoad i s) = some s.kept.epoch := by simp [execTapInstructionLoad]
@[simp] theorem execDebugHalt_epoch (p : PairId) (s : State) :
    outEpoch (execDebugHalt p s) = some s.kept.epoch := by simp [execDebugHalt]
@[simp] theorem execDebugResume_epoch (p : PairId) (s : State) :
    outEpoch (execDebugResume p s) = some s.kept.epoch := by simp [execDebugResume]

/-! ## The commands that may end in a reset or drain a barrier -/

/-- RULE_EPOCH is shown in the state that an outcome answers. -/
def OutShown (o : Out) : Prop := ∀ t, o = .next t → t.kept.epoch ≠ 0

theorem OutShown.next {s : State} (h : s.kept.epoch ≠ 0) : OutShown (.next s) := by
  rintro t ⟨⟩; exact h

theorem OutShown.of_epoch {o : Out} {s : State} (h : s.kept.epoch ≠ 0) (e : outEpoch o = some s.kept.epoch) :
    OutShown o := by
  rintro t rfl
  rw [outEpoch_next, Option.some.injEq] at e
  rwa [e]

theorem OutShown.gate {s : State} {c : Bool} {f : State → State} (h : s.kept.epoch ≠ 0)
    (hf : (f s).kept.epoch ≠ 0) : OutShown (s.gate c f) := .next (shown_ite hf h)

theorem OutShown.sideWrite {s : State} {code : Byte} {lo hi : Nat} {w : SbWrite} {f : State → State}
    (h : s.kept.epoch ≠ 0) (hf : (f s).kept.epoch ≠ 0) : OutShown (s.sideWrite code lo hi w f) :=
  .gate h (shown_ite (by simpa using h) (shown_ite (by simpa using h) (shown_ite (by simpa using h) hf)))

section Commands
variable {s : State} (h : s.kept.epoch ≠ 0)
include h

theorem execBistDomainEnd_shown (sig : W64) : OutShown (execBistDomainEnd sig s) := by
  unfold execBistDomainEnd; split
  · exact .next h
  next b hb =>
    have h1 : (restoreScope b sig s).kept.epoch ≠ 0 := restoreScope_shown h b sig
    have h2 := shown_ite (c := (b.scope == 0xA) = true) h1
      (b := askBarrier .bist (writeResult b sig (restoreScope b sig s))) (by simpa using h1)
    exact .gate h (shown_ite h2 (failDomainRun_shown h2 b))

theorem execDeactivationEnd_shown (n : SlotId) : OutShown (execDeactivationEnd n s) := by
  unfold execDeactivationEnd; split
  · exact .next h
  · exact .gate h (endDeactivation_shown h n)

theorem execLcDrained_shown : OutShown (execLcDrained s) := by
  unfold execLcDrained; split
  · exact .next h
  · exact .gate h (finishChange_shown h _)

theorem execDebugLcChange_shown (req : SignedReq) : OutShown (execDebugLcChange req s) := by
  have h' : (renewDebugNonce s).kept.epoch ≠ 0 := by simpa using h
  refine .gate h ?_
  dsimp only
  split
  · exact shown_ite (finishChange_shown h' _) h'
  · exact h'

theorem execAccessViolation_shown (v : Violation) : OutShown (execAccessViolation v s) :=
  .gate h (by rw [refusalJob_kept]; exact refusalError_shown (by simpa using h) v)

theorem execRecoveryDone_shown (u : UnitRef) (ok : Bool) : OutShown (execRecoveryDone u ok s) := by
  refine .gate h ?_
  cases ok
  · exact recoveryFails_shown h u
  · simpa using h

theorem execMainSideReset_shown (src : ResetSource) (board : Board) : OutShown (execMainSideReset src board s) :=
  .gate h (mainReset_shown _ _ _)

theorem execPcieReset_shown (kind : LinkReset) : OutShown (execPcieReset kind s) := .gate h (resetBy_shown _ _)

theorem execFlr_shown : OutShown (execFlr s) := .gate h (resetBy_shown _ _)

theorem execRuleBarrierDrained_shown : OutShown (execRuleBarrierDrained s) := .gate h (nextEpoch_ne_zero _)

theorem execRegParity_shown (off : BitVec 12) (both : Bool) : OutShown (execRegParity off both s) :=
  .gate h (shown_ite (openFatal_shown h _ _ _) (by simpa using h))

theorem execFwPrepare_shown (key : Byte) : OutShown (execFwPrepare key s) := .gate h (hostFw_shown h _ _)

theorem execFwCommit_shown (key : Byte) : OutShown (execFwCommit key s) := .gate h (hostFw_shown h _ _)

theorem execFwSwitch_shown (key : Byte) : OutShown (execFwSwitch key s) := .gate h (hostFw_shown h _ _)

theorem execFwAbort_shown (key : Byte) : OutShown (execFwAbort key s) := .gate h (hostFw_shown h _ _)

theorem execSupplyTrigger_shown (vcore : Bool) : OutShown (execSupplyTrigger vcore s) :=
  .gate h (shown_ite (by simpa using h) (resetBy_shown _ _))

theorem execRefClockRestored_shown : OutShown (execRefClockRestored s) := .gate h (resetBy_shown _ _)

theorem execJournalDurable_shown : OutShown (execJournalDurable s) := .gate h (fatalProgress_shown (by simpa using h))

theorem execTamperL1_shown (x : Sensor) : OutShown (execTamperL1 x s) := .gate h (tamperLevel1_shown h x)

theorem execTamperL2_shown (x : Sensor) : OutShown (execTamperL2 x s) := .gate h (tamperLevel2_shown h x)

theorem execTamperSelfTest_shown (failed : Bool) : OutShown (execTamperSelfTest failed s) := by
  refine .gate h ?_
  dsimp only
  split
  · exact tamperLevel1_shown (by simpa using h) _
  · simpa using h

theorem execUnitError_shown (u : UnitRef) (code : W16) : OutShown (execUnitError u code s) :=
  .gate h (unitFails_shown h u code)

theorem execLockstep_shown (p : PairId) : OutShown (execLockstep p s) := .gate h (unitFails_shown h _ _)

theorem execPairWatchdog_shown (p : PairId) : OutShown (execPairWatchdog p s) := .gate h (unitFails_shown h _ _)

theorem execDeviceWatchdog_shown : OutShown (execDeviceWatchdog s) := .gate h (openFatal_shown h _ _ _)

theorem execFatalError_shown (code : W16) : OutShown (execFatalError code s) := .gate h (openFatal_shown h _ _ _)

theorem execFatalNested_shown (code : W16) : OutShown (execFatalNested code s) := .gate h (openFatal_shown h _ _ _)

theorem execFatalWindowTimeout_shown : OutShown (execFatalWindowTimeout s) := .gate h (resetBy_shown _ _)

theorem execSlotOff_shown (w : SbWrite) : OutShown (execSlotOff w s) :=
  .sideWrite h (privileged_shown h _ _ _ fun _ _ h => by simpa using h)

theorem execBistStart_shown (w : SbWrite) : OutShown (execBistStart w s) :=
  .sideWrite h (privileged_shown h _ _ _ fun _ _ h => by simpa using h)

theorem execMainReset_shown (w : SbWrite) : OutShown (execMainReset w s) :=
  .sideWrite h (privileged_shown h _ _ _ fun _ _ _ => resetBy_shown _ _)

theorem execFwOp_shown (w : SbWrite) : OutShown (execFwOp w s) :=
  .sideWrite h (privileged_shown h _ _ _ fun d _ h => sideFw_shown h d)

theorem execFwData_shown (w : SbWrite) : OutShown (execFwData w s) :=
  .sideWrite h (privileged_shown h _ _ _ fun d _ h => sideFwData_shown h d)

/-- Every command keeps RULE_EPOCH shown. -/
theorem exec_shown (c : Instr) : OutShown (exec c s) := by
  cases c with
  | mainSideReset src board => exact execMainSideReset_shown h src board
  | pcieReset kind => exact execPcieReset_shown h kind
  | flr => exact execFlr_shown h
  | ruleBarrierDrained => exact execRuleBarrierDrained_shown h
  | regParity off both => exact execRegParity_shown h off both
  | bistDomainEnd sig => exact execBistDomainEnd_shown h sig
  | fwPrepare key => exact execFwPrepare_shown h key
  | fwCommit key => exact execFwCommit_shown h key
  | fwSwitch key => exact execFwSwitch_shown h key
  | fwAbort key => exact execFwAbort_shown h key
  | deactivationEnd n => exact execDeactivationEnd_shown h n
  | supplyTrigger vcore => exact execSupplyTrigger_shown h vcore
  | refClockRestored => exact execRefClockRestored_shown h
  | journalDurable => exact execJournalDurable_shown h
  | lcDrained => exact execLcDrained_shown h
  | debugLcChange req => exact execDebugLcChange_shown h req
  | accessViolation v => exact execAccessViolation_shown h v
  | tamperL1 x => exact execTamperL1_shown h x
  | tamperL2 x => exact execTamperL2_shown h x
  | tamperSelfTest failed => exact execTamperSelfTest_shown h failed
  | unitError u code => exact execUnitError_shown h u code
  | lockstep p => exact execLockstep_shown h p
  | pairWatchdog p => exact execPairWatchdog_shown h p
  | recoveryDone u ok => exact execRecoveryDone_shown h u ok
  | deviceWatchdog => exact execDeviceWatchdog_shown h
  | fatalError code => exact execFatalError_shown h code
  | fatalNested code => exact execFatalNested_shown h code
  | fatalWindowTimeout => exact execFatalWindowTimeout_shown h
  | slotOff w => exact execSlotOff_shown h w
  | bistStart w => exact execBistStart_shown h w
  | mainReset w => exact execMainReset_shown h w
  | fwOp w => exact execFwOp_shown h w
  | fwData w => exact execFwData_shown h w
  | _ => exact .of_epoch h (by simp [exec])

end Commands

@[simp] theorem withPending_epoch (s : State) (l : List Instr) : (withPending s l).kept.epoch = s.kept.epoch := by
  simp [withPending]

theorem tick_shown {s : State} (h : s.kept.epoch ≠ 0) : (tick s).kept.epoch ≠ 0 := by
  rw [tick_eq]; exact h

/-- Settles O4: every command keeps RULE_EPOCH shown, and so does a microsecond. -/
theorem ruleEpochIsNeverZero : Obligations.RuleEpochIsNeverZero := by
  intro s t h hs
  rw [epochShown_iff] at h ⊢
  unfold step at hs
  split at hs
  · exact exec_shown (by rw [withPending_epoch]; exact h) _ t hs
  · cases hs
    exact tick_shown h

end Sys2Proof.Machine

namespace Sys2Proof.Machine
open Sys2Proof

/-! # A step takes the front of the queue -/

/-- Settles O1: the step's own case for a queue that is not empty. -/
theorem stepRunsTheFrontCommand : Obligations.StepRunsTheFrontCommand := by
  intro c rest s h
  rw [step, h]

end Sys2Proof.Machine

namespace Sys2Proof.Machine
open Sys2Proof

/-! # The key store (R407, R409 to R411) -/

/-! ## Key tickets: when they run and how they end -/

section KeyTicket
variable {s : State} {id : JobId} {op : Nat} {j : Job} (h : s.runnable id 5 op j)
include h

/-- A key ticket that the life cycle allows runs, on a bank that is laid out (R268, R406, R407). -/
theorem keyTicket_runs (hl : s.nv.lc = .provisioning ∨ s.nv.lc = .operational) (hm : s.bank.formatted = true)
    (f : Job → State → State) : keyTicket id op false (needBank f) s = .next (f j s) := by
  have hlc : (s.nv.lc == .provisioning || !false && s.nv.lc == .operational) = true := by
    rcases hl with hl | hl <;> rw [hl] <;> rfl
  rw [keyTicket, runnable_open h, if_pos hlc, needBank, if_pos hm]

theorem keyTicket_fails (err : W16) :
    s.jobEnds (failJob id err s) j .failed err j.result ∧ (failJob id err s).bank = s.bank := by
  obtain ⟨hends, hframe⟩ := runnable_fail h err
  exact ⟨hends, (congrArg State.bank hframe :)⟩

/-- A key ticket whose work left the jobs alone ends DONE and leaves the bank and the Jugglers as its work made them. -/
theorem keyTicket_done {u : State} (hj : u.jobs = s.jobs) (hc : u.closing = s.closing) (result : List Byte) :
    s.jobEnds (doneWith id result u) j .done 0 result ∧ (doneWith id result u).bank = u.bank ∧
      (doneWith id result u).jugs = u.jugs := by
  obtain ⟨hends, hframe⟩ := runnable_finish h u hj hc result .done 0 (.inr rfl)
  exact ⟨hends, (congrArg State.bank hframe :), (congrArg State.jugs hframe :)⟩

/-- A key ticket that reports entries ends DONE with those that fit, and leaves the bank (R174). -/
theorem keyTicket_reports (size : Nat) (l : List (List Byte)) :
    s.jobEnds (doneWithEntries j [] size l s) j .done 0 (entriesThatFit j 0 size l).flatten ∧
      (doneWithEntries j [] size l s).bank = s.bank := by
  have hfree := h
  obtain ⟨-, -, hs, hr, hg, hc⟩ := hfree
  have hf := find_updJob s id (fun k => { k with resultTrunc := (entriesThatFit j 0 size l).length < l.length })
    (fun _ => rfl) j (runnable_find h)
  obtain ⟨hends, hframe, -⟩ := done_free id (entriesThatFit j 0 size l).flatten _ _ hf hs hr hg hc .done 0 (.inr rfl)
  rw [doneWithEntries, jobid_of h]
  exact ⟨hends, (congrArg State.bank hframe :)⟩

end KeyTicket

/-! ## What an audit entry leaves of a key ticket's work (R260) -/

section Audit
variable (ty oc : Byte) (i : Nat) (job : W32) (ctr d : W64) (s : State)

theorem audit_jugs : (audit ty oc i job ctr d s).jugs = s.jugs := by
  simp only [audit, onlyIf]; (repeat' split) <;> rfl

theorem audit_keys : (audit ty oc i job ctr d s).bank.keys = s.bank.keys := by
  simp only [audit, onlyIf]; (repeat' split) <;> rfl

theorem audit_records : (audit ty oc i job ctr d s).bank.records = s.bank.records := by
  simp only [audit, onlyIf]; (repeat' split) <;> rfl

end Audit

/-! ## KEY_IMPORT (R409, R410) -/

/-- The key that a packet carries, as the store holds it (R409, R410). -/
def State.packetKey (s : State) (p : List Byte) : StoredKey :=
  { handle := (readPacket p).handle, ktype := (readPacket p).ktype, usage := (readPacket p).usage,
    value := s.importValue p }

/-- The state with a key stored and its audit entry written (R410, R431). -/
def State.keyStored (s : State) (k : StoredKey) : State :=
  audit 0x05 0 0 0 (BitVec.ofNat 64 k.handle.toNat)
    (BitVec.ofNat 64 (ofLe (checkValue k.ktype k.value) + k.ktype * 2 ^ 24))
    { s with bank.keys := s.bank.keys ++ [k] }

theorem keyStored_offBooks (s : State) (k : StoredKey) : (s.keyStored k).offBooks = s.offBooks :=
  audit_offBooks _ _ _ _ _ _ _

section KeyImport
variable {param : List Byte} {j : Job} {s : State} (hp : packetOk false (j.data param) = true)
include hp

theorem keyImport_faulty {e : W16} (he : s.importFault (j.data param) = some e) :
    keyImport param j s = failJob j.ticket.jobId e s := by
  simp only [keyImport, hp, he]; rfl

theorem keyImport_sound (he : s.importFault (j.data param) = none)
    (hn : s.bank.keys.any (fun e => e.handle == (readPacket (j.data param)).handle) = false)
    (hk : s.bank.keys.length < 4096) (hr : s.hasRoom 1 = true) :
    keyImport param j s = doneWith j.ticket.jobId
      (checkValue (readPacket (j.data param)).ktype (s.importValue (j.data param)) ++ [0])
      (s.keyStored (s.packetKey (j.data param))) := by
  have hlen : ¬ s.bank.keys.length ≥ 4096 := Nat.not_le.2 hk
  simp only [keyImport, hp, he, hn, hlen, hr]; rfl

end KeyImport

/-! ## KEY_DELETE (R407, R411) -/

/-- The state without the key of a handle, in the store and in the caches, with its audit entry written (R411, R431). -/
def State.keyDeleted (s : State) (h : W32) : State :=
  audit 0x06 0 0 0 (BitVec.ofNat 64 h.toNat) 0
    (dropCached h { s with bank.keys := s.bank.keys.filter (fun e => e.handle != h) })

theorem keyDeleted_offBooks (s : State) (h : W32) : (s.keyDeleted h).offBooks = s.offBooks :=
  audit_offBooks _ _ _ _ _ _ _

theorem keyDeleted_cache (s : State) (h : W32) (g : Fin 8) : h ∉ (s.keyDeleted h).jugs[g.val].cache := by
  have hj : (s.keyDeleted h).jugs = (dropCached h s).jugs := audit_jugs _ _ _ _ _ _ _
  simp [hj, dropCached]

section KeyDelete
variable {j : Job} {s : State} (hk : s.bank.keys.any (fun e => e.handle == j.ticket.arg) = true)
include hk

theorem keyDelete_used (hu : s.keyInUse j.ticket.arg = true) :
    keyDelete j s = failJob j.ticket.jobId 0x0B0A s := by
  simp only [keyDelete, hk, hu]; rfl

theorem keyDelete_unused (hu : s.keyInUse j.ticket.arg = false) :
    keyDelete j s = doneWith j.ticket.jobId [] (s.keyDeleted j.ticket.arg) := by
  simp only [keyDelete, hk, hu]; rfl

end KeyDelete

/-- Settles O28: each ticket by the one update of the store it ends DONE with, or by its failure. -/
theorem keyStoreImportsDeletesAndLists : Obligations.KeyStoreImportsDeletesAndLists := by
  refine ⟨fun id param j s h hl hm hp hn hk hr => ⟨_, keyTicket_runs h (.inl hl) hm _, ?_⟩,
    fun id j s h hl hm hl0 hk => ⟨fun hu => ⟨_, keyTicket_runs h (.inr hl) hm _, ?_⟩,
      fun hu => ⟨_, keyTicket_runs h (.inr hl) hm _, ?_⟩⟩,
    fun id j s h hl hm hl0 => ⟨_, keyTicket_runs h (.inr hl) hm _, ?_⟩⟩
  · cases he : s.importFault (j.data param) with
    | some e =>
      rw [keyImport_faulty hp he, jobid_of h]
      exact keyTicket_fails h e
    | none =>
      rw [keyImport_sound hp he hn hk hr, jobid_of h]
      have hb := keyStored_offBooks s (s.packetKey (j.data param))
      obtain ⟨hends, hbank, -⟩ := keyTicket_done h (State.offBooks_jobs hb) (State.offBooks_closing hb) _
      exact ⟨hends, (congrArg Bank.keys hbank).trans (audit_keys _ _ _ _ _ _ _)⟩
  · rw [noParam_empty hl0, keyDelete_unused hk hu, jobid_of h]
    have hb := keyDeleted_offBooks s j.ticket.arg
    obtain ⟨hends, hbank, hjugs⟩ := keyTicket_done h (State.offBooks_jobs hb) (State.offBooks_closing hb) []
    rw [hbank, hjugs]
    exact ⟨hends, audit_keys _ _ _ _ _ _ _, keyDeleted_cache s _, audit_records _ _ _ _ _ _ _⟩
  · rw [noParam_empty hl0, keyDelete_used hk hu, jobid_of h]
    exact keyTicket_fails h 0x0B0A
  · rw [noParam_empty hl0]
    exact (keyTicket_reports h 12 _).symm

end Sys2Proof.Machine

namespace Sys2Proof.Machine
open Sys2Proof

/-! # Tightrope: measurements, the margin plan and the guard switch (R455, R456, R458, R459, R461, R462) -/

/-! ## Reported limits (R455, R458) -/

/-- Between two states only the list of reported limits and the event queue moved, and no waiting event left. -/
structure State.ReportsLimits (s t : State) : Prop where
  frame : t = { s with tight.limits := t.tight.limits, barker := t.barker }
  queue : s.barker.queue ⊆ t.barker.queue

theorem State.ReportsLimits.refl (s : State) : s.ReportsLimits s := ⟨rfl, fun _ => id⟩

theorem State.ReportsLimits.trans {s t u : State} (h : s.ReportsLimits t) (h' : t.ReportsLimits u) :
    s.ReportsLimits u where
  frame := by rw [h'.frame, h.frame]
  queue := List.Subset.trans h.queue h'.queue

/-- A limit stands exactly while it is reached, with AGEING_LIMIT when it comes new; the other limits stay. -/
structure State.NotesLimit (s : State) (key : Nat) (reached : Bool) (arg : Nat) (t : State) : Prop
    extends s.ReportsLimits t where
  stands : ∀ k, k ∈ t.tight.limits ↔ if k = key then reached = true else k ∈ s.tight.limits
  event : reached = true → key ∉ s.tight.limits →
    ∃ e ∈ t.barker.queue, e.code = 0x1002 ∧ e.arg = BitVec.ofNat 32 arg

theorem noteLimit_notesLimit (key : Nat) (reached : Bool) (arg : Nat) (s : State) :
    s.NotesLimit key reached arg (noteLimit key reached (raise 0x1002 none arg) s) := by
  cases reached with
  | false =>
    exact { frame := rfl, queue := fun _ => id, event := fun h => absurd h (by decide),
            stands := fun k => by by_cases hk : k = key <;> simp [noteLimit, hk] }
  | true =>
    cases hc : s.tight.limits.contains key with
    | true =>
      have hm : key ∈ s.tight.limits := by simpa using hc
      have he : noteLimit key true (raise 0x1002 none arg) s = s := by simp [noteLimit, hm]
      rw [he]
      exact { frame := rfl, queue := fun _ => id, event := fun _ h => absurd hm h,
              stands := fun k => by by_cases hk : k = key <;> simp [hk, hm] }
    | false =>
      have hm : key ∉ s.tight.limits := by simpa using hc
      have he : noteLimit key true (raise 0x1002 none arg) s =
          raise 0x1002 none arg { s with tight.limits := key :: s.tight.limits } := by simp [noteLimit, hm]
      obtain ⟨e, hq, hcode, -, harg⟩ := raise_mem 0x1002 none arg { s with tight.limits := key :: s.tight.limits }
      rw [he]
      exact { frame := rfl, queue := List.subset_append_left _ _, event := fun _ _ => ⟨e, hq, hcode, harg⟩,
              stands := fun k => by by_cases hk : k = key <;> simp [raise, hk] }

/-- GUARD would pass 7 exactly when the drift's median is above 19.5 % (R455). -/
theorem guardWanted_over (d : Int) : 7 < guardWanted d ↔ 1950 < d := by
  unfold guardWanted; omega

/-- The drift histories with one sample more (R455). -/
def State.driftWith (s : State) (core slot bank link : Int) : Vector (List Int) 4 :=
  #v[(core :: s.tight.drift[0]).take 15, (slot :: s.tight.drift[1]).take 15, (bank :: s.tight.drift[2]).take 15,
     (link :: s.tight.drift[3]).take 15]

/-- What the four limits of a drift sample come to (R455). -/
theorem siliconMonitor_reports (core slot bank link : Int) {s : State} (hb : s.booted = true) :
    ∃ t1 t2 t3 t, exec (.siliconMonitor core slot bank link) s = .next t ∧
      State.NotesLimit { s with tight.drift := s.driftWith core slot bank link } 1
        (decide (7 < guardWanted (median (s.driftWith core slot bank link)[0]))) 1 t1 ∧
      t1.NotesLimit 2 (decide (600 ≤ median (s.driftWith core slot bank link)[1])) 2 t2 ∧
      t2.NotesLimit 3 (decide (600 ≤ median (s.driftWith core slot bank link)[2])) 3 t3 ∧
      t3.NotesLimit 4 (decide (600 ≤ median (s.driftWith core slot bank link)[3])) 4 t :=
  ⟨_, _, _, _, (show execSiliconMonitor core slot bank link s = _ from State.gate_open hb),
    noteLimit_notesLimit _ _ _ _, noteLimit_notesLimit _ _ _ _,
    noteLimit_notesLimit _ _ _ _, noteLimit_notesLimit _ _ _ _⟩


theorem siliconMonitor_measures (core slot bank link : Int) {s : State} (hb : s.booted = true) :
    ∃ t, exec (.siliconMonitor core slot bank link) s = .next t ∧
      t = { s with tight.drift := t.tight.drift, tight.limits := t.tight.limits, barker := t.barker } ∧
      t.tight.drift = s.driftWith core slot bank link ∧
      (1 ∈ t.tight.limits ↔ 1950 < median t.tight.drift[0]) ∧
      (1950 < median t.tight.drift[0] → 1 ∉ s.tight.limits →
        ∃ e ∈ t.barker.queue, e.code = 0x1002 ∧ e.arg = 1) ∧
      ∀ k : Fin 3, (k.val + 2 ∈ t.tight.limits ↔ 600 ≤ median t.tight.drift[k.val + 1]) ∧
        (600 ≤ median t.tight.drift[k.val + 1] → k.val + 2 ∉ s.tight.limits →
          ∃ e ∈ t.barker.queue, e.code = 0x1002 ∧ e.arg = BitVec.ofNat 32 (k.val + 2)) := by
  obtain ⟨t1, t2, t3, t, hx, h1, h2, h3, h4⟩ := siliconMonitor_reports core slot bank link hb
  have h24 := h3.trans h4.toReportsLimits
  have h14 := h2.trans h24
  have hf := (h1.trans h14).frame
  have hd : t.tight.drift = s.driftWith core slot bank link := by rw [hf]
  refine ⟨t, hx, by rw [hf], hd, ?_⟩
  rw [hd]
  refine ⟨?_, fun hm hn => ?_, fun k => ?_⟩
  · simp [h4.stands, h3.stands, h2.stands, h1.stands, guardWanted_over]
  · obtain ⟨e, he, hc, ha⟩ := h1.event (by simpa [guardWanted_over] using hm) hn
    exact ⟨e, h14.queue he, hc, ha⟩
  · match k with
    | 0 =>
      refine ⟨by simp [h4.stands, h3.stands, h2.stands], fun hm hn => ?_⟩
      obtain ⟨e, he, hc, ha⟩ := h2.event (by simpa using hm) (by simpa [h1.stands] using hn)
      exact ⟨e, h24.queue he, hc, ha⟩
    | 1 =>
      refine ⟨by simp [h4.stands, h3.stands], fun hm hn => ?_⟩
      obtain ⟨e, he, hc, ha⟩ := h3.event (by simpa using hm) (by simpa [h2.stands, h1.stands] using hn)
      exact ⟨e, h4.queue he, hc, ha⟩
    | 2 =>
      refine ⟨by simp [h4.stands], fun hm hn => ?_⟩
      exact h4.event (by simpa using hm) (by simpa [h3.stands, h2.stands, h1.stands] using hn)

/-! ## Efficiency (R458) -/

theorem efficiencySample_measures (r : RingId) (percent mw : Nat) {s : State} (hb : s.booted = true)
    (hp : (s.ring r).phase ≠ .off) (hf : (s.ring r).fenced = false) (ht : s.ringUnderTest r = false) :
    ∃ t, exec (.efficiencySample r percent mw) s = .next t ∧
      t = { s with tight.efficiency := t.tight.efficiency, barker := t.barker } ∧
      t.tight.efficiency[r.val] = min 255 percent ∧
      (if percent < 80 ∧ 2000 < mw then
        ∃ e ∈ t.barker.queue, e.code = 0x1003 ∧ e.arg = BitVec.ofNat 32 (r.val + percent * 256)
       else t.barker = s.barker) := by
  refine ⟨_, (show execEfficiencySample r percent mw s = _ from State.gate_open (by simp [hb, hp, hf, ht])), ?_⟩
  by_cases hl : percent < 80 ∧ 2000 < mw
  · have hm : min 255 percent = percent := by omega
    simp [onlyIf, hl, hm, raise]
  · simp [onlyIf, hl]

/-! ## Retention (R461) -/

/-- The margins of a retention check, each with its area: bank A, bank B, the option area (R461). -/
def retentionReadings (a b o : Option Nat) : List (Nat × Nat) :=
  ([(a, 0), (b, 1), (o, 2)] : List (Option Nat × Nat)).filterMap (fun e => e.1.map (fun m => (m, e.2)))

theorem retentionReadings_read (a b o : Option Nat) (m : Nat) :
    (∃ k, (m, k) ∈ retentionReadings a b o) ↔ a = some m ∨ b = some m ∨ o = some m := by
  cases a <;> cases b <;> cases o <;> simp [retentionReadings, eq_comm, exists_or]

/-- The least member of a list that begins with `x`. -/
theorem foldl_min_least (l : List Nat) (x : Nat) :
    l.foldl min x ∈ x :: l ∧ ∀ m ∈ x :: l, l.foldl min x ≤ m :=
  List.min?_eq_some_iff.1 List.min?_cons'

/-- FLASH_LOW for one reading below 150 mV (R461). -/
def raiseMargin (e : Nat × Nat) : State → State := raise 0x1004 none (e.1 + e.2 * 2 ^ 16)

theorem raiseMargins_frame (l : List (Nat × Nat)) (s : State) :
    forEach l raiseMargin s = { s with barker := (forEach l raiseMargin s).barker } :=
  fe_inv (fun t => t = { s with barker := t.barker }) l raiseMargin s rfl fun _ t h => by rw [h]; rfl

theorem raiseMargins_raise (l : List (Nat × Nat)) (s : State) {m k : Nat} (h : (m, k) ∈ l) :
    ∃ e ∈ (forEach l raiseMargin s).barker.queue, e.code = 0x1004 ∧ e.arg = BitVec.ofNat 32 (m + k * 2 ^ 16) :=
  fe_all (fun p t => ∃ e ∈ t.barker.queue, e.code = 0x1004 ∧ e.arg = BitVec.ofNat 32 (p.1 + p.2 * 2 ^ 16)) l raiseMargin s
    (fun p t => by simp [raiseMargin]) (fun p q t ⟨e, he, hc⟩ => ⟨e, by simp [raiseMargin, he], hc⟩) _ h

/-- What a retention check that read something comes to (R461). -/
def marginsRead (l : List (Nat × Nat)) (e : Nat × Nat) (rest : List (Nat × Nat)) (s : State) : State :=
  forEach (l.filter (fun e => e.1 < 150)) raiseMargin
    { s with tight.flashMargin := (rest.map (·.1)).foldl min e.1,
             tight.flashLow := !(l.filter (fun e => e.1 < 150)).isEmpty }

theorem retentionCheck_nothing {a b o : Option Nat} {s : State} (hl : retentionReadings a b o = []) :
    exec (.retentionCheck a b o) s = .next s := by
  simp only [exec, execRetentionCheck, State.gate]
  rw [retentionReadings] at hl
  simp [hl]

theorem retentionCheck_reads {a b o : Option Nat} {s : State} (hb : s.booted = true) {e : Nat × Nat}
    {rest : List (Nat × Nat)} (hl : retentionReadings a b o = e :: rest) :
    exec (.retentionCheck a b o) s = .next (marginsRead (e :: rest) e rest s) := by
  simp only [exec, execRetentionCheck, State.gate_open hb]
  rw [retentionReadings] at hl
  rw [hl]; rfl

theorem marginsRead_frame (l : List (Nat × Nat)) (e : Nat × Nat) (rest : List (Nat × Nat)) (s : State) :
    marginsRead l e rest s = { s with
      tight.flashMargin := (rest.map (·.1)).foldl min e.1,
      tight.flashLow := !(l.filter (fun e => e.1 < 150)).isEmpty,
      barker := (marginsRead l e rest s).barker } := raiseMargins_frame _ _

/-- The weakest margin is read in some area, below every reading, and FLASH_LOW tells whether it is below 150 mV. -/
theorem marginsRead_weakest (e : Nat × Nat) (rest : List (Nat × Nat)) (s : State) :
    let t := marginsRead (e :: rest) e rest s
    (∃ k, (t.tight.flashMargin, k) ∈ e :: rest) ∧ (∀ m k, (m, k) ∈ e :: rest → t.tight.flashMargin ≤ m) ∧
      (t.tight.flashLow = true ↔ t.tight.flashMargin < 150) := by
  obtain ⟨hmem, hle⟩ := foldl_min_least (rest.map (·.1)) e.1
  rw [← List.map_cons (f := Prod.fst)] at hmem hle
  obtain ⟨⟨m, k⟩, hk, hm⟩ := List.mem_map.1 hmem
  have hle' : ∀ p ∈ e :: rest, (rest.map (·.1)).foldl min e.1 ≤ p.1 := fun p hp => hle _ (List.mem_map_of_mem hp)
  rw [marginsRead_frame]
  refine ⟨⟨k, hm ▸ hk⟩, fun m k h => hle' _ h, ?_⟩
  simp only [Bool.not_eq_true', List.isEmpty_eq_false_iff_exists_mem, List.mem_filter, decide_eq_true_eq]
  exact ⟨fun ⟨p, hp, hlow⟩ => (hle' p hp).trans_lt hlow, fun hlow => ⟨_, hk, hm ▸ hlow⟩⟩

theorem retentionReadings_area {a b o : Option Nat} {m k : Nat} (h : (m, k) ∈ retentionReadings a b o) : k ≤ 2 := by
  cases a <;> cases b <;> cases o <;> simp [retentionReadings] at h <;> omega

theorem retentionCheck_measures (a b o : Option Nat) {s : State} (hb : s.booted = true) :
    let read := fun (m : Nat) => a = some m ∨ b = some m ∨ o = some m
    ((∀ m, ¬ read m) → exec (.retentionCheck a b o) s = .next s) ∧
    ((∃ m, read m) →
      ∃ t, exec (.retentionCheck a b o) s = .next t ∧
        t = { s with tight.flashMargin := t.tight.flashMargin, tight.flashLow := t.tight.flashLow,
                     barker := t.barker } ∧
        read t.tight.flashMargin ∧ (∀ m, read m → t.tight.flashMargin ≤ m) ∧
        (t.tight.flashLow = true ↔ t.tight.flashMargin < 150) ∧
        (t.tight.flashMargin < 150 →
          ∃ e ∈ t.barker.queue, e.code = 0x1004 ∧ e.arg.toNat % 65536 = t.tight.flashMargin)) := by
  simp only [← retentionReadings_read]
  cases hl : retentionReadings a b o with
  | nil => exact ⟨fun _ => retentionCheck_nothing hl, fun ⟨m, k, h⟩ => absurd h List.not_mem_nil⟩
  | cons e rest =>
    refine ⟨fun h => absurd (List.mem_cons_self ..) (fun hm => h e.1 ⟨e.2, hm⟩), fun _ => ?_⟩
    obtain ⟨⟨k, hk⟩, hle, hlow⟩ := marginsRead_weakest e rest s
    refine ⟨_, retentionCheck_reads hb hl, ?_, ⟨k, hk⟩, fun m ⟨k, h⟩ => hle m k h, hlow, fun h => ?_⟩
    · rw [marginsRead_frame]
    · obtain ⟨v, hv, hc, ha⟩ := raiseMargins_raise ((e :: rest).filter (fun e => e.1 < 150)) _
        (List.mem_filter.2 ⟨hk, decide_eq_true h⟩)
      have hk2 : k ≤ 2 := retentionReadings_area (hl ▸ hk)
      refine ⟨v, hv, hc, ?_⟩
      rw [ha, BitVec.toNat_ofNat]
      omega

/-! ## Sweeps (R459) -/

@[simp] theorem planOf_setPlan_self (n : SlotId) (p : SlotPlan) (s : State) : (setPlan n p s).planOf n = p := by
  simp [setPlan, State.planOf]

theorem planOf_setPlan_other {n m : SlotId} (p : SlotPlan) (s : State) (h : m ≠ n) :
    (setPlan n p s).planOf m = s.planOf m := by
  have : n.val ≠ m.val := fun he => h (Fin.ext he.symm)
  simp [setPlan, State.planOf, this]

theorem eyeSweepRequest_asks {n : SlotId} {s : State} (hb : s.booted = true) (hm : s.measured n = true)
    (hd : s.sweepDue n = true) :
    ∃ t, exec (.eyeSweepRequest n) s = .next t ∧ t = { s with tight.slots := t.tight.slots } ∧
      t.planOf n = { s.planOf n with asks := true } ∧ ∀ m, m ≠ n → t.planOf m = s.planOf m :=
  ⟨_, (show execEyeSweepRequest n s = _ from State.gate_open (by simp [hb, hm, hd])), rfl,
    planOf_setPlan_self _ _ _, fun _ => planOf_setPlan_other _ _⟩

/-! ## The evaluation (R458, R462) -/

theorem noteHeadrooms_reports (s : State) : s.ReportsLimits (noteHeadrooms s) :=
  fe_inv s.ReportsLimits _ _ _ (.refl s) fun _ _ h => h.trans (noteLimit_notesLimit _ _ _ _).toReportsLimits

/-- A plan passed to its consumers moves slots and rings only, and neither a slot's phase nor its job. -/
structure State.PlanReaches (s t : State) : Prop where
  frame : t = { s with slots := t.slots, rings := t.rings }
  kept : ∀ n, (t.slot n).phase = (s.slot n).phase ∧ (t.slot n).job = (s.slot n).job

theorem State.PlanReaches.refl (s : State) : s.PlanReaches s := ⟨rfl, fun _ => ⟨rfl, rfl⟩⟩

theorem State.PlanReaches.trans {s t u : State} (h : s.PlanReaches t) (h' : t.PlanReaches u) : s.PlanReaches u where
  frame := by rw [h'.frame, h.frame]
  kept n := by
    obtain ⟨hp, hj⟩ := h.kept n
    obtain ⟨hp', hj'⟩ := h'.kept n
    exact ⟨hp'.trans hp, hj'.trans hj⟩

theorem lowerSession_reaches (n : SlotId) (c : Nat) (s : State) : s.PlanReaches (lowerSession n c s) where
  frame := rfl
  kept m := by
    by_cases h : m = n
    · subst h; simp [lowerSession]
    · rw [lowerSession, State.updSlot_slot_other _ _ _ _ h]; exact ⟨rfl, rfl⟩

theorem planReaches_ring (r : RingId) (f : Ring → Ring) (c : Bool) (s : State) :
    s.PlanReaches (onlyIf c (fun s => s.updRing r f) s) := by
  cases c with
  | false => exact .refl s
  | true => exact { frame := rfl, kept := fun _ => ⟨rfl, rfl⟩ }

theorem passPlan_reaches (old : Tight) (s : State) : s.PlanReaches (passPlan old s) :=
  have hs : s.PlanReaches (forEach (List.finRange 64) (fun n s => lowerSession n (s.planOf n).ceiling s) s) :=
    fe_inv s.PlanReaches _ _ _ (.refl s) fun _ _ h => h.trans (lowerSession_reaches _ _ _)
  fe_inv s.PlanReaches _ _ _ hs fun _ t h => h.trans (planReaches_ring _ _ _ t)

/-- The plan that an evaluation issues (R462). -/
def State.planIssued (s : State) : Tight :=
  { s.tight with
    factory := false, planSeq := s.tight.planSeq + 1, guardBand := s.guardPlanned,
    guardNext := if s.guardPlanned == s.tight.guardBand then s.tight.guardNext else some s.guardPlanned,
    headroom := s.headroomNew, slots := (Vector.finRange 64).map s.slotPlanNew, issuedAt := s.regs.time,
    issuedNand := s.nandPlan, issuedWarn := s.warnPlan }

/-- The issued plan with its interrupt and its event, before its values reach their consumers. -/
def State.planAnnounced (c : Nat) (s : State) : State :=
  raise 0x1001 none (s.planIssued.planSeq.toNat + c)
    (fireIrq 8 { s with tight := s.planIssued, regs.marginStatus := s.planIssued.summary s.refreshListed })

theorem issuePlan_passes (c : Nat) (s : State) :
    ∃ t, (s.planAnnounced c).PlanReaches t ∧ issuePlan c s =
      { t with slots := t.slots.map (fun x => { x with noiseTotal := 0 }),
               bank.targets := t.bank.targets.map (fun k => { k with mostCorrected := 0 }),
               bank.planStored := t.bank.planStored || t.bank.formatted } :=
  ⟨_, passPlan_reaches s.tight _, rfl⟩

theorem planAnnounced_frame (c : Nat) (s : State) :
    s.planAnnounced c = { s with
      tight := s.planIssued, regs := (s.planAnnounced c).regs, barker := (s.planAnnounced c).barker,
      out := (s.planAnnounced c).out } := by
  simp only [State.planAnnounced]
  generalize hf : fireIrq 8 _ = f
  have hframe := hf ▸ fireIrq_frame 8 _
  rw [hframe]; rfl

theorem issuePlan_frame (c : Nat) (s : State) :
    issuePlan c s = { s with
      tight := s.planIssued, regs := (s.planAnnounced c).regs, barker := (s.planAnnounced c).barker,
      out := (s.planAnnounced c).out, slots := (issuePlan c s).slots, rings := (issuePlan c s).rings,
      bank.targets := (issuePlan c s).bank.targets, bank.planStored := (issuePlan c s).bank.planStored } := by
  obtain ⟨t, ht, he⟩ := issuePlan_passes c s
  have ha := planAnnounced_frame c s
  generalize s.planAnnounced c = a at ht ha
  rw [he, ht.frame, ha]

theorem issuePlan_slot (c : Nat) (s : State) (n : SlotId) :
    ((issuePlan c s).slot n).phase = (s.slot n).phase ∧ ((issuePlan c s).slot n).job = (s.slot n).job := by
  obtain ⟨t, ht, he⟩ := issuePlan_passes c s
  obtain ⟨hp, hj⟩ := ht.kept n
  rw [he]
  simp only [State.slot, Vector.getElem_map] at hp hj ⊢
  simpa [State.planAnnounced, raise] using And.intro hp hj

theorem planIssued_guard (s : State) (h : s.tight.guardBand ≤ 7) :
    s.tight.guardBand ≤ s.planIssued.guardBand ∧ s.planIssued.guardBand ≤ 7 := by
  simp only [State.planIssued, State.guardPlanned]; omega

theorem headroomPlanned_down (now dmax : Nat) : now ≤ headroomPlanned now dmax + 1 := by
  simp only [headroomPlanned]; split
  · omega
  · split <;> omega

theorem planIssued_headroom (s : State) (r : Fin 8) :
    s.tight.headroom[r.val] ≤ s.planIssued.headroom[r.val] + 1 := by
  simp only [State.planIssued, State.headroomNew, Vector.getElem_ofFn]
  split
  · exact headroomPlanned_down _ _
  · omega

theorem planAnnounced_irq (c : Nat) (s : State) : bit (s.planAnnounced c).regs.irqStatus 8 = true :=
  fireIrq_bit 8 _ (by decide)

theorem planAnnounced_marginStatus (c : Nat) (s : State) :
    (s.planAnnounced c).regs.marginStatus = s.planIssued.summary s.refreshListed := by
  rw [State.planAnnounced, raise_regs, fireIrq_frame]

theorem planAnnounced_event (c : Nat) (s : State) : ∃ e ∈ (s.planAnnounced c).barker.queue, e.code = 0x1001 := by
  simp [State.planAnnounced]

theorem planEvaluation_runs {s : State} (hb : s.booted = true) :
    exec .planEvaluation s =
      .next (noteHeadrooms (if s.planChanges == 0 then s else issuePlan s.planChanges s)) :=
  (show exec .planEvaluation s = execPlanEvaluation s from rfl).trans (by rw [execPlanEvaluation, State.gate_open hb])

/-- A plan that changes nothing is not issued (R462). -/
theorem planEvaluation_unchanged {s : State} (hb : s.booted = true) (hc : s.planChanges = 0) :
    ∃ t, exec .planEvaluation s = .next t ∧ t = { s with tight.limits := t.tight.limits, barker := t.barker } := by
  refine ⟨_, planEvaluation_runs hb, ?_⟩
  simp only [hc, beq_self_eq_true, if_true]
  exact (noteHeadrooms_reports s).frame

/-- What the evaluation that issues a plan leaves (R462). -/
theorem planEvaluation_issues {s : State} (hb : s.booted = true) (hc : s.planChanges ≠ 0) :
    ∃ t, exec .planEvaluation s = .next t ∧ (issuePlan s.planChanges s).ReportsLimits t := by
  refine ⟨_, planEvaluation_runs hb, ?_⟩
  rw [if_neg (by simpa using hc)]
  exact noteHeadrooms_reports _

theorem planEvaluation_plans (s : State) (hb : s.booted = true) :
    (s.planChanges = 0 →
      ∃ t, exec .planEvaluation s = .next t ∧
        t = { s with tight.limits := t.tight.limits, barker := t.barker }) ∧
    (s.planChanges ≠ 0 →
      ∃ t, exec .planEvaluation s = .next t ∧ t.tight.planSeq = s.tight.planSeq + 1 ∧ t.tight.factory = false ∧
        t.regs.marginStatus = t.tight.summary t.refreshListed ∧ bit t.regs.irqStatus 8 = true ∧
        (∃ e ∈ t.barker.queue, e.code = 0x1001) ∧ t.tight.issuedAt = s.regs.time ∧
        (s.tight.guardBand ≤ 7 → s.tight.guardBand ≤ t.tight.guardBand ∧ t.tight.guardBand ≤ 7) ∧
        (∀ r : Fin 8, s.tight.headroom[r.val] ≤ t.tight.headroom[r.val] + 1) ∧
        (∀ n, s.measured n = true → (t.planOf n).ceiling = (s.planOf n).ceilingNext.getD (s.planOf n).ceiling ∧
          (t.planOf n).phases = (s.planOf n).phasesNext.getD (s.planOf n).phases) ∧
        (∀ n, s.measured n = false → t.planOf n = s.planOf n) ∧
        t.jobs = s.jobs ∧ t.nv = s.nv ∧ t.requests = s.requests ∧
        ∀ n, (t.slot n).phase = (s.slot n).phase ∧ (t.slot n).job = (s.slot n).job) := by
  refine ⟨planEvaluation_unchanged hb, fun hc => ?_⟩
  obtain ⟨t, hx, ht⟩ := planEvaluation_issues hb hc
  have hplan : ∀ n, t.planOf n = s.slotPlanNew n := fun n => by
    rw [ht.frame, issuePlan_frame]; simp [State.planOf, State.planIssued]
  have hregs : t.regs = (s.planAnnounced s.planChanges).regs := by rw [ht.frame, issuePlan_frame]
  have htight : t.tight = { s.planIssued with limits := t.tight.limits } := by
    rw [ht.frame, issuePlan_frame]
  have hevent : ∃ e ∈ t.barker.queue, e.code = 0x1001 := by
    obtain ⟨e, he, hcode⟩ := planAnnounced_event s.planChanges s
    refine ⟨e, ht.queue ?_, hcode⟩
    rw [issuePlan_frame]; exact he
  have hslot : ∀ n, t.slot n = (issuePlan s.planChanges s).slot n := fun n => by rw [ht.frame]; rfl
  refine ⟨t, hx, by rw [htight]; rfl, by rw [htight]; rfl, ?_, ?_, hevent, by rw [htight]; rfl, ?_, ?_, ?_, ?_,
    by rw [ht.frame, issuePlan_frame], by rw [ht.frame, issuePlan_frame], by rw [ht.frame, issuePlan_frame], ?_⟩
  · rw [hregs, planAnnounced_marginStatus, htight, State.refreshListed, State.refreshListed, ht.frame, issuePlan_frame]
    rfl
  · rw [hregs]; exact planAnnounced_irq _ _
  · rw [htight]; exact planIssued_guard s
  · rw [htight]; exact planIssued_headroom s
  · intro n hm; rw [hplan]; simp [State.slotPlanNew, hm]
  · intro n hm; rw [hplan]; simp [State.slotPlanNew, hm]
  · intro n; rw [hslot]; exact issuePlan_slot _ _ _

/-! ## The guard switch (R456) -/

theorem applyGuard_takes {g : Nat} {s : State} (h : s.tight.guardNext = some g) :
    applyGuard s = { s with tight.guardApplied := g, tight.guardNext := none } := by
  simp [applyGuard, h]

theorem guardSwitch_takes {g : Nat} {s : State} (hb : s.booted = true) (h : s.tight.guardNext = some g) :
    exec .guardSwitch s = .next { s with tight.guardApplied := g, tight.guardNext := none } :=
  (show execGuardSwitch s = _ from State.gate_open (by simp [hb, h])).trans (by rw [applyGuard_takes h])

theorem guardForce_takes {g : Nat} {s : State} (hb : s.booted = true) (h : s.tight.guardNext = some g)
    (hd : s.tight.issuedAt.toNat + 8000 ≤ s.regs.time.toNat) :
    exec .guardForce s = .next { s with tight.guardApplied := g, tight.guardNext := none } :=
  (show execGuardForce s = _ from State.gate_open (by simp [hb, h, hd])).trans (by rw [applyGuard_takes h])

/-- Settles O57. -/
theorem tightropeMeasuresAndPlans : Obligations.TightropeMeasuresAndPlans := by
  unfold Obligations.TightropeMeasuresAndPlans
  refine ⟨fun core slot bank link s hb => ?_, fun r percent mw s => efficiencySample_measures r percent mw,
    fun a b o s => retentionCheck_measures a b o, fun n s => eyeSweepRequest_asks, planEvaluation_plans,
    fun g s hb h => ⟨guardSwitch_takes hb h, guardForce_takes hb h⟩⟩
  obtain ⟨t, hx, hf, hd, hrest⟩ := siliconMonitor_measures core slot bank link hb
  exact ⟨t, hx, hf, by rw [hd]; rfl, by rw [hd]; rfl, by rw [hd]; rfl, by rw [hd]; rfl, hrest⟩

end Sys2Proof.Machine

namespace Sys2Proof.Machine
open Sys2Proof

/-! # What the loss of a job and the way down of a slot leave alone (R53, R165, R193, R444, R447) -/

/-- The registers, the standby side's parts and each slot's enable bit and record: what the end of a job and a
deactivation do not write. -/
structure Lasting where
  regs : Regs
  sec : Security
  faults : Faults
  standby : Standby
  side : Sideshow
  bist : Bist
  fw : Fw
  marks : Vector (Bool × Option (W64 × Nat × List Byte)) 64

/-- What the host and a job left on a slot. -/
def Slot.mark (x : Slot) : Bool × Option (W64 × Nat × List Byte) := (x.enable, x.record)

def State.lasting (s : State) : Lasting :=
  { regs := s.regs, sec := s.sec, faults := s.faults, standby := s.standby, side := s.side, bist := s.bist, fw := s.fw,
    marks := s.slots.map Slot.mark }

theorem State.updSlot_lasting (s : State) (n : SlotId) {f : Slot → Slot} (h : ∀ x, (f x).mark = x.mark) :
    (s.updSlot n f).lasting = s.lasting := by
  have hm : (s.slots.set n.val (f s.slots[n.val]) n.isLt).map Slot.mark = s.slots.map Slot.mark := by
    rw [Vector.map_set, h, ← Vector.getElem_map Slot.mark n.isLt, Vector.set_getElem_self]
  exact congrArg (fun m => { s.lasting with marks := m }) hm

theorem State.lasting_of_offBooks {s t : State} (h : t.offBooks = s.offBooks) : t.lasting = s.lasting :=
  show t.offBooks.lasting = s.offBooks.lasting from congrArg State.lasting h

section Marks
variable {s t : State} (h : t.lasting = s.lasting)
include h

theorem State.lasting_regs : t.regs = s.regs := congrArg Lasting.regs h
theorem State.lasting_faults : t.faults = s.faults := congrArg Lasting.faults h
theorem State.lasting_standby : t.standby = s.standby := congrArg Lasting.standby h
theorem State.lasting_side : t.side = s.side := congrArg Lasting.side h

theorem State.lasting_mark (n : SlotId) : (t.slot n).mark = (s.slot n).mark := by
  have := congrArg (fun l => l.marks[n.val]) h
  simpa [State.lasting, State.slot] using this

theorem State.lasting_enable (n : SlotId) : (t.slot n).enable = (s.slot n).enable :=
  congrArg Prod.fst (State.lasting_mark h n)

theorem State.lasting_record (n : SlotId) : (t.slot n).record = (s.slot n).record :=
  congrArg Prod.snd (State.lasting_mark h n)

end Marks

@[simp] theorem endRotation_lasting (n : SlotId) (s : State) : (endRotation n s).lasting = s.lasting := by
  unfold endRotation
  split
  · split
    · exact (State.updSlot_lasting _ n fun _ => by rfl).trans rfl
    · rfl
  · rfl

@[simp] theorem endGalSession_lasting (n : SlotId) (s : State) : (endGalSession n s).lasting = s.lasting := by
  rw [endGal_frame]; rfl

@[simp] theorem startNormal_lasting (n : SlotId) (c : Cause) (b : Bool) (s : State) :
    (startNormal n c b s).lasting = s.lasting := by
  unfold startNormal
  split
  · refine (State.updSlot_lasting _ n fun _ => by rfl).trans ?_; simp
  · rfl

@[simp] theorem startEmergency_lasting (n : SlotId) (c : Cause) (s : State) :
    (startEmergency n c s).lasting = s.lasting := by
  cases hl : (s.slot n).phase.live with
  | true =>
    rw [startEmergency_powered n c hl]
    refine (State.updSlot_lasting _ n fun _ => by rfl).trans ?_; simp
  | false =>
    simp only [startEmergency, hl, Bool.false_eq_true, if_false]
    split
    · split
      · rfl
      · split
        · split
          · exact State.updSlot_lasting _ n fun _ => by rfl
          · rfl
        · exact State.updSlot_lasting _ n fun _ => by rfl
    · rfl

@[simp] theorem leaveQueue_lasting (n : SlotId) (s : State) : (leaveQueue n s).lasting = s.lasting := by
  simp only [leaveQueue]
  split
  · exact (State.updSlot_lasting _ n fun _ => by rfl).trans rfl
  · rfl

@[simp] theorem stationCommand_lasting (n : SlotId) (e : Bool) (bin : Byte) (id : JobId) (s : State) :
    (stationCommand n e bin id s).lasting = s.lasting := by
  simp only [stationCommand]; split <;> rfl

@[simp] theorem slotFreed_lasting (n : SlotId) (s : State) : (slotFreed n s).lasting = s.lasting := by
  simp [slotFreed, apply_ite State.lasting]

theorem updSlot_withoutJob_lasting (n : SlotId) (j : Job) (st : CStatus) (s : State) :
    (s.updSlot n (·.withoutJob j st)).lasting = s.lasting := State.updSlot_lasting s n fun _ => rfl

theorem updSlot_eject_lasting (n : SlotId) (e : Option (Byte × JobId)) (s : State) :
    (s.updSlot n (fun x => { x with eject := e })).lasting = s.lasting := State.updSlot_lasting s n fun _ => rfl

@[simp] theorem freeSlot_lasting (j : Job) (st : CStatus) (s : State) : (freeSlot j st s).lasting = s.lasting := by
  cases h : j.slot with
  | none => rw [freeSlot_none h]
  | some n =>
    rw [← updSlot_withoutJob_lasting n j st s]
    simp only [freeSlot, h, slotFreed_lasting]
    generalize (!(j.ticket.feed || _) : Bool) = keeps
    split
    · rfl
    · split
      · rw [startNormal_lasting, updSlot_eject_lasting]; rfl
      · split
        · split
          · rfl
          · rw [updSlot_eject_lasting]; rfl
        · split
          · rw [stationCommand_lasting, leaveQueue_lasting]; rfl
          · rw [leaveQueue_lasting]; rfl

@[simp] theorem endJobAfter_lasting (b : Nat) (id : JobId) (st : CStatus) (err : W16) (s : State) :
    (endJobAfter b id st err s).lasting = s.lasting := by
  cases h : s.findJob id with
  | none => simp only [endJobAfter, h]
  | some j =>
    obtain ⟨u, hu, hk⟩ := endJobAfter_frees b st err h
    rw [hu, freeSlot_lasting]
    exact (State.lasting_of_offBooks hk).trans rfl

@[simp] theorem endJob_lasting (id : JobId) (st : CStatus) (err : W16) (s : State) :
    (endJob id st err s).lasting = s.lasting := endJobAfter_lasting 0 id st err s

@[simp] theorem updJob_lasting (id : JobId) (f : Job → Job) (s : State) : (s.updJob id f).lasting = s.lasting := rfl

@[simp] theorem replaceJob_lasting (id : JobId) (s : State) : (replaceJob id s).lasting = s.lasting := by
  unfold replaceJob
  split
  · rfl
  next j _ =>
    have hk : (releaseContext j (settleUnsent j s)).lasting = s.lasting :=
      State.lasting_of_offBooks ((releaseContext_offBooks j _).trans (settleUnsent_offBooks j s))
    dsimp only
    split
    · exact endJob_lasting _ _ _ s
    · split
      · exact endJob_lasting _ _ _ s
      · split
        · exact endJob_lasting _ _ _ s
        · split
          · exact hk
          next n _ =>
            rw [slotFreed_lasting]
            exact (State.updSlot_lasting _ n fun _ => by rfl).trans hk

@[simp] theorem lostJob_lasting (n : SlotId) (c : Cause) (s : State) : (lostJob n c s).lasting = s.lasting := by
  unfold lostJob
  split
  · rfl
  · dsimp only
    split <;> simp [apply_ite State.lasting]

@[simp] theorem markCut_lasting (n : SlotId) (s : State) : (markCut n s).lasting = s.lasting := by
  cases hj : (s.slot n).job with
  | none => rw [markCut_nojob n s hj]
  | some id =>
    simp only [markCut, hj]
    generalize ((s.slot n).exch.isSome || _ : Bool) = cut
    split <;> rfl

@[simp] theorem loseNormal_lasting (n : SlotId) (c : Cause) (s : State) : (loseNormal n c s).lasting = s.lasting := by
  simp [loseNormal]

@[simp] theorem loseEmergency_lasting (n : SlotId) (c : Cause) (s : State) :
    (loseEmergency n c s).lasting = s.lasting := by simp [loseEmergency]

end Sys2Proof.Machine

namespace Sys2Proof.Machine
open Sys2Proof

/-! # Errors of units, their recoveries and their fences (R434, R436, R438, R439, R443, R444, R446, R447) -/

/-! ## The phase of a unit -/

theorem State.unitPhase_of_units {s t : State} (h : t.faults.units = s.faults.units) (u : UnitRef) :
    t.unitPhase u = s.unitPhase u := by rw [State.unitPhase, h]; rfl

@[simp] theorem setUnit_unitPhase_self (u : UnitRef) (p : UnitPhase) (c : W16) (s : State) :
    (setUnit u p c s).unitPhase u = p := by simp [State.unitPhase, setUnit]

theorem setUnit_unitPhase_other {u v : UnitRef} (h : v ≠ u) (p : UnitPhase) (c : W16) (s : State) :
    (setUnit u p c s).unitPhase v = s.unitPhase v := by
  have hf : (s.faults.units.filter (fun e => e.1 != u)).find? (fun e => e.1 == v) =
      s.faults.units.find? (fun e => e.1 == v) := by
    rw [List.find?_filter]
    refine congrArg (fun q => List.find? q s.faults.units) (funext fun e => ?_)
    by_cases hv : e.1 = v
    · subst hv; simp [h]
    · simp [hv]
  simp only [State.unitPhase, setUnit, List.find?_cons, beq_eq_false_iff_ne.2 h.symm, hf]

/-! ## What the loss of a unit's slots and jobs leaves of its notice (R374, R436, R437) -/

/-- The phases of the units, the standby side and the first error stand, and no waiting event is lost. -/
structure State.KeepsNotice (s t : State) : Prop where
  units : t.faults.units = s.faults.units
  standby : t.standby = s.standby
  errFirst : t.regs.errFirst = s.regs.errFirst
  queue : s.barker.queue ⊆ t.barker.queue

section KeepsNotice
variable {s t : State}

theorem State.KeepsNotice.refl (s : State) : s.KeepsNotice s := ⟨rfl, rfl, rfl, List.Subset.refl _⟩

theorem State.KeepsNotice.trans {u : State} (h : s.KeepsNotice t) (h' : t.KeepsNotice u) : s.KeepsNotice u where
  units := h'.units.trans h.units
  standby := h'.standby.trans h.standby
  errFirst := h'.errFirst.trans h.errFirst
  queue := List.Subset.trans h.queue h'.queue

theorem State.KeepsNotice.of_lasting (h : t.lasting = s.lasting) (hq : s.KeepsAlarms t) : s.KeepsNotice t where
  units := by rw [State.lasting_faults h]
  standby := State.lasting_standby h
  errFirst := by rw [State.lasting_regs h]
  queue := hq.queue

theorem updSlot_keepsNotice (n : SlotId) (f : Slot → Slot) (s : State) : s.KeepsNotice (s.updSlot n f) :=
  ⟨rfl, rfl, rfl, List.Subset.refl _⟩

theorem leaveQueue_keepsNotice (n : SlotId) (s : State) : s.KeepsNotice (leaveQueue n s) :=
  .of_lasting (leaveQueue_lasting n s) (leaveQueue_keepsAlarms n s)

theorem lostJob_keepsNotice (n : SlotId) (c : Cause) (s : State) : s.KeepsNotice (lostJob n c s) :=
  .of_lasting (lostJob_lasting n c s) (lostJob_keepsAlarms n c s)

theorem loseNormal_keepsNotice (n : SlotId) (c : Cause) (s : State) : s.KeepsNotice (loseNormal n c s) :=
  .of_lasting (loseNormal_lasting n c s) (loseNormal_keepsAlarms n c s)

theorem startEmergency_keepsAlarms (n : SlotId) (c : Cause) (s : State) : s.KeepsAlarms (startEmergency n c s) := by
  cases hl : (s.slot n).phase.live with
  | true =>
    rw [startEmergency_powered n c hl]
    have hg : s.KeepsAlarms (endGalSession n s) := by rw [endGal_frame]; exact .of_same rfl rfl
    exact (hg.trans (endRotation_keepsAlarms n _)).trans (updSlot_keepsAlarms n _ _)
  | false =>
    simp only [startEmergency, hl, Bool.false_eq_true, if_false]
    split
    · split
      · exact .refl s
      · split
        · split
          · exact updSlot_keepsAlarms n _ s
          · exact .refl s
        · exact updSlot_keepsAlarms n _ s
    · exact .refl s

theorem loseEmergency_keepsNotice (n : SlotId) (c : Cause) (s : State) : s.KeepsNotice (loseEmergency n c s) :=
  .of_lasting (loseEmergency_lasting n c s) <|
    ((markCut_keepsAlarms n s).trans (startEmergency_keepsAlarms n c _)).trans (lostJob_keepsAlarms n c _)

theorem enterFenced_keepsNotice (n : SlotId) (src : FenceSrc) (code : W16) (s : State) :
    s.KeepsNotice (enterFenced n src code s) :=
  ⟨rfl, rfl, rfl, List.subset_append_left _ _⟩

theorem fenceSlotBy_keepsNotice {down : SlotId → State → State} (hd : ∀ n (s : State), s.KeepsNotice (down n s))
    (n : SlotId) (src : FenceSrc) (code : W16) (s : State) : s.KeepsNotice (fenceSlotBy down n src code s) := by
  have enters (u : State) : u.KeepsNotice (lostJob n .none (enterFenced n src code u)) :=
    (enterFenced_keepsNotice n src code u).trans (lostJob_keepsNotice n .none _)
  have hm : s.KeepsNotice (markFence n src code s) := updSlot_keepsNotice n _ s
  simp only [fenceSlotBy]
  split
  · split
    · exact updSlot_keepsNotice n _ s
    · exact .refl s
  · exact enters s
  · exact enters s
  · exact enters s
  · exact (leaveQueue_keepsNotice n s).trans (enters _)
  · exact hm
  · exact hm.trans (hd n _)

theorem fenceRing_keepsNotice {down : SlotId → State → State} (hd : ∀ n (s : State), s.KeepsNotice (down n s))
    (stop : Bool) (r : RingId) (code : W16) (s : State) : s.KeepsNotice (fenceRing stop down r code s) :=
  fe_inv s.KeepsNotice _ _ _ ⟨rfl, rfl, rfl, List.Subset.refl _⟩ fun n _ h =>
    h.trans (fenceSlotBy_keepsNotice hd n .ring code _)

theorem handOver_keepsNotice (s : State) : s.KeepsNotice (handOver s) := by
  simp only [handOver]
  split
  · exact .refl s
  · split
    · exact ⟨rfl, rfl, rfl, List.subset_append_left _ _⟩
    · exact ⟨rfl, rfl, rfl, List.Subset.refl _⟩

theorem losePairJobs_keepsNotice (p : PairId) (s : State) : s.KeepsNotice (losePairJobs p s) :=
  fe_inv s.KeepsNotice _ _ _ (.refl s) fun _ _ h => by
    split
    · split
      · exact h.trans (loseNormal_keepsNotice _ _ _)
      · exact (h.trans (leaveQueue_keepsNotice _ _)).trans (lostJob_keepsNotice _ _ _)
    · exact h

theorem loseJuggler_keepsNotice (g : JugId) (s : State) : s.KeepsNotice (loseJuggler g s) :=
  fe_inv s.KeepsNotice _ _ _ ⟨rfl, rfl, rfl, List.Subset.refl _⟩ fun _ _ h => by
    split
    · split
      · split
        · exact h.trans (lostJob_keepsNotice _ _ _)
        · split
          · exact h.trans (loseNormal_keepsNotice _ _ _)
          · exact h.trans (lostJob_keepsNotice _ _ _)
      · exact h
    · exact h

theorem handOverIf_keepsNotice (b : Bool) (s : State) : s.KeepsNotice (if b then handOver s else s) := by
  cases b with
  | false => exact .refl s
  | true => exact handOver_keepsNotice s

end KeepsNotice

/-! ## A latched error (R436) -/

theorem latchAt_event (c : W16) (k i : Nat) (o : Option SlotId) (j : Option JobId) (e : Bool) {s : State}
    (hw : s.faults.fatalWindow = none) : ∃ v ∈ (latchAt c k i o j e s).barker.queue, v.code = 0x0F01 := by
  simp only [latchAt, hw, Option.isSome_none, Bool.false_and, Bool.false_eq_true, if_false]
  obtain ⟨v, hv, hc, -⟩ := raise_mem 0x0F01 o _ _
  exact ⟨v, hv, hc⟩

theorem latchError_units (c : W16) (u : UnitRef) (j : Option JobId) (e : Bool) (s : State) :
    (latchError c u j e s).faults.units = s.faults.units := by rw [latchError_faults]

theorem latchError_barrier (c : W16) (u : UnitRef) (j : Option JobId) (e : Bool) (s : State) :
    (latchError c u j e s).regs.barrier = s.regs.barrier := by rw [latchError, latchAt_frame]

/-! ## Recoveries (R438, R444, R447) -/

section Recovery
variable (u : UnitRef) (code : W16) (s : State)

/-- The recovery noted, before its action begins. -/
def recoveryNoted : State := setUnit u .recovering code (noteRecovery u s)

theorem recoverSlot_keepsNotice (n : SlotId) : s.KeepsNotice (recoverSlot n s) := by
  refine (updSlot_keepsNotice n (fun x => { x with record := none }) s).trans ?_
  simp only [recoverSlot]
  split
  · exact loseNormal_keepsNotice _ _ _
  · split
    · exact (leaveQueue_keepsNotice _ _).trans (lostJob_keepsNotice _ _ _)
    · exact .refl _

theorem recoverPair_keepsNotice (p : PairId) : s.KeepsNotice (recoverPair p s) := by
  have ha : s.KeepsNotice (askBarrier .unitRights s) := ⟨rfl, rfl, rfl, List.Subset.refl _⟩
  exact (ha.trans (losePairJobs_keepsNotice p _)).trans (handOverIf_keepsNotice _ _)

theorem startRecovery_keepsNotice : (recoveryNoted u code s).KeepsNotice (startRecovery u code s) := by
  unfold startRecovery
  dsimp only
  split
  · exact recoverSlot_keepsNotice _ _
  · exact recoverPair_keepsNotice _ _
  · exact loseJuggler_keepsNotice _ _
  · exact .refl _

theorem startRecovery_unitPhase : (startRecovery u code s).unitPhase u = .recovering := by
  rw [State.unitPhase_of_units (startRecovery_keepsNotice u code s).units]
  exact setUnit_unitPhase_self u _ code _

theorem startRecovery_errFirst : (startRecovery u code s).regs.errFirst = s.regs.errFirst :=
  (startRecovery_keepsNotice u code s).errFirst

end Recovery

/-- A recovering slot is not powered up, and its record is zeroised (R447). -/
theorem recoverSlot_down (n : SlotId) (s : State) :
    ((recoverSlot n s).slot n).phase.live = false ∧ ((recoverSlot n s).slot n).record = none := by
  have hr : ((s.updSlot n (fun x => { x with record := none })).slot n).record = none := by
    rw [State.updSlot_slot_self]
  simp only [recoverSlot]
  generalize s.updSlot n (fun x => { x with record := none }) = t at hr
  split
  · refine ⟨(lostJob_takesDown n .host _).live n (startNormal_live n .host false _), ?_⟩
    rw [State.lasting_record (loseNormal_lasting n .host t), hr]
  next hl =>
    have hl : (t.slot n).phase.live = false := by simpa using hl
    split
    · refine ⟨(lostJob_takesDown n .host _).live n ((leaveQueue_actsOn n t).live hl), ?_⟩
      rw [State.lasting_record (lostJob_lasting n .host _), State.lasting_record (leaveQueue_lasting n t), hr]
    · exact ⟨hl, hr⟩

/-! ## Fences (R374, R437, R439, R447) -/

section Fence
variable (u : UnitRef) (code : W16) (s : State)

theorem noteFence_unitPhase : (noteFence u code s).unitPhase u = .fenced := by
  simp [State.unitPhase, noteFence, setUnit]

theorem noteFence_unitPhase_other {v : UnitRef} (h : v ≠ u) :
    (noteFence u code s).unitPhase v = s.unitPhase v := by
  rw [← setUnit_unitPhase_other h .fenced code s]
  exact State.unitPhase_of_units (by simp [noteFence]) v

theorem noteFence_event : ∃ e ∈ (noteFence u code s).barker.queue, e.code = 0x0F02 := by
  simp [noteFence]

theorem noteFence_log : ∃ e ∈ (noteFence u code s).standby.log, e.code = code := logStandby_has code _ _ _ _

theorem fenceUnit_keepsNotice : (noteFence u code s).KeepsNotice (fenceUnit u code s) := by
  cases u with
  | slot n => exact fenceSlotBy_keepsNotice (fun n => loseEmergency_keepsNotice n _) n _ code _
  | ring r => exact fenceRing_keepsNotice (fun n => loseEmergency_keepsNotice n _) true r code _
  | juggler g => exact loseJuggler_keepsNotice g _
  | pair p => exact (losePairJobs_keepsNotice p _).trans (handOverIf_keepsNotice _ _)
  | chan c =>
    simp only [fenceUnit]
    split <;> exact ⟨rfl, rfl, rfl, List.Subset.refl _⟩
  | device => exact .refl _
  | target _ => exact .refl _
  | pk _ => exact .refl _
  | roust _ => exact .refl _

theorem fenceUnit_unitPhase : (fenceUnit u code s).unitPhase u = .fenced :=
  (State.unitPhase_of_units (fenceUnit_keepsNotice u code s).units u).trans (noteFence_unitPhase u code s)

/-- With another pair in service the fence of a pair is not fatal; that of another unit never is (R439, R447). -/
theorem fenceFully_survived (hp : ∀ p, u = .pair p → ∃ q, q ≠ p ∧ s.inService (.pair q) = true) :
    fenceFully u code s = fenceUnit u code s := by
  cases u with
  | pair p =>
    obtain ⟨q, hq, hs⟩ := hp p rfl
    have hu : (fenceUnit (.pair p) code s).unitPhase (.pair q) = s.unitPhase (.pair q) := by
      rw [State.unitPhase_of_units (fenceUnit_keepsNotice _ code s).units,
        noteFence_unitPhase_other _ _ _ (by simpa using hq)]
    have hany : (List.finRange 4).any (fun p' => (fenceUnit (.pair p) code s).inService (.pair p')) = true :=
      List.any_eq_true.2 ⟨q, List.mem_finRange q, by rw [State.inService, hu]; exact hs⟩
    simp only [fenceFully, hany, if_true]
  | _ => rfl

/-- What a fence leaves of its unit: its phase, the event and the log entry (R374, R437, R439). -/
structure State.FencedFor (t : State) (u : UnitRef) (code : W16) : Prop where
  phase : t.unitPhase u = .fenced
  event : ∃ e ∈ t.barker.queue, e.code = 0x0F02
  log : ∃ e ∈ t.standby.log, e.code = code

theorem fenceUnit_fences : (fenceUnit u code s).FencedFor u code := by
  have hk := fenceUnit_keepsNotice u code s
  obtain ⟨e, he, hc⟩ := noteFence_event u code s
  exact ⟨fenceUnit_unitPhase u code s, ⟨e, hk.queue he, hc⟩, hk.standby ▸ noteFence_log u code s⟩

theorem escalate_fences (hu : u ≠ .device)
    (hp : ∀ p, u = .pair p → ∃ q, q ≠ p ∧ s.inService (.pair q) = true) :
    (escalate u code s).FencedFor u code := by
  have hl : ∀ v, (latchError code u (s.unitJob u) true s).unitPhase v = s.unitPhase v :=
    State.unitPhase_of_units (latchError_units _ _ _ _ s)
  have he : escalate u code s = fenceFully u code (latchError code u (s.unitJob u) true s) := by
    cases u with
    | device => exact absurd rfl hu
    | _ => rfl
  rw [he, fenceFully_survived u code _ (by simpa only [State.inService, hl] using hp)]
  exact fenceUnit_fences u code _

end Fence

/-! ## Errors (R434, R436, R438, R439) -/

section UnitFails
variable {u : UnitRef} {code : W16} {s : State}

theorem unitFails_warns (hw : severityOf code ≠ 1) :
    unitFails u code s = latchError code u (s.unitJob u) false s := by
  simp [unitFails, hw]

variable (hv : severityOf code = 1) (hw : s.faults.fatalWindow = none) (hf : s.unitFenced u = false)
include hv hw hf

theorem unitFails_recovers (he : s.escalates u = false) :
    unitFails u code s = startRecovery u code (latchError code u (s.unitJob u) false s) := by
  simp [unitFails, hv, hw, hf, he]

theorem unitFails_escalates (he : s.escalates u = true) : unitFails u code s = escalate u code s := by
  simp [unitFails, hv, hw, hf, he]

end UnitFails

theorem exec_unitError {u : UnitRef} {code : W16} {s : State} (hu : s.mainUp = true)
    (hc : (unitCodes u).contains code = true) : exec (.unitError u code) s = .next (unitFails u code s) :=
  (show exec (.unitError u code) s = execUnitError u code s from rfl).trans
    (by rw [execUnitError, State.gate_open (by rw [hu, hc]; rfl)])

/-- A warning is only latched (R436). -/
theorem unitError_warning {u : UnitRef} {code : W16} {s : State} (hu : s.mainUp = true)
    (hc : (unitCodes u).contains code = true) (hw : s.faults.fatalWindow = none) (hv : severityOf code ≠ 1) :
    ∃ t, exec (.unitError u code) s = .next t ∧
      t = { s with regs.errFirst := t.regs.errFirst, regs.errInfo := t.regs.errInfo,
                   regs.errCount := t.regs.errCount, regs.irqStatus := t.regs.irqStatus,
                   regs.msixPending := t.regs.msixPending, barker := t.barker, out := t.out } ∧
      ∃ e ∈ t.barker.queue, e.code = 0x0F01 := by
  refine ⟨_, exec_unitError hu hc, ?_, ?_⟩ <;> rw [unitFails_warns hv]
  · rw [latchError]
    have hf := latchAt_frame code u.kind u.index (UnitRef.slotOf u) (s.unitJob u) false s
    generalize latchAt code u.kind u.index (UnitRef.slotOf u) (s.unitJob u) false s = t at hf
    rw [hf]
  · exact latchAt_event _ _ _ _ _ _ hw

/-- The first error latches and recovers its unit (R436, R438). -/
theorem unitError_recovers {u : UnitRef} {code : W16} {s : State} (hu : s.mainUp = true)
    (hc : (unitCodes u).contains code = true) (hw : s.faults.fatalWindow = none) (hf : s.unitFenced u = false)
    (hv : severityOf code = 1) (he : s.escalates u = false) :
    ∃ t, exec (.unitError u code) s = .next t ∧ t.unitPhase u = .recovering ∧
      (bit s.regs.errFirst 31 = false → t.regs.errFirst = BitVec.ofNat 32 (code.toNat + 2 ^ 31)) ∧
      (∀ n, u = .slot n → (t.slot n).phase.live = false ∧ (t.slot n).record = none) := by
  refine ⟨_, exec_unitError hu hc, ?_⟩
  rw [unitFails_recovers hv hw hf he]
  refine ⟨startRecovery_unitPhase _ _ _, fun hb => ?_, fun n hn => ?_⟩
  · rw [startRecovery_errFirst, latchError_errFirst u _ _ hb hw]
  · subst hn; exact recoverSlot_down n _

/-- A further error fences its unit for good (R438, R439). -/
theorem unitError_fences {u : UnitRef} {code : W16} {s : State} (hu : s.mainUp = true)
    (hc : (unitCodes u).contains code = true) (hw : s.faults.fatalWindow = none) (hf : s.unitFenced u = false)
    (hv : severityOf code = 1) (he : s.escalates u = true) (hd : u ≠ .device)
    (hp : ∀ p, u = .pair p → ∃ q, q ≠ p ∧ s.inService (.pair q) = true) :
    ∃ t, exec (.unitError u code) s = .next t ∧ t.unitPhase u = .fenced ∧
      (∃ e ∈ t.barker.queue, e.code = 0x0F02) ∧ ∃ e ∈ t.standby.log, e.code = code := by
  refine ⟨_, exec_unitError hu hc, ?_⟩
  rw [unitFails_escalates hv hw hf he]
  obtain ⟨hphase, hevent, hlog⟩ := escalate_fences u code s hd hp
  exact ⟨hphase, hevent, hlog⟩

/-! ## Core pairs (R443, R444, R446) -/

/-- A pair that recovers asks for its barrier; leadership goes if the pair had it (R444). -/
theorem recoverPair_none {p : PairId} {s : State} (hj : ∀ j ∈ s.jobs, j.pair ≠ some p) :
    recoverPair p s = if s.faults.leader == some p then handOver (askBarrier .unitRights s)
      else askBarrier .unitRights s := by
  rw [recoverPair, losePairJobs_none (s := askBarrier .unitRights s) hj]; rfl

/-- A pair out of service does not lead after its recovery began (R446). -/
theorem recoverPair_leader {p : PairId} {s : State} (hj : ∀ j ∈ s.jobs, j.pair ≠ some p)
    (hp : s.unitPhase (.pair p) = .recovering) : (recoverPair p s).faults.leader ≠ some p := by
  rw [recoverPair_none hj]
  split
  · rw [handOver_frame]
    intro h
    have hup : s.pairUp p = true := pairUp_leads (s := askBarrier .unitRights s) h
    simp [State.pairUp, State.inService, hp] at hup
  next hl => simpa using hl

theorem recoverPair_keeps {p : PairId} {s : State} (hj : ∀ j ∈ s.jobs, j.pair ≠ some p) :
    (recoverPair p s).slots = s.slots ∧ (recoverPair p s).jobs = s.jobs ∧
      (recoverPair p s).regs.barrier = s.regs.barrier ++ [.unitRights] := by
  rw [recoverPair_none hj]
  split
  · rw [handOver_frame]; exact ⟨rfl, rfl, rfl⟩
  · exact ⟨rfl, rfl, rfl⟩

/-- A failed pair without jobs recovers and gives leadership up (R444, R446). -/
theorem pairFails_recovers {p : PairId} {code : W16} {s : State} (hw : s.faults.fatalWindow = none)
    (hf : s.unitFenced (.pair p) = false) (he : s.escalates (.pair p) = false)
    (hj : ∀ j ∈ s.jobs, j.pair ≠ some p) (hv : severityOf code = 1) :
    let t := unitFails (.pair p) code s
    t.unitPhase (.pair p) = .recovering ∧ t.faults.leader ≠ some p ∧ t.slots = s.slots ∧ t.jobs = s.jobs ∧
      t.regs.barrier = s.regs.barrier ++ [.unitRights] := by
  rw [unitFails_recovers hv hw hf he]
  have hj' : ∀ j ∈ (recoveryNoted (.pair p) code (latchError code (.pair p) (s.unitJob (.pair p)) false s)).jobs,
      j.pair ≠ some p := by
    simpa [recoveryNoted, noteRecovery] using hj
  obtain ⟨hslots, hjobs, hbarrier⟩ := recoverPair_keeps hj'
  refine ⟨startRecovery_unitPhase _ _ _, recoverPair_leader hj' (setUnit_unitPhase_self _ _ _ _),
    hslots.trans ?_, hjobs.trans ?_, hbarrier.trans ?_⟩
  · simp [recoveryNoted, noteRecovery]
  · simp [recoveryNoted, noteRecovery]
  · simp [recoveryNoted, noteRecovery, latchError_barrier]

theorem exec_lockstep {p : PairId} {s : State} (hu : s.mainUp = true) (hp : s.unitPhase (.pair p) = .service) :
    exec (.lockstep p) s = .next (unitFails (.pair p) 0x0301 s) :=
  (show exec (.lockstep p) s = execLockstep p s from rfl).trans
    (by rw [execLockstep, State.gate_open (by rw [hu, hp]; rfl)])

theorem exec_pairWatchdog {p : PairId} {s : State} (hu : s.mainUp = true)
    (hp : s.unitPhase (.pair p) = .service) :
    exec (.pairWatchdog p) s = .next (unitFails (.pair p) 0x0304 s) :=
  (show exec (.pairWatchdog p) s = execPairWatchdog p s from rfl).trans
    (by rw [execPairWatchdog, State.gate_open (by rw [hu, hp]; rfl)])

/-! ## Ends of recoveries (R438, R439, R444) -/

theorem exec_recoveryDone {u : UnitRef} (ok : Bool) {s : State} (hu : s.mainUp = true)
    (hw : s.faults.fatalWindow = none) (hp : s.unitPhase u = .recovering) (hr : s.recovered u = true) :
    exec (.recoveryDone u ok) s = .next ((if ok then backInService u else recoveryFails u) s) :=
  (show exec (.recoveryDone u ok) s = execRecoveryDone u ok s from rfl).trans
    (by rw [execRecoveryDone, State.gate_open (by rw [hu, hw, hp, hr]; rfl)])

/-- A unit back in service, before its rights return: on probation, and leadership judged again when it is a pair (R446). -/
def onProbation (u : UnitRef) (s : State) : State :=
  match u with
  | .pair _ => handOver (setUnit u .probation (s.unitCause u) s)
  | _ => setUnit u .probation (s.unitCause u) s

theorem backInService_eq (u : UnitRef) (s : State) : backInService u s =
    askBarrier .unitRights (raise 0x0F03 none (u.kind + u.index * 2 ^ 4) (onProbation u s)) := by
  cases u <;> rfl

theorem onProbation_frame (u : UnitRef) (s : State) : onProbation u s =
    { s with faults.units := (setUnit u .probation (s.unitCause u) s).faults.units,
             faults.leader := (onProbation u s).faults.leader, barker := (onProbation u s).barker } := by
  unfold onProbation
  split
  · rw [handOver_frame]; rfl
  · rfl

theorem backInService_restores (u : UnitRef) (s : State) :
    let t := backInService u s
    t.unitPhase u = .probation ∧ t.slots = s.slots ∧ t.jobs = s.jobs ∧
      t.regs.barrier = s.regs.barrier ++ [.unitRights] ∧ ∃ e ∈ t.barker.queue, e.code = 0x0F03 := by
  obtain ⟨e, he, hc, -⟩ := raise_mem 0x0F03 none (u.kind + u.index * 2 ^ 4) (onProbation u s)
  rw [backInService_eq]
  refine ⟨?_, ?_, ?_, ?_, e, he, hc⟩
  · refine (State.unitPhase_of_units (s := setUnit u .probation (s.unitCause u) s) ?_ u).trans
      (setUnit_unitPhase_self _ _ _ _)
    simp only [askBarrier_faults, raise_faults]; rw [onProbation_frame]
  · simp only [askBarrier_slots, raise_slots]; rw [onProbation_frame]
  · simp only [askBarrier_jobs, raise_jobs]; rw [onProbation_frame]
  · simp only [askBarrier, raise_regs]; rw [onProbation_frame]

/-- A recovery that fails is a further error of its unit (R439). -/
theorem recoveryFails_escalates (u : UnitRef) (s : State) : ∃ code, recoveryFails u s = escalate u code s := by
  cases u with
  | chan c => exact ⟨0x0E03, rfl⟩
  | _ => exact ⟨_, rfl⟩

theorem recoveryDone_restores {u : UnitRef} {s : State} (hu : s.mainUp = true) (hw : s.faults.fatalWindow = none)
    (hp : s.unitPhase u = .recovering) (hr : s.recovered u = true) :
    ∃ t, exec (.recoveryDone u true) s = .next t ∧ t.unitPhase u = .probation ∧ t.slots = s.slots ∧
      t.jobs = s.jobs ∧ t.regs.barrier = s.regs.barrier ++ [.unitRights] ∧
      ∃ e ∈ t.barker.queue, e.code = 0x0F03 :=
  ⟨_, exec_recoveryDone true hu hw hp hr, backInService_restores u s⟩

theorem recoveryDone_fences {u : UnitRef} {s : State} (hu : s.mainUp = true) (hw : s.faults.fatalWindow = none)
    (hp : s.unitPhase u = .recovering) (hr : s.recovered u = true) (hd : u ≠ .device)
    (hq : ∀ p, u = .pair p → ∃ q, q ≠ p ∧ s.inService (.pair q) = true) :
    ∃ t, exec (.recoveryDone u false) s = .next t ∧ t.unitPhase u = .fenced ∧
      ∃ e ∈ t.barker.queue, e.code = 0x0F02 := by
  obtain ⟨code, hc⟩ := recoveryFails_escalates u s
  obtain ⟨hphase, hevent, -⟩ := escalate_fences u code s hd hq
  refine ⟨_, (exec_recoveryDone false hu hw hp hr).trans (congrArg _ hc), hphase, hevent⟩

theorem probationEnd_serves {u : UnitRef} {s : State} (hu : s.mainUp = true) (hp : s.unitPhase u = .probation) :
    ∃ t, exec (.probationEnd u) s = .next t ∧ t = { s with faults.units := t.faults.units } ∧
      t.unitPhase u = .service ∧ ∀ v, v ≠ u → t.unitPhase v = s.unitPhase v :=
  ⟨_, (show execProbationEnd u s = _ from State.gate_open (by rw [hu, hp]; rfl)), rfl,
    setUnit_unitPhase_self _ _ _ _, fun _ h => setUnit_unitPhase_other h _ _ _⟩

/-- Settles O55. -/
theorem unitErrorsRecoverThenFence : Obligations.UnitErrorsRecoverThenFence := by
  unfold Obligations.UnitErrorsRecoverThenFence
  refine ⟨fun u code s hu hc hw hf => ⟨unitError_warning hu hc hw, unitError_recovers hu hc hw hf,
    unitError_fences hu hc hw hf⟩, fun p s hu hw hf hp he hj => ⟨?_, ?_⟩, fun u s hu hw => ⟨fun hp hr =>
      ⟨recoveryDone_restores hu hw hp hr, recoveryDone_fences hu hw hp hr⟩, probationEnd_serves hu⟩⟩
  · exact ⟨_, exec_lockstep hu hp, pairFails_recovers hw hf he hj (by decide)⟩
  · exact ⟨_, exec_pairWatchdog hu hp, pairFails_recovers hw hf he hj (by decide)⟩

end Sys2Proof.Machine

namespace Sys2Proof.Machine
open Sys2Proof

/-! # Privileged Sideshow commands whose tag passed (R375, R377 to R380, R489) -/

/-! ## The tag passes (R375, R376) -/

/-- A privileged command whose tag has passed: no failure counts and the nonce is new (R375, R376). -/
def State.tagPassed (s : State) (code : Byte) : State :=
  { (s.sideAsked code).drew 16 with side.nonce := s.random 16, side.tagFails := 0 }

theorem privileged_passes {code : Byte} {d : List Byte} {f : List Byte → State → State} {s : State}
    (hu : s.bridgeUp = true) (hl : s.side.locked = false) (hk : s.noTagKey = false) (h8 : 8 ≤ d.length)
    (ht : d.drop (d.length - 8) = s.tagOf code d) : privileged code d f s =
      if s.sideRefuses code then answerSide .refused (s.tagPassed code)
      else f (d.take (d.length - 8)) (s.tagPassed code) := by
  have hok : (8 ≤ d.length && d.drop (d.length - 8) == (s.sideAsked code).tagOf code d) = true := by
    have : (d.drop (d.length - 8) == (s.sideAsked code).tagOf code d) = true := beq_iff_eq.2 ht
    rw [this, decide_eq_true h8]; rfl
  refine (mainCommand_up hu code _).trans ((if_neg (ne_true_of_eq_false hl)).trans
    ((if_neg (ne_true_of_eq_false hk)).trans ((if_neg ?_).trans rfl)))
  rw [hok]; decide

/-- The life cycle refuses BIST_START, FW_OP and FW_DATA in FENCED_SECURE and TERMINATED, nothing else (R375). -/
theorem sideRefuses_iff {s : State} {code : Byte} (hc : code = 0x22 ∨ code = 0x30 ∨ code = 0x31) :
    s.sideRefuses code = true ↔ s.nv.lc = .fencedSecure ∨ s.nv.lc = .terminated := by
  rcases hc with rfl | rfl | rfl <;> simp [State.sideRefuses]

theorem sideRefuses_never {s : State} {code : Byte} (hc : code = 0x20 ∨ code = 0x21) : s.sideRefuses code = false := by
  rcases hc with rfl | rfl <;> simp [State.sideRefuses]

/-- Bytes ahead of the tag read the same without it. -/
theorem byteAt_take {d : List Byte} {i n : Nat} (h : i < n) : byteAt (d.take n) i = byteAt d i := by
  simp [byteAt, List.getD_eq_getElem?_getD, h]

theorem leAt_take {d : List Byte} {k n : Nat} (h : k ≤ n) : leAt (d.take n) 0 k = leAt d 0 k := by
  simp [leAt, slice, List.take_take, Nat.min_eq_left h]

/-! ## SLOT_OFF (R377) -/

/-- A disabled slot leaves its job and goes down (R55, R72, R347). -/
def takenOut (n : SlotId) (s : State) : State :=
  if (s.slot n).phase.live then loseNormal n .disable s
  else if (s.slot n).phase == .powerWait then lostJob n .disable (leaveQueue n s)
  else if (s.slot n).phase == .off then lostJob n .disable (s.updSlot n (fun x => { x with stepTo := none }))
  else s

theorem disableSlot_eq (n : SlotId) (s : State) :
    disableSlot n s = stopUnused (ringOf n) (takenOut n (s.updSlot n Slot.disabled)) := rfl

section TakenOut
variable (n : SlotId) (s : State)

theorem takenOut_lasting : (takenOut n s).lasting = s.lasting := by
  unfold takenOut
  split
  · exact loseNormal_lasting n .disable s
  · split
    · rw [lostJob_lasting, leaveQueue_lasting]
    · split
      · rw [lostJob_lasting]; exact State.updSlot_lasting s n fun _ => rfl
      · rfl

theorem takenOut_keepsAlarms : s.KeepsAlarms (takenOut n s) := by
  unfold takenOut
  split
  · exact loseNormal_keepsAlarms n .disable s
  · split
    · exact (leaveQueue_keepsAlarms n s).trans (lostJob_keepsAlarms n .disable _)
    · split
      · exact (updSlot_keepsAlarms n _ s).trans (lostJob_keepsAlarms n .disable _)
      · exact .refl s

theorem takenOut_takesDown : s.TakesDown (takenOut n s) := by
  unfold takenOut
  split
  · exact ((markCut_takesDown n s).trans (startNormal_actsOn n .disable false _).takesDown).trans
      (lostJob_takesDown n .disable _)
  · split
    · exact (leaveQueue_actsOn n s).takesDown.trans (lostJob_takesDown n .disable _)
    · split
      · refine State.TakesDown.trans ?_ (lostJob_takesDown n .disable _)
        exact ((State.ActsOn.refl s n).updSlot _ (fun h => h) fun h => h).takesDown
      · exact .refl s

theorem takenOut_live : ((takenOut n s).slot n).phase.live = false := by
  cases h : (s.slot n).phase.live with
  | true =>
    rw [takenOut, if_pos h]
    exact (lostJob_takesDown n .disable _).live n (startNormal_live n .disable false _)
  | false => exact (takenOut_takesDown n s).live n h

theorem disableSlot_lasting : (disableSlot n s).lasting = (s.updSlot n Slot.disabled).lasting := by
  rw [disableSlot_eq, stopUnused_frame]
  exact takenOut_lasting n _

theorem disableSlot_queue : s.barker.queue ⊆ (disableSlot n s).barker.queue := by
  rw [disableSlot_eq, stopUnused_frame]
  exact (takenOut_keepsAlarms n (s.updSlot n Slot.disabled)).queue

theorem disableSlot_down (m : SlotId) (h : m = n ∨ (s.slot m).phase.live = false) :
    ((disableSlot n s).slot m).phase.live = false := by
  rw [disableSlot_eq, stopUnused_slot]
  rcases h with rfl | h
  · exact takenOut_live m _
  · refine (takenOut_takesDown n _).live m ?_
    exact ((State.ActsOn.refl s n).updSlot Slot.disabled (fun h => h) fun h => h).takesDown.live m h

theorem disableSlot_off (m : SlotId) (h : m = n ∨ (s.slot m).enable = false) :
    ((disableSlot n s).slot m).enable = false := by
  rw [State.lasting_enable (disableSlot_lasting n s), State.updSlot_slot]
  split
  · rfl
  next hm => exact h.resolve_left hm

end TakenOut

/-- Every slot of the list is disabled, its card goes down, and the rest that SLOT_OFF needs stands (R377). -/
structure State.SwitchedOff (s : State) (l : List SlotId) (t : State) : Prop where
  regs : t.regs = s.regs
  side : t.side = s.side
  nv : t.nv = s.nv
  queue : s.barker.queue ⊆ t.barker.queue
  off : ∀ n ∈ l, (t.slot n).enable = false ∧ (t.slot n).phase.live = false

theorem disableSlots_switchOff (l : List SlotId) (s : State) : s.SwitchedOff l (forEach l disableSlot s) where
  regs := fe_frame State.regs l _ s fun n t => (State.lasting_regs (disableSlot_lasting n t)).trans rfl
  side := fe_frame State.side l _ s fun n t => (State.lasting_side (disableSlot_lasting n t)).trans rfl
  nv := fe_frame State.nv l _ s fun n t => congrArg Kept.nv (disableSlot_kept n t)
  queue := fe_inv (fun t => s.barker.queue ⊆ t.barker.queue) l _ s (List.Subset.refl _) fun n t h =>
    List.Subset.trans h (disableSlot_queue n t)
  off := fe_all (fun n t => (t.slot n).enable = false ∧ (t.slot n).phase.live = false) l _ s
    (fun n t => ⟨disableSlot_off n t n (.inl rfl), disableSlot_down n t n (.inl rfl)⟩)
    fun m n t ⟨he, hl⟩ => ⟨disableSlot_off n t m (.inr he), disableSlot_down n t m (.inr hl)⟩

/-- The named slots that are not yet below 0.4 V, or under their check (R377). -/
def State.slotsLeft (s : State) (l : List SlotId) : List SlotId :=
  l.filter (fun n => (s.slot n).vcc != .off || s.regs.checkSlot == some n)

/-- The state of SLOT_OFF with every named slot disabled, before its answer (R377). -/
def slotsDisabled (l : List SlotId) (s : State) : State := forEach l disableSlot (raise 0x0C03 none l.length s)

theorem slotsOff_eq (d : List Byte) (s : State) : slotsOff d s =
    (if ((slotsDisabled (maskSlots d) s).slotsLeft (maskSlots d)).isEmpty then answerSide .ok else id)
      { slotsDisabled (maskSlots d) s with
        side.slotOffWait := (slotsDisabled (maskSlots d) s).slotsLeft (maskSlots d) } := by
  simp only [slotsOff]
  split
  next h => rw [if_pos (by exact h)]; rfl
  next h => rw [if_neg (by exact h)]; rfl

theorem mem_maskSlots (d : List Byte) (n : SlotId) :
    n ∈ maskSlots d ↔ bit (byteAt d (n.val / 8)) (n.val % 8) = true := by simp [maskSlots]

theorem slotsDisabled_off (l : List SlotId) (s : State) :
    (raise 0x0C03 none l.length s).SwitchedOff l (slotsDisabled l s) := disableSlots_switchOff l _

section SlotsOff
variable (d : List Byte) (s : State)

/-- SLOT_OFF with its answer: only the management port moves once the slots are disabled (R377). -/
theorem slotsOff_frame : ∃ side : Sideshow, slotsOff d s = { slotsDisabled (maskSlots d) s with side := side } ∧
    side.tagFails = s.side.tagFails ∧ side.nonce = s.side.nonce ∧ side.result = s.side.result ∧
    side.answer = if ((slotsDisabled (maskSlots d) s).slotsLeft (maskSlots d)).isEmpty then some .ok
      else s.side.answer := by
  have hside : (slotsDisabled (maskSlots d) s).side = s.side := (slotsDisabled_off (maskSlots d) s).side
  rw [slotsOff_eq]
  split
  · refine ⟨_, rfl, ?_⟩
    simp [hside]
  · refine ⟨_, rfl, ?_⟩
    simp [hside]

theorem slotsLeft_isEmpty {l : List SlotId} {t : State}
    (h : ∀ n ∈ l, (t.slot n).vcc = .off ∧ t.regs.checkSlot ≠ some n) : (t.slotsLeft l).isEmpty = true := by
  rw [List.isEmpty_iff, State.slotsLeft, List.filter_eq_nil_iff]
  intro n hn
  obtain ⟨hv, hc⟩ := h n hn
  simp [hv, hc]

theorem slotsLeft_waits {l : List SlotId} {t : State} {n : SlotId} (hn : n ∈ l) (h : (t.slot n).vcc ≠ .off) :
    (t.slotsLeft l).isEmpty = false := by
  rw [List.isEmpty_eq_false_iff_exists_mem]
  exact ⟨n, List.mem_filter.2 ⟨hn, by simp [h]⟩⟩

/-- What SLOT_OFF does with its mask (R377). -/
theorem slotsOff_acts :
    let t := slotsOff d s
    (∀ n ∈ maskSlots d, (t.slot n).enable = false ∧ (t.slot n).phase.live = false) ∧
    t.side.tagFails = s.side.tagFails ∧ t.side.nonce = s.side.nonce ∧ t.side.result = s.side.result ∧ t.nv = s.nv ∧
    (∃ e ∈ t.barker.queue, e.code = 0x0C03) ∧
    ((∀ n ∈ maskSlots d, (t.slot n).vcc = .off ∧ s.regs.checkSlot ≠ some n) → t.side.answer = some .ok) ∧
    (∀ n ∈ maskSlots d, (t.slot n).vcc ≠ .off → t.side.answer = s.side.answer) := by
  obtain ⟨side, ht, hfails, hnonce, hresult, hanswer⟩ := slotsOff_frame d s
  have hoff := slotsDisabled_off (maskSlots d) s
  obtain ⟨e, he, hc, -⟩ := raise_mem 0x0C03 none (maskSlots d).length s
  intro t
  have hslot : ∀ n, t.slot n = (slotsDisabled (maskSlots d) s).slot n := fun n => by rw [show t = _ from ht]; rfl
  have hs : t.side = side := by rw [show t = _ from ht]
  simp only [hslot, hs]
  refine ⟨hoff.off, hfails, hnonce, hresult, ?_, ⟨e, ?_, hc⟩, fun h => ?_, fun n hn hv => ?_⟩
  · rw [show t = _ from ht]; exact hoff.nv
  · rw [show t = _ from ht]; exact hoff.queue he
  · have hcheck : (slotsDisabled (maskSlots d) s).regs.checkSlot = s.regs.checkSlot := by rw [hoff.regs]; rfl
    rw [hanswer, if_pos (slotsLeft_isEmpty (by rwa [hcheck]))]
  · rw [hanswer, if_neg (ne_true_of_eq_false (slotsLeft_waits hn hv))]

end SlotsOff

/-! ## MAIN_RESET and the management port over a reset (R372, R378) -/

/-- A main-side reset leaves the management port as `sideAfterReset` says, but for the copy of the BIST result. -/
theorem mainReset_side (src : ResetSource) (board : Board) (s : State) : ∃ copy : List Byte,
    (mainReset src board s).side = { sideAfterReset (s.random 16) s.side with bistCopy := copy } := by
  have htamper : (handleTamper (wiped src board s)).side = sideAfterReset (s.random 16) s.side := by
    unfold handleTamper
    split
    · rfl
    · dsimp only
      split
      · exact (congrArg State.side (tamperWipe_offBooks _) :)
      · rfl
  have hprior : ∀ t : State, (priorReset t).side = t.side := fun t => by unfold priorReset; split <;> rfl
  have hsupply : ∀ t : State, (reportSupply board t).side = t.side := fun t => by
    unfold reportSupply; split
    · rfl
    · rw [raise_side, latchAt_side]
  have hcore : ∀ t : State, ∃ copy : List Byte, (restoreCoreBist t).side = { t.side with bistCopy := copy } :=
    fun t => by
      unfold restoreCoreBist; split
      · exact ⟨_, rfl⟩
      · rw [fireIrq_side]; exact ⟨_, rfl⟩
  rw [mainReset_eq]
  obtain ⟨copy, hc⟩ := hcore (selectBank (reportSupply board (priorReset (slotsAtStart s
    (handleTamper (wiped src board s))))))
  refine ⟨copy, hc.trans ?_⟩
  rw [selectBank_frame, hsupply, hprior]
  simp only [slotsAtStart, htamper]

/-- The entry of MAIN_RESET is the newest in the standby log, with the reason (R374, R378). -/
theorem logStandby_last_reason (c : W16) (k i : Nat) (r : Byte) (s : State) :
    ∃ e, (logStandby c k i r s).standby.log.getLast? = some e ∧ e.code = c ∧ e.reason = r := by
  simp only [logStandby, List.length_append, List.length_singleton]
  rw [List.drop_append_of_le_length (by omega), List.getLast?_concat]
  exact ⟨_, rfl, rfl, rfl⟩

theorem sideReset_acts {reason : Byte} {s : State} (hp : s.side.result = .pending) (hc : s.side.cmd = 0x21) :
    let t := resetBy (.sideshow reason) (logSource (.sideshow reason) s)
    t.regs.time = 0 ∧ t.regs.enable = false ∧ t.jobs = [] ∧ t.side.result = .ok ∧ t.side.tagFails = 0 ∧
      ∃ e ∈ t.standby.log, e.code = 0 ∧ e.reason = reason := by
  have ho := mainReset_startsOver (.sideshow reason) s.power.board (logStandby 0 0 0 reason s)
  obtain ⟨copy, hside⟩ := mainReset_side (.sideshow reason) s.power.board (logStandby 0 0 0 reason s)
  obtain ⟨e, he, hcode, hreason⟩ := logStandby_last_reason 0 0 0 reason s
  intro t
  have ht : t = mainReset (.sideshow reason) s.power.board (logStandby 0 0 0 reason s) := rfl
  rw [ht]
  refine ⟨ho.time, congrArg Gates.enable ho.gates, ho.jobs, ?_, ?_, e, mainReset_keeps_last _ _ he, hcode, hreason⟩
  · rw [hside]; simp [sideAfterReset, logStandby, hp, hc]
  · rw [hside]; rfl

/-! ## BIST_START (R379) -/

theorem sideBist_refused {d : List Byte} {s : State} (h : s.bist.run.isSome = true ∨ field (byteAt d 0) 5 3 ≠ 0) :
    sideBist d s = answerSide .refused s := if_pos (by simpa using h)

/-- A start that is allowed runs with SOURCE 1 (R379). -/
theorem sideBist_starts {d : List Byte} {s : State} (hr : s.bist.run = none) (hf : field (byteAt d 0) 5 3 = 0)
    (ha : s.bistAllowed (bit (byteAt d 0) 4) true (BitVec.ofNat 4 (field (byteAt d 0) 0 4)) = true) :
    let t := sideBist d s
    t.bist.run.isSome = true ∧ t.bist.source = true ∧ t.bist.type = bit (byteAt d 0) 4 ∧
      t.side.answer = some .ok := by
  have hb := startBist_allowed hr ha
  have he : sideBist d s =
      answerSide .ok (startBist (bit (byteAt d 0) 4) true (BitVec.ofNat 4 (field (byteAt d 0) 0 4)) s) :=
    (if_neg (by simp [hr, hf])).trans (if_pos (by rw [hb]; rfl))
  simp only [he, answerSide, hb, State.bistAsked]
  exact ⟨rfl, trivial, trivial, trivial⟩

/-- A start that is not allowed ends NOT_RUN and is REFUSED (R355, R379). -/
theorem sideBist_notRun {d : List Byte} {s : State} (hr : s.bist.run = none) (hf : field (byteAt d 0) 5 3 = 0)
    (ha : s.bistAllowed (bit (byteAt d 0) 4) true (BitVec.ofNat 4 (field (byteAt d 0) 0 4)) = false) :
    let t := sideBist d s
    t.bist.run = none ∧ t.bist.result = 3 ∧ t.side.answer = some .refused := by
  obtain ⟨hb, -⟩ :=
    endNotRun_ends (s.bistAsked (bit (byteAt d 0) 4) true (BitVec.ofNat 4 (field (byteAt d 0) 0 4)))
  have he : sideBist d s = answerSide .refused
      (endNotRun (s.bistAsked (bit (byteAt d 0) 4) true (BitVec.ofNat 4 (field (byteAt d 0) 0 4)))) := by
    refine (if_neg (by simp [hr, hf])).trans ?_
    rw [startBist_refused hr ha, if_neg (by simp [hb])]
  simp only [he, answerSide, hb]
  exact ⟨trivial, trivial, trivial⟩

/-! ## FW_OP (R380, R488) -/

/-- A firmware operation that resets nothing leaves the slots, the jobs and the management port. -/
structure State.FwKeeps (s t : State) : Prop where
  slots : t.slots = s.slots
  jobs : t.jobs = s.jobs
  side : t.side = s.side

section FwOps
variable (s : State)

theorem endFw_frame (op r : Nat) : endFw op r s =
    { s with fw.go := false, fw.result := BitVec.ofNat 4 r, fw.lastOp := BitVec.ofNat 4 op,
             regs.irqStatus := (endFw op r s).regs.irqStatus, regs.msixPending := (endFw op r s).regs.msixPending,
             out := (endFw op r s).out } := by
  simp only [endFw]
  rw [fireIrq_frame]

theorem endFw_fwKeeps (op r : Nat) : s.FwKeeps (endFw op r s) := by
  rw [endFw_frame]; exact ⟨rfl, rfl, rfl⟩

theorem prepareFw_fwKeeps : s.FwKeeps (prepareFw s) := by
  simp only [prepareFw]
  split
  · exact endFw_fwKeeps s 1 4
  · exact ⟨rfl, rfl, rfl⟩

theorem commitFw_fwKeeps : s.FwKeeps (commitFw s) := by
  simp only [commitFw]
  split
  · exact endFw_fwKeeps s 2 4
  · split
    · obtain ⟨hs, hj, hd⟩ := endFw_fwKeeps
        (setStandby (fun _ => { valid := true, eip := false, image := some (readImage s.fw.loaded) })
          { s with fw.standby := .valid }) 2 0
      exact ⟨hs, hj, hd⟩
    · obtain ⟨hs, hj, hd⟩ := endFw_fwKeeps { s with fw.standby := .loaded } 2 1
      exact ⟨hs, hj, hd⟩

/-- The state in which ABORT has stopped the machine and emptied the standby bank, before its end (R488). -/
def State.fwStopped (s : State) : State :=
  { setStandby (fun b => { b with valid := false, image := none }) s with
    fw.standby := .empty, fw.busy := false, fw.reErase := false, fw.loaded := [], fw.lastWrite := none }

theorem abortFw_eq : abortFw s = askBarrier .firmware (endFw 4 5 s.fwStopped) := rfl

theorem abortFw_fwKeeps : s.FwKeeps (abortFw s) := by
  rw [abortFw_eq, endFw_frame]; exact ⟨rfl, rfl, rfl⟩

theorem abortFw_empties : (abortFw s).fw.go = false ∧ (abortFw s).fw.standby = .empty ∧ (abortFw s).fw.result = 5 := by
  rw [abortFw_eq, endFw_frame]; exact ⟨rfl, rfl, rfl⟩

theorem prepareFw_erases (hc : s.sec.changing = none) (hn : s.nv.confirmed = true) :
    prepareFw s = askBarrier .firmware
      { setStandby (fun b => { b with eip := true, image := none }) s with
        fw.sector := if s.fw.reErase then s.fw.sector else 0, fw.standby := .erasing, fw.busy := true,
        fw.loaded := [], fw.lastWrite := none } := if_neg (by simp [hc, hn])

theorem switchFw_resets (hv : s.fw.standby = .valid) (he : s.regs.enable = false) (hc : s.sec.changing = none) :
    switchFw s =
      mainReset .fwSwitch s.power.board { s with nv.nextB := s.standbyB, nv.trial := 3, nv.confirmed := false } :=
  if_neg (by simp [hv, he, hc])

end FwOps

theorem runFw_fwKeeps {op : Nat} (h : op = 1 ∨ op = 2 ∨ op = 4) (s : State) : s.FwKeeps (runFw op s) := by
  rcases h with rfl | rfl | rfl
  · exact prepareFw_fwKeeps s
  · exact commitFw_fwKeeps s
  · exact abortFw_fwKeeps s

theorem sideFw_refused {d : List Byte} {s : State}
    (h : s.fw.go = true ∨ (byteAt d 0).toNat < 1 ∨ 4 < (byteAt d 0).toNat) : sideFw d s = answerSide .refused s :=
  if_pos (by simpa [or_assoc] using h)

/-- The command is answered once its operation ran, unless the main side was reset by it (R372, R380). -/
theorem sideFw_runs {d : List Byte} {s : State} {op : Nat} (ho : (byteAt d 0).toNat = op) (hg : s.fw.go = false)
    (h1 : 1 ≤ op) (h4 : op ≤ 4) : sideFw d s =
      if (runFw op (takeFw op s)).side.result == .pending then answerSide .ok (runFw op (takeFw op s))
      else runFw op (takeFw op s) := by
  subst ho
  exact if_neg (by simp [hg]; omega)

/-- PREPARE, COMMIT and ABORT are answered OK at their end (R380). -/
theorem sideFw_answers {d : List Byte} {s : State} {op : Nat} (ho : (byteAt d 0).toNat = op) (hg : s.fw.go = false)
    (hop : op = 1 ∨ op = 2 ∨ op = 4) (hp : s.side.result = .pending) :
    sideFw d s = answerSide .ok (runFw op (takeFw op s)) := by
  have hk := (runFw_fwKeeps hop (takeFw op s)).side
  rw [sideFw_runs ho hg (by omega) (by omega), if_pos]
  rw [hk]; exact beq_iff_eq.2 hp

theorem answerSide_fw (r : SbResult) (s : State) : (answerSide r s).fw = s.fw := rfl

theorem sideFw_keeps {d : List Byte} {s : State} (hg : s.fw.go = false)
    (hop : (byteAt d 0).toNat = 1 ∨ (byteAt d 0).toNat = 2 ∨ (byteAt d 0).toNat = 4) (hp : s.side.result = .pending) :
    (sideFw d s).side.answer = some .ok ∧ (sideFw d s).slots = s.slots ∧ (sideFw d s).jobs = s.jobs := by
  obtain ⟨hslots, hjobs, -⟩ := runFw_fwKeeps hop (takeFw (byteAt d 0).toNat s)
  rw [sideFw_answers rfl hg hop hp]
  exact ⟨rfl, hslots, hjobs⟩

theorem sideFw_prepares {d : List Byte} {s : State} (ho : (byteAt d 0).toNat = 1) (hg : s.fw.go = false)
    (hp : s.side.result = .pending) (hc : s.sec.changing = none) (hn : s.nv.confirmed = true) :
    (sideFw d s).fw.go = true ∧ (sideFw d s).fw.busy = true ∧ (sideFw d s).fw.standby = .erasing := by
  rw [sideFw_answers ho hg (.inl rfl) hp, answerSide_fw, runFw, prepareFw_erases (takeFw 1 s) hc hn]
  exact ⟨rfl, rfl, rfl⟩

theorem sideFw_aborts {d : List Byte} {s : State} (ho : (byteAt d 0).toNat = 4) (hg : s.fw.go = false)
    (hp : s.side.result = .pending) :
    (sideFw d s).fw.go = false ∧ (sideFw d s).fw.standby = .empty ∧ (sideFw d s).fw.result = 5 := by
  rw [sideFw_answers ho hg (.inr (.inr rfl)) hp, answerSide_fw]
  exact abortFw_empties (takeFw 4 s)

/-- A SWITCH that is allowed resets the main side while the command is PENDING (R372, R486). -/
theorem sideFw_switches {d : List Byte} {s : State} (ho : (byteAt d 0).toNat = 3) (hg : s.fw.go = false)
    (hp : s.side.result = .pending) (hc : s.side.cmd ≠ 0x21) (hv : s.fw.standby = .valid)
    (he : s.regs.enable = false) (hn : s.sec.changing = none) :
    (sideFw d s).regs.time = 0 ∧ (sideFw d s).side.result = .mainUnavailable := by
  obtain ⟨u, hu, hside⟩ : ∃ u : State, runFw 3 (takeFw 3 s) = mainReset .fwSwitch s.power.board u ∧ u.side = s.side :=
    ⟨_, switchFw_resets (takeFw 3 s) hv he hn, rfl⟩
  obtain ⟨copy, hcopy⟩ := mainReset_side .fwSwitch s.power.board u
  have hr : (runFw 3 (takeFw 3 s)).side.result = .mainUnavailable := by
    rw [hu, hcopy]
    simp only [sideAfterReset, hside, hp, beq_self_eq_true, if_true, beq_eq_false_iff_ne.2 hc, Bool.false_eq_true, if_false]
  rw [sideFw_runs ho hg (by omega) (by omega), if_neg (by rw [hr]; decide)]
  exact ⟨by rw [hu]; exact (mainReset_startsOver _ _ u).time, hr⟩

/-! ## FW_DATA (R380, R489) -/

section FwData
variable {d : List Byte} {s : State}

theorem sideFwData_closed (h : s.fw.go = true ∨ ¬(s.fw.standby = .erased ∨ s.fw.standby = .loading) ∨
    4194304 < leAt d 0 4 + (d.drop 4).length) : sideFwData d s = answerSide .refused s := by
  have hw : writeImage (leAt d 0 4) (d.drop 4) s = none :=
    if_pos (by simpa [-List.length_drop, or_assoc, not_or] using h)
  simp only [sideFwData, hw]

variable (h : ¬(s.fw.go = true ∨ ¬(s.fw.standby = .erased ∨ s.fw.standby = .loading) ∨
    4194304 < leAt d 0 4 + (d.drop 4).length))
include h

theorem writeImage_open : writeImage (leAt d 0 4) (d.drop 4) s =
    if s.fw.lastWrite == some (leAt d 0 4, (d.drop 4).length) then some s
    else if leAt d 0 4 == s.fw.loaded.length then
      some { s with fw.loaded := s.fw.loaded ++ d.drop 4, fw.standby := .loading,
                    fw.lastWrite := some (leAt d 0 4, (d.drop 4).length) }
    else none :=
  if_neg fun hc => h (by simpa [-List.length_drop, or_assoc, not_or] using hc)

/-- A repeat of the last write changes nothing (R489). -/
theorem sideFwData_repeats (hl : s.fw.lastWrite = some (leAt d 0 4, (d.drop 4).length)) :
    sideFwData d s = answerSide .ok s := by
  simp only [sideFwData, writeImage_open h, hl, beq_self_eq_true, if_true]

variable (hl : s.fw.lastWrite ≠ some (leAt d 0 4, (d.drop 4).length))
include hl

theorem sideFwData_appends (ho : leAt d 0 4 = s.fw.loaded.length) : sideFwData d s =
    answerSide .ok { s with fw.loaded := s.fw.loaded ++ d.drop 4, fw.standby := .loading,
                            fw.lastWrite := some (leAt d 0 4, (d.drop 4).length) } := by
  simp only [sideFwData, writeImage_open h, beq_eq_false_iff_ne.2 hl, beq_iff_eq.2 ho]
  rfl

theorem sideFwData_refused (ho : leAt d 0 4 ≠ s.fw.loaded.length) : sideFwData d s = answerSide .refused s := by
  simp only [sideFwData, writeImage_open h, beq_eq_false_iff_ne.2 hl, beq_eq_false_iff_ne.2 ho]
  rfl

end FwData

/-! ## The commands as they arrive -/

section Arrives
variable {s : State} {w : SbWrite} (hv : s.power.vstby = true) (hp : s.side.result ≠ .pending) (hc : w.pecOk = true)
  (hu : s.bridgeUp = true) (hl : s.side.locked = false) (hk : s.noTagKey = false)
include hv hp hc hu hl hk

/-- A privileged command runs, and with a passing tag on its data without the tag. -/
theorem privileged_arrives {code : Byte} {lo hi : Nat} {instr : Instr} {f : List Byte → State → State}
    (hx : exec instr s = s.sideWrite code lo hi w (privileged code w.data f))
    (hlo : lo ≤ w.data.length) (hhi : w.data.length ≤ hi) (h8 : 8 ≤ w.data.length) :
    ∃ t, exec instr s = .next t ∧ (w.data.drop (w.data.length - 8) = s.tagOf code w.data →
      t = if s.sideRefuses code then answerSide .refused (s.tagPassed code)
        else f (w.data.take (w.data.length - 8)) (s.tagPassed code)) :=
  ⟨_, hx.trans (sideWrite_runs hv hp hlo hhi hc), privileged_passes hu hl hk h8⟩

/-- The commands that the life cycle may refuse: REFUSED in FENCED_SECURE and TERMINATED, and run otherwise (R375). -/
theorem closable_arrives {code : Byte} {lo hi : Nat} {instr : Instr} {f : List Byte → State → State}
    (hx : exec instr s = s.sideWrite code lo hi w (privileged code w.data f))
    (hlo : lo ≤ w.data.length) (hhi : w.data.length ≤ hi) (h8 : 8 ≤ w.data.length)
    (hcode : code = 0x22 ∨ code = 0x30 ∨ code = 0x31) :
    ∃ t, exec instr s = .next t ∧ (w.data.drop (w.data.length - 8) = s.tagOf code w.data →
      (s.nv.lc = .fencedSecure ∨ s.nv.lc = .terminated → t = answerSide .refused (s.tagPassed code)) ∧
      (¬(s.nv.lc = .fencedSecure ∨ s.nv.lc = .terminated) →
        t = f (w.data.take (w.data.length - 8)) (s.tagPassed code))) := by
  obtain ⟨t, hx, ht⟩ := privileged_arrives hv hp hc hu hl hk hx hlo hhi h8
  simp only [← sideRefuses_iff hcode]
  exact ⟨t, hx, fun h => ⟨fun hr => (ht h).trans (if_pos hr), fun hr => (ht h).trans (if_neg hr)⟩⟩

theorem slotOff_acts (hn : w.data.length = 16) :
    ∃ t, exec (.slotOff w) s = .next t ∧ (w.data.drop (w.data.length - 8) = s.tagOf 0x20 w.data →
      let named := fun (n : SlotId) => bit (byteAt w.data (n.val / 8)) (n.val % 8) = true
      (∀ n, named n → (t.slot n).enable = false ∧ (t.slot n).phase.live = false) ∧
      t.side.tagFails = 0 ∧ t.side.nonce = s.random 16 ∧ t.side.result = .pending ∧ t.nv = s.nv ∧
      (∃ e ∈ t.barker.queue, e.code = 0x0C03) ∧
      ((∀ n, named n → (t.slot n).vcc = .off ∧ s.regs.checkSlot ≠ some n) → t.side.answer = some .ok) ∧
      (∀ n, named n → (t.slot n).vcc ≠ .off → t.side.answer = none)) := by
  obtain ⟨t, hx, ht⟩ := privileged_arrives (instr := .slotOff w) hv hp hc hu hl hk rfl hn.ge hn.le (by omega)
  refine ⟨t, hx, fun h => ?_⟩
  have hmask : ∀ n : SlotId, n ∈ maskSlots (w.data.take (w.data.length - 8)) ↔
      bit (byteAt w.data (n.val / 8)) (n.val % 8) = true := fun n => by
    rw [mem_maskSlots, byteAt_take (by omega)]
  rw [ht h, sideRefuses_never (.inl rfl), if_neg Bool.false_ne_true]
  simp only [← hmask]
  exact slotsOff_acts _ (s.tagPassed 0x20)

theorem mainReset_acts (hn : w.data.length = 9) :
    ∃ t, exec (.mainReset w) s = .next t ∧ (w.data.drop (w.data.length - 8) = s.tagOf 0x21 w.data →
      t.regs.time = 0 ∧ t.regs.enable = false ∧ t.jobs = [] ∧ t.side.result = .ok ∧ t.side.tagFails = 0 ∧
      ∃ e ∈ t.standby.log, e.code = 0 ∧ e.reason = byteAt w.data 0) := by
  obtain ⟨t, hx, ht⟩ := privileged_arrives (instr := .mainReset w) hv hp hc hu hl hk rfl hn.ge hn.le (by omega)
  refine ⟨t, hx, fun h => ?_⟩
  rw [ht h, sideRefuses_never (.inr rfl), if_neg Bool.false_ne_true, byteAt_take (by omega)]
  exact sideReset_acts rfl rfl

theorem bistStart_acts (hn : w.data.length = 9) :
    ∃ t, exec (.bistStart w) s = .next t ∧ (w.data.drop (w.data.length - 8) = s.tagOf 0x22 w.data →
      if (s.nv.lc = .fencedSecure ∨ s.nv.lc = .terminated) ∨ s.bist.run.isSome = true ∨
          field (byteAt w.data 0) 5 3 ≠ 0 then t = answerSide .refused (s.tagPassed 0x22)
      else if s.bistAllowed (bit (byteAt w.data 0) 4) true (BitVec.ofNat 4 (field (byteAt w.data 0) 0 4)) = true then
        t.bist.run.isSome = true ∧ t.bist.source = true ∧ t.bist.type = bit (byteAt w.data 0) 4 ∧
        t.side.answer = some .ok
      else t.bist.run = none ∧ t.bist.result = 3 ∧ t.side.answer = some .refused) := by
  obtain ⟨t, hx, ht⟩ := closable_arrives (instr := .bistStart w) hv hp hc hu hl hk rfl hn.ge hn.le (by omega) (by decide)
  refine ⟨t, hx, fun h => ?_⟩
  obtain ⟨hrefused, hruns⟩ := ht h
  have hb : byteAt (w.data.take (w.data.length - 8)) 0 = byteAt w.data 0 := byteAt_take (by omega)
  by_cases hclosed : s.nv.lc = .fencedSecure ∨ s.nv.lc = .terminated
  · rw [if_pos (.inl hclosed)]; exact hrefused hclosed
  · rw [hruns hclosed, ← hb]
    split
    next hr => exact sideBist_refused (s := s.tagPassed 0x22) (hr.resolve_left hclosed)
    next hr =>
      obtain ⟨-, hrun, hfield⟩ : _ ∧ s.bist.run = none ∧ _ := by simpa [not_or] using hr
      split
      next ha => exact sideBist_starts (s := s.tagPassed 0x22) hrun hfield ha
      next ha => exact sideBist_notRun (s := s.tagPassed 0x22) hrun hfield (Bool.eq_false_of_not_eq_true ha)

theorem fwOp_acts (hn : w.data.length = 9) :
    ∃ t, exec (.fwOp w) s = .next t ∧ (w.data.drop (w.data.length - 8) = s.tagOf 0x30 w.data →
      if (s.nv.lc = .fencedSecure ∨ s.nv.lc = .terminated) ∨ s.fw.go = true ∨ (byteAt w.data 0).toNat < 1 ∨
          4 < (byteAt w.data 0).toNat then t = answerSide .refused (s.tagPassed 0x30)
      else
        (byteAt w.data 0 ≠ 3 → t.side.answer = some .ok ∧ t.slots = s.slots ∧ t.jobs = s.jobs) ∧
        (byteAt w.data 0 = 1 → s.sec.changing = none → s.nv.confirmed = true →
          t.fw.go = true ∧ t.fw.busy = true ∧ t.fw.standby = .erasing) ∧
        (byteAt w.data 0 = 4 → t.fw.go = false ∧ t.fw.standby = .empty ∧ t.fw.result = 5) ∧
        (byteAt w.data 0 = 3 → s.fw.standby = .valid → s.regs.enable = false → s.sec.changing = none →
          t.regs.time = 0 ∧ t.side.result = .mainUnavailable)) := by
  obtain ⟨t, hx, ht⟩ := closable_arrives (instr := .fwOp w) hv hp hc hu hl hk rfl hn.ge hn.le (by omega) (by decide)
  refine ⟨t, hx, fun h => ?_⟩
  obtain ⟨hrefused, hruns⟩ := ht h
  have hb : byteAt (w.data.take (w.data.length - 8)) 0 = byteAt w.data 0 := byteAt_take (by omega)
  by_cases hclosed : s.nv.lc = .fencedSecure ∨ s.nv.lc = .terminated
  · rw [if_pos (.inl hclosed)]; exact hrefused hclosed
  · rw [hruns hclosed, ← hb]
    generalize w.data.take (w.data.length - 8) = d
    split
    next hr => exact sideFw_refused (s := s.tagPassed 0x30) (hr.resolve_left hclosed)
    next hr =>
      obtain ⟨-, hgo, h1, h4⟩ : _ ∧ s.fw.go = false ∧ (byteAt d 0).toNat ≠ 0 ∧ (byteAt d 0).toNat ≤ 4 := by
        simpa [not_or] using hr
      refine ⟨fun h3 => ?_, fun he hch hcf => ?_, fun he => ?_, fun he hval hen hch => ?_⟩
      · have h3' : (byteAt d 0).toNat ≠ 3 := fun e => h3 (BitVec.eq_of_toNat_eq e)
        have hop : (byteAt d 0).toNat = 1 ∨ (byteAt d 0).toNat = 2 ∨ (byteAt d 0).toNat = 4 := by omega
        exact sideFw_keeps (s := s.tagPassed 0x30) hgo hop rfl
      · exact sideFw_prepares (s := s.tagPassed 0x30) (by rw [he]; rfl) hgo rfl hch hcf
      · exact sideFw_aborts (s := s.tagPassed 0x30) (by rw [he]; rfl) hgo rfl
      · exact sideFw_switches (s := s.tagPassed 0x30) (by rw [he]; rfl) hgo rfl (by decide : (0x30 : Byte) ≠ 0x21)
          hval hen hch

theorem fwData_acts (h13 : 13 ≤ w.data.length) (h244 : w.data.length ≤ 244) :
    ∃ t, exec (.fwData w) s = .next t ∧ (w.data.drop (w.data.length - 8) = s.tagOf 0x31 w.data →
      let d := (w.data.take (w.data.length - 8)).drop 4
      let off := leAt w.data 0 4
      if (s.nv.lc = .fencedSecure ∨ s.nv.lc = .terminated) ∨ s.fw.go = true ∨
          ¬(s.fw.standby = .erased ∨ s.fw.standby = .loading) ∨ 4194304 < off + d.length then
        t = answerSide .refused (s.tagPassed 0x31)
      else if s.fw.lastWrite = some (off, d.length) then t = answerSide .ok (s.tagPassed 0x31)
      else if off = s.fw.loaded.length then
        t = { answerSide .ok (s.tagPassed 0x31) with
              fw.loaded := s.fw.loaded ++ d, fw.standby := .loading, fw.lastWrite := some (off, d.length) }
      else t = answerSide .refused (s.tagPassed 0x31)) := by
  obtain ⟨t, hx, ht⟩ := closable_arrives (instr := .fwData w) hv hp hc hu hl hk rfl h13 h244 (by omega) (by decide)
  refine ⟨t, hx, fun h => ?_⟩
  obtain ⟨hrefused, hruns⟩ := ht h
  have hoff : leAt w.data 0 4 = leAt (w.data.take (w.data.length - 8)) 0 4 := (leAt_take (by omega)).symm
  intro d off
  by_cases hclosed : s.nv.lc = .fencedSecure ∨ s.nv.lc = .terminated
  · rw [if_pos (.inl hclosed)]; exact hrefused hclosed
  · rw [hruns hclosed]
    simp only [d, off, hoff]
    generalize w.data.take (w.data.length - 8) = b
    split
    next hr => exact sideFwData_closed (s := s.tagPassed 0x31) (hr.resolve_left hclosed)
    next hr =>
      have hopen := fun h' => hr (.inr h')
      split
      next hlast => exact sideFwData_repeats (s := s.tagPassed 0x31) hopen hlast
      next hlast =>
        split
        next ho => exact sideFwData_appends (s := s.tagPassed 0x31) hopen hlast ho
        next ho => exact sideFwData_refused (s := s.tagPassed 0x31) hopen hlast ho

end Arrives

/-- Settles O60: each command by what it does on its data once the tag has passed. -/
theorem sideshowCommandsActOnAPassingTag : Obligations.SideshowCommandsActOnAPassingTag := by
  unfold Obligations.SideshowCommandsActOnAPassingTag
  intro s w hv hp hc hu hl hk
  exact ⟨slotOff_acts hv hp hc hu hl hk, mainReset_acts hv hp hc hu hl hk, bistStart_acts hv hp hc hu hl hk,
    fwOp_acts hv hp hc hu hl hk, fwData_acts hv hp hc hu hl hk⟩

end Sys2Proof.Machine

namespace Sys2Proof.Machine
open Sys2Proof

/-! # No command touches the queue of waiting commands

Nearly every operation leaves the queue by its `_kept` lemma (Laws/Kept.lean); below are those that write EPOCH or the
option area, and the main-side reset, which takes the queue over. -/

@[simp] theorem pending_eq_kept (s : State) : s.pending = s.kept.pending := rfl

@[simp] theorem State.kept_pending_mk (pending power regs slots rings requests jobs closing barker place jugs bank nv
    sec faults standby side ports sbMap tight bist fw draws out) :
    (State.kept ⟨pending, power, regs, slots, rings, requests, jobs, closing, barker, place, jugs, bank, nv, sec,
      faults, standby, side, ports, sbMap, tight, bist, fw, draws, out⟩).pending = pending := by
  simp only [State.kept]

@[simp] theorem kept_pending_ite (c : Prop) [Decidable c] (a b : State) :
    (if c then a else b).kept.pending = if c then a.kept.pending else b.kept.pending := by
  split <;> rfl

@[simp] theorem forEach_queue {α : Type} (l : List α) (f : α → State → State) (s : State)
    (h : ∀ a s, (f a s).kept.pending = s.kept.pending) : (forEach l f s).kept.pending = s.kept.pending :=
  fe_frame (·.kept.pending) l f s h

@[simp] theorem onlyIf_queue (c : Bool) (f : State → State) (s : State)
    (h : ∀ s, (f s).kept.pending = s.kept.pending) : (onlyIf c f s).kept.pending = s.kept.pending := by
  simp [onlyIf, h]

/-- What touches the bank's books, the option area, the events, the Jugglers or the plan alone leaves the queue. -/
theorem offBooks_queue {s t : State} (h : t.offBooks = s.offBooks) : t.kept.pending = s.kept.pending := by
  have := congrArg State.pending h
  exact this

/-! ## The bank -/

@[simp] theorem rppWrite_queue (s : State) : (rppWrite s).kept.pending = s.kept.pending :=
  offBooks_queue (rppWrite_offBooks s)
@[simp] theorem cryptoErase_queue (keep newKey : Bool) (s : State) :
    (cryptoErase keep newKey s).kept.pending = s.kept.pending := offBooks_queue (cryptoErase_offBooks _ _ s)
@[simp] theorem tamperWipe_queue (s : State) : (tamperWipe s).kept.pending = s.kept.pending :=
  offBooks_queue (tamperWipe_offBooks s)
@[simp] theorem startRpp_queue (copies : List RppCopy) (s : State) :
    (startRpp copies s).kept.pending = s.kept.pending := offBooks_queue (startRpp_offBooks copies s)
@[simp] theorem auditLcChange_queue (old new : LcState) (s : State) :
    (auditLcChange old new s).kept.pending = s.kept.pending := by simp [auditLcChange]
@[simp] theorem writeBatch_queue (l : List (W64 × List Byte)) (n : Nat) (s : State) :
    (writeBatch l n s).1.kept.pending = s.kept.pending := by
  induction l generalizing n s with
  | nil => rfl
  | cons a l ih => unfold writeBatch; split <;> simp [ih]
@[simp] theorem recordWrite_queue (param : List Byte) (j : Job) (s : State) :
    (recordWrite param j s).kept.pending = s.kept.pending := by simp [recordWrite]
@[simp] theorem deleteRecords_queue (key : Nat → W64) (l : List Nat) (a : State × Nat) :
    (l.foldl (fun a i => deleteRecord (key i) a) a).1.kept.pending = a.1.kept.pending := by
  induction l generalizing a with
  | nil => rfl
  | cons i l ih => rw [List.foldl_cons, ih]; unfold deleteRecord; split <;> simp
@[simp] theorem recordDelete_queue (param : List Byte) (j : Job) (s : State) :
    (recordDelete param j s).kept.pending = s.kept.pending := by simp [recordDelete]
@[simp] theorem profileWrite_queue (param : List Byte) (j : Job) (s : State) :
    (profileWrite param j s).kept.pending = s.kept.pending := by
  unfold profileWrite; dsimp only; (repeat' split) <;> simp
@[simp] theorem auditAttest_queue (param : List Byte) (j : Job) (s : State) :
    (auditAttest param j s).kept.pending = s.kept.pending := by simp [auditAttest]
@[simp] theorem counterRelease_queue (j : Job) (s : State) :
    (counterRelease j s).kept.pending = s.kept.pending := by simp only [counterRelease]; split <;> simp
@[simp] theorem ownerSet_queue (param : List Byte) (j : Job) (s : State) :
    (ownerSet param j s).kept.pending = s.kept.pending := by simp only [ownerSet]; (repeat' split) <;> simp
@[simp] theorem mgmtSet_queue (param : List Byte) (j : Job) (s : State) :
    (mgmtSet param j s).kept.pending = s.kept.pending := by simp only [mgmtSet]; (repeat' split) <;> simp

/-! ## The profile engine and the link -/

@[simp] theorem consumeCounter_queue (id : JobId) (i : Fin 256) (h : W32) (s : State) :
    (consumeCounter id i h s).kept.pending = s.kept.pending := by simp [consumeCounter]
@[simp] theorem substitute_queue (n : SlotId) (j : Job) (r : Run) (ctr : Option W64) (l : List Sub) (t : List Byte)
    (s : State) : (substitute n j r ctr l t s).2.kept.pending = s.kept.pending := by
  induction l generalizing t s with
  | nil => rfl
  | cons u l ih => simp [substitute, ih]
@[simp] theorem intentFor_queue (id : JobId) (n : SlotId) (k : Nat) (st : Step) (csn : W16) (s : State) :
    (intentFor id n k st csn s).2.kept.pending = s.kept.pending := by
  simp only [intentFor]; (repeat' split) <;> simp
@[simp] theorem stageScOpen_queue (id : JobId) (n : SlotId) (j : Job) (k : Nat) (st : Step) (s : State) :
    (stageScOpen id n j k st s).kept.pending = s.kept.pending := by
  simp only [stageScOpen]; split <;> simp
@[simp] theorem stageApdu_queue (id : JobId) (n : SlotId) (j : Job) (r : Run) (k : Nat) (st : Step) (s : State) :
    (stageApdu id n j r k st s).kept.pending = s.kept.pending := by
  unfold stageApdu; dsimp only; (repeat' split) <;> simp
@[simp] theorem precompute_queue (fuel : Nat) (id : JobId) (n : SlotId) (s : State) :
    (precompute fuel id n s).kept.pending = s.kept.pending := by
  induction fuel generalizing s with
  | zero => rfl
  | succ fuel ih => simp only [precompute]; (repeat' split) <;> simp [ih]
theorem resolutionStep_build_queue (e : Intent) (l : List Sub) (d : List Byte) (s : State) {r : List Byte × State}
    (h : resolutionStep.build e l d s = some r) : r.2.kept.pending = s.kept.pending := by
  induction l generalizing d s with
  | nil => cases h; rfl
  | cons u l ih =>
    unfold resolutionStep.build at h
    split at h
    · split at h
      · split at h
        · exact ih _ _ h
        · cases h
      · cases h
    · exact ih _ (s.drew u.len) h
    · cases h
theorem resolutionStep_queue (n : SlotId) (p : W16) (s : State) {st : Step} {apdu : List Byte} {t : State}
    (h : resolutionStep n p s = some (st, apdu, t)) : t.kept.pending = s.kept.pending := by
  unfold resolutionStep at h
  split at h
  · obtain ⟨r, hr, e⟩ := Option.map_eq_some_iff.1 h
    cases e
    exact resolutionStep_build_queue _ _ _ _ hr
  · cases h
@[simp] theorem resolveNext_queue (n : SlotId) (l : List W16) (s : State) :
    (resolveNext n l s).kept.pending = s.kept.pending := by
  induction l with
  | nil => simp [resolveNext]
  | cons p l ih =>
    unfold resolveNext; split
    next h => simp [resolutionStep_queue n p s h]
    · exact ih
@[simp] theorem whenReady_queue (n : SlotId) (s : State) : (whenReady n s).kept.pending = s.kept.pending := by
  simp only [whenReady]; (repeat' split) <;> simp
@[simp] theorem acceptCard_queue (n : SlotId) (fi di : Nat) (p : Proto) (s : State) :
    (acceptCard n fi di p s).kept.pending = s.kept.pending := by simp [acceptCard]
@[simp] theorem afterIfs_queue (n : SlotId) (s : State) :
    (afterIfs n s).kept.pending = s.kept.pending := by simp [afterIfs]
@[simp] theorem take61_queue (id : JobId) (n : SlotId) (t : Staged) (sw : W16) (s : State) :
    (take61 id n t sw s).kept.pending = s.kept.pending := by simp only [take61]; (repeat' split) <;> simp
@[simp] theorem takeOk_queue (id : JobId) (n : SlotId) (t : Staged) (st : Step) (e : Ended) (s : State) :
    (takeOk id n t st e s).kept.pending = s.kept.pending := by simp [takeOk]
@[simp] theorem reportStep_queue (n : SlotId) (e : Ended) (s : State) :
    (reportStep n e s).kept.pending = s.kept.pending := by simp only [reportStep]; (repeat' split) <;> simp
@[simp] theorem afterReport_queue (n : SlotId) (s : State) :
    (afterReport n s).kept.pending = s.kept.pending := by simp [afterReport]
@[simp] theorem reportEnd_queue (n : SlotId) (e : Ended) (rest : List Ended) (noise chars : Nat) (s : State) :
    (reportEnd n e rest noise chars s).kept.pending = s.kept.pending := by simp only [reportEnd]; split <;> simp
@[simp] theorem takeSwitch_queue (n : SlotId) (e : Ended) (s : State) :
    (takeSwitch n e s).kept.pending = s.kept.pending := by simp only [takeSwitch]; (repeat' split) <;> simp
@[simp] theorem finishSweep_queue (n : SlotId) (g : Gal) (l : List (Vector Bool 4)) (s : State) :
    (finishSweep n g l s).kept.pending = s.kept.pending := by simp [finishSweep, onlyIf]

/-! ## The plan -/

@[simp] theorem passPlan_queue (old : Tight) (s : State) : (passPlan old s).kept.pending = s.kept.pending := by
  simp only [passPlan]
  refine (forEach_queue _ _ _ fun r s => ?_).trans (forEach_queue _ _ _ fun n s => ?_)
  · exact onlyIf_queue _ _ _ fun _ => rfl
  · rw [lowerSession_kept]
@[simp] theorem issuePlan_queue (changes : Nat) (s : State) :
    (issuePlan changes s).kept.pending = s.kept.pending := by simp [issuePlan]
@[simp] theorem noteLimit_raise_queue (key : Nat) (reached : Bool) (c : W16) (o : Option SlotId) (a : Nat) (s : State) :
    (noteLimit key reached (raise c o a) s).kept.pending = s.kept.pending :=
  congrArg Kept.pending (noteLimit_kept _ _ _ s fun _ => raise_kept ..)
@[simp] theorem noteHeadrooms_queue (s : State) : (noteHeadrooms s).kept.pending = s.kept.pending :=
  forEach_queue _ _ _ fun _ _ => noteLimit_raise_queue _ _ _ _ _ _
@[simp] theorem toFactoryPlan_queue (old : Tight) (s : State) :
    (toFactoryPlan old s).kept.pending = s.kept.pending := by
  unfold toFactoryPlan
  extract_lets _ u v m
  have h : v.kept.pending = s.kept.pending := passPlan_queue old u
  split
  · exact h
  · rw [fireIrq_kept]; exact h

/-! ## Resets, and what leads to one -/

@[simp] theorem handleTamper_queue (s : State) : (handleTamper s).kept.pending = s.kept.pending := by
  simp only [handleTamper]; split <;> simp
@[simp] theorem selectBank_queue (s : State) : (selectBank s).kept.pending = s.kept.pending := by
  rw [selectBank_frame]; rfl
@[simp] theorem mainReset_queue (src : ResetSource) (board : Board) (s : State) :
    (mainReset src board s).kept.pending = s.kept.pending := by
  rw [mainReset_eq]
  simp [slotsAtStart, wiped]
@[simp] theorem resetBy_queue (src : ResetSource) (s : State) : (resetBy src s).kept.pending = s.kept.pending :=
  mainReset_queue _ _ s
@[simp] theorem fatalProgress_queue (s : State) : (fatalProgress s).kept.pending = s.kept.pending := by
  simp [fatalProgress]
@[simp] theorem openFatal_queue (code : W16) (kind index : Nat) (s : State) :
    (openFatal code kind index s).kept.pending = s.kept.pending := by unfold openFatal; split <;> simp
@[simp] theorem fenceFully_queue (u : UnitRef) (code : W16) (s : State) :
    (fenceFully u code s).kept.pending = s.kept.pending := by unfold fenceFully; split <;> simp
@[simp] theorem failDomainRun_queue (b : BistRun) (s : State) :
    (failDomainRun b s).kept.pending = s.kept.pending := by simp [failDomainRun]
@[simp] theorem restoreScope_queue (b : BistRun) (sig : W64) (s : State) :
    (restoreScope b sig s).kept.pending = s.kept.pending := by simp [restoreScope]
@[simp] theorem endDeactivation_queue (n : SlotId) (s : State) :
    (endDeactivation n s).kept.pending = s.kept.pending := by simp [endDeactivation]
@[simp] theorem escalate_queue (u : UnitRef) (code : W16) (s : State) :
    (escalate u code s).kept.pending = s.kept.pending := by unfold escalate; split <;> simp
@[simp] theorem unitFails_queue (u : UnitRef) (code : W16) (s : State) :
    (unitFails u code s).kept.pending = s.kept.pending := by simp [unitFails]
@[simp] theorem recoveryFails_queue (u : UnitRef) (s : State) :
    (recoveryFails u s).kept.pending = s.kept.pending := by unfold recoveryFails; split <;> simp
@[simp] theorem refusalError_queue (v : Violation) (s : State) :
    (refusalError v s).kept.pending = s.kept.pending := by unfold refusalError; (repeat' split) <;> simp
@[simp] theorem tamperLevel2_queue (x : Sensor) (s : State) :
    (tamperLevel2 x s).kept.pending = s.kept.pending := by simp [tamperLevel2]
@[simp] theorem tamperLevel1_queue (x : Sensor) (s : State) :
    (tamperLevel1 x s).kept.pending = s.kept.pending := by simp [tamperLevel1]

/-! ## Firmware, Sideshow and life-cycle changes -/

@[simp] theorem setStandby_queue (f : FwBank → FwBank) (s : State) :
    (setStandby f s).kept.pending = s.kept.pending := by simp [setStandby]
@[simp] theorem runFw_queue (op : Nat) (s : State) : (runFw op s).kept.pending = s.kept.pending := by
  unfold runFw; split <;> simp [prepareFw, commitFw, switchFw, abortFw]
@[simp] theorem hostFw_queue (op : Nat) (key : Byte) (s : State) :
    (hostFw op key s).kept.pending = s.kept.pending := by simp [hostFw]
theorem writeImage_queue {off : Nat} {data : List Byte} {s t : State} (h : writeImage off data s = some t) :
    t.kept.pending = s.kept.pending := by
  unfold writeImage at h
  (repeat' split at h) <;> cases h <;> rfl
@[simp] theorem fwWrite_queue (param : List Byte) (j : Job) (s : State) :
    (fwWrite param j s).kept.pending = s.kept.pending := by
  simp only [fwWrite]; split
  · simp
  · split
    next h => simp [writeImage_queue h]
    · simp
@[simp] theorem sideFw_queue (d : List Byte) (s : State) : (sideFw d s).kept.pending = s.kept.pending := by
  simp [sideFw]
@[simp] theorem sideFwData_queue (d : List Byte) (s : State) :
    (sideFwData d s).kept.pending = s.kept.pending := by
  unfold sideFwData; split
  next h => simp [writeImage_queue h]
  · simp
@[simp] theorem badCommand_queue (code : Byte) (s : State) : (badCommand code s).kept.pending = s.kept.pending := by
  simp [badCommand]
@[simp] theorem privileged_queue (code : Byte) (data : List Byte) (f : List Byte → State → State) (s : State)
    (h : ∀ d s, (f d s).kept.pending = s.kept.pending) :
    (privileged code data f s).kept.pending = s.kept.pending := by
  simp [privileged, mainCommand, h]
@[simp] theorem keysInto_queue (target : LcState) (s : State) :
    (keysInto target s).kept.pending = s.kept.pending := by
  unfold keysInto; (repeat' split) <;> simp
@[simp] theorem commitChange_queue (target : LcState) (s : State) :
    (commitChange target s).kept.pending = s.kept.pending := by
  unfold commitChange
  extract_lets _ _ u v _ w
  have hv : v.kept.pending = s.kept.pending :=
    (keysInto_queue _ _).trans ((cryptoErase_queue _ _ _).trans (auditLcChange_queue _ _ s))
  have hw : w.kept.pending = v.kept.pending :=
    (congrArg Kept.pending (zeroiseBuffers_kept _)).trans (toFactoryPlan_queue _ _)
  rw [askBarrier_kept, raise_kept, hw, hv]
@[simp] theorem finishChange_queue (c : LcChange) (s : State) :
    (finishChange c s).kept.pending = s.kept.pending := by
  unfold finishChange; split
  · simp
  · simp

/-! ## Operations that run another -/

section RunAnother
variable (f : State → State) (g : Job → State → State) (j : Job) (s : State)

@[simp] theorem noParam_queue (h : ∀ j s, (g j s).kept.pending = s.kept.pending) :
    (noParam g j s).kept.pending = s.kept.pending := by simp [noParam, h]
@[simp] theorem paramOf_queue (len : Nat) (h : ∀ j s, (g j s).kept.pending = s.kept.pending) :
    (paramOf len g j s).kept.pending = s.kept.pending := by simp [paramOf, h]
@[simp] theorem needBank_queue (h : ∀ j s, (g j s).kept.pending = s.kept.pending) :
    (needBank g j s).kept.pending = s.kept.pending := by simp [needBank, h]
@[simp] theorem takeSBlock_queue (n : SlotId) (valid : Bool) (h : ∀ s, (f s).kept.pending = s.kept.pending) :
    (takeSBlock n valid f s).kept.pending = s.kept.pending := by simp [takeSBlock, h]
@[simp] theorem t0Error_queue (n : SlotId) (k : Nat) (h : ∀ s, (f s).kept.pending = s.kept.pending) :
    (t0Error n k f s).kept.pending = s.kept.pending := by unfold t0Error; (repeat' split) <;> simp [h]
@[simp] theorem writeBase_queue (h : ∀ s, (f s).kept.pending = s.kept.pending) :
    (writeBase f s).kept.pending = s.kept.pending := by simp [writeBase, h]

end RunAnother

/-! ## The commands -/

/-- The queue of the state that an outcome answers. -/
def outQueue : Out → Option (List Instr)
  | .next t => some t.kept.pending
  | _ => none

@[simp] theorem outQueue_next (s : State) : outQueue (.next s) = some s.kept.pending := by simp only [outQueue]

theorem outQueue_eq {o : Out} {q : List Instr} (h : outQueue o = some q) : ∃ t, o = .next t ∧ t.pending = q := by
  unfold outQueue at h
  split at h
  next t => exact ⟨t, rfl, Option.some.inj h⟩
  next => cases h

@[simp] theorem outQueue_ite (c : Prop) [Decidable c] (a b : Out) :
    outQueue (if c then a else b) = if c then outQueue a else outQueue b := by
  split <;> rfl

@[simp] theorem outQueue_gate (s : State) (c : Bool) (f : State → State) :
    outQueue (s.gate c f) = some (if c then (f s).kept.pending else s.kept.pending) := by
  unfold State.gate; split <;> rfl

section Forms
variable (s : State)

@[simp] theorem outQueue_hostWrite (off : Nat) (f : State → State) : outQueue (s.hostWrite off f) =
    some (if s.mainUp && !s.sec.rightsWithdrawn then (f s).kept.pending else s.kept.pending) := by
  cases h : s.mainUp <;> cases h' : s.sec.rightsWithdrawn <;> simp [State.hostWrite, h, h']
@[simp] theorem outQueue_hostRead (off : Nat) (f : State → State) : outQueue (s.hostRead off f) =
    some (if s.mainUp && !s.sec.rightsWithdrawn then (f s).kept.pending else s.kept.pending) := by
  cases h : s.mainUp <;> cases h' : s.sec.rightsWithdrawn <;> simp [State.hostRead, h, h']
@[simp] theorem outQueue_sideRead (d : List Byte) (f : State → State)
    (h : ∀ s, (f s).kept.pending = s.kept.pending) : outQueue (s.sideRead d f) = some s.kept.pending := by
  simp [State.sideRead, h]
@[simp] theorem outQueue_sideWrite (code : Byte) (lo hi : Nat) (w : SbWrite) (f : State → State)
    (h : ∀ s, (f s).kept.pending = s.kept.pending) : outQueue (s.sideWrite code lo hi w f) = some s.kept.pending := by
  simp [State.sideWrite, h]
@[simp] theorem outQueue_galGate (n : SlotId) (p : Gal → Bool) (f : Gal → State → State)
    (h : ∀ g s, (f g s).kept.pending = s.kept.pending) : outQueue (galGate n p f s) = some s.kept.pending := by
  unfold galGate; split <;> simp [h]

variable (id : JobId)

@[simp] theorem outQueue_runTicket (type op : Nat) (f : Job → State → State)
    (h : ∀ j s, (f j s).kept.pending = s.kept.pending) : outQueue (runTicket id type op f s) = some s.kept.pending := by
  unfold runTicket; split <;> simp [h]
@[simp] theorem outQueue_bankTicket (op : Nat) (f : Job → State → State)
    (h : ∀ j s, (f j s).kept.pending = s.kept.pending) : outQueue (bankTicket id op f s) = some s.kept.pending :=
  outQueue_runTicket _ _ _ _ _ fun j s => by split <;> simp [h]
@[simp] theorem outQueue_keyTicket (op : Nat) (b : Bool) (f : Job → State → State)
    (h : ∀ j s, (f j s).kept.pending = s.kept.pending) : outQueue (keyTicket id op b f s) = some s.kept.pending :=
  outQueue_runTicket _ _ _ _ _ fun j s => by split <;> simp [h]
@[simp] theorem outQueue_adminTicket (op : Nat) (f : Job → SlotId → State → State)
    (h : ∀ j n s, (f j n s).kept.pending = s.kept.pending) : outQueue (adminTicket id op f s) = some s.kept.pending := by
  unfold adminTicket; (repeat' split) <;> simp [h]

end Forms

/-! ## The commands that branch before they act, in the order of the model -/

/-! ### Machine/HostLink -/

@[simp] theorem execBarAccessRefused_queue (r : BarRefusal) (s : State) :
    outQueue (execBarAccessRefused r s) = some s.kept.pending := by
  simp only [execBarAccessRefused, outQueue_gate]; (repeat' split) <;> simp
@[simp] theorem execDeviceCheckEnd_queue (s : State) :
    outQueue (execDeviceCheckEnd s) = some s.kept.pending := by
  simp only [execDeviceCheckEnd, outQueue_gate]; (repeat' split) <;> simp
@[simp] theorem execSlotCheckEnd_queue (failed : Option (CompId × Nat)) (s : State) :
    outQueue (execSlotCheckEnd failed s) = some s.kept.pending := by
  simp only [execSlotCheckEnd]; (repeat' split) <;> simp
@[simp] theorem execSlotCfgWrite_queue (regB : Bool) (v : W32) (s : State) :
    outQueue (execSlotCfgWrite regB v s) = some s.kept.pending := by
  simp only [execSlotCfgWrite, outQueue_hostWrite]; (repeat' split) <;> simp
@[simp] theorem execSlotSelWrite_queue (v : W32) (s : State) :
    outQueue (execSlotSelWrite v s) = some s.kept.pending := by
  simp only [execSlotSelWrite, outQueue_hostWrite]; (repeat' split) <;> simp

/-! ### Machine/Registers -/

@[simp] theorem execRingSizeWrite_queue (ring : RingName) (v : W32) (s : State) :
    outQueue (execRingSizeWrite ring v s) = some s.kept.pending := by
  simp only [execRingSizeWrite, outQueue_hostWrite]; (repeat' split) <;> simp
@[simp] theorem execPairLowRead_queue (p : RegPair) (s : State) :
    outQueue (execPairLowRead p s) = some s.kept.pending := by
  simp only [execPairLowRead, outQueue_hostRead]; (repeat' split) <;> simp
@[simp] theorem execRegisterWrite_queue (off : BitVec 12) (v : W32) (s : State) :
    outQueue (execRegisterWrite off v s) = some s.kept.pending := by
  simp only [execRegisterWrite, outQueue_hostWrite]; (repeat' split) <;> simp

/-! ### Machine/Bist -/

@[simp] theorem execBistRingDrained_queue (s : State) :
    outQueue (execBistRingDrained s) = some s.kept.pending := by
  simp only [execBistRingDrained]; (repeat' split) <;> simp
@[simp] theorem execBistPassEnd_queue (fails : List FailAddr) (s : State) :
    outQueue (execBistPassEnd fails s) = some s.kept.pending := by
  simp only [execBistPassEnd]; (repeat' split) <;> simp
@[simp] theorem execBistRunEnd_queue (sig : W64) (ringFail : Option (CompId × Nat))
    (slotFails : List (SlotId × CompId × Nat)) (s : State) :
    outQueue (execBistRunEnd sig ringFail slotFails s) = some s.kept.pending := by
  simp only [execBistRunEnd]; (repeat' split) <;> simp
@[simp] theorem execBistDomainEnd_queue (sig : W64) (s : State) :
    outQueue (execBistDomainEnd sig s) = some s.kept.pending := by
  simp only [execBistDomainEnd]; (repeat' split) <;> simp

/-! ### Machine/Tickets -/

@[simp] theorem execIssue_queue (job : JobId) (param : List Byte) (s : State) :
    outQueue (execIssue job param s) = some s.kept.pending := by
  simp only [execIssue]; (repeat' split) <;> simp
@[simp] theorem execSamOp_queue (job : JobId) (param : List Byte) (s : State) :
    outQueue (execSamOp job param s) = some s.kept.pending := by
  simp only [execSamOp]; (repeat' split) <;> simp

/-! ### Machine/BankOps -/

@[simp] theorem execParamReadFail_queue (job : JobId) (got : List Byte) (s : State) :
    outQueue (execParamReadFail job got s) = some s.kept.pending := by
  simp only [execParamReadFail]; (repeat' split) <;> simp
@[simp] theorem execAuditAttest_queue (job : JobId) (param : List Byte) (s : State) :
    outQueue (execAuditAttest job param s) = some s.kept.pending := by simp [execAuditAttest]
@[simp] theorem execCounterRelease_queue (job : JobId) (s : State) :
    outQueue (execCounterRelease job s) = some s.kept.pending := by simp [execCounterRelease]

/-! ### Machine/CharLayer -/

@[simp] theorem execAtrReceived_queue (slot : SlotId) (raw : List Byte) (faults : CharFaults) (s : State) :
    outQueue (execAtrReceived slot raw faults s) = some s.kept.pending := by
  simp only [execAtrReceived, outQueue_gate]; (repeat' split) <;> simp
@[simp] theorem execPpsResponse_queue (slot : SlotId) (raw : List Byte) (faults : CharFaults) (s : State) :
    outQueue (execPpsResponse slot raw faults s) = some s.kept.pending := by
  simp only [execPpsResponse]; (repeat' split) <;> simp
@[simp] theorem execIBlock_queue (slot : SlotId) (blk : RawT1) (s : State) :
    outQueue (execIBlock slot blk s) = some s.kept.pending := by
  simp only [execIBlock, outQueue_gate]; (repeat' split) <;> simp
@[simp] theorem execRBlock_queue (slot : SlotId) (blk : RawT1) (s : State) :
    outQueue (execRBlock slot blk s) = some s.kept.pending := by
  simp only [execRBlock, outQueue_gate]; (repeat' split) <;> simp
@[simp] theorem execSIfsRequest_queue (slot : SlotId) (ifsc : Byte) (s : State) :
    outQueue (execSIfsRequest slot ifsc s) = some s.kept.pending := by simp [execSIfsRequest, takeSBlock]
@[simp] theorem execSIfsResponse_queue (slot : SlotId) (ifsd : Byte) (s : State) :
    outQueue (execSIfsResponse slot ifsd s) = some s.kept.pending := by
  simp only [execSIfsResponse, outQueue_gate]; (repeat' split) <;> simp
@[simp] theorem execSWtxRequest_queue (slot : SlotId) (m : Byte) (s : State) :
    outQueue (execSWtxRequest slot m s) = some s.kept.pending := by simp [execSWtxRequest, takeSBlock]
@[simp] theorem execExchLimit_queue (slot : SlotId) (s : State) :
    outQueue (execExchLimit slot s) = some s.kept.pending := by
  simp only [execExchLimit]; (repeat' split) <;> simp
@[simp] theorem execErrorSignalSeen_queue (slot : SlotId) (idx : Nat) (s : State) :
    outQueue (execErrorSignalSeen slot idx s) = some s.kept.pending := by
  unfold execErrorSignalSeen; split
  · rfl
  next e _ =>
    have h := t0Error_queue (sendChars slot [byteAt e.sentChars idx]) s slot (idx + 1) fun s => by simp
    rw [outQueue_gate, h, ite_self]
@[simp] theorem execProcedureByte_queue (slot : SlotId) (b b2 : Byte) (s : State) :
    outQueue (execProcedureByte slot b b2 s) = some s.kept.pending := by
  simp only [execProcedureByte]; (repeat' split) <;> simp

/-! ### Machine/KeyOps -/

@[simp] theorem execKeyDelete_queue (job : JobId) (s : State) :
    outQueue (execKeyDelete job s) = some s.kept.pending :=
  outQueue_keyTicket _ _ _ _ _ fun _ _ => needBank_queue _ _ _ fun _ _ => noParam_queue _ _ _ fun _ _ => by simp
@[simp] theorem execKeyList_queue (job : JobId) (s : State) :
    outQueue (execKeyList job s) = some s.kept.pending :=
  outQueue_keyTicket _ _ _ _ _ fun _ _ => needBank_queue _ _ _ fun _ _ => noParam_queue _ _ _ fun _ _ => by simp

/-! ### Machine/Placement -/

@[simp] theorem execJobDeadline_queue (job : JobId) (s : State) :
    outQueue (execJobDeadline job s) = some s.kept.pending := by
  simp only [execJobDeadline]; (repeat' split) <;> simp
@[simp] theorem execFeedTimeout_queue (slot : SlotId) (s : State) :
    outQueue (execFeedTimeout slot s) = some s.kept.pending := by
  simp only [execFeedTimeout]; (repeat' split) <;> simp

/-! ### Machine/Exchange -/

@[simp] theorem execJobSettled_queue (job : JobId) (s : State) :
    outQueue (execJobSettled job s) = some s.kept.pending := by
  simp only [execJobSettled]; (repeat' split) <;> simp
@[simp] theorem execExchangeEnd_queue (slot : SlotId) (noise chars : Nat) (s : State) :
    outQueue (execExchangeEnd slot noise chars s) = some s.kept.pending := by
  simp only [execExchangeEnd]; (repeat' split) <;> simp

/-! ### Machine/Profile -/

@[simp] theorem execPrecompute_queue (job : JobId) (s : State) :
    outQueue (execPrecompute job s) = some s.kept.pending := by
  simp only [execPrecompute]; (repeat' split) <;> simp
@[simp] theorem execPrecomputeRelease_queue (job : JobId) (s : State) :
    outQueue (execPrecomputeRelease job s) = some s.kept.pending := by
  simp only [execPrecomputeRelease]; (repeat' split) <;> simp
@[simp] theorem execScOpen_queue (job : JobId) (resp : List Byte) (sw : W16) (s : State) :
    outQueue (execScOpen job resp sw s) = some s.kept.pending := by
  simp only [execScOpen]; (repeat' split) <;> simp
@[simp] theorem execPrefetchDone_queue (job : JobId) (gen : W16) (rd : PrefetchRead) (s : State) :
    outQueue (execPrefetchDone job gen rd s) = some s.kept.pending := by
  simp only [execPrefetchDone, outQueue_gate]; (repeat' split) <;> simp

/-! ### Machine/SlotElec -/

@[simp] theorem execTokenGrant_queue (s : State) :
    outQueue (execTokenGrant s) = some s.kept.pending := by
  simp only [execTokenGrant, outQueue_gate]; (repeat' split) <;> simp
@[simp] theorem execAdmitWait_queue (slot : SlotId) (s : State) :
    outQueue (execAdmitWait slot s) = some s.kept.pending := by
  simp only [execAdmitWait]; (repeat' split) <;> simp
@[simp] theorem execEmergencyStep_queue (slot : SlotId) (s : State) :
    outQueue (execEmergencyStep slot s) = some s.kept.pending := by
  simp only [execEmergencyStep]; (repeat' split) <;> simp
@[simp] theorem execTOffEnd_queue (slot : SlotId) (s : State) :
    outQueue (execTOffEnd slot s) = some s.kept.pending := by
  simp only [execTOffEnd, outQueue_gate]; (repeat' split) <;> simp
@[simp] theorem execDeactivationEnd_queue (slot : SlotId) (s : State) :
    outQueue (execDeactivationEnd slot s) = some s.kept.pending := by
  simp only [execDeactivationEnd]; (repeat' split) <;> simp

/-! ### Machine/Galloper -/

@[simp] theorem execModeSwitchAnswer_queue (slot : SlotId) (ok : Bool) (data : List Byte) (sw : W16) (s : State) :
    outQueue (execModeSwitchAnswer slot ok data sw s) = some s.kept.pending := by
  simp only [execModeSwitchAnswer]; (repeat' split) <;> simp
@[simp] theorem execGalloperClockApply_queue (slot : SlotId) (s : State) :
    outQueue (execGalloperClockApply slot s) = some s.kept.pending := outQueue_galGate _ _ _ _ fun g s => by simp
@[simp] theorem execQuietEnd_queue (slot : SlotId) (s : State) :
    outQueue (execQuietEnd slot s) = some s.kept.pending := by simp [execQuietEnd]
@[simp] theorem execRcvToken_queue (slot : SlotId) (tok : W64) (s : State) :
    outQueue (execRcvToken slot tok s) = some s.kept.pending :=
  outQueue_galGate _ _ _ _ fun g s => by (repeat' split) <;> simp
@[simp] theorem execRspToken_queue (slot : SlotId) (tok : W64) (s : State) :
    outQueue (execRspToken slot tok s) = some s.kept.pending :=
  outQueue_galGate _ _ _ _ fun g s => by (repeat' split) <;> simp
@[simp] theorem execReadBlock_queue (slot : SlotId) (blk : RawBlock) (s : State) :
    outQueue (execReadBlock slot blk s) = some s.kept.pending :=
  outQueue_galGate _ _ _ _ fun g s => by (repeat' split) <;> simp
@[simp] theorem execLtsRecord_queue (slot : SlotId) (blk : RawBlock) (s : State) :
    outQueue (execLtsRecord slot blk s) = some s.kept.pending := by
  simp only [execLtsRecord]; (repeat' split) <;> simp
@[simp] theorem execNoResponseToken_queue (slot : SlotId) (s : State) :
    outQueue (execNoResponseToken slot s) = some s.kept.pending := outQueue_galGate _ _ _ _ fun g s => by simp
@[simp] theorem execBusyEnd_queue (slot : SlotId) (s : State) :
    outQueue (execBusyEnd slot s) = some s.kept.pending :=
  outQueue_galGate _ _ _ _ fun g s => by (repeat' split) <;> simp
@[simp] theorem execBusyLimit_queue (slot : SlotId) (s : State) :
    outQueue (execBusyLimit slot s) = some s.kept.pending := by
  refine outQueue_galGate _ _ _ _ fun g s => ?_
  rw [busyDown_kept]
  split
  · exact forEach_queue _ _ _ fun w s => by split <;> simp
  · exact forEach_queue _ _ _ fun w s => by split <;> simp
@[simp] theorem execBusyLimitIdle_queue (slot : SlotId) (s : State) :
    outQueue (execBusyLimitIdle slot s) = some s.kept.pending := by simp [execBusyLimitIdle]
@[simp] theorem execC7Stuck_queue (slot : SlotId) (s : State) :
    outQueue (execC7Stuck slot s) = some s.kept.pending := by simp [execC7Stuck]
@[simp] theorem execGalloperClockStop_queue (slot : SlotId) (s : State) :
    outQueue (execGalloperClockStop slot s) = some s.kept.pending := outQueue_galGate _ _ _ _ fun g s => by simp
@[simp] theorem execGalloperClockRestart_queue (slot : SlotId) (s : State) :
    outQueue (execGalloperClockRestart slot s) = some s.kept.pending := by simp [execGalloperClockRestart]
@[simp] theorem execGalloperCodeApply_queue (slot : SlotId) (s : State) :
    outQueue (execGalloperCodeApply slot s) = some s.kept.pending := outQueue_galGate _ _ _ _ fun g s => by simp
@[simp] theorem execLtsApdu_queue (slot : SlotId) (ok : Bool) (data : List Byte) (sw : W16) (s : State) :
    outQueue (execLtsApdu slot ok data sw s) = some s.kept.pending := by
  simp only [execLtsApdu]; (repeat' split) <;> simp
@[simp] theorem execEyeSweep_queue (slot : SlotId) (s : State) :
    outQueue (execEyeSweep slot s) = some s.kept.pending := outQueue_galGate _ _ _ _ fun g s => by simp
@[simp] theorem execTrainPattern_queue (slot : SlotId) (blk : RawBlock) (tokenOk : Bool) (s : State) :
    outQueue (execTrainPattern slot blk tokenOk s) = some s.kept.pending :=
  outQueue_galGate _ _ _ _ fun g s => by (repeat' split) <;> simp

/-! ### Machine/Presence -/

@[simp] theorem execPresencePresent_queue (slot : SlotId) (s : State) :
    outQueue (execPresencePresent slot s) = some s.kept.pending := by
  simp only [execPresencePresent, outQueue_gate]; (repeat' split) <;> simp [onlyIf]
@[simp] theorem execPresBand_queue (slot : SlotId) (s : State) :
    outQueue (execPresBand slot s) = some s.kept.pending := by
  simp only [execPresBand, outQueue_gate]; (repeat' split) <;> simp [onlyIf]
@[simp] theorem execUnstable_queue (slot : SlotId) (transitions broken : Nat) (s : State) :
    outQueue (execUnstable slot transitions broken s) = some s.kept.pending := by
  simp only [execUnstable, outQueue_gate]; (repeat' split) <;> simp

/-! ### Machine/Monitors -/

@[simp] theorem execComparatorCheck_queue (obj : CheckObj) (c : CompId) (s : State) :
    outQueue (execComparatorCheck obj c s) = some s.kept.pending := by
  simp only [execComparatorCheck]; (repeat' split) <;> simp
@[simp] theorem execComparatorCheckEnd_queue (obj : CheckObj) (c : CompId) (failStep : Option (Fin 3)) (s : State) :
    outQueue (execComparatorCheckEnd obj c failStep s) = some s.kept.pending := by
  simp only [execComparatorCheckEnd]; (repeat' split) <;> simp
@[simp] theorem execHandoverEnd_queue (ring : RingId) (agree : Bool) (s : State) :
    outQueue (execHandoverEnd ring agree s) = some s.kept.pending := by
  simp only [execHandoverEnd]; (repeat' split) <;> simp

/-! ### Machine/Rings -/

@[simp] theorem execRailRetarget_queue (ring : RingId) (s : State) :
    outQueue (execRailRetarget ring s) = some s.kept.pending := by
  simp only [execRailRetarget, outQueue_gate]; (repeat' split) <;> simp

/-! ### Machine/Journal -/

@[simp] theorem execWearLevel_queue (t : TargetId) (s : State) :
    outQueue (execWearLevel t s) = some s.kept.pending := by
  simp only [execWearLevel]; (repeat' split) <;> simp
@[simp] theorem execMediaProgramDone_queue (t : TargetId) (i : Nat) (erase passed : Bool) (s : State) :
    outQueue (execMediaProgramDone t i erase passed s) = some s.kept.pending := by
  simp only [execMediaProgramDone, outQueue_gate]; (repeat' split) <;> simp [onlyIf]

/-! ### Machine/Security -/

@[simp] theorem execLcWaitTimeout_queue (s : State) :
    outQueue (execLcWaitTimeout s) = some s.kept.pending := by
  simp only [execLcWaitTimeout]; (repeat' split) <;> simp
@[simp] theorem execLcDrained_queue (s : State) :
    outQueue (execLcDrained s) = some s.kept.pending := by
  simp only [execLcDrained]; (repeat' split) <;> simp
@[simp] theorem execDebugLcChange_queue (req : SignedReq) (s : State) :
    outQueue (execDebugLcChange req s) = some s.kept.pending := by
  simp only [execDebugLcChange, outQueue_gate]; (repeat' split) <;> simp

/-! ### Machine/Faults -/

@[simp] theorem execRecoveryDone_queue (u : UnitRef) (ok : Bool) (s : State) :
    outQueue (execRecoveryDone u ok s) = some s.kept.pending := by
  simp only [execRecoveryDone, outQueue_gate]; (repeat' split) <;> simp
@[simp] theorem execAccessViolation_queue (v : Violation) (s : State) :
    outQueue (execAccessViolation v s) = some s.kept.pending := by
  simp only [execAccessViolation, outQueue_gate]; (repeat' split) <;> simp

/-! ### Machine/Tightrope -/

@[simp] theorem execSiliconMonitor_queue (core slot bank link : Int) (s : State) :
    outQueue (execSiliconMonitor core slot bank link s) = some s.kept.pending := by
  simp only [execSiliconMonitor, outQueue_gate]; (repeat' split) <;> simp
@[simp] theorem execEfficiencySample_queue (ring : RingId) (percent railMilliwatt : Nat) (s : State) :
    outQueue (execEfficiencySample ring percent railMilliwatt s) = some s.kept.pending := by
  simp only [execEfficiencySample, outQueue_gate]; (repeat' split) <;> simp [onlyIf]
@[simp] theorem execRetentionCheck_queue (bankA bankB option : Option Nat) (s : State) :
    outQueue (execRetentionCheck bankA bankB option s) = some s.kept.pending := by
  rw [execRetentionCheck, outQueue_gate]
  split
  · dsimp only; split
    · rfl
    · refine congrArg some ((forEach_queue _ _ _ fun _ _ => ?_).trans ?_)
      · rw [raise_kept]
      · simp
  · rfl

/-! ### Machine/StationBus -/

@[simp] theorem execSbCommandFrame_queue (port : PortId) (s : State) :
    outQueue (execSbCommandFrame port s) = some s.kept.pending := by
  simp only [execSbCommandFrame]; (repeat' split) <;> simp
@[simp] theorem execCollision_queue (port : PortId) (s : State) :
    outQueue (execCollision port s) = some s.kept.pending := by
  simp only [execCollision]; (repeat' split) <;> simp
@[simp] theorem execRtsCtsMessage_queue (port : PortId) (s : State) :
    outQueue (execRtsCtsMessage port s) = some s.kept.pending := by
  simp only [execRtsCtsMessage]; (repeat' split) <;> simp
@[simp] theorem execCtsTimeout_queue (port : PortId) (s : State) :
    outQueue (execCtsTimeout port s) = some s.kept.pending := by
  simp only [execCtsTimeout]; (repeat' split) <;> simp
@[simp] theorem execRtsCtsAnswer_queue (port : PortId) (b : Byte) (s : State) :
    outQueue (execRtsCtsAnswer port b s) = some s.kept.pending := by
  simp only [execRtsCtsAnswer]; (repeat' split) <;> simp
@[simp] theorem execAckTimeout_queue (port : PortId) (s : State) :
    outQueue (execAckTimeout port s) = some s.kept.pending := by
  simp only [execAckTimeout]; (repeat' split) <;> simp

/-! ### Machine/Sideshow -/

@[simp] theorem execBusStartStop_queue (cut : SbCut) (s : State) :
    outQueue (execBusStartStop cut s) = some s.kept.pending := by
  simp only [execBusStartStop]; (repeat' split) <;> simp
@[simp] theorem execMboxWrite_queue (w : SbWrite) (s : State) :
    outQueue (execMboxWrite w s) = some s.kept.pending :=
  outQueue_sideWrite _ _ _ _ _ _ fun s => by simp [mainCommand]
@[simp] theorem execSideshowAnswer_queue (s : State) :
    outQueue (execSideshowAnswer s) = some s.kept.pending := by
  simp only [execSideshowAnswer]; (repeat' split) <;> simp

/-- Every command answers a next state with the queue it was given: one case for the commands of each part of the
model, and one for those with a lemma of their own. -/
theorem exec_queue (c : Instr) (s : State) : outQueue (exec c s) = some s.kept.pending := by
  cases c
  case vstbyRise | booted | bankStart | readyRise | mainSideReset | pcieReset | flr =>
    simp [exec, execVstbyRise, execBooted, execBankStart, execReadyRise, execMainSideReset, execPcieReset,
      execFlr]
  case dmaHold | dmaResumed | msixUnmask | deviceCheck | windDown | windDownEnd | gctrlPause | slotEnable |
    slotDisable | slotDeactivate | slotClear | regParity =>
    simp [exec, execDmaHold, execDmaResumed, execMsixUnmask, execDeviceCheck, execWindDown, execWindDownEnd,
      execGctrlPause, execSlotEnable, execSlotDisable, execSlotDeactivate, execSlotClear, execRegParity]
  case tbTailWrite | cqHeadWrite | eqHeadWrite | powerBudgetWrite | irqStatusWrite | irqMaskWrite |
    errFirstClear | violClear | mboxToSbWrite | mboxFromSbRead =>
    simp [exec, execTbTailWrite, execCqHeadWrite, execEqHeadWrite, execPowerBudgetWrite, execIrqStatusWrite,
      execIrqMaskWrite, execErrFirstClear, execViolClear, execMboxToSbWrite, execMboxFromSbRead]
  case logicBist | memoryBist | bistDrainTimeout =>
    simp [exec, execLogicBist, execMemoryBist, execBistDrainTimeout]
  case sectorEraseDone | sectorEraseAbort | fwConfirmed | fwPrepare | fwCommit | fwSwitch | fwAbort =>
    simp [exec, execSectorEraseDone, execSectorEraseAbort, execFwConfirmed, execFwPrepare, execFwCommit,
      execFwSwitch, execFwAbort]
  case ticketFetch | fetchRetry | activate | deactivate | inventory =>
    simp [exec, execTicketFetch, execFetchRetry, execActivate, execDeactivate, execInventory]
  case format | recordWrite | recordDelete | profileWrite | profileDelete | journalList | journalClose |
    auditRead | auditTrim | bankStatus =>
    simp [exec, execFormat, execRecordWrite, execRecordDelete, execProfileWrite, execProfileDelete,
      execJournalList, execJournalClose, execAuditRead, execAuditTrim, execBankStatus]
  case warmReset | noAtr | atrGapTimeout | ppsTimeout | rateApply | sAbortRequest | sAbortResponse |
    sResynchResponse | bwtTimeout | cwtOverrun | wtTimeout | lineStuck | t0Character | clockStop |
    clockRestart =>
    simp [exec, execWarmReset, execNoAtr, execAtrGapTimeout, execPpsTimeout, execRateApply, execSAbortRequest,
      execSAbortResponse, execSResynchResponse, execBwtTimeout, execCwtOverrun, execWtTimeout, execLineStuck,
      execT0Character, execClockStop, execClockRestart]
  case ownerSet | mgmtSet | ceremonyOpen | keyImport | ceremonyClose | lcChange | attestId =>
    simp [exec, execOwnerSet, execMgmtSet, execCeremonyOpen, execKeyImport, execCeremonyClose, execLcChange,
      execAttestId]
  case cancel | sbusConfig | sbusStatus | unitClear | faultStatus | marginRead | bistReport | fwWrite =>
    simp [exec, execCancel, execSbusConfig, execSbusStatus, execUnitClear, execFaultStatus, execMarginRead,
      execBistReport, execFwWrite]
  case placementPass | sweepYield | completionWrite | eventWrite =>
    simp [exec, execPlacementPass, execSweepYield, execCompletionWrite, execEventWrite]
  case staleResult =>
    simp [exec, execStaleResult]
  case vccQualified | clkStart | rstRise | vccFail | ocBlankingEnd | deactClkStop | measurementWindowEnd |
    deactLdoOff | voffAbove | overcurrent | short | vccWindow | removal | refClockLost | vstbyFall |
    vinRingRestored | supplyTrigger | refClockRestored =>
    simp [exec, execVccQualified, execClkStart, execRstRise, execVccFail, execOcBlankingEnd, execDeactClkStop,
      execMeasurementWindowEnd, execDeactLdoOff, execVoffAbove, execOvercurrent, execShort, execVccWindow,
      execRemoval, execRefClockLost, execVstbyFall, execVinRingRestored, execSupplyTrigger,
      execRefClockRestored]
  case presenceAbsent | resolutionActivation =>
    simp [exec, execPresenceAbsent, execResolutionActivation]
  case rotationCheck | presCheck | twinCheck =>
    simp [exec, execRotationCheck, execPresCheck, execTwinCheck]
  case ringParked | railSettled | downHoldEnd | ringUv | ringOv | ringOc | ringOt | ringStart | ringSettle =>
    simp [exec, execRingParked, execRailSettled, execDownHoldEnd, execRingUv, execRingOv, execRingOc,
      execRingOt, execRingStart, execRingSettle]
  case journalGroupCommit | journalCopy | journalBlockErase | rppWrite | anchorUpdate | pagePad |
    blockRelocate | journalDurable =>
    simp [exec, execJournalGroupCommit, execJournalCopy, execJournalBlockErase, execRppWrite, execAnchorUpdate,
      execPagePad, execBlockRelocate, execJournalDurable]
  case debugToken | debugClose | debugExpiry | ceremonyTimeout | ruleBarrier | ruleBarrierDrained | tamperL1 |
    tamperL2 | tamperSelfTest =>
    simp [exec, execDebugToken, execDebugClose, execDebugExpiry, execCeremonyTimeout, execRuleBarrier,
      execRuleBarrierDrained, execTamperL1, execTamperL2, execTamperSelfTest]
  case probationEnd | unitError | lockstep | pairWatchdog | deviceWatchdog | fatalError | fatalNested |
    fatalWindowTimeout =>
    simp [exec, execProbationEnd, execUnitError, execLockstep, execPairWatchdog, execDeviceWatchdog,
      execFatalError, execFatalNested, execFatalWindowTimeout]
  case eyeSweepRequest | planEvaluation | guardSwitch | guardForce =>
    simp [exec, execEyeSweepRequest, execPlanEvaluation, execGuardSwitch, execGuardForce]
  case pollResponse | pollPeriod | respTimeout | announce | listen | wake | sbStuckLow | sbRecovered =>
    simp [exec, execPollResponse, execPollPeriod, execRespTimeout, execAnnounce, execListen, execWake,
      execSbStuckLow, execSbRecovered]
  case ident | status | health | presence | logSel | logRead | mboxRead | nonce | bistResult | fwStatus |
    lockoutEnd | healthSnapshot | slotOff | bistStart | mainReset | fwOp | fwData =>
    simp [exec, execIdent, execStatus, execHealth, execPresence, execLogSel, execLogRead, execMboxRead,
      execNonce, execBistResult, execFwStatus, execLockoutEnd, execHealthSnapshot, execSlotOff, execBistStart,
      execMainReset, execFwOp, execFwData]
  case tapInstructionLoad | debugHalt | debugResume =>
    simp [exec, execTapInstructionLoad, execDebugHalt, execDebugResume]
  all_goals simp [exec]

/-- Settles O3: every command answers a next state (`exec_queue`), whose queue is the one it was given. -/
theorem noCommandTouchesTheQueue : Obligations.NoCommandTouchesTheQueue := fun c s => outQueue_eq (exec_queue c s)

end Sys2Proof.Machine
